-- ==== Sys2Proof/Word.lean ====
section
/-! DEFINITION. The byte and word types and the network-time unit.

Multi-byte fields are little-endian in Bilek payloads and BAR0 (R7); a network time is held as one
number of 2^-16 ns units, the resolution of its FRACTION part (R346). -/

namespace Sys2Proof

/-- One byte of a payload, a register or a frame. -/
abbrev Byte := BitVec 8

/-- A 32-bit register or mirror word. -/
abbrev Word := BitVec 32

/-- Bytes of a payload, lowest offset first. -/
abbrev Bytes := List Byte

/-- A network time in units of 2^-16 ns (R346); 0 is the reserved value of R347. -/
abbrev NetTime := Nat

/-- `n` nanoseconds as a time difference. -/
def ns (n : Nat) : NetTime := n * 65536

/-- `n` microseconds as a time difference. -/
def us (n : Nat) : NetTime := n * 65536000

/-- `n` milliseconds as a time difference. -/
def ms (n : Nat) : NetTime := n * 65536000000

/-- One second in time units. -/
def oneSecond : NetTime := 65536000000000

/-- The modulator tick of 40 ns (R11, R48). -/
def modTick : NetTime := 2621440

end Sys2Proof
end

