-- ==== Sys2Proof/Syntax.lean ====
section
/-! DEFINITION. The steps of the opcode table and their operands. Plain data. -/

namespace Sys2Proof

/-- Event data (R564). -/
structure EvData where
  /-- w8 · R564 · R564 · PLANE, or DPLANE for scope Q -/
  plane : Nat := 0xFF
  /-- w8 · R564 · R564 · LINK -/
  link : Nat := 0xFF
  /-- w16 · R564 · R564 · CHANNEL -/
  chan : Nat := 0xFFFF
  /-- w16 · R564 · R564 · IN -/
  inp : Nat := 0xFFFF
  /-- w16 · R564 · R564 · OUT -/
  out : Nat := 0xFFFF
  /-- w16 · R564 · R564 · ENDPOINT -/
  ep : Nat := 0xFFFF
  /-- w8 · R564 · R564 · DEVICE -/
  device : Nat := 0xFF
  /-- w32 · R564 · R564 · VALUE -/
  value : Nat := 0
  deriving DecidableEq, Repr

/-- The command slot of a down-frame (R71). -/
structure BezelCmd where
  /-- w8 · R71 · DC1 · OP -/
  op : Nat := 0
  /-- w8 · R71 · DC1 · TAG -/
  tag : Nat := 0
  /-- w16 · R71 · DC1 · ADDR -/
  addr : Nat := 0
  /-- 6 × w32 · R71 · DC1 · DATA, word 0 first; missing words are 0 -/
  data : List Nat := []
  deriving DecidableEq, Repr

/-- The response slot of an up-frame (R72). -/
structure BezelResp where
  /-- w8 · R72 · DC1 · OP -/
  op : Nat := 0
  /-- w8 · R72 · DC1 · TAG -/
  tag : Nat := 0
  /-- w8 · R72 · DC1 · STATUS -/
  status : Nat := 0
  /-- 4 × w32 · R72 · DC1 · DATA, word 0 first; missing words are 0 -/
  data : List Nat := []
  deriving DecidableEq, Repr

/-- The payload of an up-frame, decoded (R62). -/
structure UpFrame where
  /-- w640 · R62 · DC1 · MON, bit i for local monitor channel i -/
  mon : BitVec 640 := 0
  /-- w8 · R62 · DC1 · RB -/
  rb : BitVec 8 := 0
  /-- w80 · R62 · DC1 · OVR_GROUP, bit g for reference group g -/
  ovrGroup : BitVec 80 := 0
  /-- up to 8 · R62 · DC1 · channels of the valid OVR_LIST entries -/
  ovrList : List Nat := []
  /-- w32 · R64 · DC1 · STATUS -/
  status : BitVec 32 := 0
  /-- 4 × w16 · R62 · DC1 · TEMP fields -/
  temps : List Nat := []
  /-- w160 · R72 · DC1 · RESP -/
  resp : BezelResp := {}
  /-- w8 · R62 · DC1 · RB_STARTED -/
  started : BitVec 8 := 0
  /-- w1 · R62 · DC1 · SEG_APPLIED -/
  applied : Bool := false
  /-- w7 · R62 · DC1 · SEGMENT -/
  segment : Nat := 0
  deriving DecidableEq, Repr

/-- One tick frame as a lane delivers it (R53): its fields, each with its first bit the most significant. -/
structure LaneFrame where
  /-- SYNC, 9 bits -/
  sync : Nat := 0
  /-- PAYLOAD as on the line, 1,088 bits -/
  payload : Nat := 0
  /-- CRC, 24 bits -/
  crc : Nat := 0
  /-- SEQ, 4 bits -/
  seq : Nat := 0
  /-- it arrived within its tick after deskew (R56) -/
  onTime : Bool := true
  deriving DecidableEq, Repr

/-- What the plane and the bezel's own circuits show in one bezel tick (R62, R64, R76). -/
structure BezelEnv where
  /-- modulator bits of the monitor channels -/
  mon : BitVec 640 := 0
  /-- modulator bits of the readback modulators -/
  rb : BitVec 8 := 0
  /-- local monitor channels that overloaded -/
  ovr : List Nat := []
  /-- the four TEMP fields -/
  temps : List Nat := []
  /-- the VREF input lies within 2 % of 1.250 V -/
  refOk : Bool := true
  /-- local element channels whose heater is open-circuit -/
  htrOpen : List Nat := []
  /-- local element channels whose heater is short-circuit -/
  htrShort : List Nat := []
  /-- heater supply in mV -/
  vhtr : Nat := 0
  deriving DecidableEq, Repr

/-- Where a Bilek request came from (R485, R452). -/
inductive Origin where
  /-- a mailbox of this device -/
  | mailbox (m : Nat)
  /-- TUNNEL_REQ: the manager's device number, its TUNNEL_TAG, and the host addresses of the request -/
  | tunnel (dev tag : Nat)
  deriving DecidableEq, Repr

/-- The addresses of an INDIRECT request (R493). -/
structure Indirect where
  /-- REQ_ADDR -/
  reqAddr : Nat := 0
  /-- REQ_LEN -/
  reqLen : Nat := 0
  /-- RSP_MAX -/
  rspMax : Nat := 0
  /-- RSP_ADDR -/
  rspAddr : Nat := 0
  deriving DecidableEq, Repr

/-- A Bilek request (R492, R493). -/
structure Req where
  /-- - · R485 · M · mailbox or tunnel it came through -/
  origin : Origin := .mailbox 0
  /-- w16 · R492 · DC1 · TAG -/
  tag : Nat := 0
  /-- w16 · R492 · DC1 · FLAGS -/
  flags : Nat := 0
  /-- w16 · R492 · DC1 · LENGTH -/
  len : Nat := 0
  /-- w8 · R492 · DC1 · TARGET -/
  target : Nat := 0xFF
  /-- w24 · R492 · DC1 · reserved header bytes -/
  resv : Nat := 0
  /-- w32 · R492 · DC1 · LEASE -/
  lease : Nat := 0
  /-- bytes · R492 · DC1 · payload, fetched by DMA with INDIRECT -/
  payload : Bytes := []
  /-- 24 bytes · R493 · DC1 · addresses, with INDIRECT -/
  ind : Option Indirect := none
  /-- bytes · R467 · DC1 · what host memory holds where the command reads it -/
  dmaIn : Bytes := []
  deriving DecidableEq, Repr

/-- Measurements of one drive group by the DARK phase (R515 step 1): per round, the powers of patterns 0, 1, 2 and 3. -/
structure GroupMeas where
  /-- link × 144 + group -/
  group : Nat := 0
  /-- rounds of (P_0, P_1, P_2, P_3), averaged over the two channels, in nW -/
  rounds : List (Nat × Nat × Nat × Nat) := []
  deriving DecidableEq, Repr

/-- An accumulation of monitor samples (R165) with the extremes of its tracker. -/
structure Stat where
  /-- samples -/
  n : Nat := 0
  /-- sum of the samples, LSB -/
  sum : Int := 0
  /-- sum of their squares -/
  sumsq : Nat := 0
  /-- smallest sample -/
  lo : Int := 0
  /-- largest sample -/
  hi : Int := 0
  deriving DecidableEq, Repr

/-- Measurements of one element by the DARK phase (R515 steps 2 to 4) and, for a shutter, FRINGE (R516). -/
structure ElemMeas where
  /-- element channel -/
  ch : Nat := 0
  /-- full-level power P_3 in nW -/
  p3 : Nat := 0
  /-- readback powers at the 16 codes of step 3, in order of the codes, in nW -/
  rb : List Nat := []
  /-- HTR_TEST result in 0.1 ohm -/
  ohm : Nat := 0
  /-- the search of FRINGE for a shutter: (code, reading of the stage 0 cell monitor) -/
  search : List (Nat × Int) := []
  deriving DecidableEq, Repr

/-- Measurements of one monitor by DARK (R515 steps 5 and 6) and FRINGE (R516). -/
structure MonMeas where
  /-- monitor channel -/
  mon : Nat := 0
  /-- the first accumulation of step 5 -/
  first : Stat := {}
  /-- the second accumulation of step 5 -/
  second : Stat := {}
  /-- fringe maximum, LSB, at the GAIN_TRIM in force -/
  fringe : Nat := 0
  deriving DecidableEq, Repr

/-- Measurements of one cell by FRINGE, DYNAMICS (R516, R517). -/
structure CellMeas where
  /-- cell number s × (PORTS/2) + r -/
  cell : Nat := 0
  /-- the search: differential drive D, and S of the capture taken there, to which Re(H) is proportional -/
  search : List (Int × Int) := []
  /-- monitor reading at BAR, LSB, at the new gain -/
  mMax : Int := 0
  /-- monitor reading at CROSS, LSB, at the new gain -/
  mMin : Int := 0
  /-- C and S of the 62.5 kHz capture -/
  tone : Int × Int := (0, 0)
  /-- the accumulation in HOLD -/
  hold : Stat := {}
  deriving DecidableEq, Repr

/-- Crosstalk of one victim element (R518). -/
structure XtMeas where
  /-- element channel -/
  ch : Nat := 0
  /-- per element stepped: its channel, and the sums of AVG_N loop outputs of the victim before the step and at the stepped power -/
  steps : List (Nat × Int × Int) := []
  deriving DecidableEq, Repr

/-- What a commissioning phase has measured (R510). -/
structure CalMeas where
  /-- drive groups -/
  groups : List GroupMeas := []
  /-- elements -/
  elems : List ElemMeas := []
  /-- monitors -/
  mons : List MonMeas := []
  /-- cells -/
  cells : List CellMeas := []
  /-- crosstalk -/
  xts : List XtMeas := []
  deriving DecidableEq, Repr

/-- The register spaces of the PCIe function (R466). -/
inductive RegSpace where
  /-- BAR0 -/
  | bar0
  /-- BAR2, the loupe window -/
  | bar2
  /-- configuration space -/
  | config
  deriving DecidableEq, Repr

/-- The steps of the opcode table, one constructor a row. -/
inductive Instr where
  /-- R682: PORST_N goes low: LIGHT_EN and BZ_RST_N go low within 1 μs, all state is lost and the device enters RESET. -/
  | porstAssert
  /-- R680: PORST_N rises: ROLE[1:0] is sampled, processor 0 leaves reset and BOOT begins. -/
  | porstRelease (role : Nat)
  /-- R468: PERST_N resets the PCIe core, MSI-X and BAR0 registers apart from HOST_DARK and the host watchdog, and ends mailbox-taken HOST leases. -/
  | perstAssert
  /-- R468: A PCIe function-level reset acts as PERST_N does. -/
  | functionLevelReset
  /-- R680: TEST_MODE holds a new level for 1 μs; a fall ends any accepted factory token, and a high level outside factory raises SEC_TEST_MODE_PIN. -/
  | testModeChange (level : Bool)
  /-- R701: VIO18 falls below 1.55 V or VCORE below 0.50 V, and LIGHT_EN and BZ_RST_N are driven low within 1 μs. -/
  | brownOut
  /-- R632: Every 10 μs the rail monitors are sampled, and two consecutive samples outside a window raise SYS_RAIL_FAULT. -/
  | railSample (mv : List Nat)
  /-- R710: REFCLK is absent for 1 μs or off by more than 500 ppm, raising SYS_REFCLK_LOSS. -/
  | refclkLoss
  /-- R541: The DPLL of the bezel-link clocks loses lock, raising SYS_DPLL_UNLOCK. -/
  | dpllUnlock
  /-- R637: An independent diode reaches 115 °C, and THERMTRIP_N and every LIGHT_EN go low with no logic in the path. -/
  | analogueThermtrip
  /-- R664: The boot ROM verifies the selected image bank, then the other bank, copies the first valid payload, applies BUS_SLICE_MAP, sets REMAP and releases processors 1 to 7. -/
  | bootImageVerify
  /-- R683: BIST, HBM training and loading of the NVM images by R526 complete; mailboxes are enabled, AVS starts and LINKING begins. -/
  | bootComplete (bist : List Nat)
  /-- R683: Every mapped link is in RUN or failed, its reference is ready and discovery is done, so the park ramp and plane regulation start. -/
  | linkingComplete
  /-- R687: The 100 ms that an unregulated plane waits after PARKING has passed. -/
  | warmHoldExpiry (plane : Nat)
  /-- R687: A regulated plane has not settled within 900 s, and WARMING ends without it. -/
  | sysWarmTimeout (plane : Nat)
  /-- R693: Every drive code has reached 0 after shutdown, so BZ_RST_N goes low, the references are disabled and SYS_SHUTDOWN_DONE is raised. -/
  | shutdownRampDone
  /-- R473: Every 1 ms the firmware increments FW_HEARTBEAT. -/
  | fwHeartbeatTick
  /-- R483: Every 100 ns the BAR0 time mirror is rewritten under its SEQ protocol. -/
  | timeMirrorUpdate
  /-- R112: Each 40 ns tick the noise shapers emit levels and the KV512 builds and sends the down-frame with DRIVE, FRAME_CTL, readback controls, command and mirror segment, early by DRIVE_LEAD_PS. -/
  | modulatorTick
  /-- R63: An up-frame is checked and paired by SEQ with its down-frame; its monitor, readback, overload, STATUS, response and echo data are taken. -/
  | upFrameCheck (link : Nat) (lane3 : LaneFrame) (lane4 : LaneFrame)
  /-- R555: While HTR_OPEN_ANY or HTR_SHORT_ANY stays set, the firmware rereads HTR_OPEN and HTR_SHORT every 10 ms and raises DRIVE_HEATER_FAULT for newly named channels. -/
  | heaterStatusPoll (link : Nat)
  /-- R85: The 10 μs that BZ_RST_N is held low in training has passed, so it is raised and idle frames follow. -/
  | bzRstHoldExpiry (link : Nat)
  /-- R85: Eight consecutive valid frames on an up-lane lock it in training. -/
  | upLaneLock (link : Nat) (lane : Nat)
  /-- R74: A bezel command response arrives in an up-frame RESP slot and completes the command of its TAG. -/
  | bezelResponse (link : Nat) (resp : BezelResp)
  /-- R75: A bezel command without response after 32 ticks, or 420 for HTR_TEST, is repeated. -/
  | bezelCmdRetry (link : Nat) (tag : Nat)
  /-- R85: Training has not reached RUN within 1 ms, so BZ_RST_N is pulsed again, or LINK_TRAIN_FAIL is raised after three attempts. -/
  | trainTimeout (link : Nat)
  /-- R86: A running link has shown neither HOLD cleared nor valid up-frames for 1 ms, so BZ_RST_N is pulsed. -/
  | relockTimeout (link : Nat)
  /-- R87: Once the link is in RUN, a clean mirror refresh has passed, SUPPLY_OK and REF_OK hold and no S3 or higher fault covers the plane, LIGHT_EN is raised. -/
  | lightEnRise (link : Nat)
  /-- R61: The bezel applies a valid down-frame in one tick: levels, DARK, readback starts, mirror segment and command. -/
  | bezelApplyTick (link : Nat) (lane0 : LaneFrame) (lane1 : LaneFrame) (lane2 : LaneFrame) (env : BezelEnv)
  /-- R74: The bezel finishes a command and returns its response in one up-frame; an accepted LANE_TEST takes it out of framing. -/
  | bezelCommandComplete (link : Nat) (ohm : Nat)
  /-- R77: The bezel repeats the last valid levels and enters hold after the second consecutive lost down-frame. -/
  | bezelLostDownFrame (link : Nat) (lanes : List Nat)
  /-- R78: After 8 consecutive valid down-frames the bezel leaves hold and sets LATCHED_DARK. -/
  | bezelHoldExit (link : Nat)
  /-- R81: LIGHT_EN falls at the bezel and the shutter gate closes combinationally, with shutters at zero power within 200 ns. -/
  | bezelLightEnFall (link : Nat)
  /-- R79: LIGHT_EN has been high for 1 μs, qualifying it and clearing LATCHED_DARK when a low preceded it. -/
  | bezelLightEnQualify (link : Nat)
  /-- R82: BZ_RST_N low for 1 μs or more resets the bezel: every channel at zero, image reset, latches set, counters cleared. -/
  | bezelReset (link : Nat)
  /-- R83: A bezel supply falls below its minimum and every heater driver goes to zero power. -/
  | bezelSupplyLoss (link : Nat)
  /-- R83: Supplies have been in range for 1 ms and BZ_RST_N high for 10 μs, so heater drivers may carry power again. -/
  | bezelSupplyRecover (link : Nat)
  /-- R98: At each update-tick boundary of a plane, queues release entries and the source select, pre-emphasis shaper, slew limiter and injection generator advance. -/
  | updateTick (plane : Nat)
  /-- R101: The PE_DUR update ticks of pre-emphasis have elapsed, and the shaped target follows the commanded target; a launched cell enters SETTLE by soft-start. -/
  | preEmphasisEnd (ch : Nat)
  /-- R123: A plane ramp reaches tick N, every channel is at its destination, and DRIVE_RAMP_DONE is raised. -/
  | rampComplete (plane : Nat)
  /-- R116: A range change's ramp to 0 and one tick at 0 have passed, so the new RANGE bits are sent out of turn. -/
  | rangeRampDownDone (ch : Nat)
  /-- R116: SEG_APPLIED confirms the range switch; the noise shaper resets, codes and windows are rescaled by R119 and the ramp back starts. -/
  | rangeSegApplied (ch : Nat)
  /-- R116: The ramp back has finished, contexts return to their regimes by soft-start and DRIVE_RANGE_DONE is raised. -/
  | rangeChangeDone (ch : Nat)
  /-- R126: A routine or urgent conversion starts on a modulator, DELAY ticks after a level event or after 64 ticks without one. -/
  | readbackStart (link : Nat) (modulator : Nat)
  /-- R125: A 64-tick conversion ends, and measured and commanded power are compared against TOL. -/
  | readbackComplete (link : Nat) (modulator : Nat)
  /-- R143: A monitor channel produces and tags a sample at its grid boundary and delivers it to loops, settle detection, verification, accumulator and tracker. -/
  | sampleDeliver (mon : Nat)
  /-- R156: A new filter setting takes effect at the first boundary of its grid, clearing the filter state and discarding the sample in progress. -/
  | filterSwitch (mon : Nat)
  /-- R158: At launch time minus 3 μs, AUTO cell and output monitors of the launch switch to FAST. -/
  | launchFastLead (plane : Nat) (launch : Nat)
  /-- R162: 5 ms after enabling, a reference output is ready and SENSE_REF_READY is raised. -/
  | refWarmupDone (link : Nat)
  /-- R166: A BLOCK accumulator reaches N admitted samples, latches its result, writes it to the loupe or raises SENSE_BLOCK_DONE, and restarts. -/
  | accBlockDone (mon : Nat)
  /-- R195: A swap on a context in OPEN or WAITING takes effect at its AT with nothing to re-base; LOOP_SWAP_DONE follows when every named context has swapped. -/
  | bankSwapAt (ctx : Nat)
  /-- R205: An update not complete by its deadline is discarded, counted and raises LOOP_PACE_OVERRUN. -/
  | loopPaceOverrun (ctx : Nat)
  /-- R191: MISS_RUN reaches MISS_LIMIT, setting STARVED and raising LOOP_SAMPLE_STARVED. -/
  | loopSampleStarved (ctx : Nat)
  /-- R216: A generator configuration takes effect at its START update tick, ending any capture in progress. -/
  | injectionStart (ctx : Nat)
  /-- R202: A capture window of whole periods or COUNT samples ends, and its result is formed and LOOP_CAPTURE_DONE raised. -/
  | captureDone (ctx : Nat)
  /-- R235: A route, compensation and slot write for a miss completes, and a waiting DEMAND or CHAIN_FILL launch is accepted. -/
  | facetBuildDone (plane : Nat)
  /-- R239: At L the queues of changed elements are flushed and loaded with TRANSITION entries, and changing cells are held WAITING. -/
  | launchTime (plane : Nat) (launch : Nat)
  /-- R241: A cell not settled by L + SETTLE_TIMEOUT raises FACET_SETTLE_TIMEOUT and its checked circuits become suspect. -/
  | settleTimeout (plane : Nat) (cell : Nat)
  /-- R242: A circuit not verified by L + VERIFY_TIMEOUT becomes suspect. -/
  | verifyTimeout (plane : Nat) (port : Nat)
  /-- R252: At the next launch time minus 3 μs the integrators of the showing's cells are read for folding. -/
  | learnRead (plane : Nat)
  /-- R253: The folded codes and EXPECT values are written into the library slot with LEARNED set. -/
  | learnFoldWrite (plane : Nat)
  /-- R275: At a step's launch time less STAGE_LEAD the chain's launch is accepted or skipped with CHAIN_STEP_SKIPPED. -/
  | chainStepStage (dplane : Nat)
  /-- R278: At S the new chain's step 0 launches and the plane enters CHAIN or CHAIN_FILL, replacing any earlier chain. -/
  | chainStartTime (dplane : Nat)
  /-- R279: At the stop boundary no further step launches and END applies. -/
  | chainStopBoundary (dplane : Nat)
  /-- R276: The last of REPEAT periods ends, the plane enters STATIC or IDLE and CHAIN_DONE is raised. -/
  | chainEnd (dplane : Nat)
  /-- R266: A regime change requested with AT takes effect at its slot, step or update-tick boundary. -/
  | schedRegimeAt (dplane : Nat)
  /-- R284: A new SLOT_NS takes effect at boundary B, which becomes the new EPOCH. -/
  | gridChangeAt
  /-- R287: At a slot's cutoff the demand is snapshotted and matching for slot k + 2 begins, or SCHED_MATCH_OVERRUN handles an unfinished plane. -/
  | slotCutoff
  /-- R289: Matching ends, contexts are written and each plane's permutation record is sent to its worker in FACET_REC. -/
  | matchingComplete
  /-- R445: A worker receives a slot's permutation record and looks up or builds the facet for launch at slot start. -/
  | facetRecReceive (west : Bool) (cells : List Bytes)
  /-- R291: The manager receives a worker's acceptance or refusal; when it holds every plane's acceptance, the slot's GRANT messages leave. -/
  | facetAckReceive (west : Bool) (cells : List Bytes)
  /-- R291: At L − GRANT_MARGIN the slot's grants leave with the planes accepted so far; later acceptances raise SCHED_GRANT_LATE. -/
  | grantMarginExpiry (slot : Nat)
  /-- R292: A slot launch not accepted by L − 3 μs is not made, reductions are restored and SCHED_PIPE_LATE is raised. -/
  | pipeLateDeadline (dplane : Nat) (slot : Nat)
  /-- R333: At the end of a grant's slot, unacknowledged grants zero GRANTED, count in GRANTS_UNACKED and may make the endpoint STALE. -/
  | grantSlotEnd (slot : Nat)
  /-- R297: Every INTERVAL slots the queue sampler copies DEPTH and AGE into the loupe, or skips with SCHED_SAMPLE_SKIPPED. -/
  | samplerPass
  /-- R323: A HELLO registers, refreshes or removes an endpoint, or is refused, and JOIN is returned. -/
  | helloReceive (link : Nat) (frame : Bytes)
  /-- R326: A DEMAND is checked for sender, sequence and token bucket, then its depths are applied by R281 and grants acknowledged. -/
  | demandReceive (link : Nat) (frame : Bytes)
  /-- R316: An ARP request for MGR_IPV4 is answered with RELAY_MAC. -/
  | arpRequestReceive (link : Nat) (frame : Bytes)
  /-- R324: No HELLO or accepted DEMAND for LIVE_TIMEOUT_US, so the endpoint is lost and treated as left. -/
  | endpointLiveTimeout (ep : Nat)
  /-- R335: Every ANNOUNCE_US the manager sends SLOT_ANNOUNCE. -/
  | announceTimer
  /-- R360: A PTP message is timestamped and terminated by the firmware stack, steered to the host, or forwarded. -/
  | ptpMessageReceive (link : Nat) (frame : Bytes) (rx : NetTime)
  /-- R358: The firmware stack sends its periodic Sync, Announce or delay requests at its configured intervals. -/
  | ptpIntervalTimer (kind : Nat)
  /-- R352: The slew remainder reaches zero and the slew frequency offset is removed. -/
  | slewDone
  /-- R350: A locked source falls silent for its loss time, and the timekeeper enters HOLDOVER with TIME_LOST. -/
  | timeSourceLoss
  /-- R354: At the chosen update-tick boundary time steps, pending timed actions are cancelled and ALIGNING begins. -/
  | timeStepApply
  /-- R357: The remaining phase after a step has been slewed out, and the timekeeper reports ACQUIRING or FREE_RUN. -/
  | realignDone
  /-- R363: Every 8 μs a TIME unit is sent on each clasp link. -/
  | claspTimeSend
  /-- R439: A TIME unit yields link delay and offset, and a worker disciplines to the manager's time. -/
  | claspTimeReceive (west : Bool) (unit : Bytes) (rx : NetTime)
  /-- R366: A worker hears no time frame for 100 μs, enters HOLDOVER and raises TIME_CLASP_LOST. -/
  | claspTimeSilence
  /-- R362: A transparent-clock pending match not made within 1 s is dropped and counted in TC_UNMATCHED. -/
  | tcMatchTimeout (port : Nat)
  /-- R362: A Follow_Up or Delay_Resp held for 1 ms without its event message is forwarded unchanged. -/
  | tcHoldTimeout (frame : Nat)
  /-- R367: A TOUT schedule reaches a programmed edge time and the pin changes level. -/
  | toutEdge (pin : Nat)
  /-- R368: A selected edge on TCAP is captured with its time into the queue, or lost. -/
  | tcapEdge (input : Nat) (fall : Bool) (time : NetTime)
  /-- R388: The first 64 bytes of a frame arrive; it is classified, looked up, bound to a table version, buffered and possibly cut through or mirrored. -/
  | frameHeadArrive (link : Nat) (head : Bytes) (rx : NetTime)
  /-- R382: A frame's last byte arrives and its length and FCS are checked; a bad frame is discarded or stomped. -/
  | frameReceiveEnd (link : Nat) (frame : List Bytes) (fcs : Nat)
  /-- R392: Each cell time the crossbar matches inputs to outputs in three iterations and moves one cell per matched pair. -/
  | crossbarCellTime
  /-- R398: On an idle egress link the highest eligible class starts its next frame, after shaper and gate checks. -/
  | egressFrameStart (link : Nat)
  /-- R395: A frame's transmission ends, taking any transmit timestamp, and its buffer references return. -/
  | egressFrameDone (link : Nat)
  /-- R404: A received PFC frame pauses or resumes the named classes on that egress link. -/
  | pfcReceive (link : Nat) (classes : Nat) (quanta : List Nat)
  /-- R404: A received pause time runs out and the class resumes. -/
  | pauseExpiry (link : Nat) (cls : Nat)
  /-- R404: Every 0x7FFF quanta while XOFF conditions hold, the relay resends XOFF. -/
  | pfcRefresh (link : Nat)
  /-- R403: An external link goes down, raising RELAY_LINK_DOWN; its queued frames are discarded at the head. -/
  | ethLinkDown (link : Nat)
  /-- R403: An external link comes up and RELAY_LINK_UP is raised. -/
  | ethLinkUp (link : Nat)
  /-- R400: A gate list entry ends and the next entry's GATE_MASK applies. -/
  | gateEntryBoundary (link : Nat)
  /-- R402: A new gate list takes effect at AT in its phase. -/
  | gateListTakeEffect (link : Nat)
  /-- R390: No frame bound to an earlier table version remains, and the waiting fence returns OK. -/
  | fenceComplete
  /-- R421: A fence reaches TIMEOUT_US and returns BUSY with REMAINING. -/
  | fenceTimeout
  /-- R413: The owner of a buffer transfers it to another requester. -/
  | bufferTransfer (pool : Nat) (addr : Nat) (src : Nat) (dst : Nat)
  /-- R489: The host frame path takes the next transmit descriptor once a buffer is available and offers its frame to the relay. -/
  | hostTxFrame (desc : Bytes) (data : Bytes)
  /-- R489: A frame bound for port 9 is written into the next posted receive buffer once one is free, and DONE is set. -/
  | hostRxDeliver (desc : Bytes)
  /-- R432: A clasp link comes up, or is held down as miswired; credits are issued and discovery runs. -/
  | claspLinkUp (west : Bool) (sameName : Bool)
  /-- R432: A clasp link fails, raising DOMAIN_CLASP_DOWN and opening the ring. -/
  | claspLinkDown (west : Bool)
  /-- R405: A CREDIT unit returns or issues credits per class. -/
  | claspCreditReceive (west : Bool) (unit : Bytes)
  /-- R433: Every 10 μs a HEARTBEAT is sent in both directions. -/
  | heartbeatSend
  /-- R441: A HEARTBEAT refreshes the sender's liveness and ring view. -/
  | heartbeatReceive (west : Bool) (cells : List Bytes)
  /-- R455: No HEARTBEAT from a worker for 100 μs: DOMAIN_WORKER_LOST, its planes out of matching, chains stopped and grants revoked. -/
  | workerSilence (dev : Nat)
  /-- R456: No manager HEARTBEAT for MGR_SILENCE_US: DOMAIN_MANAGER_LOST and holdover starts. -/
  | managerSilence
  /-- R456: Holdover expires and scheduling planes take the S3 reaction through DOMAIN_HOLDOVER_END. -/
  | holdoverEnd
  /-- R442: A DISCOVER is extended and forwarded, or on return to the manager closes discovery. -/
  | discoverReceive (west : Bool) (cells : List Bytes)
  /-- R443: A NUMBER message assigns device numbers and admission, after which a worker aligns time and raises DOMAIN_JOINED. -/
  | numberReceive (west : Bool) (cells : List Bytes)
  /-- R435: An end-to-end ACK settles a sequenced message. -/
  | claspAckReceive (west : Bool) (cells : List Bytes)
  /-- R435: A sequenced message unacknowledged for 20 μs is resent the other way with RESENT. -/
  | claspResendTimeout (dst : Nat) (seq : Nat)
  /-- R447: The manager receives a worker's suspect, withdrawal or plane-dark notice and revokes accordingly. -/
  | noticeReceive (west : Bool) (cells : List Bytes)
  /-- R441: A worker applies a scheduler action to its plane and replies with a status. -/
  | schedCmdReceive (west : Bool) (cells : List Bytes)
  /-- R448: A domain SNAP request, report or release is acted on. -/
  | snapReceive (west : Bool) (cells : List Bytes)
  /-- R450: The manager logs a forwarded worker event and raises DOMAIN_REMOTE_EVENT. -/
  | eventMsgReceive (west : Bool) (cells : List Bytes)
  /-- R452: A worker reassembles a tunnelled Bilek request once every segment has arrived and executes it. -/
  | tunnelReqReceive (west : Bool) (cells : List Bytes)
  /-- R452: The manager reassembles a tunnelled response, writes host data and completes the mailbox. -/
  | tunnelRspReceive (west : Bool) (cells : List Bytes)
  /-- R452: A tunnelled request unanswered for TUNNEL_TIMEOUT_MS returns TARGET_UNREACHABLE. -/
  | tunnelTimeout (tag : Nat)
  /-- R449: A DARK unit not remembered is forwarded and, with ACCEPT set, triggers the S4 reaction. -/
  | claspDarkReceive (west : Bool) (unit : Bytes) (errored : Bool)
  /-- R449: A remembered (ORIGIN, IDENTIFIER) pair is forgotten 1 ms after it was acted on. -/
  | darkMemoryExpiry (origin : Nat) (ident : Nat)
  /-- R486: The firmware starts the next accepted mailbox request in doorbell order. -/
  | commandStart (dma : Bytes) (dmaIn : Bytes)
  /-- R548: The firmware completes a dark reaction: planes to IDLE, grants revoked, NOTICE or SCHED_CMD sent. -/
  | faultFirmwareReaction
  /-- R550: No firmware watchdog restart for FW_WDOG_MS: SYS_FW_WDOG, hardware part of S4 and a warm reset. -/
  | fwWdogExpiry
  /-- R477: The host watchdog times out, sets WDOG_EXPIRED, stops and raises SYS_HOST_WDOG. -/
  | hostWdogExpiry
  /-- R562: HOLD_MS of an injected occurrence passes and its cause is gone. -/
  | injectHoldExpiry (event : Nat)
  /-- R512: A commissioning phase completes its measurements and the next requested phase starts. -/
  | calPhaseDone (meas : CalMeas)
  /-- R519: A commissioning run completes, puts its results in force as an UNSAVED working set and raises CAL_DONE. -/
  | calRunDone
  /-- R520: A background accumulation on an unlit monitor completes, retrimming offset, updating noise and checking drift. `integ` is the sum of the
  cell's integrator contents over the same samples. -/
  | calBackgroundVisitDone (acc : Stat) (integ : Int)
  /-- R525: A bank write and read-back finish, raising CAL_STORED or SEC_FW_WRITTEN, or CAL_NVM_WRITE_FAIL. -/
  | nvmWriteDone (ok : Bool)
  /-- R595: A margin scan point's dwell of 2^DWELL_LOG2 bits ends; after the last point EYE_MUI is stored and TEST_SCAN_DONE raised. -/
  | marginPointDone (lane : Nat) (errors : List Nat)
  /-- R596: A memory BIST ends, leaving its target reset and raising TEST_BIST_DONE. -/
  | bistDone (target : Nat) (fails : Nat) (first : Nat)
  /-- R597: A boundary-scan instruction takes effect, with LIGHT_EN and BZ_RST_N cells driving low when pins are taken. -/
  | jtagInstructionUpdate (code : Nat)
  /-- R599: Every 10 μs each ring directory entry is rewritten. -/
  | loupeDirUpdate
  /-- R600: 1 s since the last TIME_BASE record, a new one is written into each ring. -/
  | timeBaseDue
  /-- R616: A freeze's event or time trigger fires and POST_US of further recording begins. -/
  | loupeFreezeTrigger (event : Option Nat)
  /-- R616: POST_US after the trigger the named rings stop, FROZEN is set and LOUPE_FROZEN raised. -/
  | loupeFreezeStop
  /-- R606: At T every unit copies its counters, accumulators and trackers into the shadow bank, and SNAP_TAKEN is raised. -/
  | snapStrobe (bank : Nat)
  /-- R583: A lease's TTL passes, ending it and raising LEASE_EXPIRED. -/
  | leaseExpiry (id : Nat)
  /-- R621: Every 100 μs the pace monitors report slack; low slack raises POWER_PACE_LOW and may request 20 mV more. -/
  | paceMonitorSample (slack : List Int)
  /-- R624: Every 5 μs during a raise the regulator is polled, and a confirmed VCORE applies the waiting commands. -/
  | avsPoll (reported : Nat) (meas : Nat)
  /-- R624: A raise not confirmed within TIMEOUT_US raises SYS_AVS_TIMEOUT and refuses the waiting commands. -/
  | avsRaiseTimeout
  /-- R625: DOWN_HOLD_MS after a floor leaves use, lowering of VCORE begins. -/
  | avsDownHoldExpiry
  /-- R625: Each millisecond while lowering, VCORE drops by 10 mV once the previous step is confirmed. -/
  | avsLowerStep (reported : Nat) (meas : Nat)
  /-- R633: Every 10 ms die and HBM power are estimated from rail measurements. -/
  | powerEstimate (dieMw : Nat) (hbmMw : Nat)
  /-- R635: A sensor reading is checked against its neighbours' reference, thresholds and trips. -/
  | tempSensorUpdate (sensor : Nat) (reading : Int)
  /-- R635: A SUSPECT sensor within XCHECK/2 for 1 s returns to valid. -/
  | sensorRecover (sensor : Nat)
  /-- R638: Every 10 ms the DPLL, oscillators and reference outputs are corrected for temperature. -/
  | tempCompTick
  /-- R639: Every 1 ms the plane temperature regulator computes auxiliary power and writes heater codes. -/
  | planeTempTick (plane : Nat)
  /-- R640: |e| has stayed within SETTLE_BAND for 1 s and the regulator enters SETTLED. -/
  | planeTempSettled (plane : Nat)
  /-- R640: The output has stayed at 0 or full for 10 s and the regulator enters SATURATED. -/
  | planeTempSaturated (plane : Nat)
  /-- R655: The patrol scrub rewrites HBM and SRAM words on its schedule, correcting or reporting ECC errors. -/
  | patrolScrub (sram : Bool) (stack : Nat) (corrected : Bool) (uncorrectable : Bool)
  /-- R475: A keyed write with DARK sets HOST_DARK, drives every LIGHT_EN low within 1 μs and starts the S4 reaction. -/
  | emergencyDark (value : Nat)
  /-- R476: A keyed write with RELEASE alone clears HOST_DARK, lighting nothing. -/
  | emergencyRelease (value : Nat)
  /-- R477: A write to WDOG_TIMEOUT_MS arms or disarms the host watchdog and clears WDOG_EXPIRED. -/
  | wdogTimeoutWrite (value : Nat)
  /-- R477: A write to WDOG_KICK restarts the host watchdog. -/
  | wdogKick (value : Nat)
  /-- R485: A doorbell write submits the request, or sets REJECTED if BUSY or not ENABLED. -/
  | mailboxRing (mbox : Nat) (value : Nat)
  /-- R485: A write to a request area is stored, or discarded with REJECTED while the mailbox is BUSY. -/
  | requestAreaWrite (mbox : Nat) (offset : Nat) (value : Nat)
  /-- R481: A W1C write to PENDING clears event bits, and a vector whose set stays non-empty sends again within 1 μs. -/
  | pendingClear (word : Nat) (value : Nat) (raised : List Nat)
  /-- R481: Writing IRQ_EN enables event messages, sending on each vector whose set becomes non-empty. -/
  | irqEnWrite (value : Nat)
  /-- R481: Writing MASK changes which sources send, sending on vectors whose set becomes non-empty. -/
  | eventMaskWrite (word : Nat) (value : Nat)
  /-- R481: Writing VECTOR remaps sources, sending on vectors whose set becomes non-empty. -/
  | eventVectorWrite (word : Nat) (value : Nat)
  /-- R487: Writing TX_TAIL posts transmit descriptors to the host frame path. -/
  | txTailWrite (value : Nat)
  /-- R487: Writing RX_TAIL posts empty receive buffers, letting waiting frames be delivered. -/
  | rxTailWrite (value : Nat)
  /-- R470: A BAR0 or BAR2 write to a register without behaviour of its own is stored, ignored or discarded by its access code. -/
  | registerWrite (space : RegSpace) (offset : Nat) (size : Nat) (value : Nat)
  /-- R712: SMBus read of command 0x00 returns the IDENT STATE code. -/
  | smbState
  /-- R712: SMBus read of command 0x01 returns MAX_SEV. -/
  | smbMaxSev
  /-- R712: SMBus read of command 0x02 returns the LIGHT_EN levels. -/
  | smbLightEn
  /-- R712: SMBus read of command 0x03 returns PLANE_DARK. -/
  | smbPlaneDark
  /-- R712: SMBus read of command 0x10 returns TEMP_DIE. -/
  | smbTempDie
  /-- R712: SMBus read of command 0x12 returns TEMP_HBM. -/
  | smbTempHbm
  /-- R712: SMBus read of command 0x14 returns the on-die VCORE reading. -/
  | smbVcoreMv
  /-- R712: SMBus read of command 0x16 returns the die power estimate. -/
  | smbDiePowerW
  /-- R712: SMBus block read of command 0x20 returns the device identity. -/
  | smbIdentity
  /-- R712: An Alert Response Address read releases SMB_ALERT_N. -/
  | smbAlertResponse
  /-- R712: Any other SMBus command code is answered with a NACK. -/
  | smbUnknown (code : Nat)
  /-- R502: Returns identity, version, role, state and uptime. -/
  | sysInfo (req : Req)
  /-- R694: Requests a warm reset, refused unless every plane is IDLE or FORCE is set. -/
  | sysReset (req : Req)
  /-- R695: Starts an orderly shutdown and returns the expected ramp duration. -/
  | sysShutdown (req : Req)
  /-- R503: Returns and removes records of the device's event log. -/
  | sysEventLog (req : Req)
  /-- R504: Returns its payload unchanged. -/
  | sysEcho (req : Req)
  /-- R498: Returns capability entries from CURSOR. -/
  | capWalk (req : Req)
  /-- R44: Returns part of the plane map in force. -/
  | planeMapRead (req : Req)
  /-- R45: Fetches, validates and stores a new plane map generation for the next reset. -/
  | planeMapLoad (req : Req)
  /-- R505: Returns a link's state, bezel status and error counters. -/
  | linkStatus (req : Req)
  /-- R506: Pulses BZ_RST_N and trains the link. -/
  | linkRetrain (req : Req)
  /-- R507: Sends one bezel command and returns its response. -/
  | linkBezelCmd (req : Req)
  /-- R131: Writes 1 to 16 queue entries to one channel. -/
  | driveSetTarget (req : Req)
  /-- R132: Returns a channel's drive path state and last readback. -/
  | driveReadState (req : Req)
  /-- R133: Sets one slew parameter set from the next update tick. -/
  | driveSetSlew (req : Req)
  /-- R134: Sets a plane's update tick. -/
  | driveSetTick (req : Req)
  /-- R135: Starts a range change on a cell or element. -/
  | driveSetRange (req : Req)
  /-- R136: Fetches, checks and stores a new park table. -/
  | driveParkLoad (req : Req)
  /-- R137: Returns park codes. -/
  | driveParkRead (req : Req)
  /-- R138: Ramps a plane to zero or park. -/
  | driveRamp (req : Req)
  /-- R139: Requests an urgent readback conversion and responds when it completes. -/
  | driveReadback (req : Req)
  /-- R140: Sets readback delay, tolerance and scan for a link. -/
  | driveSetReadback (req : Req)
  /-- R141: Sets DRIVE_LEAD_PS of a link. -/
  | driveSetLinkLead (req : Req)
  /-- R142: Returns and optionally clears drive counters. -/
  | driveCounters (req : Req)
  /-- R171: Switches reference outputs on or off. -/
  | senseRefEnable (req : Req)
  /-- R172: Sets MON_EN and filter of a range of monitor channels. -/
  | senseSetChannel (req : Req)
  /-- R173: Configures accumulators and clears trackers of a range of channels. -/
  | senseAccConfig (req : Req)
  /-- R174: Returns accumulator results, optionally clearing. -/
  | senseAccRead (req : Req)
  /-- R175: Returns tracker extremes, optionally clearing. -/
  | senseMinmaxRead (req : Req)
  /-- R176: Returns a link's reference state and sense counters. -/
  | senseStatus (req : Req)
  /-- R209: Sets the regime of a range of contexts. -/
  | loopSetRegime (req : Req)
  /-- R210: Writes one coefficient bank. -/
  | loopSetGains (req : Req)
  /-- R211: Schedules a bank swap at AT. -/
  | loopSwapBank (req : Req)
  /-- R212: Sets cell TARGET values. -/
  | loopSetSetpoint (req : Req)
  /-- R213: Writes output limits, SUM, MISS_LIMIT, SIGN and CORR_ARM. -/
  | loopSetLimits (req : Req)
  /-- R214: Returns a context record, optionally clearing sticky flags. -/
  | loopReadState (req : Req)
  /-- R215: Loads a gain table. -/
  | loopTableLoad (req : Req)
  /-- R215: Returns a gain table. -/
  | loopTableRead (req : Req)
  /-- R216: Configures a context's test-signal generator. -/
  | loopInject (req : Req)
  /-- R217: Starts a response capture. -/
  | loopCapture (req : Req)
  /-- R218: Returns the latest capture result. -/
  | loopCaptureRead (req : Req)
  /-- R219: Returns and optionally clears engine counters. -/
  | loopCounters (req : Req)
  /-- R254: Looks up a permutation and builds it on a miss. -/
  | facetDefine (req : Req)
  /-- R254: Looks up a permutation without building. -/
  | facetLookup (req : Req)
  /-- R255: Returns a slot's header, entries, record or cell-state vector. -/
  | facetRead (req : Req)
  /-- R256: Edits masked fields of slot entries. -/
  | facetWrite (req : Req)
  /-- R257: Launches a facet at a time in STATIC. -/
  | facetLaunch (req : Req)
  /-- R258: Withdraws an accepted launch before L − 3 μs. -/
  | facetCancel (req : Req)
  /-- R259: Returns a launch report. -/
  | facetReport (req : Req)
  /-- R260: Sets a plane's launch and learning parameters. -/
  | facetConfig (req : Req)
  /-- R261: Pins, unpins or evicts a slot. -/
  | facetPin (req : Req)
  /-- R262: Returns the cell-state vector of a permutation without touching the library. -/
  | facetRoute (req : Req)
  /-- R263: Returns library counters. -/
  | facetStatus (req : Req)
  /-- R298: Fetches and validates a chain. -/
  | chainLoad (req : Req)
  /-- R299: Computes a chain's start S, rolling a late start by whole periods. -/
  | chainStart (req : Req)
  /-- R300: Stops the chain of a plane at a step boundary. -/
  | chainStop (req : Req)
  /-- R300: Unloads a chain and clears its CHAIN_REF marks. -/
  | chainUnload (req : Req)
  /-- R301: Returns a chain's header and steps. -/
  | chainRead (req : Req)
  /-- R302: Returns the chain state of a plane. -/
  | chainStatus (req : Req)
  /-- R303: Sets STAGE_LEAD and MIN_LEAD. -/
  | chainConfig (req : Req)
  /-- R304: Requests a regime change of a domain plane. -/
  | schedSetRegime (req : Req)
  /-- R305: Sets the slot grid, cutoff, grant margin and ITER. -/
  | schedConfig (req : Req)
  /-- R306: Sets the parameters of a class. -/
  | schedClassConfig (req : Req)
  /-- R307: Sets WEIGHT and HELD of demand contexts. -/
  | schedQueueConfig (req : Req)
  /-- R308: Adds or removes a pinned circuit. -/
  | schedPin (req : Req)
  /-- R309: Restores withdrawn pairs or pins. -/
  | schedRestore (req : Req)
  /-- R310: Sets a plane's port-to-endpoint map. -/
  | schedPlanePorts (req : Req)
  /-- R311: Returns demand contexts. -/
  | schedDemandRead (req : Req)
  /-- R312: Configures the queue sampler. -/
  | schedSampler (req : Req)
  /-- R313: Returns scheduler counters. -/
  | schedStatus (req : Req)
  /-- R341: Sets endpoint protocol settings. -/
  | endpointConfig (req : Req)
  /-- R342: Binds or removes an admission binding. -/
  | endpointAdmit (req : Req)
  /-- R343: Returns an endpoint's state. -/
  | endpointRead (req : Req)
  /-- R344: Evicts an endpoint with JOIN EVICTED. -/
  | endpointEvict (req : Req)
  /-- R345: Returns endpoint counters. -/
  | endpointCounters (req : Req)
  /-- R370: Sets the time source and thresholds. -/
  | timeConfig (req : Req)
  /-- R371: Returns the time and timekeeper status. -/
  | timeRead (req : Req)
  /-- R372: Applies a host frequency and offset correction. -/
  | timeAdjust (req : Req)
  /-- R373: Requests a step of time across the domain. -/
  | timeForceSet (req : Req)
  /-- R374: Configures the firmware PTP stack. -/
  | timePtpConfig (req : Req)
  /-- R375: Returns the firmware PTP state. -/
  | timePtpStatus (req : Req)
  /-- R376: Returns and removes transmit timestamps. -/
  | timeTxtsRead (req : Req)
  /-- R377: Enables the transparent clock on ports. -/
  | timeTcConfig (req : Req)
  /-- R378: Sets a pulse output schedule. -/
  | timeTout (req : Req)
  /-- R379: Selects capture edges and empties the queue. -/
  | timeTcapConfig (req : Req)
  /-- R379: Returns and removes capture entries. -/
  | timeTcapRead (req : Req)
  /-- R415: Sets relay MAC, miss action and classes. -/
  | relayConfig (req : Req)
  /-- R416: Sets a port's mode, interface, FEC and flags. -/
  | relayPortConfig (req : Req)
  /-- R417: Returns a port link's state. -/
  | relayPortStatus (req : Req)
  /-- R418: Writes forwarding entries and increments TABLE_VERSION. -/
  | relayFdbWrite (req : Req)
  /-- R419: Reads forwarding entries by key or scan. -/
  | relayFdbRead (req : Req)
  /-- R420: Writes multicast group masks. -/
  | relayGroupWrite (req : Req)
  /-- R421: Waits until no frame of an earlier table version remains. -/
  | relayFence (req : Req)
  /-- R422: Loads a gate list for a link. -/
  | relayGateLoad (req : Req)
  /-- R423: Sets a class's credit-based shaper. -/
  | relayShaper (req : Req)
  /-- R424: Configures a mirror session. -/
  | relayMirror (req : Req)
  /-- R425: Returns port counters. -/
  | relayCounters (req : Req)
  /-- R426: Sets quotas and thresholds of a pool. -/
  | poolConfig (req : Req)
  /-- R427: Returns pool state and error counters. -/
  | poolStatus (req : Req)
  /-- R459: Sets propagation, holdover and tunnel settings. -/
  | domainConfig (req : Req)
  /-- R460: Returns ring state. -/
  | domainStatus (req : Req)
  /-- R461: Returns the member table. -/
  | domainMembers (req : Req)
  /-- R462: Binds or frees a device number. -/
  | domainMemberEdit (req : Req)
  /-- R463: Writes the NVM role for the next reset. -/
  | domainSetRole (req : Req)
  /-- R464: Returns and removes remote event records. -/
  | domainEvents (req : Req)
  /-- R465: Returns clasp counters. -/
  | domainCounters (req : Req)
  /-- R531: Starts a commissioning run on a plane. -/
  | calCommission (req : Req)
  /-- R532: Enables or configures background calibration. -/
  | calBackground (req : Req)
  /-- R533: Returns calibration progress and state. -/
  | calStatus (req : Req)
  /-- R534: Returns calibration records, summaries or lane records. -/
  | calRead (req : Req)
  /-- R535: Writes the working set to NVM. -/
  | calStore (req : Req)
  /-- R536: Puts a stored calibration bank in force. -/
  | calSelect (req : Req)
  /-- R537: Reads or writes a reference output trim. -/
  | calRefTrim (req : Req)
  /-- R563: Returns active fault records. -/
  | faultStatus (req : Req)
  /-- R565: Acknowledges fault records. -/
  | faultAck (req : Req)
  /-- R566: Clears acknowledged records whose cause is gone, releasing their FORCE_ZERO. -/
  | faultClear (req : Req)
  /-- R567: Reads or sets a fault source's severity. -/
  | faultSetSeverity (req : Req)
  /-- R568: Sets FAULT_N_SEV and FW_WDOG_MS. -/
  | faultConfig (req : Req)
  /-- R569: Injects a fault occurrence under factory authorisation. -/
  | faultInject (req : Req)
  /-- R570: Returns and removes fault log records. -/
  | faultLog (req : Req)
  /-- R608: Starts or stops a lane pattern generator. -/
  | testLanePattern (req : Req)
  /-- R608: Starts or stops a lane pattern checker. -/
  | testLaneCheck (req : Req)
  /-- R608: Sets near or far loopback on a lane. -/
  | testLoopback (req : Req)
  /-- R609: Starts an eye margin scan. -/
  | testMarginScan (req : Req)
  /-- R610: Starts a memory BIST or reads its result. -/
  | testBist (req : Req)
  /-- R611: Returns lane test counters. -/
  | testCounters (req : Req)
  /-- R612: Defines or deletes a loupe ring. -/
  | loupeRingConfig (req : Req)
  /-- R613: Enables or disables a loupe source. -/
  | loupeEnable (req : Req)
  /-- R614: Returns a ring's directory entry. -/
  | loupeStatus (req : Req)
  /-- R615: Copies ring positions to host memory. -/
  | loupeExport (req : Req)
  /-- R616: Arms, fires or thaws a ring freeze. -/
  | loupeFreeze (req : Req)
  /-- R672: Returns a signed attestation report. -/
  | secAttest (req : Req)
  /-- R673: Returns bytes of the certificate chain. -/
  | secCertRead (req : Req)
  /-- R674: Writes a firmware image to the bank not running. -/
  | secFwUpdate (req : Req)
  /-- R675: Selects the boot bank, and with COMMIT burns the security counter. -/
  | secFwSelect (req : Req)
  /-- R676: Returns a challenge, installs or replaces the owner key. -/
  | secOwnerSet (req : Req)
  /-- R677: Returns a challenge or changes the lifecycle. -/
  | secLifecycle (req : Req)
  /-- R678: Returns a challenge or accepts a factory token. -/
  | secFactoryToken (req : Req)
  /-- R642: Returns AVS, rail and power state. -/
  | powerStatus (req : Req)
  /-- R643: Sets AVS settings. -/
  | powerAvsConfig (req : Req)
  /-- R644: Enters or leaves ECO. -/
  | powerMode (req : Req)
  /-- R645: Returns sensor readings and sets thermal thresholds. -/
  | powerTemps (req : Req)
  /-- R646: Reads, enables, disables or tunes plane temperature regulation. -/
  | powerPlaneTemp (req : Req)
  /-- R617: Arms a snapshot bank for time T. -/
  | snapAt (req : Req)
  /-- R618: Returns records of a taken shadow bank. -/
  | snapRead (req : Req)
  /-- R618: Returns a bank's state and per-device results. -/
  | snapStatus (req : Req)
  /-- R618: Returns a bank to FREE, cancelling it if armed. -/
  | snapRelease (req : Req)
  /-- R586: Takes a lease on a range of resource instances. -/
  | leaseTake (req : Req)
  /-- R587: Ends a lease, stopping lane tests and retraining links. -/
  | leaseRelease (req : Req)
  /-- R589: Returns lease and hold records. -/
  | leaseList (req : Req)
  /-- R588: Extends a lease's expiry. -/
  | leaseRenew (req : Req)
  /-- R85: After BZ_RST_N rises the bezel recovers the clock, finds SYNC and deskews, and after 8 consecutive valid frames on every down-lane starts its up-lanes. -/
  | bezelDownLaneLock (link : Nat)
  /-- R442: Ring discovery concludes within 1 ms, declaring the ring OPEN when no DISCOVER has returned, and numbering follows. -/
  | discoveryComplete
  /-- R592: A lane pattern checker sees 1,024 consecutive agreeing bits and becomes LOCKED, starting its BITS and ERRORS counts. -/
  | checkerLocked (lane : Nat)
  /-- R592: A LOCKED checker sees 64 or more errors within 1,024 bits, loses lock, counts a LOCK_LOSS and reseeds. -/
  | checkerLockLoss (lane : Nat) (bits : Nat) (errors : Nat)
  /-- R710: REFCLK returns within its frequency range and the SYS_REFCLK_LOSS condition ends. -/
  | refclkReturn
  /-- R541: The DPLL of the bezel-link clocks regains lock and the SYS_DPLL_UNLOCK condition ends. -/
  | dpllRelock
  /-- R637: The independent trip diode falls back below its trip point, so the analogue trip no longer holds THERMTRIP_N low. -/
  | analogueTripRelease
  /-- R701: VIO18 reaches 0.5 V at power-up and LIGHT_EN and BZ_RST_N drivers begin driving low, the device leaving OFF with PORST_N low. -/
  | powerUp
  deriving DecidableEq, Repr

end Sys2Proof
end

