-- ==== Sys2Proof/Decode.lean ====
section
/-! DEFINITION. Words of the opcode table. The device takes events, register accesses and mailbox requests, and fetches no
instruction; no row of the table gives bits, so no word spells a step. -/

namespace Sys2Proof

/-- The step that a word spells by the table's bits: no row gives any. -/
def decodeTableWord (_nbits _w : Nat) : Option Instr := none

end Sys2Proof
end

