-- ==== Sys2Proof/Config.lean ====
section
/-! DEFINITION. What one implementation fixes and what the manual leaves open: every constant here
has no body, so no proof can learn its value. -/

namespace Sys2Proof

/-- A free value: what the manual leaves open at the `n`-th such choice of a run (log entry 2, DESIGN CHOICE). -/
opaque Config.freeValue : Nat → Nat

/-- SHA-512 (R524, R660, R663), left open as a function of the bytes hashed (log entry 3, DESIGN CHOICE). -/
opaque Config.sha512 : Bytes → Bytes

/-- RSASSA-PSS verification of R663: key, message, signature (log entry 3, DESIGN CHOICE). -/
opaque Config.rsaVerify : Bytes → Bytes → Bytes → Bool

/-- RSASSA-PSS signing by the locket's identity key (R661, R670; log entry 3). -/
opaque Config.rsaSign : Bytes → Bytes

/-- Fuses: HBM96 of R473, true on a KV512-96 (R1). -/
opaque Config.hbm96 : Bool

/-- Fuses: the bits of the device identity (R473, R660). -/
opaque Config.identityBits : BitVec 64

/-- The 64-bit device identity (R473, R660). -/
def Config.identity : Nat := Config.identityBits.toNat

/-- OTP: VENDOR_ROOT_HASH (R660). -/
opaque Config.vendorRootHash : Bytes

/-- Gulfel's root public key, by which factory tokens are signed (R669). -/
opaque Config.vendorRootKey : Bytes

/-- OTP: factory TRIM of the reference output of a link (R522). -/
opaque Config.factoryTrim : Nat → Nat

/-- OTP: factory TC of the reference output of a link, as its 16-bit field (R522). -/
opaque Config.factoryTc : Nat → Nat

/-- Bezel: IMPLEMENTER_ID of the bezel on a link (R73). -/
opaque Config.bezelImplementer : Nat → Nat

/-- Bezel: PART of the bezel on a link (R73). -/
opaque Config.bezelPart : Nat → Nat

/-- Bezel: what sets T_APPLY of the bezel on a link within the bounds of R61 (`bezelTApplyPs`). -/
opaque Config.bezelTApply : Nat → Nat

/-- Bezel: HTR_TEST supported, as READ_ID reports it (R73). -/
opaque Config.bezelHtrTest : Nat → Bool

/-- NVM: Subsystem Vendor ID and Subsystem ID when not blank (R466). -/
opaque Config.subsystem : Option Nat

/-- A worker's plane by DPLANE and by admission: it has 512 ports, not 256 (log entry 60, DESIGN CHOICE). -/
opaque Config.workerWide : Nat → Nat → Bool

/-- A worker's plane by DPLANE and by admission: what picks its update tick among those of R97 (log entry 60, DESIGN CHOICE). -/
opaque Config.workerTick : Nat → Nat → Nat

/-- A worker's plane by DPLANE, by admission and by move of its calibration: what sets its RECONFIG_ALLOW within R260 (log entry 60,
DESIGN CHOICE). -/
opaque Config.workerAllow : Nat → Nat → Nat → Nat

/-- Firmware: MAJOR and MINOR of a feature as the capability list shows them, as MAJOR + 256 × MINOR (R498). -/
opaque Config.featureRev : Nat → Nat

end Sys2Proof
end

