-- ==== Sys2Proof/Machine/Types.lean ====
section
/-! DEFINITION. The records that State is made of, first part: events, faults, the host interface,
bezel links, the bezel itself, drive paths, the sense path and loop contexts.

Each field's comment reads `width · rule · where its reset value comes from · meaning`. `DC1` there is
log entry 1 (the manual gives no reset value and the model names one), `M` a field of the model's own. -/

namespace Sys2Proof.Machine

/-- A sparse table: entries in strictly rising key order, none equal to the table's default. -/
abbrev Tab (α : Type) := List (Nat × α)

/-- An event log record (R464, R503). -/
structure EvRec where
  /-- w8 · R464 · DC1 · device number -/
  device : Nat := 0xFF
  /-- w16 · R464 · DC1 · event source -/
  event : Nat := 0
  /-- w96 · R464 · DC1 · time raised -/
  time : NetTime := 0
  /-- w128 · R564 · DC1 · event data -/
  data : EvData := {}
  deriving DecidableEq, Repr

/-- An active fault record (R552, R556, R563). -/
structure FaultRec where
  /-- w16 · R563 · DC1 · fault source -/
  event : Nat := 0
  /-- w8 · R563 · DC1 · current severity -/
  sev : Nat := 1
  /-- w8 · R563 · DC1 · severity at creation -/
  base : Nat := 1
  /-- w1 · R558 · DC1 · ACKED -/
  acked : Bool := false
  /-- w1 · R562 · DC1 · INJECTED -/
  injected : Bool := false
  /-- w1 · R563 · DC1 · REMOTE -/
  remote : Bool := false
  /-- w16 · R563 · DC1 · occurrences, saturating -/
  occ : Nat := 1
  /-- w96 · R563 · DC1 · time of the first occurrence -/
  first : NetTime := 0
  /-- w96 · R563 · DC1 · time of the latest occurrence -/
  last : NetTime := 0
  /-- w128 · R563 · DC1 · data of the latest occurrence -/
  data : EvData := {}
  /-- list · R557 · DC1 · scope data of every occurrence (the union the reaction acts on) -/
  scope : List EvData := []
  deriving DecidableEq, Repr

/-- A fault log record (R570). -/
structure FaultLogRec where
  /-- w16 · R570 · DC1 · fault source -/
  event : Nat := 0
  /-- w8 · R570 · DC1 · severity after the action -/
  sev : Nat := 0
  /-- w8 · R570 · DC1 · 0 raised, 1 escalated, 2 acknowledged, 3 cleared, 4 severity changed -/
  action : Nat := 0
  /-- w1 · R570 · DC1 · INJECTED -/
  injected : Bool := false
  /-- w1 · R570 · DC1 · REMOTE -/
  remote : Bool := false
  /-- w96 · R570 · DC1 · time of the action -/
  time : NetTime := 0
  /-- w128 · R564 · DC1 · event data -/
  data : EvData := {}
  deriving DecidableEq, Repr

/-- What the firmware still has to complete after the hardware part of a reaction (R547, R548, R549). -/
inductive FwTask where
  /-- steps 2 to 4 of a containment of circuit (p, q) of a plane (R547) -/
  | contain (plane inp out event : Nat)
  /-- step 2 of a plane dark reaction (R548) -/
  | planeDark (plane event : Nat)
  /-- the manager's part of a device dark reaction (R549) -/
  | deviceDark (event : Nat)
  /-- the manager's part of an S2 or S3 reaction of scope Q, E or W (R546): severity, DPLANE, pair -/
  | dplane (sev dplane inp out event : Nat)
  deriving DecidableEq, Repr

/-- Fault handling (chapter 14). -/
structure Faults where
  /-- list · R556 · DC1 · active records, ascending event -/
  records : List FaultRec := []
  /-- 4,096 records · R570 · DC1 · fault log, oldest first -/
  log : List FaultLogRec := []
  /-- w16 · R570 · DC1 · fault log records lost -/
  logLost : Nat := 0
  /-- w8 each · R561 · R541 · severity in force where it differs from the default of R541 -/
  severity : Tab Nat := []
  /-- w8 · R560 · R560 · FAULT_N_SEV -/
  faultNSev : Nat := 2
  /-- list · R721 · DC1 · conditions present: (event, instance) -/
  conds : List (Nat × Nat) := []
  /-- list · R539 · DC1 · (event, time) of the newest occurrence, for the 1 us merge -/
  lastOcc : Tab NetTime := []
  /-- list · R562 · DC1 · injected causes and the time each is gone -/
  injected : List (Nat × NetTime) := []
  /-- list · R548 · M · firmware parts of reactions still to be done -/
  tasks : List (FwTask × NetTime) := []
  /-- w16 · R550 · R550 · FW_WDOG_MS -/
  fwWdogMs : Nat := 2
  /-- time · R550 · DC1 · latest firmware watchdog restart, elapsed time -/
  fwWdogLast : NetTime := 0
  deriving DecidableEq, Repr

/-- The EVENTS block (R478) and the event log (R503). -/
structure Events where
  /-- w512 · R478 · R478 · PENDING -/
  pending : BitVec 512 := 0
  /-- w512 · R478 · R478 · MASK -/
  mask : BitVec 512 := BitVec.allOnes 512
  /-- w6 each · R480 · R480 · VECTOR entries that differ from 19 + (s div 64) -/
  vector : Tab Nat := []
  /-- w1 · R478 · R478 · IRQ_EN -/
  irqEn : Bool := false
  /-- 1,024 records · R503 · DC1 · the device's own event log, oldest first -/
  log : List EvRec := []
  /-- w16 · R503 · DC1 · event log records lost -/
  lost : Nat := 0
  /-- w64 · R481 · DC1 · MSI-X pending bit array -/
  pba : BitVec 64 := 0
  deriving DecidableEq, Repr

/-- The EMERGENCY block's own state (R474 to R477). -/
structure Emergency where
  /-- w1 · R475 · R476 · HOST_DARK latch -/
  hostDark : Bool := false
  /-- w16 · R477 · R474 · WDOG_TIMEOUT_MS -/
  wdogMs : Nat := 0
  /-- time · R477 · R474 · when the armed watchdog expires (elapsed time); none while stopped -/
  wdogAt : Option NetTime := none
  /-- w1 · R477 · R474 · WDOG_EXPIRED -/
  expired : Bool := false
  deriving DecidableEq, Repr

/-- One mailbox (R484). -/
structure Mbox where
  /-- w1 · R484 · R484 · ENABLED -/
  enabled : Bool := false
  /-- w1 · R484 · R484 · REJECTED -/
  rejected : Bool := false
  /-- w1 · R484 · R484 · DONE -/
  done : Bool := false
  /-- w1 · R484 · R484 · BUSY -/
  busy : Bool := false
  /-- w16 · R484 · R484 · TAG -/
  tag : Nat := 0
  /-- 4 KiB · R469 · DC1 · request area: cells other than 0 -/
  req : List Host.Cell := []
  /-- 4 KiB · R469 · DC1 · response area, from offset 0; bytes past the list read 0 -/
  rsp : Bytes := []
  /-- w16 · R468 · M · TAG of a running command whose response is to be discarded -/
  discard : Option Nat := none
  /-- list · R414 · M · message-pool buffers that hold the payload of its INDIRECT request -/
  bufs : List Nat := []
  deriving DecidableEq, Repr

/-- Registers of the PCIe function and BAR0 that no other record holds. -/
structure HostIf where
  /-- w1 · R467 · DC1 · Bus Master Enable -/
  busMaster : Bool := false
  /-- w64 · R466 · DC1 · BAR0 with BAR1: base address (log entry 9, PRESUMED) -/
  bar0 : Nat := 0
  /-- w64 · R466 · DC1 · BAR2 with BAR3: base address (log entry 9, PRESUMED) -/
  bar2 : Nat := 0
  /-- w3 · R466 · DC1 · maximum payload size in use: 0 128, 1 256, 2 512 bytes (log entry 9, PRESUMED) -/
  mps : Nat := 0
  /-- 256 words · R480 · DC1 · MSI-X table words other than the reset value (log entry 9, PRESUMED) -/
  msix : Tab Nat := []
  /-- w1 · R481 · DC1 · MSI-X Enable of the capability (log entry 9, PRESUMED) -/
  msixEn : Bool := false
  /-- w1 · R481 · DC1 · MSI-X function mask (log entry 9, PRESUMED) -/
  msixMask : Bool := false
  /-- w32 · R473 · R473 · FW_HEARTBEAT -/
  heartbeat : Nat := 0
  /-- time · R473 · DC1 · elapsed time of the last FW_HEARTBEAT increment -/
  heartbeatAt : NetTime := 0
  /-- w32 · R482 · R482 · TIME_MIRROR SEQ -/
  mirrorSeq : Nat := 0
  /-- w96 · R482 · R482 · TIME_MIRROR time fields -/
  mirrorTime : NetTime := 0
  /-- w4 · R482 · R482 · TIME_MIRROR SOURCE -/
  mirrorSource : Nat := 0
  /-- w3 · R482 · R482 · TIME_MIRROR STATE -/
  mirrorState : Nat := 0
  /-- time · R483 · DC1 · elapsed time of the last mirror update -/
  mirrorAt : NetTime := 0
  /-- list · R486 · DC1 · accepted requests not yet started, doorbell order (mailbox numbers) -/
  queue : List Nat := []
  /-- w1 · R487 · R487 · RX_EN -/
  rxEn : Bool := false
  /-- w1 · R487 · R487 · TX_EN -/
  txEn : Bool := false
  /-- w64 · R487 · R487 · TX_BASE -/
  txBase : Nat := 0
  /-- w16 · R487 · R487 · TX_SIZE -/
  txSize : Nat := 0
  /-- w16 · R487 · R487 · TX_TAIL -/
  txTail : Nat := 0
  /-- w16 · R487 · R487 · TX_HEAD -/
  txHead : Nat := 0
  /-- w64 · R487 · R487 · RX_BASE -/
  rxBase : Nat := 0
  /-- w16 · R487 · R487 · RX_SIZE -/
  rxSize : Nat := 0
  /-- w16 · R487 · R487 · RX_TAIL -/
  rxTail : Nat := 0
  /-- w16 · R487 · R487 · RX_HEAD -/
  rxHead : Nat := 0
  /-- w3 · R490 · R490 · WIN_SEL -/
  winSel : Nat := 0
  deriving DecidableEq, Repr

/-- One slice of a down-frame as the KV512 builds it (R57 to R66). -/
structure DownFrame where
  /-- w4 · R50 · DC1 · tick sequence -/
  seq : Nat := 0
  /-- tick · R112 · DC1 · modulator-tick count of its apply tick -/
  tick : Nat := 0
  /-- w96 · R112 · DC1 · network time at which its apply tick begins -/
  start : NetTime := 0
  /-- w96 · R112 · M · network time at which its first bit leaves: DRIVE_LEAD_PS before the apply tick -/
  sendAt : NetTime := 0
  /-- 1,152 levels · R58 · DC1 · local channels whose level is not 0 -/
  levels : Tab Nat := []
  /-- w1 · R150 · M · the link was in RUN in this tick -/
  run : Bool := false
  /-- w1 · R155 · M · the reference was off or in its warm-up in this tick -/
  refBad : Bool := true
  /-- w1 · R357 · M · a realignment of the tick grids ran in this tick -/
  realign : Bool := false
  /-- w1 · R59 · R59 · DARK -/
  dark : Bool := true
  /-- 8 × w16 · R60 · R60 · readback controls (START, CHAN), modulators with a START -/
  rbStart : Tab Nat := []
  /-- w256 · R71 · DC1 · command slot; op 0 is NOP -/
  cmd : BezelCmd := {}
  /-- w7 · R66 · R66 · segment carried, none when MIRROR_HDR.VALID is 0 -/
  segment : Option Nat := none
  /-- w1 · R70 · M · the segment was sent out of turn -/
  turn : Bool := false
  /-- 16 words · R57 · DC1 · MIRROR_DATA words -/
  data : List Nat := []
  deriving DecidableEq, Repr

/-- A bezel command that awaits its response (R74, R75). -/
structure CmdWait where
  /-- w8 · R71 · DC1 · the command -/
  cmd : BezelCmd := {}
  /-- time · R75 · DC1 · elapsed time at which it was last sent; none while it waits to be sent -/
  sentAt : Option NetTime := none
  /-- - · R507 · M · the request that waits for the response, if a host command sent it -/
  req : Option Req := none
  deriving DecidableEq, Repr

/-- One conversion of a readback modulator (R125 to R129). -/
structure Conv where
  /-- w8 · R60 · DC1 · channel 0–143 of the modulator's set -/
  chan : Nat := 0
  /-- w1 · R128 · DC1 · urgent -/
  urgent : Bool := false
  /-- w1 · R128 · DC1 · started with SYNC -/
  sync : Bool := false
  /-- w1 · R130 · M · a confirming conversion of the KV512's own -/
  confirm : Bool := false
  /-- w7 · R125 · DC1 · ticks of the window taken so far -/
  ticks : Nat := 0
  /-- w24 · R125 · DC1 · weighted sum of readback bits -/
  bits : Nat := 0
  /-- w24 · R125 · DC1 · weighted sum of commanded levels, in thirds of P_FS -/
  cmd : Nat := 0
  /-- w1 · R126 · DC1 · START has been sent -/
  started : Bool := false
  /-- w8 · R139 · DC1 · restarts by R129 -/
  restarts : Nat := 0
  /-- tick · R129 · M · frames of earlier ticks carry no START of this window -/
  after : Nat := 0
  /-- tick · R125 · DC1 · apply tick of its START, once an up-frame has shown it -/
  startTick : Nat := 0
  /-- - · R139 · M · the request that waits for the result -/
  req : Option Req := none
  deriving DecidableEq, Repr

/-- One readback modulator (R60, R125 to R128). -/
structure RbMod where
  /-- w8 · R127 · DC1 · channel the routine scan visits next -/
  next : Nat := 0
  /-- w16 · R126 · DC1 · ticks since the modulator became free -/
  idle : Nat := 0
  /-- w16 · R126 · DC1 · ticks since the level event that starts the conversion; none before it -/
  sinceEvent : Option Nat := none
  /-- - · R125 · DC1 · conversion in progress -/
  cur : Option Conv := none
  /-- up to 4 · R128 · DC1 · urgent requests waiting, in arrival order -/
  urgent : List Conv := []
  deriving DecidableEq, Repr

/-- The KV512's side of one bezel link (chapter 2, R505). -/
structure Link where
  /-- w3 · R505 · R505 · 0 RESET, 1 TRAINING, 2 RUN, 3 HOLD, 4 FAILED, 5 TEST -/
  st : Nat := 0
  /-- w4 · R50 · DC1 · tick sequence of the next down-frame -/
  seq : Nat := 0
  /-- w3 · R85 · DC1 · step of training, 1 to 5 -/
  step : Nat := 0
  /-- w2 · R85 · DC1 · attempts started -/
  attempts : Nat := 0
  /-- w2 · R85 · DC1 · attempts of step 4 (3) and step 5 (2) -/
  tries : Nat := 0
  /-- time · R85 · DC1 · elapsed time of the start of the latest training attempt, when BZ_RST_N fell -/
  rstAt : NetTime := 0
  /-- w8 · R85 · DC1 · segments echoed in the image pass under way -/
  echoed : Nat := 0
  /-- w2 · R85 · DC1 · image pass of step 5, 1 or 2 -/
  pass : Nat := 0
  /-- w1 · R85 · DC1 · a MIRROR_MISMATCH fell in the second pass -/
  passBad : Bool := false
  /-- w1 · R691 · M · LINKING only checks this link (warm reset) -/
  checkOnly : Bool := false
  /-- w8 · R85 · DC1 · consecutive valid frames on up-lane 3, to 16 -/
  good3 : Nat := 0
  /-- w8 · R85 · DC1 · consecutive valid frames on up-lane 4, to 16 -/
  good4 : Nat := 0
  /-- w8 · R88 · DC1 · consecutive invalid frames on the active lane -/
  badActive : Nat := 0
  /-- w3 · R505 · DC1 · active up-lane, 3 or 4 -/
  active : Nat := 3
  /-- w1 · R505 · R505 · one up-lane only -/
  oneUp : Bool := false
  /-- w32 · R505 · DC1 · UP_CRC_ERR_3 -/
  crc3 : Nat := 0
  /-- w32 · R505 · DC1 · UP_CRC_ERR_4 -/
  crc4 : Nat := 0
  /-- w32 · R505 · DC1 · UP_LOST -/
  upLost : Nat := 0
  /-- w8 · R89 · DC1 · consecutive lost up-frames -/
  lostRun : Nat := 0
  /-- w32 · R64 · DC1 · latest STATUS word -/
  status : Word := 0
  /-- time · R541 · DC1 · since when STATUS disagrees with a low LIGHT_EN; none while it agrees -/
  disagree : Option NetTime := none
  /-- w16 · R73 · DC1 · IMPLEMENTER_ID from READ_ID -/
  implementer : Nat := 0
  /-- w16 · R73 · DC1 · PART from READ_ID -/
  part : Nat := 0
  /-- w32 · R73 · DC1 · T_APPLY from READ_ID, ps -/
  tApply : Nat := 0
  /-- w32 · R112 · R112 · DRIVE_LEAD_PS of `drive.set_link_lead`; 0 stands for its default, T_APPLY -/
  leadPs : Nat := 0
  /-- 2,048 × w32 · R67 · R68 · mirror image words that differ from R68 -/
  image : Tab Nat := []
  /-- w7 · R70 · DC1 · rotation pointer -/
  rot : Nat := 0
  /-- list · R70 · DC1 · segments to send out of turn -/
  turn : List Nat := []
  /-- list · R70 · DC1 · segments with a change the bezel has not yet echoed -/
  changed : List Nat := []
  /-- w8 · R87 · DC1 · rotation segments echoed in a row, in order of the rotation, without mismatch since the last SHUTTER_MASK change; 128 is a complete refresh -/
  clean : Nat := 0
  /-- tick · R87 · DC1 · tick count at the last SHUTTER_MASK change; frames of earlier ticks show nothing of it -/
  cleanAt : Nat := 0
  /-- up to 4 · R74 · DC1 · outstanding bezel commands -/
  cmds : List CmdWait := []
  /-- w8 · R71 · DC1 · TAG of the next bezel command -/
  tag : Nat := 0
  /-- w1 · R555 · DC1 · HTR_OPEN_ANY or HTR_SHORT_ANY stood in the last checked up-frame -/
  htrAny : Bool := false
  /-- time · R555 · DC1 · elapsed time of the last heater poll -/
  htrPoll : NetTime := 0
  /-- list · R555 · M · READ_REG addresses still to be read for the heater poll under way -/
  poll : List Nat := []
  /-- list · R555 · DC1 · channels named by HTR_OPEN (key) or HTR_SHORT (1,152 + key) -/
  htrKnown : List Nat := []
  /-- - · R112 · M · the newest down-frame built -/
  down : DownFrame := {}
  /-- up to 16 · R63 · M · down-frames built whose up-frame has not been checked, oldest first -/
  sent : List DownFrame := []
  /-- time · R86 · DC1 · elapsed time since the bezel reports HOLD or no valid up-frame; none in order -/
  relockAt : Option NetTime := none
  /-- w1 · R593 · DC1 · the one LANE_TEST of the session has been sent -/
  laneTest : Bool := false
  /-- w72 · R593 · DC1 · DATA of a LANE_TEST that waits for STATUS.SHUTTER_GATE = 0 -/
  laneTestWait : Option Nat := none
  /-- tick · R147 · DC1 · tick count of the latest entry into RUN -/
  runTick : Nat := 0
  /-- 8 modulators · R60 · DC1 · readback modulators -/
  mods : Tab RbMod := []
  /-- w8 · R140 · R126 · DELAY -/
  rbDelay : Nat := 0
  /-- w16 · R140 · R130 · TOL in 0.1 % of P_FS -/
  rbTol : Nat := 30
  /-- w1 · R140 · R140 · SCAN -/
  rbScan : Bool := true
  /-- w32 · R142 · DC1 · RB_CONVERSIONS -/
  cConv : Nat := 0
  /-- w32 · R142 · DC1 · RB_RESTARTED -/
  cRestart : Nat := 0
  /-- w32 · R142 · DC1 · RB_RESTART_LINK -/
  cRestartLink : Nat := 0
  /-- w32 · R142 · DC1 · RB_MISMATCH_FIRST -/
  cMismatch : Nat := 0
  /-- w32 · R142 · DC1 · NS_CLAMP -/
  cClamp : Nat := 0
  /-- w32 · R142 · DC1 · PE_LIMITED -/
  cPe : Nat := 0
  deriving DecidableEq, Repr

/-- One reference output and the sense counters of its link (R161 to R164, R176). -/
structure SenseLink where
  /-- w1 · R161 · R161 · reference output enabled -/
  refOn : Bool := false
  /-- time · R162 · DC1 · elapsed time of its enabling -/
  refAt : NetTime := 0
  /-- w1 · R162 · R162 · ready -/
  refReady : Bool := false
  /-- w32 · R176 · DC1 · OVR_TICKS -/
  ovrTicks : Nat := 0
  /-- w32 · R176 · DC1 · OVR_GROUP_EVENTS -/
  ovrEvents : Nat := 0
  /-- w32 · R176 · DC1 · INVALID_SAMPLES -/
  invalid : Nat := 0
  /-- w32 · R176 · DC1 · DIST_SAMPLES -/
  dist : Nat := 0
  /-- w32 · R176 · DC1 · SETTLE_SAMPLES -/
  settle : Nat := 0
  /-- w32 · R176 · DC1 · REFNR_SAMPLES -/
  refnr : Nat := 0
  /-- tick · R143 · DC1 · apply tick of the newest up-frame checked -/
  tick : Nat := 0
  /-- w96 · R147 · DC1 · network time at which that tick began -/
  start : NetTime := 0
  /-- tick · R155 · DC1 · newest apply tick in which a REFNR cause held -/
  lastRefnr : Option Nat := none
  /-- tick · R150 · DC1 · newest apply tick without a valid up-frame or outside RUN -/
  lastBad : Option Nat := none
  /-- per group · R153 · DC1 · newest overloaded tick of a group -/
  grpLast : Tab Nat := []
  deriving DecidableEq, Repr

/-- The bezel at the far end of a link (R48 to R92). -/
structure Bezel where
  /-- w1 · R82 · DC1 · BZ_RST_N as the bezel sees it -/
  rstN : Bool := false
  /-- time · R83 · DC1 · elapsed time of the last BZ_RST_N edge -/
  rstAt : NetTime := 0
  /-- w1 · R83 · R64 · every supply within its range -/
  supplyOk : Bool := false
  /-- time · R83 · DC1 · elapsed time since which the supplies are in range -/
  supplyAt : NetTime := 0
  /-- w1 · R83 · DC1 · heater drivers may carry power (R83 recovery has passed) -/
  powered : Bool := false
  /-- w1 · R79 · DC1 · LIGHT_EN level at the pin -/
  lightPin : Bool := false
  /-- time · R79 · DC1 · elapsed time of the last LIGHT_EN rise -/
  lightAt : NetTime := 0
  /-- w1 · R79 · R64 · LIGHT_EN qualified high -/
  qualified : Bool := false
  /-- w1 · R79 · DC1 · a low LIGHT_EN has been seen since LATCHED_DARK was set -/
  lowSeen : Bool := false
  /-- w1 · R78 · R64 · LATCHED_DARK -/
  latched : Bool := true
  /-- w1 · R77 · R64 · hold -/
  hold : Bool := false
  /-- w1 · R75 · DC1 · in test after LANE_TEST -/
  test : Bool := false
  /-- w3 · R73 · DC1 · LANE of the LANE_TEST accepted -/
  testLane : Nat := 0
  /-- w3 · R73 · DC1 · pattern of the LANE_TEST accepted: 0 off, 1 to 5 PRBS7 to PRBS31, 6 user -/
  testPat : Nat := 0
  /-- w1 · R73 · DC1 · far loopback of down-lane LANE onto up-lane 3 -/
  testFar : Bool := false
  /-- w40 · R73 · DC1 · user pattern of the LANE_TEST accepted -/
  testUser : Nat := 0
  /-- w31 · R591 · DC1 · register of the pattern generator of the test, or the place in the user pattern; none before its first bit -/
  testGen : Option Nat := none
  /-- w1 · R59 · R59 · DARK of the frame last applied -/
  dark : Bool := true
  /-- w1 · R64 · R64 · RESET_SEEN -/
  resetSeen : Bool := true
  /-- w8 · R85 · DC1 · consecutive valid down-frames -/
  good : Nat := 0
  /-- w1 · R85 · DC1 · down-lanes locked, up-lanes started -/
  locked : Bool := false
  /-- w8 · R77 · DC1 · consecutive lost down-frames -/
  lostRun : Nat := 0
  /-- w4 · R50 · DC1 · SEQ expected next; none before lock -/
  seq : Option Nat := none
  /-- up to 16 × 1,152 levels · R77 · DC1 · levels of the last 16 valid down-frames, newest first -/
  hist : List (Tab Nat) := []
  /-- w4 · R77 · DC1 · position of the cyclic repeat in hold -/
  holdPos : Nat := 0
  /-- 2,048 × w32 · R67 · R68 · held image words that differ from R68 -/
  image : Tab Nat := []
  /-- 1,152 × w1 · R69 · R68 · RANGE bits in effect, channels in HIGH -/
  ranges : List Nat := []
  /-- 8 × w8 · R60 · DC1 · CHAN of each readback modulator -/
  chan : Tab Nat := []
  /-- list · R74 · DC1 · commands received and not yet answered, oldest first -/
  cmds : List BezelCmd := []
  /-- w160 · R72 · DC1 · response slot of the next up-frame -/
  resp : BezelResp := {}
  /-- w4 · R64 · R64 · LOST_DOWN -/
  lostDown : Nat := 0
  /-- w32 · R76 · R82 · LOST_DOWN_TOTAL -/
  lostTotal : Nat := 0
  /-- 3 × w32 · R76 · R82 · CRC_ERR -/
  crcErr : Tab Nat := []
  /-- w32 · R76 · R82 · HOLD_COUNT -/
  holdCount : Nat := 0
  /-- 1,152 × w1 · R76 · DC1 · HTR_OPEN: local channels open-circuit -/
  htrOpen : List Nat := []
  /-- 1,152 × w1 · R76 · DC1 · HTR_SHORT: local channels short-circuit -/
  htrShort : List Nat := []
  /-- w32 · R76 · DC1 · VHTR_MV -/
  vhtr : Nat := 0
  /-- - · R62 · M · the up-frame payload fields of the newest bezel tick -/
  up : UpFrame := {}
  /-- w4 · R63 · DC1 · SEQ that they were sent with -/
  upSeq : Nat := 0
  deriving DecidableEq, Repr

/-- One target-queue entry (R99). -/
structure QEntry where
  /-- w20 · R99 · DC1 · CODE -/
  code : Nat := 0
  /-- w12 · R99 · DC1 · PE_AMP -/
  amp : Nat := 0
  /-- w8 · R99 · DC1 · PE_DUR -/
  dur : Nat := 0
  /-- w1 · R99 · DC1 · TRANSITION -/
  trans : Bool := false
  /-- time · R98 · DC1 · earliest network time at which it may leave -/
  notBefore : NetTime := 0
  deriving DecidableEq, Repr

/-- One drive path (R93). -/
structure Drive where
  /-- 16 entries · R98 · R113 · target queue, oldest first -/
  queue : List QEntry := []
  /-- w20 · R98 · R113 · queue output -/
  out : Nat := 0
  /-- w20 · R94 · R113 · commanded target -/
  cmd : Nat := 0
  /-- w20 · R93 · R113 · drive code (limiter output) -/
  code : Nat := 0
  /-- w20 · R107 · R107 · WIN_LO -/
  winLo : Nat := 0
  /-- w20 · R107 · R107 · WIN_HI -/
  winHi : Nat := 0xFFFFF
  /-- w1 · R108 · R113 · TRANSITION set in force -/
  trans : Bool := false
  /-- w1 · R108 · DC1 · a return to HOLD waits for the code to lie in the window -/
  toHold : Bool := false
  /-- w1 · R106 · R106 · LIMITED -/
  limited : Bool := false
  /-- w8 · R106 · DC1 · update ticks since the last step -/
  rate : Nat := 0
  /-- w8 · R101 · DC1 · pre-emphasis ticks still to run; 0 when none -/
  peLeft : Nat := 0
  /-- w12 · R101 · DC1 · PE_AMP of the entry in pre-emphasis -/
  peAmp : Nat := 0
  /-- w20 · R101 · DC1 · full-overdrive code of the entry in pre-emphasis -/
  peFull : Nat := 0
  /-- w1 · R132 · DC1 · the update tick under way is one of pre-emphasis -/
  peNow : Bool := false
  /-- w1 · R547 · DC1 · FORCE_ZERO of a contained circuit, until sched.restore -/
  fzWithdrawn : Bool := false
  /-- w10 · R559 · DC1 · FORCE_ZERO of scope K on the source's own channel: its event -/
  fzSource : Option Nat := none
  /-- w1 · R515 · DC1 · level pattern 0 to 3 emitted by the DARK phase -/
  pattern : Option Nat := none
  /-- w1 · R115 · R115 · range in force: HIGH -/
  high : Bool := false
  /-- w3 · R116 · DC1 · step of a range change, 0 when none -/
  rcStep : Nat := 0
  /-- w1 · R116 · DC1 · range asked for -/
  rcHigh : Bool := false
  /-- w1 · R116 · DC1 · an update tick at code 0 has passed in step 2 -/
  rcZero : Bool := false
  /-- w20 · R116 · DC1 · code to ramp back to -/
  rcCode : Nat := 0
  /-- w4 · R116 · DC1 · loop regime to return to -/
  rcRegime : Nat := 0
  /-- w20 · R123 · DC1 · code at the start of the plane's ramp -/
  rampA : Nat := 0
  /-- w20 · R123 · DC1 · destination of the plane's ramp -/
  rampB : Nat := 0
  /-- half codes · R109 · R111 · noise shaper error e1 -/
  e1 : Int := 0
  /-- half codes · R109 · R111 · noise shaper error e2 -/
  e2 : Int := 0
  /-- w2 · R109 · R122 · level last emitted -/
  level : Nat := 0
  /-- w20 signed · R198 · DC1 · test signal added to the queue output -/
  inj : Int := 0
  /-- w20 · R204 · DC1 · code that the loop gives this arm; none when the queue output is the target -/
  loopCode : Option Nat := none
  /-- w20 · R188 · DC1 · code at which a soft-start holds this arm, without test signal -/
  softCode : Nat := 0
  /-- w32 · R132 · DC1 · RB_POWER_NW -/
  rbPower : Nat := 0
  /-- w32 · R132 · DC1 · RB_CMD_NW -/
  rbCmd : Nat := 0
  /-- w1 · R130 · DC1 · the last completed conversion mismatched -/
  rbMis : Bool := false
  deriving DecidableEq, Repr

/-- One slew parameter set (R105). -/
structure Slew where
  /-- w20 · R105 · R105 · STEP -/
  step : Nat := 5
  /-- w8 · R105 · R105 · RATE -/
  rate : Nat := 1
  deriving DecidableEq, Repr

/-- Accumulator results of one interval or block (R165, R166). -/
structure Acc where
  /-- w32 · R165 · DC1 · COUNT -/
  count : Nat := 0
  /-- w32 · R165 · DC1 · EXCLUDED -/
  excluded : Nat := 0
  /-- w56 signed · R165 · DC1 · SUM -/
  sum : Int := 0
  /-- w80 · R165 · DC1 · SUMSQ -/
  sumsq : Nat := 0
  /-- w96 · R165 · DC1 · T_START -/
  start : NetTime := 0
  /-- w96 · R166 · DC1 · time of the last sample -/
  fin : NetTime := 0
  deriving DecidableEq, Repr

/-- One min/max tracker (R170). -/
structure Tracker where
  /-- w24 signed · R170 · R170 · MIN -/
  min : Int := 0x7FFFFF
  /-- w24 signed · R170 · R170 · MAX -/
  max : Int := -0x7FFFFF
  /-- w96 · R170 · R170 · T_MIN -/
  tMin : NetTime := 0
  /-- w96 · R170 · R170 · T_MAX -/
  tMax : NetTime := 0
  /-- w32 · R175 · DC1 · SEEN, saturating -/
  seen : Nat := 0
  deriving DecidableEq, Repr

/-- A sample with its tags (R149). -/
structure Sample where
  /-- w24 signed · R149 · R149 · VALUE -/
  value : Int := 0
  /-- w1 · R149 · R149 · VALID -/
  valid : Bool := false
  /-- w1 · R149 · R149 · OVR -/
  ovr : Bool := false
  /-- w1 · R149 · R149 · DIST -/
  dist : Bool := false
  /-- w1 · R149 · R149 · SETTLE -/
  settle : Bool := false
  /-- w1 · R149 · R149 · REFNR -/
  refnr : Bool := false
  /-- w96 · R148 · DC1 · time of its boundary -/
  time : NetTime := 0
  /-- w1 · R143 · M · no sample: the boundary fell while MON_EN was 0 -/
  absent : Bool := false
  /-- w1 · R169 · M · a read or configuration has already taken it into accumulator and tracker -/
  counted : Bool := false
  /-- w2 · R145 · M · filter that made it -/
  filter : Nat := 0
  deriving DecidableEq, Repr

/-- One monitor channel (chapter 4). -/
structure Mon where
  /-- w1 · R143 · R68 · MON_EN -/
  en : Bool := false
  /-- w2 · R156 · R156 · setting: 0 FAST, 1 MID, 2 FINE, 3 AUTO -/
  setting : Nat := 3
  /-- w2 · R156 · R157 · filter in force: 0 FAST, 1 MID, 2 FINE -/
  filter : Nat := 1
  /-- time · R156 · DC1 · when the newest change of the setting was requested -/
  askAt : NetTime := 0
  /-- w1 · R154 · R68 · MON_EN in effect at the bezel, by the segment it has echoed -/
  live : Bool := false
  /-- w1 · R154 · DC1 · a change of the trims whose echo is awaited -/
  trimPend : Bool := false
  /-- list · R158 · DC1 · accepted launches that hold this monitor in FAST -/
  taken : List Nat := []
  /-- 5 integers · R146 · DC1 · running sums of the decimation filter -/
  integ : List Int := []
  /-- 5 integers · R146 · DC1 · differences of the decimation filter -/
  comb : List Int := []
  /-- tick · R150 · DC1 · tick since which MON_EN is in effect -/
  since : Nat := 0
  /-- list · R148 · DC1 · samples latched at their boundaries and not yet delivered, oldest first -/
  ready : List Sample := []
  /-- w24 · R154 · DC1 · samples still to be tagged SETTLE -/
  settleLeft : Nat := 0
  /-- tick · R151 · DC1 · newest tick in which this channel overloaded -/
  lastOvr : Option Nat := none
  /-- tick · R152 · DC1 · newest overloaded tick of its group that disturbs this channel -/
  lastDist : Option Nat := none
  /-- w2 · R166 · DC1 · accumulator mode: 0 OFF, 1 FREE, 2 BLOCK -/
  mode : Nat := 0
  /-- w4 · R167 · R167 · EXCL -/
  excl : Nat := 0xF
  /-- w2 · R173 · DC1 · FLAGS: bit 0 LOUPE, bit 1 EVENT -/
  flags : Nat := 0
  /-- w25 · R166 · DC1 · BLOCK_N -/
  blockN : Nat := 4
  /-- - · R165 · DC1 · accumulator -/
  acc : Acc := {}
  /-- - · R166 · DC1 · latest completed block -/
  block : Option Acc := none
  /-- w16 · R174 · DC1 · BLOCKS -/
  blocks : Nat := 0
  /-- w1 · R168 · DC1 · SAT -/
  sat : Bool := false
  /-- - · R170 · R170 · tracker -/
  trk : Tracker := {}
  /-- w5 · R244 · DC1 · consecutive admitted samples out of band -/
  outRun : Nat := 0
  deriving DecidableEq, Repr

/-- A coefficient bank (R193). -/
structure Bank where
  /-- w16 · R193 · R207 · TABLE -/
  table : Nat := 0
  /-- w16 · R193 · R207 · KSCALE, Q4.12 -/
  kscale : Nat := 0x1000
  /-- w16 · R193 · R207 · KT, Q2.14 -/
  kt : Nat := 0x4000
  /-- w16 · R193 · R207 · RAMP -/
  ramp : Nat := 0
  deriving DecidableEq, Repr

/-- One component of a test-signal generator (R196, R216). -/
structure Comp where
  /-- w8 · R216 · DC1 · 0 off, 1 SINE, 2 SQUARE, 3 PRBS -/
  wave : Nat := 0
  /-- w8 · R196 · DC1 · PRBS length 7, 9 or 15 -/
  poly : Nat := 0
  /-- w8 · R196 · DC1 · CHIP -/
  chip : Nat := 0
  /-- w19 · R196 · DC1 · AMP -/
  amp : Nat := 0
  /-- w32 · R196 · DC1 · INC -/
  inc : Nat := 0
  /-- w32 · R196 · DC1 · PHASE0 -/
  phase0 : Nat := 0
  deriving DecidableEq, Repr

/-- A test-signal generator (R196 to R198). -/
structure Gen where
  /-- - · R196 · DC1 · component 0 -/
  c0 : Comp := {}
  /-- - · R196 · DC1 · component 1 -/
  c1 : Comp := {}
  /-- w32 · R197 · DC1 · phase of component 0 -/
  ph0 : Nat := 0
  /-- w32 · R197 · DC1 · phase of component 1 -/
  ph1 : Nat := 0
  /-- w15 · R197 · DC1 · PRBS shift register at the start (a free value) -/
  seed : Nat := 1
  /-- w96 · R201 · DC1 · time of the newest update tick it has run -/
  at' : NetTime := 0
  /-- w1 · R216 · DC1 · running -/
  on : Bool := false
  /-- w32 · R201 · DC1 · update ticks since the start -/
  ticks : Nat := 0
  deriving DecidableEq, Repr

/-- A response capture and its result (R200 to R202, R218). -/
structure Capture where
  /-- w1 · R202 · DC1 · running -/
  running : Bool := false
  /-- w1 · R217 · DC1 · component 0 or 1 -/
  comp : Nat := 0
  /-- w32 · R217 · DC1 · LENGTH -/
  length : Nat := 0
  /-- w16 · R217 · DC1 · LAG -/
  lag : Nat := 0
  /-- w96 · R217 · DC1 · START; 0 means the next sample -/
  start : NetTime := 0
  /-- w64 signed · R201 · DC1 · C -/
  c : Int := 0
  /-- w64 signed · R201 · DC1 · S -/
  s : Int := 0
  /-- w32 · R201 · DC1 · N -/
  n : Nat := 0
  /-- w32 · R200 · DC1 · MISSED -/
  missed : Nat := 0
  /-- w4 · R218 · DC1 · DONE, INCOMPLETE, CLIPPED, LIMITED -/
  flags : Nat := 0
  /-- w19 · R201 · DC1 · AMP and WAVE of the component captured -/
  amp : Nat := 0
  /-- w8 · R201 · DC1 · WAVE of the component captured -/
  wave : Nat := 0
  /-- w96 · R218 · DC1 · T_START -/
  tStart : NetTime := 0
  /-- w96 · R218 · DC1 · T_END -/
  tEnd : NetTime := 0
  /-- list · R218 · DC1 · update ticks not yet reached by a sample that clipped (4) or were limited (8) -/
  marks : List (NetTime × Nat) := []
  deriving DecidableEq, Repr

/-- A change of regime that waits for the next sample (R182, R209). -/
structure Pend where
  /-- w8 · R209 · DC1 · REGIME -/
  regime : Nat := 0
  /-- w1 · R209 · DC1 · PAIRED_TICK -/
  tick : Nat := 0
  /-- w2 · R209 · DC1 · INJ_BASE -/
  base : Nat := 0
  /-- w2 · R209 · DC1 · INJ_FILTER -/
  filter : Nat := 0
  deriving DecidableEq, Repr

/-- What one update changes, kept so that an update past its deadline can be discarded (R205). -/
structure LoopVars where
  /-- w24 signed · R185 · DC1 · SP -/
  sp : Int := 0
  /-- w64 signed · R185 · DC1 · INTEG -/
  integ : Int := 0
  /-- w32 signed · R185 · DC1 · OUTPUT -/
  output : Int := 0
  /-- w1 · R186 · DC1 · SATURATED -/
  saturated : Bool := false
  /-- w1 · R189 · DC1 · LIMITED -/
  limited : Bool := false
  /-- w1 · R188 · DC1 · WAITING -/
  waiting : Bool := false
  /-- w32 signed · R207 · DC1 · E_BLK4 -/
  eBlk : Int := 0
  /-- - · R207 · DC1 · errors of the block in progress -/
  eAcc : List Int := []
  /-- w16 · R190 · DC1 · MISS_RUN -/
  missRun : Nat := 0
  /-- w1 · R191 · DC1 · STARVED -/
  starved : Bool := false
  /-- w1 · R192 · DC1 · MEAS_OVR -/
  measOvr : Bool := false
  /-- w96 · R252 · DC1 · time of the newest admitted sample with OVR -/
  ovrAt : NetTime := 0
  /-- w1 · R194 · DC1 · active bank -/
  bank : Nat := 0
  /-- - · R194 · DC1 · pending swap -/
  swap : Option (Nat × NetTime × Nat) := none
  /-- w32 · R252 · DC1 · admitted updates since the cell settled -/
  updates : Nat := 0
  /-- time · R204 · DC1 · deadline of the update -/
  due : NetTime := 0
  /-- w1 · R194 · M · the update made the pending swap -/
  swapped : Bool := false
  /-- - · R200 · DC1 · capture before the sample -/
  cap : Capture := {}
  /-- w1 · R219 · M · UPDATES has not been cleared since -/
  counted : Bool := true
  deriving DecidableEq, Repr

/-- The contexts of one `loop.swap_bank` (R195). -/
structure SwapGrp where
  /-- w16 · R195 · DC1 · contexts that have still to swap -/
  left : Nat := 0
  /-- w16 · R195 · DC1 · contexts it named -/
  n : Nat := 0
  deriving DecidableEq, Repr

/-- One loop context (R207). -/
structure Ctx where
  /-- w8 · R207 · R207 · REGIME: 0 OPEN, 1 SETTLE, 2 HOLD, 3 PAIRED, 4 INJECT -/
  regime : Nat := 0
  /-- - · R182 · DC1 · regime that takes effect at the next sample -/
  pending : Option Pend := none
  /-- w1 · R207 · DC1 · PAIRED_TICK -/
  pairedTick : Nat := 0
  /-- w1 · R207 · R207 · CORR_ARM: B -/
  corrB : Bool := false
  /-- w1 · R207 · R207 · SIGN: negative -/
  neg : Bool := false
  /-- w1 · R207 · DC1 · ACTIVE_BANK -/
  bank : Nat := 0
  /-- - · R194 · DC1 · pending swap: bank, AT, group of the command -/
  swap : Option (Nat × NetTime × Nat) := none
  /-- w2 · R207 · DC1 · INJ_BASE -/
  injBase : Nat := 0
  /-- w2 · R207 · DC1 · INJ_FILTER -/
  injFilter : Nat := 0
  /-- w1 · R188 · DC1 · WAITING -/
  waiting : Bool := false
  /-- w1 · R189 · DC1 · LIMITED -/
  limited : Bool := false
  /-- w1 · R186 · DC1 · SATURATED -/
  saturated : Bool := false
  /-- w1 · R192 · DC1 · MEAS_OVR -/
  measOvr : Bool := false
  /-- w1 · R191 · DC1 · STARVED -/
  starved : Bool := false
  /-- w1 · R198 · DC1 · INJ_CLIPPED -/
  clipped : Bool := false
  /-- w16 · R191 · R207 · MISS_LIMIT -/
  missLimit : Nat := 16
  /-- w24 signed · R207 · R207 · TARGET -/
  target : Int := 0
  /-- w24 signed · R207 · R207 · SP -/
  sp : Int := 0
  /-- w32 signed · R186 · R207 · OUT_LO; none stands for the default of the regime -/
  outLo : Option Int := none
  /-- w32 signed · R186 · R207 · OUT_HI; none stands for the default of the regime -/
  outHi : Option Int := none
  /-- w20 · R207 · R207 · SUM -/
  sum : Nat := 0
  /-- w32 signed · R207 · R207 · E_BLK4 -/
  eBlk : Int := 0
  /-- - · R207 · DC1 · errors of the block in progress -/
  eAcc : List Int := []
  /-- w64 signed · R207 · R207 · INTEG, codes × 2^20 -/
  integ : Int := 0
  /-- w32 signed · R207 · R207 · OUTPUT -/
  output : Int := 0
  /-- list · R204 · DC1 · outputs that wait for their update tick, with its time, oldest first -/
  outs : List (Int × NetTime) := []
  /-- w32 signed · R204 · DC1 · output in force in the drive path; none until the first -/
  force : Option Int := none
  /-- - · R205 · DC1 · what the newest update replaced -/
  undo : Option LoopVars := none
  /-- w16 · R207 · DC1 · MISS_RUN -/
  missRun : Nat := 0
  /-- - · R193 · R207 · bank 0 -/
  b0 : Bank := {}
  /-- - · R193 · R207 · bank 1 -/
  b1 : Bank := {}
  /-- list · R184 · DC1 · launches that own the context -/
  launches : List Nat := []
  /-- w1 · R239 · DC1 · held by a launch until its pre-emphasis ends, at this time -/
  holdUntil : Option NetTime := none
  /-- w1 · R184 · DC1 · owned by a calibration lease -/
  cal : Bool := false
  /-- - · R196 · DC1 · test-signal generator -/
  gen : Gen := {}
  /-- list · R216 · DC1 · generator configurations waiting for their START, earliest first -/
  genNext : List (Comp × Comp × NetTime) := []
  /-- - · R200 · DC1 · capture and its latest result -/
  cap : Capture := {}
  /-- w96 · R252 · DC1 · time of the newest admitted sample with OVR -/
  ovrAt : NetTime := 0
  /-- w32 · R252 · DC1 · admitted updates since the cell settled -/
  updates : Nat := 0
  /-- w1 · R252 · M · it was in OPEN or INJECT at some moment of the showing -/
  showBroken : Bool := false
  /-- w16 · R602 · DC1 · updates since the last LOOP_TRACE record -/
  trace : Nat := 0
  deriving DecidableEq, Repr

/-- Counters of a loop engine (R219). -/
structure Engine where
  /-- w32 · R219 · DC1 · UPDATES -/
  updates : Nat := 0
  /-- w32 · R219 · DC1 · MISSED -/
  missed : Nat := 0
  /-- w32 · R219 · DC1 · PACE_OVERRUN -/
  overrun : Nat := 0
  /-- w32 · R219 · DC1 · STARVED -/
  starved : Nat := 0
  /-- w32 · R219 · DC1 · SWAPS -/
  swaps : Nat := 0
  /-- w16 · R219 · DC1 · MAX_UPDATE_NS -/
  maxNs : Nat := 0
  deriving DecidableEq, Repr

end Sys2Proof.Machine
end

