-- ==== Sys2Proof/Machine/TypesPlane.lean ====
section
/-! DEFINITION. The records that State is made of, second part: the plane map, facets and launches,
regimes, chains, the demand store, the slot grid and the matcher. Comments as in Types.lean. -/

namespace Sys2Proof.Machine

/-- A plane descriptor (R38). -/
structure PlaneDesc where
  /-- w16 · R38 · DC1 · PORTS -/
  ports : Nat := 0
  /-- w8 · R38 · DC1 · RANGE: HIGH -/
  high : Bool := false
  /-- w8 · R38 · DC1 · AUX_COUNT -/
  aux : Nat := 0
  /-- w32 · R38 · DC1 · TAU_NS -/
  tauNs : Nat := 0
  /-- w32 · R38 · DC1 · P_PI_UW -/
  pPiUw : Nat := 0
  /-- w16 · R38 · DC1 · K_MIN_X100 -/
  kMin : Nat := 0
  /-- w16 · R38 · DC1 · EXT_DB_X10 -/
  extDb : Nat := 0
  /-- w32 · R38 · DC1 · SHUTTER_OFF_NS -/
  offNs : Nat := 0
  /-- w16 · R38 · DC1 · T_SET_CC as its 16-bit field -/
  tSet : Nat := 0
  deriving DecidableEq, Repr

/-- A plane map (R37); the entries of a standard geometry follow R32 or R33 and are not listed. -/
structure PlaneMap where
  /-- w8 · R37 · DC1 · GEOMETRY -/
  geometry : Nat := 4
  /-- w32 · R37 · DC1 · MAP_GENERATION -/
  gen : Nat := 0
  /-- 24 bytes · R38 · DC1 · PLANE_DESC[0] -/
  d0 : PlaneDesc := {}
  /-- 24 bytes · R38 · DC1 · PLANE_DESC[1] -/
  d1 : PlaneDesc := {}
  /-- 9,216 × w32 · R35 · R35 · element entries of a custom map -/
  elem : Tab Nat := []
  /-- 5,120 × w32 · R36 · R36 · monitor entries of a custom map -/
  mon : Tab Nat := []
  deriving DecidableEq, Repr

/-- A library entry (R233). -/
structure Entry where
  /-- w20 · R233 · R233 · TARGET_CODE -/
  code : Nat := 0
  /-- w12 · R233 · R233 · PE_AMP -/
  amp : Nat := 0
  /-- w8 · R233 · R233 · PE_DUR -/
  dur : Nat := 0
  /-- w16 signed · R233 · R233 · EXPECT -/
  expect : Int := 0
  /-- w1 · R233 · R233 · LIT -/
  lit : Bool := false
  /-- w1 · R233 · R233 · STATE -/
  state : Bool := false
  /-- w1 · R233 · R233 · LEARNED -/
  learned : Bool := false
  /-- w1 · R233 · R233 · FROZEN -/
  frozen : Bool := false
  /-- w1 · R233 · R233 · HOST -/
  host : Bool := false
  deriving DecidableEq, Repr

/-- What a facet holds (R220): permutation record, cells in CROSS, library entries. -/
structure Facet where
  /-- PORTS × w16 · R221 · DC1 · permutation record -/
  perm : List Nat := []
  /-- cell-state vector · R223 · DC1 · ascending bit numbers of the cells in CROSS -/
  cross : List Nat := []
  /-- entries · R232 · DC1 · library entries by element channel -/
  entries : Tab Entry := []
  deriving DecidableEq, Repr

/-- A library slot (R231, R255). -/
structure Slot where
  /-- w1 · R255 · DC1 · VALID -/
  valid : Bool := false
  /-- - · R220 · DC1 · its facet -/
  facet : Facet := {}
  /-- w64 · R234 · DC1 · SIGNATURE -/
  sig : Nat := 0
  /-- w1 · R255 · DC1 · PINNED -/
  pinned : Bool := false
  /-- w1 · R255 · DC1 · LEARN_OFF -/
  learnOff : Bool := false
  /-- w1 · R255 · DC1 · HOST_EDITED -/
  edited : Bool := false
  /-- w1 · R228 · DC1 · COMP_CLAMPED -/
  clamped : Bool := false
  /-- w32 · R236 · DC1 · MAP_GENERATION -/
  mapGen : Nat := 0
  /-- w32 · R236 · DC1 · CAL_GENERATION -/
  calGen : Nat := 0
  /-- w32 · R255 · DC1 · SHOWINGS -/
  showings : Nat := 0
  /-- w32 · R255 · DC1 · FOLDS -/
  folds : Nat := 0
  /-- w96 · R255 · DC1 · LAST_SHOWN -/
  shown : NetTime := 0
  deriving DecidableEq, Repr

/-- The run of one changing or retuned cell of a launch (R239 to R241). -/
structure CellRun where
  /-- w1 · R238 · DC1 · changing (else retuned) -/
  changing : Bool := false
  /-- time · R239 · DC1 · E, the end of its pre-emphasis -/
  e : NetTime := 0
  /-- w1 · R240 · DC1 · carries a lit circuit: settle detection runs -/
  lit : Bool := false
  /-- w1 · R240 · DC1 · the latest admitted sample was within tolerance -/
  okOnce : Bool := false
  /-- time · R240 · DC1 · settle time -/
  settled : Option NetTime := none
  /-- w1 · R241 · DC1 · timed out -/
  timedOut : Bool := false
  deriving DecidableEq, Repr

/-- A checked circuit of a launch (R238, R242), keyed by its input port. -/
structure Check where
  /-- w16 · R242 · DC1 · output port -/
  out : Nat := 0
  /-- list · R242 · DC1 · changing and retuned cells on its path -/
  cells : List Nat := []
  /-- time · R242 · DC1 · E of its shutter -/
  shutterE : NetTime := 0
  /-- list · R242 · DC1 · admitted verification samples in band -/
  samples : List Int := []
  /-- w1 · R242 · DC1 · verified -/
  verified : Bool := false
  /-- w1 · R243 · DC1 · suspect -/
  suspect : Bool := false
  deriving DecidableEq, Repr

/-- A launch: staged copy, run and report (R237 to R247, R259). -/
structure Launch where
  /-- w32 · R257 · DC1 · LAUNCH_ID -/
  id : Nat := 0
  /-- w16 · R259 · DC1 · slot launched -/
  slot : Nat := 0
  /-- w96 · R237 · DC1 · launch time L -/
  at' : NetTime := 0
  /-- - · R247 · DC1 · staged copy -/
  facet : Facet := {}
  /-- w1 · R259 · DC1 · HIT -/
  hit : Bool := false
  /-- w1 · R237 · DC1 · ROUNDED -/
  rounded : Bool := false
  /-- w1 · R246 · DC1 · GUARANTEE_VOID -/
  void : Bool := false
  /-- w1 · R259 · DC1 · CANCELLED -/
  cancelled : Bool := false
  /-- w1 · R246 · DC1 · ENDED_BY_NEXT -/
  ended : Bool := false
  /-- w1 · R245 · DC1 · HOLD_RETURN -/
  holdReturn : Bool := false
  /-- w1 · R158 · DC1 · FILTER_RESET -/
  filterReset : Bool := false
  /-- w1 · R245 · DC1 · DONE -/
  done : Bool := false
  /-- w1 · R239 · M · begun -/
  begun : Bool := false
  /-- per cell · R238 · DC1 · changing and retuned cells by cell number -/
  cells : Tab CellRun := []
  /-- per circuit · R238 · DC1 · checked circuits by input port -/
  checks : Tab Check := []
  /-- list · R259 · DC1 · elements whose pre-emphasis was ignored or cut; PE_LIMITED is their number -/
  peLimited : List Nat := []
  /-- w32 · R259 · DC1 · MAX_SETTLE_NS -/
  maxSettle : Nat := 0
  /-- w32 · R259 · DC1 · DONE_NS -/
  doneNs : Nat := 0
  /-- - · R291 · M · slot number of the pipeline that made it, for a DEMAND or CHAIN_FILL launch -/
  pipe : Option Nat := none
  /-- list · R158 · DC1 · monitors that the launch takes -/
  fast : List Nat := []
  /-- time · R158 · DC1 · when it was accepted -/
  acceptAt : NetTime := 0
  deriving DecidableEq, Repr

/-- A launch that waits for its facet to be built (R235, FACET_BUILD_DONE). -/
structure Build where
  /-- PORTS × w16 · R235 · DC1 · permutation record being built -/
  perm : List Nat := []
  /-- w96 · R291 · DC1 · launch time -/
  at' : NetTime := 0
  /-- w64 · R445 · DC1 · slot number of the record -/
  pipe : Nat := 0
  deriving DecidableEq, Repr

/-- Launch and learning parameters of a plane (R260). -/
structure FacetCfg where
  /-- w8 · R260 · R260 · HOLD_REGIME -/
  holdRegime : Nat := 2
  /-- w8 · R260 · R242 · VERIFY_N -/
  verifyN : Nat := 2
  /-- w9 · R260 · R253 · LAMBDA -/
  lambda : Nat := 64
  /-- w8 · R260 · R252 · LEARN_MIN -/
  learnMin : Nat := 4
  /-- w16 · R260 · R238 · RETUNE_MIN -/
  retuneMin : Nat := 64
  /-- w16 · R260 · R242 · VERIFY_LO -/
  verifyLo : Nat := 10
  /-- w16 · R260 · R242 · VERIFY_HI -/
  verifyHi : Nat := 10
  /-- w32 · R260 · R242 · LIGHT_MIN -/
  lightMin : Nat := 104858
  /-- w32 · R260 · R244 · DARK_MAX -/
  darkMax : Nat := 41943
  /-- w32 · R260 · R241 · SETTLE_TIMEOUT_US -/
  settleUs : Nat := 20
  /-- w32 · R260 · R242 · VERIFY_TIMEOUT_US -/
  verifyUs : Nat := 30
  /-- w32 · R260 · R245 · HOLD_MIN_US -/
  holdMinUs : Nat := 300
  /-- w32 · R260 · R251 · RECONFIG_ALLOW_NS; 0 stands for the default of R251 -/
  allowNs : Nat := 0
  deriving DecidableEq, Repr

/-- A ramp of a plane (R123). -/
structure Ramp where
  /-- time · R123 · DC1 · start, on an update-tick boundary -/
  start : NetTime := 0
  /-- w32 · R123 · DC1 · tick N at which it ends -/
  ticks : Nat := 1
  /-- w32 · R123 · DC1 · ticks taken -/
  done : Nat := 0
  /-- w8 · R138 · DC1 · destination: 0 zero, 1 park -/
  dest : Nat := 0
  /-- w1 · R124 · DC1 · a shutdown ramp: every channel under the HOLD set -/
  shutdown : Bool := false
  /-- w1 · R683 · M · started by PARKING, not by a command -/
  parking : Bool := false
  deriving DecidableEq, Repr

/-- A regime change that waits for its boundary (R266). -/
structure RegimeAt where
  /-- w8 · R264 · DC1 · regime entered -/
  regime : Nat := 0
  /-- w96 · R266 · DC1 · when it takes effect -/
  at' : NetTime := 0
  deriving DecidableEq, Repr

/-- One plane of the device (chapters 1, 3, 6, 7, 17). -/
structure Plane where
  /-- w3 · R264 · R264 · regime -/
  regime : Nat := 0
  /-- - · R266 · DC1 · a change that waits for its boundary -/
  regimeAt : Option RegimeAt := none
  /-- w8 · R96 · R96 · update tick in us -/
  tickUs : Nat := 1
  /-- time · R96 · M · boundary of the newest update tick taken; none before the first -/
  tickAt : Option NetTime := none
  /-- 9,216 × w20 · R136 · DC1 · park codes in force: those of the newest ramp to park -/
  park : Tab Nat := []
  /-- - · R123 · DC1 · ramp in progress -/
  ramp : Option Ramp := none
  /-- w1 · R138 · DC1 · parked -/
  parked : Bool := false
  /-- - · R220 · DC1 · facet in force; none while no facet has been launched since IDLE -/
  force : Option Facet := none
  /-- w16 · R255 · DC1 · slot of the facet in force -/
  forceSlot : Nat := 0xFFFF
  /-- - · R239 · DC1 · the launch that has begun and is not complete -/
  cur : Option Launch := none
  /-- up to 32 · R237 · R692 · accepted launches not yet begun, ascending L -/
  accepted : List Launch := []
  /-- up to 64 · R259 · DC1 · latest reports, newest first -/
  reports : List Launch := []
  /-- list · R235 · DC1 · facets being built for slots of the pipeline -/
  builds : List Build := []
  /-- - · R260 · R260 · launch and learning parameters -/
  cfg : FacetCfg := {}
  /-- - · R252 · DC1 · the showing: launch time, slot, cells settled in it -/
  showing : Option (NetTime × Nat × List Nat) := none
  /-- list · R252 · DC1 · readings taken for folding: (cell, INTEG, paired) -/
  learn : List (Nat × Int × Bool) := []
  /-- list · R252 · DC1 · circuits that have become suspect in the showing -/
  showSuspect : List (Nat × Nat) := []
  /-- list · R252 · M · verified circuits of the showing read: input port, sum and number of its verification samples -/
  learnOut : List (Nat × Int × Nat) := []
  /-- w16 · R252 · M · slot the readings belong to -/
  learnSlot : Nat := 0xFFFF
  /-- w32 each · R263 · DC1 · HITS, MISSES, EVICTIONS, LAUNCHES, SUSPECTS, FOLDS -/
  counters : Tab Nat := []
  /-- w1 · R548 · R692 · every shutter is under FORCE_ZERO by S3, S4 or a warm reset -/
  fzDark : Bool := false
  /-- list · R547 · R692 · pairs whose shutter stays under FORCE_ZERO until sched.restore -/
  dark : List (Nat × Nat) := []
  /-- list · R244 · DC1 · per output port, time of the latest admitted sample above DARK_MAX -/
  lit : Tab NetTime := []
  /-- w1 · R687 · DC1 · held by R687 (warm time-out) until its regulator is SETTLED -/
  warmHeld : Bool := false
  /-- time · R687 · DC1 · elapsed time at which PARKING ended -/
  warmAt : NetTime := 0
  /-- w1 · R687 · M · it meets a condition of R687 by elapsed time -/
  warmed : Bool := false
  deriving DecidableEq, Repr

/-- A loaded chain (R272). -/
structure Chain where
  /-- w8 · R298 · DC1 · DPLANE -/
  dplane : Nat := 0
  /-- w8 · R298 · DC1 · MODE: CHAIN_FILL -/
  fill : Bool := false
  /-- w8 · R298 · DC1 · END: IDLE -/
  endIdle : Bool := false
  /-- w16 · R298 · DC1 · REPEAT -/
  rep : Nat := 0
  /-- w64 · R301 · DC1 · ADDR as loaded -/
  addr : Nat := 0
  /-- 1 to 4,096 steps · R272 · DC1 · (slot, dwell in ns) -/
  steps : List (Nat × Nat) := []
  /-- per step · R274 · DC1 · permutation records read from the worker for CHAIN_FILL -/
  perms : List (List Nat) := []
  deriving DecidableEq, Repr

/-- A running or pending chain of a plane (R275 to R279, R302). -/
structure ChainRun where
  /-- w8 · R302 · DC1 · chain number -/
  chain : Nat := 0xFF
  /-- w96 · R277 · DC1 · S -/
  start : NetTime := 0
  /-- w16 · R277 · DC1 · m, periods rolled -/
  rolled : Nat := 0
  /-- - · R275 · DC1 · period and step to stage next -/
  nextPeriod : Nat := 0
  /-- w16 · R275 · DC1 · step to stage next -/
  nextStep : Nat := 0
  /-- w96 · R279 · DC1 · boundary at which it stops -/
  stopAt : Option NetTime := none
  deriving DecidableEq, Repr

/-- A plane's chain state (R302), keyed by DPLANE. -/
structure ChainPlane where
  /-- - · R302 · DC1 · running chain -/
  run : Option ChainRun := none
  /-- - · R278 · DC1 · start that is pending -/
  pend : Option ChainRun := none
  /-- w1 · R277 · DC1 · LATE -/
  late : Bool := false
  /-- w32 · R302 · DC1 · SKIPPED -/
  skipped : Nat := 0
  deriving DecidableEq, Repr

/-- A demand context (R280). -/
structure Demand where
  /-- w40 · R280 · R280 · DEPTH -/
  depth : Nat := 0
  /-- w16 · R280 · R280 · AGE -/
  age : Nat := 0
  /-- w8 · R280 · R280 · WEIGHT -/
  weight : Nat := 16
  /-- w32 · R280 · R280 · GRANTED -/
  granted : Nat := 0
  /-- w16 · R280 · R280 · GRANT_SLOT -/
  grantSlot : Nat := 0
  /-- w1 · R280 · R280 · VALID -/
  valid : Bool := false
  /-- w1 · R280 · R280 · HELD -/
  held : Bool := false
  /-- w8 · R280 · R280 · GRANTS -/
  grants : Nat := 0
  deriving DecidableEq, Repr

/-- Class parameters (R285). -/
structure ClassCfg where
  /-- w8 · R285 · R285 · TIER -/
  tier : Nat := 0
  /-- w8 · R285 · R285 · CLASS_WEIGHT -/
  weight : Nat := 16
  /-- w8 · R285 · R285 · AGE_GAIN -/
  ageGain : Nat := 4
  /-- w16 · R285 · R285 · MIN_REQ -/
  minReq : Nat := 64
  deriving DecidableEq, Repr

/-- A matched circuit of a slot (R287, R288). -/
structure Matched where
  /-- w16 · R287 · DC1 · input port -/
  inp : Nat := 0
  /-- w16 · R287 · DC1 · output port -/
  out : Nat := 0
  /-- w8 · R330 · DC1 · source: 0 matched, 1 pinned, 2 chain -/
  source : Nat := 0
  /-- w40 · R287 · DC1 · budget B in bytes -/
  budget : Nat := 0
  /-- per class · R288 · DC1 · parts g_c that reduced the contexts -/
  parts : Tab Nat := []
  deriving DecidableEq, Repr

/-- The pipeline record of one DPLANE in one slot (R291, R292). -/
structure PipePlane where
  /-- w8 · R291 · DC1 · DPLANE -/
  dplane : Nat := 0
  /-- PORTS × w16 · R291 · DC1 · permutation record sent -/
  perm : List Nat := []
  /-- list · R291 · DC1 · circuits of the slot -/
  circuits : List Matched := []
  /-- w2 · R291 · DC1 · 0 awaiting, 1 accepted, 2 refused or late -/
  status : Nat := 0
  /-- w1 · R329 · DC1 · its grants have left -/
  granted : Bool := false
  deriving DecidableEq, Repr

/-- The pipeline of one slot (R291). -/
structure Pipe where
  /-- w64 · R291 · DC1 · slot number it lights -/
  slot : Nat := 0
  /-- w1 · R291 · DC1 · the GRANT messages have left -/
  sent : Bool := false
  /-- list · R291 · DC1 · planes of the matching -/
  planes : List PipePlane := []
  /-- list · R333 · DC1 · transmit entries not yet acknowledged: (source, destination, DPLANE) -/
  unacked : List (Nat × Nat × Nat) := []
  /-- w96 · R291 · DC1 · L, the start of the slot -/
  at' : NetTime := 0
  /-- w32 · R328 · DC1 · SLOT_NS of the slot -/
  slotNs : Nat := 0
  deriving DecidableEq, Repr

/-- A DPLANE as the manager sees it (R265, R268, R286). -/
structure DPlane where
  /-- w3 · R264 · R264 · regime -/
  regime : Nat := 0
  /-- - · R266 · DC1 · a change that waits for its boundary -/
  regimeAt : Option RegimeAt := none
  /-- up to PORTS · R268 · R692 · pins: (IN, OUT, WITHDRAWN) -/
  pins : List (Nat × Nat × Bool) := []
  /-- up to 1,024 · R271 · R692 · withdrawn pairs -/
  withdrawn : List (Nat × Nat) := []
  /-- w9 each · R287 · R287 · gptr -/
  gptr : Tab Nat := []
  /-- w9 each · R287 · R287 · aptr -/
  aptr : Tab Nat := []
  /-- w16 each · R286 · R286 · IN_EP entries that differ from the default, plus 1 -/
  inEp : Tab Nat := []
  /-- w16 each · R286 · R286 · OUT_EP entries that differ from the default, plus 1 -/
  outEp : Tab Nat := []
  /-- w1 · R455 · DC1 · out of matching: its worker is lost -/
  lost : Bool := false
  /-- w8 · R97 · M · update tick in us that a tunnelled drive.set_tick has set on the worker; 0 for none (log entry 60, DESIGN CHOICE) -/
  tickUs : Nat := 0
  /-- w32 · R251 · M · RECONFIG_ALLOW that a tunnelled facet.config has set on the worker; 0 for the default (log entry 60, DESIGN CHOICE) -/
  allow : Nat := 0
  /-- w32 · R444 · M · admissions of its worker: what the manager does not know of the plane may be another thing from then on (log entry
  60, DESIGN CHOICE) -/
  joins : Nat := 0
  /-- w32 · R251 · M · moves of the worker's default RECONFIG_ALLOW (log entry 60, DESIGN CHOICE) -/
  moves : Nat := 0
  deriving DecidableEq, Repr

/-- The scheduler of the manager (R283 to R297). -/
structure Sched where
  /-- w32 · R283 · DC1 · SLOT_NS -/
  slotNs : Nat := 10000
  /-- w96 · R283 · DC1 · EPOCH -/
  epoch : NetTime := 0
  /-- w32 · R283 · R283 · CUTOFF_NS -/
  cutoffNs : Nat := 1000
  /-- w32 · R292 · R292 · GRANT_MARGIN_NS -/
  marginNs : Nat := 2000
  /-- w8 · R287 · R287 · ITER -/
  iter : Nat := 3
  /-- - · R284 · DC1 · new grid (SLOT_NS, cutoff, margin, iter, boundary B) -/
  gridAt : Option (Nat × Nat × Nat × Nat × NetTime) := none
  /-- 4 classes · R285 · R285 · class parameters -/
  classes : Tab ClassCfg := []
  /-- 1,048,576 × 128 · R280 · R280 · demand contexts -/
  demand : Tab Demand := []
  /-- w5 · R287 · DC1 · first -/
  first : Nat := 0
  /-- 32 DPLANEs · R265 · R264 · the manager's view of each -/
  dplanes : Tab DPlane := []
  /-- 256 chains · R272 · R692 · loaded chains; under 256 × device + number, the chains that a worker holds, as the manager passed them on -/
  chains : Tab Chain := []
  /-- per DPLANE · R302 · R692 · running and pending chains -/
  chainPlanes : Tab ChainPlane := []
  /-- w32 · R303 · R275 · STAGE_LEAD_US -/
  stageUs : Nat := 20
  /-- w32 · R303 · R277 · MIN_LEAD_US -/
  minLeadUs : Nat := 50
  /-- list · R291 · DC1 · slots in the pipeline, oldest first -/
  pipes : List Pipe := []
  /-- - · R287 · M · the matching under way: its slot and its planes' circuits -/
  matching : Option Pipe := none
  /-- list · R289 · M · contexts that requested in the snapshot of the matching under way -/
  requested : List Nat := []
  /-- time · R290 · M · elapsed time at which the matching under way began -/
  matchAt : NetTime := 0
  /-- w64 · R287 · M · slot whose cutoff was the latest taken, plus 1 -/
  lastCut : Nat := 0
  /-- list · R265 · M · orders of a regime that wait for a worker's SCHED_CMD reply, oldest first: DPLANE, regime, time of effect, time of
  processing, and the request that asked, if one waits for it -/
  asked : List (Nat × Nat × NetTime × NetTime × Option Req) := []
  /-- list · R274 · M · chain.load commands that read permutation records from a worker, the first one reading: chain number, chain, request -/
  loading : List (Nat × Chain × Req) := []
  /-- time · R486 · M · elapsed time at which that load began -/
  loadAt : NetTime := 0
  /-- list · R311 · M · sched.demand_read commands that came during a matching, answered when it completes -/
  reads : List Req := []
  /-- - · R312 · DC1 · sampler: FIRST, COUNT, INTERVAL (0 stopped) -/
  samFirst : Nat := 0
  /-- w32 · R312 · DC1 · sampler COUNT -/
  samCount : Nat := 0
  /-- w16 · R312 · DC1 · sampler INTERVAL -/
  samInterval : Nat := 0
  /-- w64 · R297 · DC1 · slot in which the next pass falls due -/
  samNext : Nat := 0
  /-- w1 · R312 · DC1 · NONZERO -/
  samNonzero : Bool := false
  /-- w32 · R605 · DC1 · PASSES -/
  samPasses : Nat := 0
  /-- w32 · R605 · DC1 · SKIPPED -/
  samSkipped : Nat := 0
  /-- time · R297 · DC1 · elapsed time until which a pass reads -/
  samBusy : NetTime := 0
  /-- w32 each · R313 · DC1 · MATCHINGS, CIRCUITS, MATCH_OVERRUN, PIPE_LATE, GRANT_LATE, MAX_MATCH_NS -/
  counters : Tab Nat := []
  deriving DecidableEq, Repr

end Sys2Proof.Machine
end

