-- ==== Sys2Proof/Machine/TypesNet.lean ====
section
/-! DEFINITION. The records that State is made of, third part: endpoints, network time, the relay, the
buffer pools and the domain ring. Comments as in Types.lean. -/

namespace Sys2Proof.Machine

/-- Settings of the endpoint protocol (R341). -/
structure EpCfg where
  /-- w2 · R341 · R341 · ENCAP -/
  encap : Nat := 1
  /-- w3 · R341 · R341 · DOMAIN -/
  domain : Nat := 0
  /-- w16 · R341 · R341 · ETHERTYPE -/
  ethertype : Nat := 0x88B5
  /-- w16 · R341 · R341 · UDP_PORT -/
  udpPort : Nat := 19104
  /-- w16 · R341 · R330 · GUARD_NS -/
  guardNs : Nat := 200
  /-- w32 · R341 · DC1 · MGR_IPV4 -/
  ipv4 : Nat := 0
  /-- w32 · R341 · R324 · LIVE_TIMEOUT_US -/
  liveUs : Nat := 10000
  /-- w32 · R341 · R327 · BUCKET_RATE -/
  rate : Nat := 200000
  /-- w16 · R341 · R327 · BUCKET_DEPTH -/
  depth : Nat := 16
  /-- w1 · R341 · DC1 · ADMIT_STRICT -/
  strict : Bool := false
  /-- w1 · R341 · DC1 · OVERHEAD_OVERRIDE -/
  ovr : Bool := false
  /-- w8 · R341 · DC1 · OVERHEAD -/
  overhead : Nat := 20
  /-- w32 · R341 · R335 · ANNOUNCE_US -/
  announceUs : Nat := 1000
  /-- w16 · R341 · R333 · STALE_LIMIT -/
  staleLimit : Nat := 3
  /-- w48 · R341 · DC1 · GROUP_MAC -/
  groupMac : Nat := 0
  /-- w32 · R341 · DC1 · GROUP_IPV4 -/
  groupIp : Nat := 0
  deriving DecidableEq, Repr

/-- One endpoint ID (R323, R343). -/
structure Endpoint where
  /-- w2 · R343 · R692 · 0 ABSENT, 1 JOINED, 2 STALE -/
  st : Nat := 0
  /-- w1 · R343 · DC1 · UDP encapsulation -/
  udp : Bool := false
  /-- w8 · R343 · DC1 · OVERHEAD in force -/
  overhead : Nat := 0
  /-- w1 · R343 · DC1 · RX_GRANT -/
  rx : Bool := false
  /-- w32 · R343 · DC1 · LINE_RATE_MBPS -/
  rate : Nat := 0
  /-- w48 · R343 · DC1 · source MAC address -/
  mac : Nat := 0
  /-- w32 · R343 · DC1 · source IPv4 address -/
  ip : Nat := 0
  /-- w16 · R316 · DC1 · source UDP port -/
  udpPort : Nat := 0
  /-- w4 · R316 · DC1 · external link on which the HELLO arrived, port × 2 + link -/
  link : Nat := 0
  /-- w16 · R316 · DC1 · tag of the HELLO (VID and PCP), none when untagged -/
  tag : Option Nat := none
  /-- w32 · R343 · DC1 · LAST_SEQ, none before the first DEMAND -/
  lastSeq : Option Nat := none
  /-- w96 · R343 · DC1 · JOINED_AT -/
  joined : NetTime := 0
  /-- w96 · R343 · DC1 · LAST_HEARD -/
  heard : NetTime := 0
  /-- time · R324 · DC1 · elapsed time of the last HELLO or accepted DEMAND -/
  heardAt : NetTime := 0
  /-- w16 · R343 · DC1 · LAST_ACK_SLOT -/
  ackSlot : Nat := 0
  /-- w16 · R343 · DC1 · UNACKED_RUN -/
  unacked : Nat := 0
  /-- w32 · R328 · DC1 · SEQ of the next message to it -/
  seq : Nat := 0
  /-- w32 · R337 · DC1 · SEQ of the newest GRANT to it -/
  grantSeq : Nat := 0
  /-- tokens × 65,536,000,000,000 · R327 · R327 · token bucket -/
  tokens : Nat := 0
  /-- time · R327 · DC1 · elapsed time of its last refill -/
  tokensAt : NetTime := 0
  /-- w32 · R327 · DC1 · BUCKET_RATE in force -/
  bRate : Nat := 200000
  /-- w16 · R327 · DC1 · BUCKET_DEPTH in force -/
  bDepth : Nat := 16
  /-- w32 · R324 · DC1 · LIVE_TIMEOUT_US in force -/
  liveUs : Nat := 10000
  /-- time · R327 · DC1 · elapsed time of the latest policing discard -/
  policedAt : Option NetTime := none
  /-- list · R333 · DC1 · grants sent: (DPLANE, peer, slot, GRANT SEQ, receive entry) -/
  grants : List (Nat × Nat × Nat × Nat × Bool) := []
  /-- w32 each · R345 · DC1 · counters of the ID -/
  counters : Tab Nat := []
  deriving DecidableEq, Repr

/-- An admission binding (R342). -/
structure Bind where
  /-- w48 · R342 · DC1 · MAC -/
  mac : Nat := 0
  /-- w32 · R342 · DC1 · IPV4 -/
  ip : Nat := 0
  /-- w1 · R342 · DC1 · bound -/
  on : Bool := false
  deriving DecidableEq, Repr

/-- What waits for the end of a matching (R282, R323): a message, with its elapsed time of arrival, an eviction, a loss. -/
inductive HeldEp where
  /-- a HELLO or DEMAND of an address -/
  | msg (a : Endpoint) (p : Bytes) (at' : NetTime)
  /-- `endpoint.evict` -/
  | evict (r : Req)
  /-- an endpoint whose LIVE_TIMEOUT_US had run out at this time -/
  | lost (e : Nat) (at' : NetTime)
  deriving DecidableEq, Repr

/-- The endpoint protocol of the manager (chapter 8). -/
structure Eps where
  /-- - · R341 · R341 · settings -/
  cfg : EpCfg := {}
  /-- 512 IDs · R343 · R692 · endpoints -/
  tab : Tab Endpoint := []
  /-- 512 IDs · R342 · DC1 · bindings -/
  binds : Tab Bind := []
  /-- per source MAC · R323 · DC1 · elapsed time of the previous HELLO plus 1 -/
  hello : Tab NetTime := []
  /-- w32 each · R345 · DC1 · totals of all endpoints -/
  counters : Tab Nat := []
  /-- time · R335 · DC1 · elapsed time of the last SLOT_ANNOUNCE -/
  announceAt : NetTime := 0
  /-- w32 · R328 · DC1 · SEQ of the next group SLOT_ANNOUNCE -/
  groupSeq : Nat := 0
  /-- list · R282, R323 · M · what came during a matching, applied when it completes, in order of arrival -/
  held : List HeldEp := []
  deriving DecidableEq, Repr

/-- A transmit timestamp (R361). -/
structure TxTs where
  /-- w16 · R361 · DC1 · SEQUENCE_ID -/
  seq : Nat := 0
  /-- w8 · R361 · DC1 · MESSAGE_TYPE -/
  type : Nat := 0
  /-- w8 · R361 · DC1 · DOMAIN_NUMBER -/
  domain : Nat := 0
  /-- w96 · R361 · DC1 · TIMESTAMP -/
  time : NetTime := 0
  deriving DecidableEq, Repr

/-- A capture queue entry (R368). -/
structure Tcap where
  /-- w96 · R368 · DC1 · TIME -/
  time : NetTime := 0
  /-- w8 · R368 · DC1 · EDGE: falling -/
  fall : Bool := false
  /-- w1 · R368 · DC1 · STEPPED -/
  stepped : Bool := false
  /-- w1 · R368 · DC1 · LOST_BEFORE -/
  lost : Bool := false
  deriving DecidableEq, Repr

/-- A capture input (R368, R379). -/
structure TcapIn where
  /-- w8 · R379 · R692 · EDGE: 0 off, 1 rising, 2 falling, 3 both -/
  edge : Nat := 0
  /-- 16 entries · R368 · R692 · queue, oldest first -/
  queue : List Tcap := []
  /-- w1 · R368 · DC1 · an edge was lost since the last stored entry -/
  lost : Bool := false
  /-- w1 · R368 · DC1 · a step has come since the last stored entry -/
  stepped : Bool := false
  /-- w96 · R368 · DC1 · time of the previously captured edge -/
  last : Option NetTime := none
  deriving DecidableEq, Repr

/-- A TOUT schedule (R367, R378). -/
structure ToutSched where
  /-- w8 · R378 · DC1 · MODE: 1 ONE_SHOT, 2 PERIODIC -/
  mode : Nat := 0
  /-- w1 · R378 · DC1 · POLARITY: low pulses -/
  low : Bool := false
  /-- w96 · R378 · DC1 · START -/
  start : NetTime := 0
  /-- w32 · R378 · DC1 · PERIOD_NS -/
  period : Nat := 0
  /-- w32 · R378 · DC1 · WIDTH_NS -/
  width : Nat := 0
  /-- w32 · R378 · DC1 · COUNT -/
  count : Nat := 0
  /-- w32 · R367 · DC1 · edges already made, two per pulse -/
  edges : Nat := 0
  deriving DecidableEq, Repr

/-- A pulse output (R367). -/
structure Tout where
  /-- w1 · R367 · R690 · pin level -/
  level : Bool := false
  /-- - · R367 · R692 · schedule that governs it -/
  cur : Option ToutSched := none
  /-- - · R367 · R692 · schedule that replaces it at its START -/
  next : Option ToutSched := none
  deriving DecidableEq, Repr

/-- A foreign master (R358, the standard's own data set: log entry 63). -/
structure Foreign where
  /-- w80 · R358 · DC1 · its port identity -/
  src : Nat := 0
  /-- dataset · R358 · DC1 · comparison key of its latest Announce (lower wins) -/
  key : Nat := 0
  /-- w16 · R358 · DC1 · its stepsRemoved -/
  steps : Nat := 0
  /-- w16 · R371 · DC1 · its currentUtcOffset; 0 where it is not valid -/
  utc : Nat := 0
  /-- time · R358 · DC1 · elapsed time of its latest Announce -/
  last : NetTime := 0
  /-- time · R358 · DC1 · elapsed time of the Announce before -/
  prev : Option NetTime := none
  deriving DecidableEq, Repr

/-- The firmware PTP stack (R358, R374, R375). -/
structure Ptp where
  /-- w1 · R374 · DC1 · configured -/
  on : Bool := false
  /-- w8 · R374 · DC1 · PORT -/
  port : Nat := 0
  /-- w8 · R374 · DC1 · DOMAIN_NUMBER -/
  domain : Nat := 0
  /-- w8 · R374 · DC1 · TRANSPORT: UDP/IPv4 -/
  udp : Bool := false
  /-- w8 · R374 · DC1 · DELAY_MECH: peer delay -/
  peer : Bool := false
  /-- w8 signed · R374 · DC1 · LOG_SYNC -/
  logSync : Int := 0
  /-- w8 · R374 · DC1 · LOG_ANNOUNCE -/
  logAnn : Int := 1
  /-- w8 signed · R374 · DC1 · LOG_MIN_DELAY_REQ -/
  logReq : Int := 0
  /-- w8 · R374 · DC1 · ANNOUNCE_TIMEOUT -/
  annTo : Nat := 3
  /-- w8 · R374 · DC1 · PRIORITY1 -/
  prio1 : Nat := 128
  /-- w8 · R374 · DC1 · PRIORITY2 -/
  prio2 : Nat := 128
  /-- w8 · R374 · R374 · CLOCK_CLASS -/
  clkClass : Nat := 248
  /-- w1 · R374 · R374 · SLAVE_ONLY -/
  slaveOnly : Bool := true
  /-- w32 signed · R374 · DC1 · DELAY_ASYM_PS -/
  asymPs : Int := 0
  /-- w8 · R375 · DC1 · PORT_STATE: 1 INITIALIZING, 4 LISTENING, 6 MASTER, 8 UNCALIBRATED, 9 SLAVE -/
  portState : Nat := 1
  /-- w16 · R375 · DC1 · STEPS_REMOVED -/
  steps : Nat := 0
  /-- w80 · R375 · DC1 · PARENT_PORT_ID -/
  parent : Nat := 0
  /-- list · R358 · DC1 · foreign masters heard, newest first, at most five -/
  foreign : List Foreign := []
  /-- w64 signed · R375 · DC1 · OFFSET_FROM_MASTER -/
  offset : Int := 0
  /-- w64 · R375 · DC1 · MEAN_PATH_DELAY -/
  delay : Int := 0
  /-- time · R350 · DC1 · elapsed time of the last Announce from the master -/
  annAt : NetTime := 0
  /-- time · R350 · DC1 · elapsed time of the last Sync from the master -/
  syncAt : NetTime := 0
  /-- - · R358 · DC1 · two-step Sync awaiting its Follow_Up: (sequenceId, receive time, correction) -/
  sync : Option (Nat × NetTime × Int) := none
  /-- - · R358 · DC1 · t1 and t2 of the latest complete Sync -/
  t12 : Option (Int × Int) := none
  /-- - · R358 · DC1 · delay request under way: (sequenceId, transmit time, known) -/
  req : Option (Nat × NetTime × Bool) := none
  /-- - · R358 · DC1 · peer delay response: (sequenceId, t2, t4, correction) awaiting its Follow_Up -/
  presp : Option (Nat × Int × Int × Int) := none
  /-- w16 each · R358 · DC1 · sequenceId of the next Sync, Announce and request -/
  seqs : Tab Nat := []
  /-- time each · R358 · DC1 · elapsed time of the last Sync, Announce and request sent -/
  sentAt : Tab NetTime := []
  deriving DecidableEq, Repr

/-- A pending transparent-clock match (R362). -/
structure TcMatch where
  /-- key · R362 · DC1 · sourcePortIdentity, sequenceId and domainNumber; a Delay_Req match carries bit 128 -/
  key : Nat := 0
  /-- time · R362 · DC1 · residence, when both timestamps are known -/
  residence : NetTime := 0
  /-- time · R362 · DC1 · elapsed time of its making -/
  at' : NetTime := 0
  deriving DecidableEq, Repr

/-- A Follow_Up or Delay_Resp held for its event message (R362). -/
structure TcHold where
  /-- key · R362 · DC1 · as of the match it waits for -/
  key : Nat := 0
  /-- w8 · R362 · DC1 · port whose matches it waits on -/
  port : Nat := 0
  /-- w16 · R362 · DC1 · relay frame held -/
  frame : Nat := 0
  /-- time · R362 · DC1 · elapsed time since which it is held -/
  at' : NetTime := 0
  deriving DecidableEq, Repr

/-- The timekeeper and everything timed by it (chapter 9). -/
structure Time where
  /-- w96 · R347 · R347 · network time -/
  now : NetTime := 65536000000000
  /-- time · R584 · M · elapsed time since reset, slews included, steps not -/
  mono : NetTime := 0
  /-- ticks · R50 · M · modulator ticks run since reset; the count of R357 is network time in ticks -/
  tick : Nat := 0
  /-- w4 · R349 · R349 · source -/
  source : Nat := 0
  /-- w3 · R350 · R349 · state -/
  st : Nat := 0
  /-- w64 signed · R351 · R349 · frequency correction, 2^-16 ppb -/
  freq : Int := 0
  /-- list · R350 · DC1 · frequency corrections since the lock began or of the last second: (elapsed time, value), newest first -/
  freqLog : List (NetTime × Int) := []
  /-- w64 · R348 · R348 · increment per REFCLK period in force, 2^-48 ns: 6.4 ns, moved by the frequency correction and the slew -/
  incr : Nat := 1801439850948198
  /-- count · R348 · M · REFCLK periods run since reset -/
  refclk : Nat := 0
  /-- 2^-48 ns · R348 · M · part of the REFCLK period under way that has passed, as network time -/
  refPart : Nat := 0
  /-- w64 signed · R352 · DC1 · slew remainder, 2^-16 ns × 10^-9, of which SLEW_REMAIN shows the whole 2^-16 ns -/
  slew : Int := 0
  /-- w64 signed · R371 · DC1 · LAST_OFFSET -/
  lastOffset : Int := 0
  /-- w16 · R371 · DC1 · UTC_OFFSET -/
  utc : Nat := 0
  /-- w16 · R352 · R352 · SLEW_PPM -/
  slewPpm : Nat := 100
  /-- w32 · R352 · R352 · JUMP_NS -/
  jumpNs : Nat := 1000
  /-- w32 · R350 · R350 · LOCK_NS -/
  lockNs : Nat := 100
  /-- w32 · R350 · R350 · LOSS_MS -/
  lossMs : Nat := 2000
  /-- w16 signed · R370 · DC1 · CLASP_ASYM_E_PS -/
  asymE : Int := 0
  /-- w16 signed · R370 · DC1 · CLASP_ASYM_W_PS -/
  asymW : Int := 0
  /-- w1 · R353 · DC1 · JUMP_REFUSED -/
  jumpRefused : Bool := false
  /-- w1 · R356 · M · the worker has still to align by R356 -/
  join : Bool := false
  /-- w5 · R350 · DC1 · consecutive offsets within LOCK_NS, to 16 -/
  good : Nat := 0
  /-- w3 · R350 · DC1 · consecutive offsets beyond 4 × LOCK_NS -/
  bad : Nat := 0
  /-- time · R350 · DC1 · elapsed time of the last correction or time frame -/
  heard : NetTime := 0
  /-- - · R354 · DC1 · step that waits for its boundary: (boundary, new time at it or none, delta) -/
  step : Option (NetTime × Option NetTime × Int) := none
  /-- signed · R357 · DC1 · phase still to be realigned, 2^-16 ns × 10^-3 -/
  phase : Int := 0
  /-- time · R347 · M · elapsed time at the release of PORST_N -/
  released : NetTime := 0
  /-- - · R374 · R374 · firmware PTP stack -/
  ptp : Ptp := {}
  /-- 4 × 32 entries · R361 · DC1 · transmit timestamp queues -/
  txts : Tab (List TxTs) := []
  /-- w4 · R361 · DC1 · ports whose TXTS_OVERFLOW is set -/
  txtsOvf : List Nat := []
  /-- w1 · R377 · DC1 · transparent clock enabled -/
  tcOn : Bool := false
  /-- w4 · R377 · DC1 · PORT_MASK -/
  tcMask : Nat := 0
  /-- 64 each · R362 · DC1 · pending matches of each port -/
  tc : Tab (List TcMatch) := []
  /-- list · R362 · DC1 · messages held -/
  tcHold : List TcHold := []
  /-- w32 · R362 · DC1 · TC_UNMATCHED -/
  tcUnmatched : Nat := 0
  /-- 4 pins · R367 · R690 · pulse outputs -/
  tout : Tab Tout := []
  /-- 2 inputs · R368 · R692 · capture inputs -/
  tcap : Tab TcapIn := []
  deriving DecidableEq, Repr

/-- A forwarding entry (R386); keyed by MAC × 4,096 + VID. -/
structure Fdb where
  /-- w8 · R386 · DC1 · KIND plus 1; 0 marks an absent entry -/
  kind : Nat := 0
  /-- w8 · R386 · DC1 · PORT -/
  port : Nat := 0
  /-- w8 · R386 · DC1 · LINK -/
  link : Nat := 0
  /-- w8 · R386 · DC1 · CLASS_OVR -/
  ovr : Nat := 0
  /-- w16 · R386 · DC1 · GROUP -/
  group : Nat := 0
  deriving DecidableEq, Repr

/-- A frame inside the relay (R388, R391). -/
structure RFrame where
  /-- w16 · R391 · M · handle -/
  id : Nat := 0
  /-- w8 · R388 · DC1 · ingress: port × 2 + link -/
  ing : Nat := 0
  /-- w3 · R384 · DC1 · class -/
  cls : Nat := 0
  /-- w32 · R388 · DC1 · table version bound -/
  ver : Nat := 0
  /-- list · R388 · DC1 · destinations still to be served, each port × 2 + link -/
  dests : List Nat := []
  /-- w1 · R409 · M · a multicast frame -/
  mc : Bool := false
  /-- w1 · R437 · DC1 · a clasp message: header and body, with no FCS -/
  msg : Bool := false
  /-- w3 · R405 · DC1 · class whose credits its sender spent on the clasp -/
  wire : Nat := 0
  /-- bytes · R388 · DC1 · the frame without its FCS, as far as received -/
  data : Bytes := []
  /-- w16 · R382 · DC1 · length of the frame with its FCS, when received whole -/
  len : Option Nat := none
  /-- w1 · R396 · DC1 · it cuts through -/
  cut : Bool := false
  /-- w1 · R397 · DC1 · it proved bad after its head left -/
  bad : Bool := false
  /-- list · R391 · DC1 · relay pool buffers that hold it -/
  bufs : List Nat := []
  /-- w96 · R359 · DC1 · receive timestamp -/
  rx : NetTime := 0
  /-- w16 · R392 · DC1 · cells not yet moved, per destination -/
  cells : Tab Nat := []
  /-- list · R400 · DC1 · links on which it was counted in HELD_FOR_WINDOW -/
  held : List Nat := []
  /-- w1 · R361 · DC1 · an event message that the active stack sent -/
  stack : Bool := false
  deriving DecidableEq, Repr

/-- A gate list (R400). -/
structure GateList where
  /-- w1 · R422 · DC1 · ENABLE -/
  on : Bool := false
  /-- w32 · R422 · DC1 · CYCLE_NS -/
  cycle : Nat := 1000
  /-- w96 · R422 · DC1 · BASE -/
  base : NetTime := 0
  /-- w96 · R422 · DC1 · AT -/
  at' : NetTime := 0
  /-- 8 × w16 · R400 · R400 · MAX_FRAME -/
  maxFrame : List Nat := []
  /-- up to 256 · R400 · DC1 · (DURATION_NS, GATE_MASK) -/
  entries : List (Nat × Nat) := []
  deriving DecidableEq, Repr

/-- One link of a relay port (R381, R416, R425); keyed by port × 2 + link. -/
structure RLink where
  /-- w1 · R417 · DC1 · UP -/
  up : Bool := false
  /-- w1 · R416 · DC1 · CUT_THROUGH -/
  cut : Bool := false
  /-- w1 · R416 · DC1 · LINK_TRAINING -/
  train : Bool := false
  /-- w8 · R416 · R404 · PFC_MASK -/
  pfc : Nat := 0xFF
  /-- w8 · R416 · R399 · OVERHEAD -/
  overhead : Nat := 20
  /-- w8 · R417 · DC1 · PAUSED -/
  paused : Nat := 0
  /-- per class · R404 · DC1 · elapsed time at which a received pause runs out -/
  pauseTo : Tab NetTime := []
  /-- w8 · R417 · DC1 · XOFF -/
  xoff : Nat := 0
  /-- per class · R404 · DC1 · elapsed time of the last XOFF sent -/
  xoffAt : Tab NetTime := []
  /-- w32 per class · R399 · R423 · IDLE_SLOPE in Mb/s -/
  slope : Tab Nat := []
  /-- w32 per class · R423 · DC1 · IDLE_SLOPE plus 1 that applies from the next frame boundary -/
  slopeNext : Tab Nat := []
  /-- per class · R399 · DC1 · shaper credit, bits × 65,536,000 -/
  credit : Tab Int := []
  /-- time · R399 · DC1 · elapsed time of the last credit update -/
  creditAt : NetTime := 0
  /-- - · R400 · DC1 · gate list in force -/
  gates : GateList := {}
  /-- - · R402 · DC1 · gate list whose AT has not come -/
  gatesAt : Option GateList := none
  /-- w8 · R403 · DC1 · GATE_MASK in force -/
  gate : Nat := 0xFF
  /-- w16 · R398 · DC1 · frame in transmission, with the network time of its start -/
  tx : Option (Nat × NetTime) := none
  /-- w32 each · R425 · DC1 · counters in the order of R425, and FEC counters -/
  counters : Tab Nat := []
  deriving DecidableEq, Repr

/-- A mirror session (R408, R424). -/
structure MirrorSes where
  /-- w1 · R424 · R692 · ENABLE -/
  on : Bool := false
  /-- w1 · R424 · DC1 · POINT: egress -/
  egress : Bool := false
  /-- w8 · R424 · DC1 · CLASS_MASK -/
  classes : Nat := 0
  /-- w16 · R424 · DC1 · LINK_MASK -/
  links : Nat := 0
  /-- w16 · R424 · DC1 · N -/
  n : Nat := 1
  /-- w16 · R424 · R408 · TRUNC -/
  trunc : Nat := 128
  /-- w16 · R408 · DC1 · matches since the last copy -/
  count : Nat := 0
  /-- w32 · R409 · DC1 · SEQ -/
  seq : Nat := 0
  deriving DecidableEq, Repr

/-- A relay fence that waits (R390, R421). -/
structure Fence where
  /-- w32 · R421 · DC1 · VERSION -/
  ver : Nat := 0
  /-- time · R421 · DC1 · elapsed time of its timeout -/
  due : NetTime := 0
  /-- - · R421 · M · the request that waits -/
  req : Req := {}
  deriving DecidableEq, Repr

/-- The relay (chapter 10). -/
structure Relay where
  /-- w48 · R415 · DC1 · RELAY_MAC -/
  mac : Nat := 0
  /-- w8 · R415 · R387 · MISS_ACTION -/
  miss : Nat := 0
  /-- w16 · R415 · DC1 · MISS_GROUP -/
  missGroup : Nat := 0
  /-- w3 · R415 · R384 · DEFAULT_CLASS -/
  defClass : Nat := 0
  /-- w3 · R415 · R384 · EP_CLASS -/
  epClass : Nat := 6
  /-- w3 · R415 · R384 · PTP_CLASS -/
  ptpClass : Nat := 7
  /-- 8 × w3 · R415 · R384 · PCP_MAP entries that differ from the identity, plus 1 -/
  pcp : Tab Nat := []
  /-- 65,536 · R385 · DC1 · forwarding table -/
  fdb : Tab Fdb := []
  /-- 4,096 × w16 · R387 · DC1 · group masks -/
  groups : Tab Nat := []
  /-- w32 · R389 · R389 · TABLE_VERSION -/
  version : Nat := 1
  /-- per external port · R381 · DC1 · MODE -/
  mode : Tab Nat := []
  /-- per external port · R416 · DC1 · IFACE -/
  iface : Tab Nat := []
  /-- per external port · R416 · DC1 · FEC of mode 3 -/
  fec : Tab Nat := []
  /-- per link · R381 · DC1 · links of the relay, by port × 2 + link -/
  links : Tab RLink := []
  /-- list · R391 · DC1 · frames in the relay, in order of arrival -/
  frames : List RFrame := []
  /-- w16 · R391 · M · handle of the next frame -/
  nextId : Nat := 1
  /-- list · R406 · DC1 · frames of the internal ports that wait for buffers, oldest first -/
  waiting : List RFrame := []
  /-- 10 × w4 · R392 · DC1 · crossbar output pointers -/
  optr : Tab Nat := []
  /-- 10 × w4 · R392 · DC1 · crossbar input pointers -/
  iptr : Tab Nat := []
  /-- 4 · R424 · R692 · mirror sessions -/
  mirrors : Tab MirrorSes := []
  /-- w32 · R425 · DC1 · MIRROR_SKIPPED -/
  skipped : Nat := 0
  /-- list · R421 · DC1 · fences that wait -/
  fences : List Fence := []
  /-- per clasp port and class · R405 · DC1 · credits in hand, by port × 8 + class -/
  credits : Tab Nat := []
  /-- per clasp port and class · R405 · DC1 · credits owed to the peer, by port × 8 + class -/
  owed : Tab Nat := []
  /-- w16 · R489 · DC1 · a transmit descriptor that waits for a buffer -/
  txWait : Bool := false
  deriving DecidableEq, Repr

/-- Quotas of a requester (R410, R426). -/
structure Requester where
  /-- w32 · R410 · R410 · MIN -/
  min : Nat := 0
  /-- w32 · R410 · R410 · MAX -/
  max : Nat := 0
  /-- w32 · R410 · R410 · HEADROOM -/
  head : Nat := 0
  /-- w8 · R410 · R410 · LIMIT_STAGE -/
  stage : Nat := 0
  /-- w32 · R411 · DC1 · U -/
  u : Nat := 0
  /-- w32 · R411 · DC1 · V -/
  v : Nat := 0
  /-- w32 · R427 · DC1 · EMPTY_COUNT -/
  empty : Nat := 0
  deriving DecidableEq, Repr

/-- The state of one allocated buffer (R413). -/
structure Buf where
  /-- w1 · R413 · DC1 · allocated -/
  alloc : Bool := false
  /-- w4 · R413 · DC1 · owner -/
  owner : Nat := 0
  /-- w8 · R413 · DC1 · reference count -/
  refs : Nat := 0
  /-- w4 · R411 · DC1 · 0 from the shared region, r + 1 from the reserve of requester r -/
  reserve : Nat := 0
  deriving DecidableEq, Repr

/-- A buffer pool (R410 to R414, R427). -/
structure Pool where
  /-- requesters · R410 · R410 · quotas and use -/
  reqs : Tab Requester := []
  /-- per buffer · R413 · DC1 · allocated buffers by number -/
  bufs : Tab Buf := []
  /-- w32 · R427 · DC1 · ALLOCATED -/
  alloc : Nat := 0
  /-- w32 · R411 · DC1 · buffers of the shared region in use -/
  shared : Nat := 0
  /-- w2 · R427 · DC1 · STAGE -/
  stage : Nat := 0
  /-- 3 × w32 · R412 · R412 · THRESH_1 to THRESH_3 -/
  thresh : List Nat := []
  /-- 3 × w8 · R404 · R404 · STAGE_CLASSES -/
  classes : List Nat := []
  /-- w32 · R427 · DC1 · BAD_POINTER -/
  bad : Nat := 0
  /-- w32 · R427 · DC1 · DOUBLE_FREE -/
  dbl : Nat := 0
  /-- w32 · R427 · DC1 · FOREIGN_FREE -/
  foreign : Nat := 0
  deriving DecidableEq, Repr

/-- A clasp message (R440). -/
structure Msg where
  /-- w8 · R440 · DC1 · CODE -/
  code : Nat := 0
  /-- w8 · R440 · DC1 · SRC -/
  src : Nat := 0xFF
  /-- w8 · R440 · DC1 · DST -/
  dst : Nat := 0xFF
  /-- w16 · R440 · DC1 · SEQ -/
  seq : Nat := 0
  /-- w16 · R440 · DC1 · ACK_SEQ -/
  ack : Nat := 0
  /-- w8 · R440 · DC1 · HOPS_LEFT -/
  hops : Nat := 15
  /-- w1 · R440 · DC1 · RESENT -/
  resent : Bool := false
  /-- bytes · R441 · DC1 · body -/
  body : Bytes := []
  deriving DecidableEq, Repr

/-- A sequenced message that awaits its ACK (R435). -/
structure Unacked where
  /-- - · R435 · DC1 · the message -/
  msg : Msg := {}
  /-- w1 · R435 · DC1 · direction last taken: west -/
  west : Bool := false
  /-- time · R435 · DC1 · elapsed time it was last sent -/
  at' : NetTime := 0
  /-- list · R435 · M · devices whose ACK of a message to every device is still to come -/
  want : List Nat := []
  deriving DecidableEq, Repr

/-- A clasp port (R431, R432, R363, R465). -/
structure Clasp where
  /-- w1 · R432 · DC1 · link up -/
  up : Bool := false
  /-- w1 · R432 · DC1 · held down as miswired -/
  miswired : Bool := false
  /-- w16 · R439 · DC1 · SEQ of the next TIME unit -/
  seq : Nat := 0
  /-- w16 · R439 · R439 · PEER_SEQ -/
  peerSeq : Nat := 0xFFFF
  /-- w96 · R439 · DC1 · time the latest own TIME unit left (T_TX_PREV of the next) -/
  txPrev : NetTime := 0
  /-- w96 · R439 · DC1 · time the latest peer TIME unit arrived (T_RX_PEER) -/
  rxPeer : NetTime := 0
  /-- up to 16 · R439 · DC1 · (SEQ, departure) of own TIME units -/
  sent : Tab NetTime := []
  /-- per device · R440, R460 · M · hops to it and elapsed time of its latest HEARTBEAT that came by this port -/
  peers : Tab (Nat × NetTime) := []
  /-- - · R439 · DC1 · (t2, t4, t1) of an exchange awaiting t3 -/
  exch : Option (NetTime × NetTime × NetTime) := none
  /-- w8 · R439 · R439 · HOPS the peer shows -/
  peerHops : Nat := 0xFF
  /-- w1 · R439 · DC1 · the peer shows ON_MANAGER_TIME -/
  onMgr : Bool := false
  /-- w64 signed · R439 · DC1 · mean link delay, 2^-16 ns -/
  delay : Int := 0
  /-- time · R366 · DC1 · elapsed time of the last TIME unit received -/
  heard : NetTime := 0
  /-- 6 × w32 · R465 · DC1 · counters -/
  counters : Tab Nat := []
  deriving DecidableEq, Repr

/-- A member of the domain as the manager sees it (R461). -/
structure Member where
  /-- w64 · R443 · DC1 · IDENTITY bound to the number (NVM) -/
  identity : Nat := 0
  /-- w1 · R461 · DC1 · ADMITTED -/
  admitted : Bool := false
  /-- w1 · R461 · DC1 · REACHABLE -/
  reachable : Bool := false
  /-- w1 · R461 · DC1 · LOCKED -/
  locked : Bool := false
  /-- w8 · R461 · DC1 · HOPS_E -/
  hopsE : Nat := 0
  /-- w8 · R461 · DC1 · HOPS_W -/
  hopsW : Nat := 0
  /-- time · R461 · DC1 · elapsed time of the last heartbeat -/
  heard : NetTime := 0
  deriving DecidableEq, Repr

/-- A tunnelled request outstanding on the manager (R452). -/
structure Tunnel where
  /-- w32 · R441 · DC1 · TUNNEL_TAG -/
  tag : Nat := 0
  /-- w8 · R452 · DC1 · worker -/
  dev : Nat := 0
  /-- - · R452 · DC1 · the request -/
  req : Req := {}
  /-- time · R452 · DC1 · elapsed time at which it times out -/
  due : NetTime := 0
  /-- w1 · R274, R356 · M · the manager's own: a read of a permutation record for chain.load, or a step of time -/
  own : Bool := false
  deriving DecidableEq, Repr

/-- A tunnelled whole under reassembly (R441). -/
structure Reasm where
  /-- key · R441 · DC1 · (device, code, TUNNEL_TAG) as one number -/
  key : Nat := 0
  /-- w16 · R441 · DC1 · SEGMENTS -/
  segs : Nat := 0
  /-- w32 · R441 · DC1 · TOTAL -/
  total : Nat := 0
  /-- list · R441 · DC1 · segments held: (SEGMENT, OFFSET, CONTENT) -/
  got : List (Nat × Nat × Bytes) := []
  deriving DecidableEq, Repr

/-- The domain and its ring (chapter 11). -/
structure Dom where
  /-- w8 · R460 · R473 · device number; 0xFF when not admitted -/
  number : Nat := 0xFF
  /-- w2 · R460 · DC1 · RING -/
  ring : Nat := 0
  /-- w16 · R460 · DC1 · BREAK -/
  brk : Nat := 0xFFFF
  /-- w1 · R460 · DC1 · CONFLICT -/
  conflict : Bool := false
  /-- w1 · R442 · DC1 · discovery runs -/
  disc : Bool := false
  /-- time · R442 · DC1 · elapsed time at which it began -/
  discAt : NetTime := 0
  /-- lists · R442 · DC1 · devices found eastward and westward: (identity, role, ROLE_OK) -/
  foundE : List (Nat × Nat × Bool) := []
  /-- list · R442 · DC1 · devices found westward -/
  foundW : List (Nat × Nat × Bool) := []
  /-- w1 · R442 · DC1 · a DISCOVER returned on the opposite port -/
  closed : Bool := false
  /-- w1 · R444 · M · a DISCOVER came back from more devices than it can list -/
  crowded : Bool := false
  /-- list · R450 · M · events raised while this worker is not admitted, oldest first -/
  evq : List EvRec := []
  /-- w1 · R442 · DC1 · discovery has completed since reset -/
  discovered : Bool := false
  /-- 16 entries · R443 · DC1 · member table -/
  members : Tab Member := []
  /-- w1 · R459 · R449 · PROPAGATE -/
  propagate : Bool := true
  /-- w1 · R459 · R449 · ACCEPT -/
  accept : Bool := true
  /-- w32 · R459 · R456 · HOLDOVER_US -/
  holdoverUs : Nat := 100
  /-- w32 · R459 · R456 · MGR_SILENCE_US -/
  silenceUs : Nat := 100
  /-- w32 · R459 · R452 · TUNNEL_TIMEOUT_MS -/
  tunnelMs : Nat := 100
  /-- time · R456 · DC1 · elapsed time of the manager's last HEARTBEAT -/
  mgrHeard : NetTime := 0
  /-- w1 · R460 · DC1 · MANAGER_HEARD -/
  mgrUp : Bool := false
  /-- w16 · R441 · DC1 · MEMBERS of the manager's latest HEARTBEAT -/
  mgrMembers : Nat := 0
  /-- w1 · R545 · DC1 · the manager's latest HEARTBEAT shows JUMP_REFUSED -/
  mgrJump : Bool := false
  /-- time · R456 · DC1 · end of a running holdover: elapsed and network time -/
  holdover : Option (NetTime × NetTime) := none
  /-- w16 · R449 · R449 · IDENTIFIER of the next DARK -/
  darkId : Nat := 0
  /-- list · R449 · DC1 · remembered (ORIGIN, IDENTIFIER) and elapsed time of acting -/
  darkMem : List (Nat × Nat × NetTime) := []
  /-- 2 ports · R431 · DC1 · clasp ports: 0 east, 1 west -/
  clasps : Tab Clasp := []
  /-- per destination · R435 · DC1 · next sequence number -/
  seqs : Tab Nat := []
  /-- list · R435 · DC1 · messages awaiting an ACK -/
  unacked : List Unacked := []
  /-- list · R440 · DC1 · (SRC, CODE, SEQ) acted on, newest first -/
  seen : List (Nat × Nat × Nat) := []
  /-- time · R433 · DC1 · elapsed time of the last HEARTBEAT sent -/
  hbAt : NetTime := 0
  /-- time · R363 · DC1 · elapsed time before which no further TIME unit is sent -/
  timeAt : NetTime := 0
  /-- w64 · R441 · DC1 · slot number of the latest FACET_REC -/
  lastRec : Nat := 0
  /-- 4,096 records · R450 · DC1 · log of remote events, oldest first -/
  log : List EvRec := []
  /-- w16 · R464 · DC1 · records lost -/
  lost : Nat := 0
  /-- list · R452 · DC1 · tunnelled requests outstanding -/
  tunnels : List Tunnel := []
  /-- w32 · R441 · DC1 · next TUNNEL_TAG -/
  tunnelTag : Nat := 1
  /-- list · R441 · DC1 · wholes under reassembly -/
  reasm : List Reasm := []
  deriving DecidableEq, Repr

end Sys2Proof.Machine
end

