-- ==== Sys2Proof/Machine/TypesSys.lean ====
section
/-! DEFINITION. The records that State is made of, fourth part: calibration, flash and the locket, tests,
the loupe, snapshots, power, leases, pins and the model's record of outputs. Comments as in Types.lean. -/

namespace Sys2Proof.Machine

/-- A cell record (R529). -/
structure CellCal where
  /-- w32 signed · R529 · R519 · D_C -/
  dc : Int := 0
  /-- w32 · R529 · R519 · P_PI -/
  pPi : Nat := 0
  /-- w32 · R529 · R519 · TAU_NS -/
  tauNs : Nat := 0
  /-- w16 · R529 · R519 · K_X100 -/
  k : Nat := 0
  /-- w16 · R529 · R519 · FLAGS -/
  flags : Nat := 0
  /-- w32 · R529 · R519 · M_MAX -/
  mMax : Nat := 0
  /-- w16 · R529 · R519 · SETTLE_TOL -/
  tol : Nat := 0
  /-- w16 · R529 · R519 · EXT_DB_X10 -/
  ext : Nat := 0
  /-- w16 · R529 · R519 · RESID_URAD -/
  resid : Nat := 0
  deriving DecidableEq, Repr

/-- An element record (R530). -/
structure ElemCal where
  /-- w8 · R530 · R68 · FS_TRIM -/
  fsTrim : Nat := 128
  /-- w8 · R530 · DC1 · FLAGS -/
  flags : Nat := 0
  /-- w16 · R530 · DC1 · HTR_OHM_X10 -/
  ohm : Nat := 0
  /-- w16 · R530 · R125 · RB_GAIN, Q2.14 -/
  rbGain : Nat := 0x4000
  /-- w16 signed · R530 · R125 · RB_OFFSET -/
  rbOfs : Int := 0
  /-- w20 · R530 · DC1 · OPEN_CODE -/
  openCode : Nat := 0
  deriving DecidableEq, Repr

/-- A monitor record (R530). -/
structure MonCal where
  /-- w10 signed · R530 · R68 · OFS_TRIM -/
  ofs : Int := 0
  /-- w8 · R530 · R68 · GAIN_TRIM -/
  gain : Nat := 128
  /-- w8 · R530 · DC1 · FLAGS -/
  flags : Nat := 0
  /-- w32 signed · R530 · DC1 · OFS_RESID -/
  resid : Int := 0
  /-- w32 · R530 · DC1 · NOISE -/
  noise : Nat := 0
  deriving DecidableEq, Repr

/-- A drive group record (R530). -/
structure GroupCal where
  /-- w10 · R530 · R68 · RATIO_1_3 -/
  r13 : Nat := 158
  /-- w10 · R530 · R68 · RATIO_2_3 -/
  r23 : Nat := 648
  deriving DecidableEq, Repr

/-- A crosstalk record (R530). -/
structure XtCal where
  /-- up to 64 · R530 · DC1 · (aggressor channel, coefficient in Q1.15) -/
  coef : List (Nat × Int) := []
  /-- w16 · R530 · DC1 · RESIDUE -/
  residue : Nat := 0
  deriving DecidableEq, Repr

/-- A calibration image (R527). -/
structure Cal where
  /-- w8 · R527 · DC1 · PLANES -/
  planes : Nat := 0
  /-- w32 · R527 · DC1 · CAL_GENERATION -/
  gen : Nat := 0
  /-- w32 · R527 · DC1 · MAP_GENERATION -/
  mapGen : Nat := 0
  /-- w96 · R527 · DC1 · WRITTEN -/
  written : NetTime := 0
  /-- per plane, w4 · R512 · M · phases whose results are in force -/
  phases : Tab Nat := []
  /-- 8 × w32 · R527 · R522 · REF words that differ from the factory trims, plus 1 -/
  refs : Tab Nat := []
  /-- 4,352 · R529 · R519 · cell records by image index -/
  cells : Tab CellCal := []
  /-- 9,216 · R530 · R519 · element records by channel -/
  elems : Tab ElemCal := []
  /-- 5,120 · R530 · R519 · monitor records by channel -/
  mons : Tab MonCal := []
  /-- 1,152 · R530 · R519 · group records by link × 144 + group -/
  groups : Tab GroupCal := []
  /-- 9,216 · R530 · R519 · crosstalk records by element channel -/
  xts : Tab XtCal := []
  deriving DecidableEq, Repr

/-- A park table (R120). -/
structure Park where
  /-- w32 · R120 · DC1 · MAP_GENERATION it was made for -/
  mapGen : Nat := 0
  /-- w32 · R120 · DC1 · PARK_GENERATION -/
  gen : Nat := 0
  /-- 9,216 × w20 · R120 · DC1 · park codes -/
  codes : Tab Nat := []
  deriving DecidableEq, Repr

/-- The configuration record (R659). -/
structure Cfg where
  /-- w8 · R429 · R429 · stored role plus 1; 0 blank -/
  role : Nat := 0
  /-- 16 entries · R443 · DC1 · identities bound to device numbers -/
  members : Tab Nat := []
  /-- w1 · R459 · R449 · PROPAGATE -/
  propagate : Bool := true
  /-- w1 · R459 · R449 · ACCEPT -/
  accept : Bool := true
  /-- w32 · R459 · R456 · HOLDOVER_US -/
  holdoverUs : Nat := 100
  /-- w32 · R459 · R456 · MGR_SILENCE_US -/
  silenceUs : Nat := 100
  /-- w32 · R459 · R452 · TUNNEL_TIMEOUT_MS -/
  tunnelMs : Nat := 100
  /-- w8 each · R561 · R541 · severities that differ from the default, plus 1 -/
  severity : Tab Nat := []
  /-- w8 · R561 · R560 · FAULT_N_SEV -/
  faultNSev : Nat := 2
  /-- w1 · R643 · DC1 · AVS ENABLE -/
  avsOn : Bool := false
  /-- w8 · R643 · DC1 · RAIL_ADDR -/
  rail : Nat := 0
  /-- w16 · R643 · R623 · SLACK_MARGIN -/
  slack : Nat := 80
  /-- w16 · R643 · R622 · MIN_MV -/
  minMv : Nat := 550
  /-- w16 · R643 · R622 · MAX_MV -/
  maxMv : Nat := 950
  /-- w16 · R643 · R624 · TIMEOUT_US -/
  toUs : Nat := 2000
  /-- w16 · R643 · R625 · DOWN_HOLD_MS -/
  holdMs : Nat := 1000
  /-- w8 · R645 · R637 · DIE_WARN -/
  dieWarn : Nat := 100
  /-- w8 · R645 · R637 · HBM_WARN -/
  hbmWarn : Nat := 95
  /-- w8 · R645 · R635 · XCHECK -/
  xcheck : Nat := 8
  /-- w1 · R659 · R659 · IMAGE_SELECT: bank B -/
  image : Bool := false
  /-- w7 · R712 · R712 · SMBus address -/
  smb : Nat := 0x5A
  deriving DecidableEq, Repr

/-- A flash bank with its trailer (R524): absent, or SEQ and the image. -/
structure Banks (α : Type) where
  /-- w32 · R524 · DC1 · SEQ of bank A with its image; none when it is not valid -/
  a : Option (Nat × α) := none
  /-- w32 · R524 · DC1 · SEQ of bank B with its image; none when it is not valid -/
  b : Option (Nat × α) := none
  deriving DecidableEq, Repr

/-- A firmware image bank (R662), as bytes. -/
structure FwBank where
  /-- bytes · R662 · DC1 · manifest and payload; empty when erased -/
  data : Bytes := []
  deriving DecidableEq, Repr

/-- A flash write under way (R525, R535, R674). -/
inductive NvmJob where
  /-- cal.store of the working set -/
  | cal (image : Cal)
  /-- sec.fw_update of the bank B (true) or A -/
  | fw (bankB : Bool) (data : Bytes)
  /-- plane.map_load -/
  | map (image : PlaneMap)
  /-- drive.park_load -/
  | park (image : Park)
  deriving DecidableEq, Repr

/-- Non-volatile memory: QSPI flash and the key store (R658, R660). -/
structure Nvm where
  /-- 2 banks · R524 · DC1 · plane map -/
  map : Banks PlaneMap := {}
  /-- 2 banks · R524 · DC1 · park table -/
  park : Banks Park := {}
  /-- 2 banks · R524 · DC1 · calibration image -/
  cal : Banks Cal := {}
  /-- 2 banks · R659 · DC1 · configuration record -/
  cfg : Banks Cfg := {}
  /-- 16 MiB · R658 · DC1 · firmware bank A -/
  fwA : FwBank := {}
  /-- 16 MiB · R658 · DC1 · firmware bank B -/
  fwB : FwBank := {}
  /-- w64 · R660 · DC1 · SECURITY_COUNTER -/
  secCounter : Nat := 0
  /-- 64 bytes · R660 · R660 · OWNER_KEY_HASH; empty stands for zero -/
  ownerHash : Bytes := []
  /-- w2 · R660 · DC1 · LIFECYCLE: 0 OPEN, 1 OWNED, 2 FACTORY -/
  lifecycle : Nat := 0
  /-- bytes · R660 · DC1 · key store: certificate chain, device certificate first -/
  certs : Bytes := []
  /-- w8 · R673 · DC1 · how many certificates the chain holds -/
  certCount : Nat := 0
  /-- list · R525 · DC1 · writes under way -/
  jobs : List NvmJob := []
  deriving DecidableEq, Repr

/-- A commissioning run (R512 to R519). -/
structure CalRun where
  /-- w8 · R531 · DC1 · plane -/
  plane : Nat := 0
  /-- w4 · R531 · DC1 · phases still to run, the one running among them -/
  phases : Nat := 0
  /-- w4 · R531 · DC1 · phases asked for -/
  asked : Nat := 0
  /-- w16 · R531 · R531 · AVG_N -/
  avgN : Nat := 64
  /-- w16 · R531 · R531 · WP_MRAD -/
  wp : Nat := 40
  /-- w16 · R531 · R531 · XTALK_MIN -/
  xtMin : Nat := 33
  /-- - · R519 · DC1 · results so far -/
  work : Cal := {}
  /-- list · R519 · DC1 · cells that failed in the run -/
  failed : List Nat := []
  deriving DecidableEq, Repr

/-- Calibration (chapter 13). -/
structure CalSt where
  /-- - · R526 · R526 · calibration in force; none while CAL_INVALID -/
  cal : Option Cal := none
  /-- w16 · R529 · R531 · WP_MRAD of the calibration in force -/
  wp : Nat := 40
  /-- w1 · R519 · DC1 · UNSAVED -/
  unsaved : Bool := false
  /-- - · R512 · DC1 · run in progress -/
  run : Option CalRun := none
  /-- w1 · R532 · DC1 · background enabled -/
  bg : Bool := false
  /-- w8 · R532 · R532 · background FLAGS -/
  bgFlags : Nat := 7
  /-- w32 · R532 · R532 · OFS_RETRIM -/
  retrim : Nat := 2097
  /-- w16 · R532 · R532 · DRIFT_PERMIL -/
  drift : Nat := 20
  /-- w16 · R520 · DC1 · monitor the background visits -/
  visit : Option Nat := none
  /-- w32 · R533 · R533 · BAD_RECORD -/
  badRecord : Nat := 0xFFFFFFFF
  /-- w1 · R533 · DC1 · bank in use is B -/
  bankB : Bool := false
  /-- 52 lanes · R534 · DC1 · lane records: EYE_MUI -/
  eye : Tab Nat := []
  /-- 52 lanes · R534 · DC1 · lane records: SCANNED -/
  scanned : Tab NetTime := []
  /-- per link · R523 · DC1 · w32 reference words set by cal.ref_trim while no calibration is in force, plus 1 -/
  refs : Tab Nat := []
  deriving DecidableEq, Repr

/-- A lane under test (R590 to R595, R611). -/
structure Lane where
  /-- w5 · R611 · DC1 · USES -/
  uses : Nat := 0
  /-- w1 · R592 · DC1 · LOCKED -/
  locked : Bool := false
  /-- w8 · R611 · DC1 · TX_PATTERN -/
  tx : Nat := 0
  /-- w8 · R611 · DC1 · RX_PATTERN -/
  rx : Nat := 0
  /-- w1 · R608 · DC1 · generator INVERT -/
  txInv : Bool := false
  /-- w1 · R608 · DC1 · checker INVERT -/
  rxInv : Bool := false
  /-- w40 · R608 · DC1 · generator USER -/
  txUser : Nat := 0
  /-- w31 · R591 · DC1 · register of the generator, or its place in the user pattern; none before its first bit -/
  txGen : Option Nat := none
  /-- w40 · R608 · DC1 · checker USER -/
  rxUser : Nat := 0
  /-- w32 · R592 · DC1 · LOCK_LOSSES -/
  losses : Nat := 0
  /-- w64 · R592 · DC1 · BITS -/
  bits : Nat := 0
  /-- w64 · R592 · DC1 · ERRORS -/
  errors : Nat := 0
  /-- w8 signed · R595 · DC1 · LEFT -/
  left : Int := 0
  /-- w8 signed · R595 · DC1 · RIGHT -/
  right : Int := 0
  /-- - · R595 · DC1 · scan under way: (PATTERN mode, ERR_MAX, error counts of the points done, one per eye) -/
  scan : Option (Bool × Nat × List (List Nat)) := none
  /-- w8 · R609 · DC1 · DWELL_LOG2 of the scan -/
  dwell : Nat := 20
  /-- w1 · R593, R594 · DC1 · out of service for a test session -/
  test : Bool := false
  /-- time · R592 · M · elapsed time up to which BITS stands, while LOCKED -/
  lockAt : NetTime := 0
  deriving DecidableEq, Repr

/-- A BIST target (R596, R610). -/
structure Bist where
  /-- w8 · R610 · R610 · STATE -/
  st : Nat := 0
  /-- w32 · R610 · DC1 · FAILS -/
  fails : Nat := 0
  /-- w64 · R610 · DC1 · FIRST_FAIL -/
  first : Nat := 0
  /-- w96 · R610 · DC1 · DONE_AT -/
  at' : NetTime := 0
  deriving DecidableEq, Repr

/-- A loupe ring (R598 to R603). -/
structure Ring where
  /-- w8 · R599 · DC1 · MODE -/
  mode : Nat := 0
  /-- w1 · R599 · DC1 · FULL -/
  full : Bool := false
  /-- w1 · R599 · DC1 · FROZEN -/
  frozen : Bool := false
  /-- w16 · R599 · DC1 · TYPES -/
  types : Nat := 0
  /-- w32 · R599 · DC1 · BASE_MIB -/
  base : Nat := 0
  /-- w32 · R599 · DC1 · SIZE_MIB -/
  size : Nat := 0
  /-- w64 · R599 · DC1 · WRITE_POS -/
  pos : Nat := 0
  /-- w64 · R599 · DC1 · LOST -/
  lost : Nat := 0
  /-- w32 · R603 · DC1 · records lost since the last LOST record -/
  lostRun : Nat := 0
  /-- w96 · R599 · DC1 · FROZEN_AT -/
  frozenAt : NetTime := 0
  /-- time · R600 · DC1 · time of the latest TIME_BASE record; none before the first -/
  base0 : Option NetTime := none
  /-- w32 · R599 · DC1 · SEQ of its directory entry -/
  dirSeq : Nat := 0
  deriving DecidableEq, Repr

/-- A record staged for the loupe (R603): type, X, content after the header, time. -/
structure LRec where
  /-- w8 · R601 · DC1 · TYPE -/
  type : Nat := 0
  /-- w16 · R601 · DC1 · X -/
  x : Nat := 0
  /-- bytes · R601 · DC1 · content after the 8-byte header -/
  body : Bytes := []
  /-- w96 · R600 · DC1 · time of the record -/
  time : NetTime := 0
  deriving DecidableEq, Repr

/-- A loupe source (R602, R613). -/
structure LSrc where
  /-- w1 · R613 · R692 · ENABLE -/
  on : Bool := false
  /-- w16 · R613 · DC1 · DIV -/
  div : Nat := 1
  /-- w16 · R613 · DC1 · FIRST -/
  first : Nat := 0
  /-- w16 · R613 · DC1 · COUNT -/
  count : Nat := 0
  deriving DecidableEq, Repr

/-- A loupe freeze that is armed or running (R616). -/
structure Freeze where
  /-- w32 · R616 · DC1 · RINGS -/
  rings : Nat := 0
  /-- w8 · R616 · DC1 · TRIGGER: 1 event, 2 time -/
  trigger : Nat := 0
  /-- w16 · R616 · DC1 · EVENT -/
  event : Nat := 0
  /-- w32 · R616 · DC1 · POST_US -/
  postUs : Nat := 0
  /-- w96 · R616 · DC1 · AT -/
  at' : NetTime := 0
  /-- time · R616 · DC1 · elapsed time at which recording stops, once triggered -/
  stop : Option NetTime := none
  deriving DecidableEq, Repr

/-- The loupe (R598 to R604). -/
structure Loupe where
  /-- 32 rings · R598 · DC1 · rings -/
  rings : Tab Ring := []
  /-- by type · R602 · R692 · sources -/
  srcs : Tab LSrc := []
  /-- LOUPE_GIB · R598 · DC1 · bytes of the loupe region other than 0 -/
  mem : List Host.Cell := []
  /-- 4 MiB · R603 · DC1 · records staged, oldest first -/
  staged : List LRec := []
  /-- bytes · R603 · DC1 · bytes in staging -/
  used : Nat := 0
  /-- w32 · R603 · DC1 · records lost in staging, by type -/
  lost : Tab Nat := []
  /-- time · R603 · DC1 · elapsed time of the last LOUPE_OVERFLOW -/
  ovfAt : Option NetTime := none
  /-- list · R616 · DC1 · freezes armed or running -/
  freezes : List Freeze := []
  deriving DecidableEq, Repr

/-- A temperature sensor (R634, R635). -/
structure Sensor where
  /-- w16 signed · R645 · DC1 · READING in 1/64 °C; none before the first -/
  val : Option Int := none
  /-- w1 · R635 · DC1 · SUSPECT -/
  suspect : Bool := false
  /-- w2 · R635 · DC1 · consecutive checks beyond XCHECK -/
  bad : Nat := 0
  /-- time · R635 · DC1 · elapsed time since which its checks lie within XCHECK / 2 -/
  okSince : Option NetTime := none
  /-- w16 signed · R645 · DC1 · REFERENCE of the latest check -/
  ref : Option Int := none
  deriving DecidableEq, Repr

/-- A plane temperature regulator (R639, R640, R646). -/
structure PlaneTemp where
  /-- w3 · R640 · R640 · 0 OFF, 1 WARMING, 2 SETTLED, 3 SATURATED, 4 BLIND -/
  st : Nat := 0
  /-- w16 · R646 · DC1 · T_SET_CC set by command; 0x8000 takes the descriptor -/
  tSet : Nat := 0x8000
  /-- w32 · R646 · R646 · KP, mW per °C -/
  kp : Nat := 500
  /-- w32 · R646 · R646 · KI, uW per °C per tick -/
  ki : Nat := 1000
  /-- w16 · R646 · R646 · SETTLE_BAND_MC -/
  band : Nat := 100
  /-- signed · R639 · DC1 · integ in uW/6400 -/
  integ : Int := 0
  /-- signed · R646 · DC1 · output in uW/6400 -/
  out : Int := 0
  /-- w16 signed · R646 · DC1 · T_MEAS in 1/64 °C; none without a valid sensor -/
  meas : Option Int := none
  /-- w8 · R646 · DC1 · SENSORS -/
  sensors : Nat := 0
  /-- time · R640 · DC1 · elapsed time since which the error lies in the band -/
  inBand : Option NetTime := none
  /-- time · R640 · DC1 · elapsed time since which the output is at 0 or full -/
  satSince : Option NetTime := none
  /-- time · R646 · DC1 · elapsed time of the latest entry into SETTLED -/
  settledAt : NetTime := 0
  deriving DecidableEq, Repr

/-- Power, clocks and temperature (chapter 17). -/
structure Pwr where
  /-- w2 · R642 · DC1 · AVS_STATE: 0 OFF, 1 ON, 2 ECO -/
  avs : Nat := 0
  /-- w8 · R643 · DC1 · RAIL_ADDR -/
  rail : Nat := 0
  /-- w16 · R643 · R623 · SLACK_MARGIN -/
  slackMargin : Nat := 80
  /-- w16 · R643 · R622 · MIN_MV -/
  minMv : Nat := 550
  /-- w16 · R643 · R622 · MAX_MV -/
  maxMv : Nat := 950
  /-- w16 · R643 · R624 · TIMEOUT_US -/
  toUs : Nat := 2000
  /-- w16 · R643 · R625 · DOWN_HOLD_MS -/
  holdMs : Nat := 1000
  /-- w16 · R642 · DC1 · last confirmed request in mV -/
  req : Nat := 800
  /-- w16 · R642 · R679 · on-die VCORE reading in mV -/
  meas : Nat := 800
  /-- - · R624 · DC1 · raise under way: requested mV and elapsed time of its timeout -/
  raise : Option (Nat × NetTime) := none
  /-- list · R624 · DC1 · commands that wait for the raise: opcode and request, oldest first -/
  waiting : List (Nat × Req) := []
  /-- w1 · R642 · DC1 · LOWERING -/
  lowering : Bool := false
  /-- w16 · R625 · DC1 · mV of the lowering step that awaits its confirmation -/
  step : Option Nat := none
  /-- time · R625 · DC1 · elapsed time of the latest lowering step -/
  stepAt : NetTime := 0
  /-- time · R625 · DC1 · elapsed time since which the floor lies below the request -/
  below : Option NetTime := none
  /-- 8 × w16 · R642 · DC1 · RAIL_MV -/
  rails : List Nat := []
  /-- list · R632 · DC1 · rails whose latest sample lay outside -/
  railOut : List Nat := []
  /-- 13 × w16 signed · R621 · DC1 · slack of each pace monitor in 0.1 % -/
  slack : List Int := []
  /-- w32 · R642 · DC1 · DIE_POWER_MW -/
  dieMw : Nat := 0
  /-- w32 · R642 · DC1 · HBM_POWER_MW -/
  hbmMw : Nat := 0
  /-- w32 · R642 · DC1 · RAISES -/
  raises : Nat := 0
  /-- w32 · R642 · DC1 · PACE_LOW -/
  paceLow : Nat := 0
  /-- 60 · R634 · DC1 · sensors -/
  sensors : Tab Sensor := []
  /-- w8 · R645 · R637 · DIE_WARN -/
  dieWarn : Nat := 100
  /-- w8 · R645 · R637 · HBM_WARN -/
  hbmWarn : Nat := 95
  /-- w8 · R645 · R635 · XCHECK -/
  xcheck : Nat := 8
  /-- w1 · R637 · DC1 · the trip condition of R551 holds -/
  trip : Bool := false
  /-- w1 · R637 · DC1 · the analogue trip holds -/
  anaTrip : Bool := false
  /-- 3 circuits · R638 · DC1 · temperature of the last correction, plus 65,536 -/
  comp : Tab Nat := []
  /-- 3 circuits · R638 · DC1 · circuits whose correction is held -/
  compHeld : List Nat := []
  /-- 2 planes · R640 · R640 · plane temperature regulators -/
  planes : Tab PlaneTemp := []
  /-- time · R655 · DC1 · elapsed time of the latest patrol scrub -/
  scrubAt : NetTime := 0
  deriving DecidableEq, Repr

/-- What a snapshot copies (R605): the originals as they stood when the strobe arrived. -/
structure SnapCopy where
  /-- 5,120 · R605 · DC1 · accumulators and trackers -/
  mons : Tab Mon := []
  /-- 8 · R605 · DC1 · sense counters -/
  senses : Tab SenseLink := []
  /-- 8 · R605 · DC1 · drive counters -/
  links : Tab Link := []
  /-- 256 · R605 · DC1 · loop engine counters -/
  engines : Tab Engine := []
  /-- 2 · R605 · DC1 · facet counters -/
  planes : Tab Plane := []
  /-- slots · R605 · DC1 · facet library -/
  lib : Tab Slot := []
  /-- - · R605 · DC1 · chains, scheduler and sampler -/
  sched : Sched := {}
  /-- - · R605 · DC1 · endpoint counters -/
  eps : Eps := {}
  /-- - · R605 · DC1 · relay counters -/
  relay : Relay := {}
  /-- 2 · R605 · DC1 · pools -/
  pools : Tab Pool := []
  /-- - · R605 · DC1 · clasp counters -/
  dom : Dom := {}
  /-- 52 · R605 · DC1 · lanes -/
  lanes : Tab Lane := []
  /-- - · R605 · DC1 · lane records -/
  cal : CalSt := {}
  /-- - · R605 · DC1 · supply, which SLOT_MIN follows -/
  pwr : Pwr := {}
  /-- - · R605 · DC1 · time of the copy -/
  time : Time := {}
  /-- counter · - · M · first of the free values reserved for the copy's records -/
  free : Nat := 0
  deriving DecidableEq, Repr

/-- A snapshot bank (R607, R618). -/
structure SnapBank where
  /-- w2 · R607 · R607 · 0 FREE, 1 ARMED, 2 TAKEN -/
  st : Nat := 0
  /-- w8 · R618 · DC1 · SCOPE -/
  domain : Bool := false
  /-- w96 · R618 · DC1 · T -/
  t : NetTime := 0
  /-- 16 × w8 · R618 · DC1 · device bytes, plus 1; 0xFF is not listed -/
  devs : Tab Nat := []
  /-- - · R605 · DC1 · the copy -/
  copy : SnapCopy := {}
  deriving DecidableEq, Repr

/-- Secure boot, lifecycle and authorisation (chapter 18). -/
structure Sec where
  /-- w1 · R664 · DC1 · bank B runs -/
  bankB : Bool := false
  /-- w1 · R664 · R665 · an image runs -/
  running : Bool := false
  /-- w32 · R473 · R473 · FW_VERSION shown -/
  version : Nat := 0
  /-- w32 · R670 · DC1 · SECURITY_VERSION of the running image -/
  secVersion : Nat := 0
  /-- 64 bytes · R670 · DC1 · PAYLOAD_HASH of the running image -/
  fwHash : Bytes := []
  /-- 16 bytes · R651 · DC1 · BUS_SLICE_MAP -/
  slices : Bytes := []
  /-- w1 · R649 · R649 · REMAP -/
  remap : Bool := false
  /-- w8 · R649 · R649 · processors out of reset -/
  procs : BitVec 8 := 0
  /-- w1 · R664 · DC1 · the bank booted is not the one selected -/
  fallback : Bool := false
  /-- 32 bytes · R668 · DC1 · CHALLENGE outstanding -/
  challenge : Option Bytes := none
  /-- w32 · R669 · DC1 · PERMS of the accepted token -/
  token : Option Nat := none
  /-- w1 · R661 · DC1 · a locket check failed -/
  locketBad : Bool := false
  /-- w8 · R597 · R715 · boundary-scan instruction: 0 Test-Logic-Reset -/
  jtag : Nat := 0
  deriving DecidableEq, Repr

/-- A HOST lease (R575 to R586). -/
structure Lease where
  /-- w32 · R586 · DC1 · LEASE_ID -/
  id : Nat := 0
  /-- w8 · R586 · DC1 · CLASS -/
  cls : Nat := 0
  /-- w8 · R586 · DC1 · USE -/
  use : Nat := 0
  /-- w8 · R589 · DC1 · MAILBOX -/
  mbox : Nat := 0xFF
  /-- w16 · R586 · DC1 · FIRST -/
  first : Nat := 0
  /-- w16 · R586 · DC1 · COUNT -/
  count : Nat := 0
  /-- time · R584 · DC1 · elapsed time at which it expires -/
  due : NetTime := 0
  deriving DecidableEq, Repr

/-- Device-level state (chapters 18 and 19). -/
structure Sys where
  /-- w8 · R473 · R473 · STATE -/
  st : Nat := 1
  /-- w1 · R680 · DC1 · PORST_N low -/
  porst : Bool := true
  /-- w1 · R683 · DC1 · in the sequence of a warm reset -/
  warm : Bool := false
  /-- w2 · R428 · DC1 · ROLE strap as sampled -/
  strap : Nat := 3
  /-- w2 · R473 · R473 · ROLE: 0 STANDALONE, 1 MANAGER, 2 WORKER, 3 unresolved -/
  role : Nat := 3
  /-- w1 · R665 · DC1 · in recovery -/
  recovery : Bool := false
  /-- w1 · R680 · DC1 · TEST_MODE as followed -/
  testMode : Bool := false
  /-- - · R41 · R41 · plane map in force -/
  map : Option PlaneMap := none
  /-- - · R121 · R121 · park table in force -/
  park : Option Park := none
  /-- w1 · R659 · DC1 · configuration record in force -/
  cfg : Cfg := {}
  /-- time · R502 · DC1 · elapsed time at the release of PORST_N -/
  upAt : NetTime := 0
  /-- time · R683 · M · elapsed time at which LINKING began -/
  phaseAt : NetTime := 0
  /-- w1 · R693 · DC1 · shut down -/
  shutdown : Bool := false
  /-- w1 · R693 · DC1 · the shutdown ramp has ended -/
  shutDone : Bool := false
  /-- w1 · R710 · DC1 · REFCLK absent -/
  refclkBad : Bool := false
  /-- w1 · R541 · DC1 · DPLL unlocked -/
  dpllBad : Bool := false
  /-- w1 · R712 · DC1 · SMB_ALERT_N driven low -/
  smbAlert : Bool := false
  deriving DecidableEq, Repr

/-- Output pins whose level the model holds (R474, R690, R637). -/
structure Pins where
  /-- w8 · R474 · R474 · LIGHT_EN -/
  light : BitVec 8 := 0
  /-- w8 · R690 · R690 · BZ_RST_N -/
  bz : BitVec 8 := 0
  /-- w1 · R637 · DC1 · THERMTRIP_N driven low -/
  therm : Bool := false
  /-- w1 · R597 · DC1 · boundary scan has taken the pins -/
  scan : Bool := false
  deriving DecidableEq, Repr

/-- What leaves the device: the model's own record of it (log entry 8, DESIGN CHOICE). -/
inductive Output where
  /-- an MSI-X message of a vector (R481) -/
  | msix (vector : Nat)
  /-- bytes written to host memory -/
  | dma (addr : Nat) (data : Bytes)
  /-- a frame sent on an Ethernet link (port × 2 + link), without its FCS -/
  | eth (link : Nat) (data : Bytes) (stomped : Bool)
  /-- a PFC frame sent: link, class mask, XOFF -/
  | pfc (link classes : Nat) (xoff : Bool)
  /-- the CELL units of a frame sent on a clasp port, west when `west`, in order (R437, R438) -/
  | cells (west : Bool) (units : List Bytes)
  /-- a CTRL unit sent on a clasp port (R437) -/
  | ctrl (west : Bool) (unit : Bytes)
  /-- an AVSBus voltage write in mV -/
  | avs (mv : Nat)
  /-- the answer to an SMBus read; none is a NACK -/
  | smb (data : Option Bytes)
  /-- the three down-lane frames of a link, as numbers of 1,125 bits -/
  | down (link : Nat) (l0 l1 l2 : Nat)
  /-- the two up-lane frames that a bezel sends, as numbers of 1,125 bits (R62, R63) -/
  | up (link : Nat) (l3 l4 : Nat)
  /-- bytes given to the firmware's own stack or to a mirror writer on port HUB -/
  | hub (data : Bytes)
  /-- VREF_OUT of a link, in units of 1 V / 5,120,000,000, of which 50 μV and the step of the temperature term are whole numbers (R522) -/
  | vref (link : Nat) (level : Int)
  /-- the device identification register, selected for the JTAG data path (R597) -/
  | idcode (value : Nat)
  deriving DecidableEq, Repr

end Sys2Proof.Machine
end

