-- ==== Sys2Proof/Machine/State.lean ====
section
/-! DEFINITION. The state of the KV512, with the queue of the steps that are waiting. Plain data.
Comments as in Types.lean. -/

namespace Sys2Proof.Machine

/-- Why a step stops with a fault. -/
inductive Fault where
  /-- Raised by a step whose operand names a link, lane, channel, context, plane, port, bank or sensor
  that the device does not have (R10, R590, R634 ...). Safe: no such event can happen. -/
  | noSuchUnit
  deriving DecidableEq, Repr

/-- Why a step is refused. -/
inductive Refusal where
  /-- A row of the opcode table without a meaning yet. Safe. -/
  | notModelled (mnemonic : String)
  deriving DecidableEq, Repr

/-- The whole machine. -/
structure State where
  /-- list · R486 · M · steps that are waiting, first in first out -/
  pending : List Instr := []
  /-- counter · - · M · free values drawn so far (log entry 2, DESIGN CHOICE) -/
  free : Nat := 0
  /-- list · - · M · what has left the device, newest first (log entry 8, DESIGN CHOICE) -/
  out : List Output := []
  /-- - · R346 · R347 · timekeeper and everything timed by it -/
  time : Time := {}
  /-- - · R683 · R473 · device-level state -/
  sys : Sys := {}
  /-- - · R690 · R690 · output pins -/
  pins : Pins := {}
  /-- - · R474 · R474 · EMERGENCY block -/
  em : Emergency := {}
  /-- - · R538 · R541 · faults -/
  flt : Faults := {}
  /-- - · R478 · R478 · EVENTS block and event log -/
  ev : Events := {}
  /-- - · R469 · R473 · other registers of the PCIe function and BAR0 -/
  hi : HostIf := {}
  /-- 16 · R484 · R484 · mailboxes -/
  mboxes : Tab Mbox := []
  /-- 8 · R48 · R505 · bezel links -/
  links : Tab Link := []
  /-- 8 · R161 · R161 · reference outputs and sense counters, by link -/
  senses : Tab SenseLink := []
  /-- 8 · R48 · R68 · bezels -/
  bezels : Tab Bezel := []
  /-- 9,216 · R93 · R113 · drive paths -/
  drives : Tab Drive := []
  /-- per plane, kind and set · R105 · R105 · slew sets -/
  slews : Tab Slew := []
  /-- 5,120 · R143 · R68 · monitor channels -/
  mons : Tab Mon := []
  /-- 9,216 · R207 · R207 · loop contexts -/
  ctxs : Tab Ctx := []
  /-- 256 · R219 · DC1 · loop engine counters -/
  engines : Tab Engine := []
  /-- list · R195 · DC1 · bank swaps under way, by their number -/
  swaps : Tab SwapGrp := []
  /-- w32 · R195 · M · number of the next bank swap -/
  swapId : Nat := 0
  /-- 1,024 × 96 words · R187 · R187 · gain tables that are loaded: E, KP and KI of 32 breakpoints -/
  tables : Tab (List Nat) := []
  /-- 2 · R264 · R264 · planes -/
  planes : Tab Plane := []
  /-- slots · R231 · DC1 · facet library, by plane × 65,536 + slot -/
  lib : Tab Slot := []
  /-- w32 · R257 · DC1 · LAUNCH_ID of the next launch -/
  launchId : Nat := 1
  /-- - · R283 · R283 · scheduler -/
  sched : Sched := {}
  /-- - · R341 · R341 · endpoint protocol -/
  eps : Eps := {}
  /-- - · R380 · R387 · relay -/
  relay : Relay := {}
  /-- 2 · R410 · R410 · buffer pools -/
  pools : Tab Pool := []
  /-- - · R428 · R473 · domain and ring -/
  dom : Dom := {}
  /-- - · R510 · R526 · calibration -/
  cal : CalSt := {}
  /-- 52 · R590 · DC1 · lanes -/
  lanes : Tab Lane := []
  /-- 11 · R596 · R610 · BIST targets -/
  bists : Tab Bist := []
  /-- - · R598 · DC1 · loupe -/
  loupe : Loupe := {}
  /-- 2 · R607 · R607 · snapshot banks -/
  snaps : Tab SnapBank := []
  /-- - · R658 · DC1 · flash and key store -/
  nvm : Nvm := {}
  /-- - · R622 · R622 · power and temperature -/
  pwr : Pwr := {}
  /-- - · R664 · R665 · secure boot and lifecycle -/
  sec : Sec := {}
  /-- up to 256 · R586 · R692 · HOST leases, ascending LEASE_ID -/
  leases : List Lease := []
  /-- list · R579 · R692 · implicit leases -/
  implicits : List Lease := []
  /-- w32 · R586 · DC1 · LEASE_ID of the next lease -/
  leaseId : Nat := 1
  deriving DecidableEq, Repr

/-- The machine with PORST_N low and its flash blank: state RESET of R683, every field at the value of its
comment (log entries 1 and 10). -/
def State.reset : State := {}

end Sys2Proof.Machine
end

