-- ==== Sys2Proof/Machine/Ops.lean ====
section
/-! DEFINITION. The named operations over tables, bytes, times, registers and outputs that every family
uses. -/

namespace Sys2Proof.Machine

/-! ### Sparse tables -/

/-- The entry of key `k`, or the default `d`. -/
def tget {α : Type} (d : α) : Tab α → Nat → α
  | [], _ => d
  | (i, v) :: t, k => if i = k then v else if k < i then d else tget d t k

/-- The table with key `k` removed. -/
def tdel {α : Type} : Tab α → Nat → Tab α
  | [], _ => []
  | (i, v) :: t, k => if i = k then t else if k < i then (i, v) :: t else (i, v) :: tdel t k

/-- The table with `v` at key `k`, whatever the default is. -/
def tput {α : Type} : Tab α → Nat → α → Tab α
  | [], k, v => [(k, v)]
  | (i, w) :: t, k, v =>
    if i = k then (k, v) :: t else if k < i then (k, v) :: (i, w) :: t else (i, w) :: tput t k v

/-- The table with `v` at key `k`; an entry equal to the default is not kept. -/
def tset {α : Type} [DecidableEq α] (d : α) (t : Tab α) (k : Nat) (v : α) : Tab α :=
  if v = d then tdel t k else tput t k v

/-- The entry of key `k`, if one is listed. -/
def tfind {α : Type} : Tab α → Nat → Option α
  | [], _ => none
  | (i, v) :: t, k => if i = k then some v else if k < i then none else tfind t k

/-- The table with one added to the counter at key `k`, wrapping at 2^32. -/
def tinc (t : Tab Nat) (k : Nat) : Tab Nat := tset 0 t k ((tget 0 t k + 1) % 2 ^ 32)

/-- Every listed entry changed by its key; entries that become the default are not kept. -/
def tmap {α : Type} [DecidableEq α] (d : α) (f : Nat → α → α) (t : Tab α) : Tab α :=
  (t.map (fun e => (e.1, f e.1 e.2))).filter (fun e => e.2 ≠ d)

/-- The canonical form: keys strictly rising, no entry equal to the default. -/
def Tab.wf {α : Type} [DecidableEq α] (d : α) : Tab α → Bool
  | [] => true
  | [(_, v)] => v ≠ d
  | (i, v) :: (j, w) :: t => decide (i < j) && decide (v ≠ d) && Tab.wf d ((j, w) :: t)

/-- Insert into an ascending list without repeats. -/
def insertAsc (x : Nat) : List Nat → List Nat
  | [] => [x]
  | y :: t => if x = y then y :: t else if x < y then x :: y :: t else y :: insertAsc x t

/-- The first `n` numbers from `a`. -/
def range' (a n : Nat) : List Nat := (List.range n).map (a + ·)

/-- Fold a state over a list. -/
def each {α σ : Type} (l : List α) (s : σ) (f : α → σ → σ) : σ := l.foldl (fun s x => f x s) s

/-- Push onto a log of at most `n` records, oldest first, counting what is lost. -/
def pushLog {α : Type} (n : Nat) (log : List α) (lost : Nat) (x : α) : List α × Nat :=
  if log.length < n then (log ++ [x], lost)
  else (log.drop (log.length + 1 - n) ++ [x], (lost + 1) % 65536)

/-! ### Bytes and fields (R7, R8) -/

/-- `v` in `n` bytes, little-endian. -/
def le : Nat → Nat → Bytes
  | 0, _ => []
  | n + 1, v => BitVec.ofNat 8 v :: le n (v / 256)

/-- `v` in `n` bytes, big-endian. -/
def be (n v : Nat) : Bytes := (le n v).reverse

/-- The little-endian number of a byte list. -/
def unle : Bytes → Nat
  | [] => 0
  | b :: t => b.toNat + 256 * unle t

/-- `n` bytes of `p` from offset `o`; bytes past the end are 0. -/
def slice (p : Bytes) (o n : Nat) : Bytes :=
  let q := (p.drop o).take n
  q ++ List.replicate (n - q.length) 0

/-- The little-endian field of `n` bytes at offset `o`. -/
def fld (p : Bytes) (o n : Nat) : Nat := unle (slice p o n)

/-- The big-endian field of `n` bytes at offset `o`. -/
def fldBe (p : Bytes) (o n : Nat) : Nat := unle (slice p o n).reverse

/-- Bit `i` of a number. -/
def bit (v i : Nat) : Bool := v.testBit i

/-- Bits `hi` down to `lo` of a number. -/
def bits (v hi lo : Nat) : Nat := v / 2 ^ lo % 2 ^ (hi + 1 - lo)

/-- A Bool as a bit. -/
def b1 (b : Bool) : Nat := if b then 1 else 0

/-- The two's complement value of an `n`-bit field (R8). -/
def sgn (n v : Nat) : Int :=
  if v % 2 ^ n < 2 ^ (n - 1) then (v % 2 ^ n : Nat) else ((v % 2 ^ n : Nat) : Int) - (2 ^ n : Nat)

/-- A number as an `n`-bit two's complement field. -/
def uns (n : Nat) (i : Int) : Nat := (i % (2 ^ n : Nat)).toNat

/-- Clamp into `[lo, hi]`. -/
def clampI (x lo hi : Int) : Int := if x < lo then lo else if hi < x then hi else x

/-- Clamp a number to at most `hi`, and to at least `lo`. -/
def clampN (x lo hi : Nat) : Nat := if x < lo then lo else if hi < x then hi else x

/-- Saturate at the largest `n`-bit value. -/
def sat (n v : Nat) : Nat := min v (2 ^ n - 1)

/-- Quotient rounded to nearest, halves away from zero. -/
def divRound (a : Int) (b : Nat) : Int :=
  if a < 0 then -((-a * 2 + b) / (2 * b)) else (a * 2 + b) / (2 * b)

/-- Quotient rounded up. -/
def ceilDiv (a b : Nat) : Nat := (a + b - 1) / b

/-- `a` is later than `b` in `n`-bit serial arithmetic (R720). -/
def serialLater (n a b : Nat) : Bool :=
  let d := (a + 2 ^ n - b % 2 ^ n) % 2 ^ n
  decide (1 ≤ d) && decide (d ≤ 2 ^ (n - 1) - 1)

/-- `a` is not earlier than `b` (R720). -/
def serialNotEarlier (n a b : Nat) : Bool := a % 2 ^ n == b % 2 ^ n || serialLater n a b

/-! ### Checksums -/

/-- One bit step of a reflected CRC-32C. -/
def crc32cStep (c : Nat) : Nat := if bit c 0 then (c / 2) ^^^ 0x82F63B78 else c / 2

/-- CRC-32C of a byte list (R437: 0x1EDC_6F41 reflected, initial and final 0xFFFF_FFFF). -/
def crc32c (p : Bytes) : Nat :=
  (p.foldl (fun c b => (List.range 8).foldl (fun c _ => crc32cStep c) (c ^^^ b.toNat)) 0xFFFFFFFF)
    ^^^ 0xFFFFFFFF

/-- One bit step of CRC-64 ECMA-182. -/
def crc64Step (c : Nat) : Nat :=
  if bit c 63 then (c * 2 % 2 ^ 64) ^^^ 0x42F0E1EBA9EA3693 else c * 2 % 2 ^ 64

/-- CRC-64 as in ECMA-182, initial value 0, no reflection, no final XOR (R234). -/
def crc64 (p : Bytes) : Nat :=
  p.foldl (fun c b => (List.range 8).foldl (fun c _ => crc64Step c) (c ^^^ (b.toNat * 2 ^ 56))) 0

/-! ### Network times (R346) -/

/-- Seconds, nanoseconds and fraction of a time, in the 12-byte form, little-endian. -/
def timeLe (t : NetTime) : Bytes :=
  le 6 (t / oneSecond) ++ le 4 (t / 65536 % 1000000000) ++ le 2 (t % 65536)

/-- The 12-byte form, big-endian parts (R317). -/
def timeBe (t : NetTime) : Bytes :=
  be 6 (t / oneSecond) ++ be 4 (t / 65536 % 1000000000) ++ be 2 (t % 65536)

/-- The time of three parts. -/
def timeOf (sec nanos frac : Nat) : NetTime := sec * oneSecond + nanos * 65536 + frac

/-- The time in the 12-byte form at offset `o`. -/
def timeAt (p : Bytes) (o : Nat) : NetTime := timeOf (fld p o 6) (fld p (o + 6) 4) (fld p (o + 10) 2)

/-- Its NANOSECONDS part is in range (R346). -/
def timeOk (p : Bytes) (o : Nat) : Bool := decide (fld p (o + 6) 4 < 1000000000)

/-- The next multiple of `g` at or after `t`. -/
def ceilTo (t g : Nat) : Nat := ceilDiv t g * g

/-- The next instant `base + k * g` at or after `t`. -/
def ceilGrid (t base g : Nat) : Nat := if t ≤ base then base else base + ceilDiv (t - base) g * g

/-! ### Accessors: one home for each table -/

/-- Bezel link `l`, as the KV512 holds it. -/
def State.link (s : State) (l : Nat) : Link := tget {} s.links l
/-- Change bezel link `l`. -/
def State.updLink (s : State) (l : Nat) (f : Link → Link) : State :=
  { s with links := tset {} s.links l (f (s.link l)) }
/-- Reference output and sense counters of link `l`. -/
def State.sense (s : State) (l : Nat) : SenseLink := tget {} s.senses l
/-- Change the reference output and sense counters of link `l`. -/
def State.updSense (s : State) (l : Nat) (f : SenseLink → SenseLink) : State :=
  { s with senses := tset {} s.senses l (f (s.sense l)) }
/-- The bezel on link `l`. -/
def State.bezel (s : State) (l : Nat) : Bezel := tget {} s.bezels l
/-- Change the bezel on link `l`. -/
def State.updBezel (s : State) (l : Nat) (f : Bezel → Bezel) : State :=
  { s with bezels := tset {} s.bezels l (f (s.bezel l)) }
/-- Drive path of element channel `c`. -/
def State.drive (s : State) (c : Nat) : Drive := tget {} s.drives c
/-- Change the drive path of element channel `c`. -/
def State.updDrive (s : State) (c : Nat) (f : Drive → Drive) : State :=
  { s with drives := tset {} s.drives c (f (s.drive c)) }
/-- Monitor channel `m`. -/
def State.mon (s : State) (m : Nat) : Mon := tget {} s.mons m
/-- Change monitor channel `m`. -/
def State.updMon (s : State) (m : Nat) (f : Mon → Mon) : State :=
  { s with mons := tset {} s.mons m (f (s.mon m)) }
/-- Loop context `c`. -/
def State.ctx (s : State) (c : Nat) : Ctx := tget {} s.ctxs c
/-- Change loop context `c`. -/
def State.updCtx (s : State) (c : Nat) (f : Ctx → Ctx) : State :=
  { s with ctxs := tset {} s.ctxs c (f (s.ctx c)) }
/-- Counters of loop engine `e`. -/
def State.engine (s : State) (e : Nat) : Engine := tget {} s.engines e
/-- Change the counters of loop engine `e`. -/
def State.updEngine (s : State) (e : Nat) (f : Engine → Engine) : State :=
  { s with engines := tset {} s.engines e (f (s.engine e)) }
/-- Plane `p`. -/
def State.plane (s : State) (p : Nat) : Plane := tget {} s.planes p
/-- Change plane `p`. -/
def State.updPlane (s : State) (p : Nat) (f : Plane → Plane) : State :=
  { s with planes := tset {} s.planes p (f (s.plane p)) }
/-- Library slot `n` of plane `p`. -/
def State.slot (s : State) (p n : Nat) : Slot := tget {} s.lib (p * 65536 + n)
/-- Change library slot `n` of plane `p`. -/
def State.updSlot (s : State) (p n : Nat) (f : Slot → Slot) : State :=
  { s with lib := tset {} s.lib (p * 65536 + n) (f (s.slot p n)) }
/-- Mailbox `m`. -/
def State.mbox (s : State) (m : Nat) : Mbox := tget {} s.mboxes m
/-- Change mailbox `m`. -/
def State.updMbox (s : State) (m : Nat) (f : Mbox → Mbox) : State :=
  { s with mboxes := tset {} s.mboxes m (f (s.mbox m)) }
/-- Lane `n` of R590. -/
def State.lane (s : State) (n : Nat) : Lane := tget {} s.lanes n
/-- Change lane `n`. -/
def State.updLane (s : State) (n : Nat) (f : Lane → Lane) : State :=
  { s with lanes := tset {} s.lanes n (f (s.lane n)) }
/-- Shadow bank `b`. -/
def State.snap (s : State) (b : Nat) : SnapBank := tget {} s.snaps b
/-- Change shadow bank `b`. -/
def State.updSnap (s : State) (b : Nat) (f : SnapBank → SnapBank) : State :=
  { s with snaps := tset {} s.snaps b (f (s.snap b)) }
/-- The manager's view of DPLANE `d`. -/
def State.dplane (s : State) (d : Nat) : DPlane := tget {} s.sched.dplanes d
/-- Change the manager's view of DPLANE `d`. -/
def State.updDplane (s : State) (d : Nat) (f : DPlane → DPlane) : State :=
  { s with sched := { s.sched with dplanes := tset {} s.sched.dplanes d (f (s.dplane d)) } }
/-- Chain state of DPLANE `d`. -/
def State.chainPlane (s : State) (d : Nat) : ChainPlane := tget {} s.sched.chainPlanes d
/-- Change the chain state of DPLANE `d`. -/
def State.updChainPlane (s : State) (d : Nat) (f : ChainPlane → ChainPlane) : State :=
  { s with sched := { s.sched with chainPlanes := tset {} s.sched.chainPlanes d (f (s.chainPlane d)) } }
/-- Endpoint `e`. -/
def State.ep (s : State) (e : Nat) : Endpoint := tget {} s.eps.tab e
/-- Change endpoint `e`. -/
def State.updEp (s : State) (e : Nat) (f : Endpoint → Endpoint) : State :=
  { s with eps := { s.eps with tab := tset {} s.eps.tab e (f (s.ep e)) } }
/-- Demand context `i` (R280). -/
def State.demand (s : State) (i : Nat) : Demand := tget {} s.sched.demand i
/-- Change demand context `i`. -/
def State.updDemand (s : State) (i : Nat) (f : Demand → Demand) : State :=
  { s with sched := { s.sched with demand := tset {} s.sched.demand i (f (s.demand i)) } }
/-- Relay link `k` = port × 2 + link. -/
def State.rlink (s : State) (k : Nat) : RLink := tget {} s.relay.links k
/-- Change relay link `k`. -/
def State.updRlink (s : State) (k : Nat) (f : RLink → RLink) : State :=
  { s with relay := { s.relay with links := tset {} s.relay.links k (f (s.rlink k)) } }
/-- Clasp port: 0 east, 1 west. -/
def State.clasp (s : State) (w : Bool) : Clasp := tget {} s.dom.clasps (b1 w)
/-- Change a clasp port. -/
def State.updClasp (s : State) (w : Bool) (f : Clasp → Clasp) : State :=
  { s with dom := { s.dom with clasps := tset {} s.dom.clasps (b1 w) (f (s.clasp w)) } }
/-- Member `n` of the domain. -/
def State.member (s : State) (n : Nat) : Member := tget {} s.dom.members n
/-- Change member `n`. -/
def State.updMember (s : State) (n : Nat) (f : Member → Member) : State :=
  { s with dom := { s.dom with members := tset {} s.dom.members n (f (s.member n)) } }
/-- Plane temperature regulator of plane `p`. -/
def State.ptemp (s : State) (p : Nat) : PlaneTemp := tget {} s.pwr.planes p
/-- Change the regulator of plane `p`. -/
def State.updPtemp (s : State) (p : Nat) (f : PlaneTemp → PlaneTemp) : State :=
  { s with pwr := { s.pwr with planes := tset {} s.pwr.planes p (f (s.ptemp p)) } }
/-- Temperature sensor `i`. -/
def State.sensor (s : State) (i : Nat) : Sensor := tget {} s.pwr.sensors i
/-- Change sensor `i`. -/
def State.updSensor (s : State) (i : Nat) (f : Sensor → Sensor) : State :=
  { s with pwr := { s.pwr with sensors := tset {} s.pwr.sensors i (f (s.sensor i)) } }

/-! ### Free values and outputs -/

/-- The next free value (log entry 2, DESIGN CHOICE), with the counter advanced. -/
def State.draw (s : State) : Nat × State := (Config.freeValue s.free, { s with free := s.free + 1 })

/-- Record what leaves the device.
Log entry 8 (DESIGN CHOICE). -/
def State.emit (s : State) (o : Output) : State := { s with out := o :: s.out }

/-- A meaning that applies to unit `i` of `n`.
Log entry 151 (DEDUCED). -/
def onUnit (i n : Nat) (s : State) (t : State) : Host.Outcome State Fault Refusal :=
  if i < n then (if s.sys.porst then .next s else .next t) else .fault .noSuchUnit

/-- A step of the device itself: while PORST_N is low the device is in RESET and nothing happens (R683). -/
def live (s t : State) : Host.Outcome State Fault Refusal := .next (if s.sys.porst then s else t)

/-- Message-signalled interrupt of vector `v` (R480, R481): sent, or left pending while masked.
Log entry 9 (PRESUMED). -/
def sendVector (v : Nat) (s : State) : State :=
  let ctl := (tfind s.hi.msix (4 * v + 3)).getD 1
  if s.hi.msixEn && !s.hi.msixMask && !bit ctl 0 then s.emit (.msix v)
  else { s with ev := { s.ev with pba := s.ev.pba ||| (1#64 <<< v) } }

/-! ### DMA -/

/-- Write bytes to host memory.
Log entry 8 (DESIGN CHOICE). -/
def dmaWrite (addr : Nat) (data : Bytes) (s : State) : State :=
  if data = [] then s else s.emit (.dma addr data)

end Sys2Proof.Machine
end

