-- ==== Sys2Proof/Machine/Arith.lean ====
section
/-! DEFINITION. The functions that the manual writes as real-valued formulas, in fixed-point arithmetic (log entry 7, DEDUCED),
and the single-precision form of R218. -/

namespace Sys2Proof.Machine

/-- Fixed-point one: 2^62. -/
def fixOne : Int := 2 ^ 62

/-- π in units of 2^-62. -/
def piFix : Int := 14488038916154245685

/-- The Taylor series of sine or cosine: terms `t, -t x²/(k(k+1)), …` with `n` more terms. -/
def taylor (x2 : Int) : Nat → Nat → Int → Int
  | 0, _, t => t
  | n + 1, k, t => t + taylor x2 n (k + 2) (-(t * x2 / fixOne) / (k * (k + 1)))

/-- sin(2π · p / 2^48) in units of 2^-62, for a phase `p` of 48 bits.
Log entry 7 (DEDUCED). -/
def sinTurn (p : Int) : Int :=
  let p : Nat := (p % 2 ^ 48).toNat
  let q : Nat := p / 2 ^ 46
  let r : Nat := p % 2 ^ 46
  let x : Int := Int.ofNat r * piFix / 2 ^ 47
  let x2 := x * x / fixOne
  let sn := taylor x2 13 2 x
  let cs := taylor x2 13 1 fixOne
  if q = 0 then sn else if q = 1 then cs else if q = 2 then -sn else -cs

/-- cos(2π · p / 2^48) in units of 2^-62. -/
def cosTurn (p : Int) : Int := sinTurn (p + 2 ^ 46)

/-- `a * v`, for `v` in units of 2^-62, rounded to the nearest integer. -/
def scale62 (a v : Int) : Int := divRound (a * v) (2 ^ 62)

/-- Square `n` times in units of 2^-62. -/
def squareUp : Nat → Int → Int
  | 0, v => v
  | n + 1, v => squareUp n (v * v / fixOne)

/-- The series of e^(-x): `n` more terms after `t`. -/
def expSeries (x : Int) : Nat → Nat → Int → Int
  | 0, _, t => t
  | n + 1, k, t => t + expSeries x n (k + 1) (-(t * x / fixOne) / k)

/-- e^(-num/den) in units of 2^-62, for 0 ≤ num/den ≤ 128.
Log entry 7 (DEDUCED). -/
def expNeg (num den : Nat) : Int :=
  if den = 0 then 0 else squareUp 8 (expSeries ((num : Int) * fixOne / (den * 256)) 14 1 fixOne)

/-- `b ^ n` in units of 2^-62.
Log entry 7 (DEDUCED). -/
def powFix (b : Int) : Nat → Int
  | 0 => fixOne
  | n + 1 => powFix b n * b / fixOne

/-- 10^(-d/100) in units of 2^-62, for `d` tenths of a decibel.
Log entry 7 (DEDUCED). -/
def dbDown (d : Nat) : Int := expNeg (d * 2302585093) 100000000000

/-- A rational number in IEEE 754 single precision, to nearest even (R218).
Log entry 7 (DEDUCED). -/
def f32OfRat (num : Int) (den : Nat) : Nat :=
  let a := num.natAbs
  if a = 0 ∨ den = 0 then 0 else
  let sgn := if num < 0 then 2 ^ 31 else 0
  let e0 : Int := (Nat.log2 a : Int) - Nat.log2 den
  let le := if e0 < 0 then decide (den ≤ a * 2 ^ (-e0).toNat) else decide (den * 2 ^ e0.toNat ≤ a)
  let e : Int := max (if le then e0 else e0 - 1) (-126)
  let sh := 23 - e
  let n := if 0 ≤ sh then a * 2 ^ sh.toNat else a
  let d := if 0 ≤ sh then den else den * 2 ^ (-sh).toNat
  let q := n / d
  let r := 2 * (n % d)
  let m := if d < r ∨ (r = d ∧ q % 2 = 1) then q + 1 else q
  let v := (e + 126).toNat * 2 ^ 23 + m
  if 0x7F800000 ≤ v then sgn + 0x7F800000 else sgn + v

end Sys2Proof.Machine
end

