-- ==== Sys2Proof/Machine/Map.lean ====
section
/-! DEFINITION. The plane map, the Beneš wiring and the route unit (R24 to R47, R224, R225). -/

namespace Sys2Proof.Machine

/-- What an element or monitor entry says (R35, R36). -/
structure Place where
  /-- KIND: elements 1 ARM_A, 2 ARM_B, 3 SHUTTER, 4 AUX_HEATER; monitors 1 CELL_MON, 2 OUT_MON, 3 REF_PD -/
  kind : Nat := 0
  /-- PLANE -/
  plane : Nat := 0
  /-- STAGE -/
  stage : Nat := 0
  /-- INDEX -/
  index : Nat := 0
  /-- RANGE: HIGH -/
  high : Bool := false
  deriving DecidableEq, Repr

/-- The 32-bit entry of a place. -/
def Place.word (e : Place) : Nat :=
  e.kind * 2 ^ 29 + e.plane * 2 ^ 28 + e.stage * 2 ^ 23 + e.index * 2 ^ 14 + b1 e.high * 2 ^ 13

/-- The place of a 32-bit entry. -/
def placeOf (w : Nat) : Place :=
  { kind := bits w 31 29, plane := bits w 28 28, stage := bits w 27 23, index := bits w 22 14, high := bit w 13 }

/-- Element entry of the standard 1 × 512 map (R32). -/
def stdElem0 (high : Bool) (ch : Nat) : Place :=
  let b := ch / 1152
  let e := ch % 1152
  if e < 1088 then
    { kind := 1 + e % 2, stage := e / 64, index := 32 * b + e % 64 / 2, high := high }
  else { kind := 3, index := 64 * b + (e - 1088), high := high }

/-- Element entry of the standard 2 × 256 map (R33). -/
def stdElem1 (h0 h1 : Bool) (ch : Nat) : Place :=
  let b := ch / 1152
  let e := ch % 1152
  let p := b / 4
  let h := if p = 0 then h0 else h1
  if e < 960 then
    { kind := 1 + e % 2, plane := p, stage := e / 64, index := 32 * (b % 4) + e % 64 / 2, high := h }
  else if e < 1024 then { kind := 3, plane := p, index := 64 * (b % 4) + (e - 960), high := h }
  else if e < 1032 then { kind := 4, plane := p, index := 8 * b + (e - 1024), high := h }
  else {}

/-- Monitor entry of the standard 1 × 512 map (R32). -/
def stdMon0 (high : Bool) (m : Nat) : Place :=
  let b := m / 640
  let e := m % 640
  if e < 544 then { kind := 1, stage := e / 32, index := 32 * b + e % 32, high := false && high }
  else if e < 608 then { kind := 2, index := 64 * b + (e - 544) }
  else {}

/-- Monitor entry of the standard 2 × 256 map (R33). -/
def stdMon1 (m : Nat) : Place :=
  let b := m / 640
  let e := m % 640
  if e < 480 then { kind := 1, plane := b / 4, stage := e / 32, index := 32 * (b % 4) + e % 32 }
  else if e < 544 then { kind := 2, plane := b / 4, index := 64 * (b % 4) + (e - 480) }
  else {}

/-- The descriptor of a plane of a map (R38). -/
def PlaneMap.desc (m : PlaneMap) (p : Nat) : PlaneDesc := if p = 0 then m.d0 else m.d1

/-- The element entry of a channel. -/
def PlaneMap.elemAt (m : PlaneMap) (ch : Nat) : Place :=
  match m.geometry with
  | 0 => stdElem0 m.d0.high ch
  | 1 => stdElem1 m.d0.high m.d1.high ch
  | _ => placeOf (tget 0 m.elem ch)

/-- The monitor entry of a channel. -/
def PlaneMap.monAt (m : PlaneMap) (c : Nat) : Place :=
  match m.geometry with
  | 0 => stdMon0 m.d0.high c
  | 1 => stdMon1 c
  | _ => placeOf (tget 0 m.mon c)

/-- The planes a map holds. -/
def PlaneMap.planes (m : PlaneMap) : List Nat :=
  if m.geometry = 0 ∨ m.geometry = 2 then [0] else if m.geometry = 1 ∨ m.geometry = 3 then [0, 1] else []

/-- The first key of a custom table whose entry serves a place. -/
def findKey (t : Tab Nat) (f : Place → Bool) : Option Nat :=
  (t.find? (fun e => f (placeOf e.2))).map (·.1)

/-- The element channel that serves a place of a plane. -/
def PlaneMap.elemCh (m : PlaneMap) (kind p stage index : Nat) : Option Nat :=
  match m.geometry with
  | 0 =>
    if kind = 1 ∨ kind = 2 then some (index / 32 * 1152 + stage * 64 + index % 32 * 2 + (kind - 1))
    else if kind = 3 then some (index / 64 * 1152 + 1088 + index % 64) else none
  | 1 =>
    if kind = 1 ∨ kind = 2 then
      some ((4 * p + index / 32) * 1152 + stage * 64 + index % 32 * 2 + (kind - 1))
    else if kind = 3 then some ((4 * p + index / 64) * 1152 + 960 + index % 64)
    else if kind = 4 then some (index / 8 * 1152 + 1024 + index % 8) else none
  | _ => findKey m.elem (fun e => e.kind == kind && e.plane == p && e.stage == stage && e.index == index)

/-- The monitor channel that serves a place of a plane. -/
def PlaneMap.monCh (m : PlaneMap) (kind p stage index : Nat) : Option Nat :=
  match m.geometry with
  | 0 =>
    if kind = 1 then some (index / 32 * 640 + stage * 32 + index % 32)
    else if kind = 2 then some (index / 64 * 640 + 544 + index % 64) else none
  | 1 =>
    if kind = 1 then some ((4 * p + index / 32) * 640 + stage * 32 + index % 32)
    else if kind = 2 then some ((4 * p + index / 64) * 640 + 480 + index % 64) else none
  | _ => findKey m.mon (fun e => e.kind == kind && e.plane == p && e.stage == stage && e.index == index)

/-- The plane that a bezel link serves (R40 rule 6). -/
def PlaneMap.linkPlane (m : PlaneMap) (l : Nat) : Option Nat :=
  match m.geometry with
  | 0 => some 0
  | 1 => some (l / 4)
  | 4 => none
  | _ =>
    match m.elem.find? (fun e => e.1 / 1152 == l && (placeOf e.2).kind != 0) with
    | some e => some (placeOf e.2).plane
    | none => (m.mon.find? (fun e => e.1 / 640 == l && (placeOf e.2).kind != 0)).map (fun e => (placeOf e.2).plane)

/-! ### Views of the map in force -/

/-- Element entry of a channel; UNUSED while no map is in force (R41). -/
def State.elemAt (s : State) (ch : Nat) : Place := (s.sys.map.map (·.elemAt ch)).getD {}
/-- Monitor entry of a channel. -/
def State.monAt (s : State) (m : Nat) : Place := (s.sys.map.map (·.monAt m)).getD {}
/-- Planes of the map in force. -/
def State.planeIds (s : State) : List Nat := (s.sys.map.map (·.planes)).getD []
/-- Descriptor of a plane. -/
def State.desc (s : State) (p : Nat) : PlaneDesc := (s.sys.map.map (·.desc p)).getD {}
/-- Ports of a plane; 0 when the map does not hold it. -/
def State.ports (s : State) (p : Nat) : Nat := if s.planeIds.contains p then (s.desc p).ports else 0
/-- Plane of a link. -/
def State.linkPlane (s : State) (l : Nat) : Option Nat := s.sys.map.bind (·.linkPlane l)
/-- Links of a plane. -/
def State.linksOf (s : State) (p : Nat) : List Nat :=
  (List.range 8).filter (fun l => s.linkPlane l == some p)
/-- Links that serve a mapped plane. -/
def State.mappedLinks (s : State) : List Nat := (List.range 8).filter (fun l => (s.linkPlane l).isSome)
/-- Shutter channel of an input port. -/
def State.shutterCh (s : State) (p port : Nat) : Option Nat := s.sys.map.bind (·.elemCh 3 p 0 port)
/-- Arm channel of a cell: arm A, or arm B when `b`. -/
def State.armCh (s : State) (p cell : Nat) (b : Bool) : Option Nat :=
  let h := s.ports p / 2
  s.sys.map.bind (·.elemCh (1 + b1 b) p (cell / h) (cell % h))
/-- Cell monitor of a cell. -/
def State.cellMon (s : State) (p cell : Nat) : Option Nat :=
  let h := s.ports p / 2
  s.sys.map.bind (·.monCh 1 p (cell / h) (cell % h))
/-- Output monitor of a port. -/
def State.outMon (s : State) (p port : Nat) : Option Nat := s.sys.map.bind (·.monCh 2 p 0 port)
/-- Cell number of a place of a plane. -/
def State.cellNo (s : State) (e : Place) : Nat := e.stage * (s.ports e.plane / 2) + e.index
/-- Number of cells of a plane: (2n − 1) stages of PORTS/2 rows (R24). -/
def State.cells (s : State) (p : Nat) : Nat :=
  let n := s.ports p
  if n = 512 then 4352 else if n = 256 then 1920 else 0
/-- Auxiliary heater channels of a plane, ascending. -/
def State.auxChs (s : State) (p : Nat) : List Nat :=
  match s.sys.map with
  | none => []
  | some m =>
    if m.geometry = 1 then (range' (4 * p) 4).flatMap (fun b => range' (b * 1152 + 1024) 8)
    else m.elem.filterMap (fun e =>
      let x := placeOf e.2
      if x.kind = 4 ∧ x.plane = p then some e.1 else none)
/-- Is this channel a shutter of some plane? -/
def State.isShutter (s : State) (ch : Nat) : Bool := (s.elemAt ch).kind == 3
/-- Every element channel that serves a position of plane `p`, ascending (R232: arms and shutters only when `facet`). -/
def State.planeChs (s : State) (p : Nat) (facet : Bool) : List Nat :=
  (s.linksOf p).flatMap (fun l => (range' (l * 1152) 1152).filter (fun c =>
    let e := s.elemAt c
    e.kind != 0 && e.plane == p && (!facet || e.kind != 4)))

/-! ### Wiring and routes -/

/-- log2 of the port count. -/
def lg (n : Nat) : Nat := if n = 512 then 9 else if n = 256 then 8 else Nat.log2 n

/-- Output line `l` of stage `s` enters stage `s + 1` on this line (R25). -/
def wire (ports s l : Nat) : Nat :=
  let n := lg ports
  if s ≤ n - 2 then
    let m := ports / 2 ^ s
    let b := l - l % m
    let o := l % m
    b + o % 2 * (m / 2) + o / 2
  else
    let m := ports / 2 ^ (2 * n - 3 - s)
    let b := l - l % m
    let o := l % m
    b + 2 * (o % (m / 2)) + o / (m / 2)

/-- Cells that light from line `l` of stage `s` crosses, with the output port it reaches. -/
def trace (ports : Nat) (cross : List Nat) : Nat → Nat → Nat → List Nat × Nat
  | 0, _, l => ([], l)
  | k + 1, s, l =>
    let cell := s * (ports / 2) + l / 2
    let o := if cross.contains cell then l ^^^ 1 else l
    let r := trace ports cross k (s + 1) (if k = 0 then o else wire ports s o)
    (cell :: r.1, r.2)

/-- Cells on the path of input `p` of a facet. -/
def pathCells (ports : Nat) (f : Facet) (p : Nat) : List Nat := (trace ports f.cross (2 * lg ports - 1) 0 p).1

/-- Output port of input `p` in a permutation record; 0xFFFF when unmatched. -/
def permAt (perm : List Nat) (p : Nat) : Nat := perm.getD p 0xFFFF

/-- Circuits of a permutation record: matched pairs, ascending input (R222). -/
def circuitsOf (perm : List Nat) : List (Nat × Nat) :=
  (perm.zipIdx.filter (fun e => e.1 != 0xFFFF)).map (fun e => (e.2, e.1))

/-- A permutation record is valid for a plane of `n` ports (R221). -/
def permOk (n : Nat) (perm : List Nat) : Bool :=
  perm.length == n && perm.all (fun q => q == 0xFFFF || decide (q < n)) &&
    decide ((perm.filter (· != 0xFFFF)).Nodup)

/-- Pair the unmatched inputs with the unused outputs, both ascending (R224). -/
def complete (perm : List Nat) : List Nat :=
  let free := (List.range perm.length).filter (fun q => !perm.contains q)
  (perm.foldl (fun (acc : List Nat × List Nat) q =>
    if q = 0xFFFF then (acc.1 ++ [acc.2.headD 0], acc.2.tail) else (acc.1 ++ [q], acc.2)) ([], free)).1

/-- The inverse of a permutation. -/
def invPerm (pi : List Nat) : List Nat := (List.range pi.length).map (fun q => pi.idxOf q)

/-- One loop of R225 from input `x`: the sub-network of each input is noted. -/
def loopFrom (pi pinv : List Nat) : Nat → Nat → Tab Nat → Tab Nat
  | 0, _, sub => sub
  | k + 1, x, sub =>
    match tfind sub x with
    | some _ => sub
    | none => loopFrom pi pinv k ((pinv.getD ((pi.getD x 0) ^^^ 1) 0) ^^^ 1) (tput (tput sub x 0) (x ^^^ 1) 1)

/-- Sub-network of every input of a network (R225). -/
def subsOf (pi : List Nat) : Tab Nat :=
  let pinv := invPerm pi
  (List.range (pi.length / 2)).foldl (fun sub r => loopFrom pi pinv pi.length (2 * r) sub) []

/-- The cells in CROSS of a completed permutation, by the looping algorithm of R225. `k` levels remain. -/
def route (half n : Nat) : Nat → List Nat → Nat → Nat → List Nat
  | 0, _, _, _ => []
  | 1, pi, d, base => if pi.getD 0 0 = 0 then [] else [d * half + base / 2]
  | k + 1, pi, d, base =>
    let m := pi.length
    let sub := subsOf pi
    let pinv := invPerm pi
    let ins := (List.range (m / 2)).filter (fun r => tget 0 sub (2 * r) != 0)
    let outs := (List.range (m / 2)).filter (fun q => tget 0 sub (pinv.getD (2 * q) 0) != 0)
    let pick := fun t => (List.range (m / 2)).map (fun j =>
      if tget 0 sub (2 * j) = t then pi.getD (2 * j) 0 / 2 else pi.getD (2 * j + 1) 0 / 2)
    ins.map (fun r => d * half + base / 2 + r) ++ outs.map (fun q => (2 * n - 2 - d) * half + base / 2 + q)
      ++ route half n k (pick 0) (d + 1) base ++ route half n k (pick 1) (d + 1) (base + m / 2)

/-- Insertion into a list in order. -/
def insertBy {α : Type} (le : α → α → Bool) (x : α) : List α → List α
  | [] => [x]
  | y :: t => if le x y then x :: y :: t else y :: insertBy le x t

/-- A list put in order; equals keep their places.
Log entry 90 (DEDUCED). -/
def sortBy {α : Type} (le : α → α → Bool) (l : List α) : List α := l.foldr (insertBy le) []

/-- Ascending cells in CROSS of a permutation record (R223 to R225). -/
def routeRecord (perm : List Nat) : List Nat :=
  let n := lg perm.length
  sortBy (fun a b => decide (a ≤ b)) (route (perm.length / 2) n n (complete perm) 0 0)

/-- The cell-state vector in bytes (R223). -/
def stateVector (ports : Nat) (cross : List Nat) : Bytes :=
  let bitsN := cross.foldl (fun a i => a ||| 2 ^ i) 0
  le (if ports = 512 then 544 else if ports = 256 then 240 else ((2 * lg ports - 1) * (ports / 2) + 7) / 8) bitsN

/-- The lit circuits of a plane: those of the facet in force that no containment or suspicion keeps dark. -/
def State.litCircuits (s : State) (p : Nat) : List (Nat × Nat) :=
  match (s.plane p).force with
  | none => []
  | some f => if (s.plane p).fzDark then [] else
      (circuitsOf f.perm).filter (fun c => !(s.plane p).dark.contains c)

/-- The plane carries a lit circuit. -/
def State.lit (s : State) (p : Nat) : Bool := !(s.litCircuits p).isEmpty

/-- Lit circuits through one cell. -/
def State.throughCell (s : State) (p cell : Nat) : List (Nat × Nat) :=
  match (s.plane p).force with
  | none => []
  | some f => (s.litCircuits p).filter (fun c => (pathCells (s.ports p) f c.1).contains cell)

/-- Every plane of the device is in IDLE. -/
def State.allIdle (s : State) : Bool := (s.planeIds).all (fun p => (s.plane p).regime == 0)

/-- A regime in which launches come from the scheduler or a chain (codes 2 to 4 of R264). -/
def scheduling (r : Nat) : Bool := r == 2 || r == 3 || r == 4

/-- Own DPLANE number of a local plane (R265). -/
def State.dplaneOf (s : State) (p : Nat) : Nat := 2 * s.dom.number + p

end Sys2Proof.Machine
end

