-- ==== Sys2Proof/Machine/Rec.lean ====
section
/-! DEFINITION. The loupe recorder: staging of records and the writer that moves them into the loupe
region (R598 to R604). -/

namespace Sys2Proof.Machine

/-- Bytes of the loupe staging memory (R603). -/
def stagingBytes : Nat := 4194304

/-- The ring that takes records of type `t`, if one does (R598, R602). -/
def ringOf (s : State) (t : Nat) : Option (Nat × Ring) :=
  s.loupe.rings.find? (fun r => r.2.mode != 0 && bit r.2.types t)

/-- Length in bytes of a record with `n` content bytes after its header: whole 16-byte units (R600). -/
def recLen (n : Nat) : Nat := ceilDiv (8 + n) 16 * 16

/-- Stage a record of type `t` (R603): nothing without a ring, lost when staging is full. -/
def stageRec (t x : Nat) (body : Bytes) (s : State) : State :=
  match ringOf s t with
  | none => s
  | some _ =>
    if s.loupe.used + recLen body.length ≤ stagingBytes then
      { s with loupe := { s.loupe with
          staged := s.loupe.staged ++ [{ type := t, x := x, body := body, time := s.time.now }]
          used := s.loupe.used + recLen body.length } }
    else { s with loupe := { s.loupe with lost := tinc s.loupe.lost t } }

/-- A loupe source is on and covers instance `i` (R602, R613). -/
def sourceOn (s : State) (t i : Nat) : Bool :=
  let c := tget {} s.loupe.srcs t
  c.on && decide (c.first ≤ i) && decide (i < c.first + c.count)

/-- One byte of a sparse byte memory: cells of 0 are not listed. -/
def putByte (m : List Host.Cell) (a : Nat) (b : Byte) : List Host.Cell :=
  match m with
  | [] => if b = 0 then [] else [(a, b)]
  | (i, w) :: t =>
    if i = a then (if b = 0 then t else (a, b) :: t)
    else if a < i then (if b = 0 then (i, w) :: t else (a, b) :: (i, w) :: t)
    else (i, w) :: putByte t a b

/-- The byte at an address; 0 when it is not listed.
Log entry 1 (DESIGN CHOICE). -/
def getByte (m : List Host.Cell) (a : Nat) : Byte := tget 0 m a

/-- The canonical form of a byte memory: addresses strictly rising, no cell equal to what an unlisted address reads as.
Log entry 1 (DESIGN CHOICE). -/
def Memory.wf (m : List Host.Cell) : Bool := Tab.wf 0 m

/-- Write bytes from an address upward. -/
def putBytes (m : List Host.Cell) (a : Nat) : Bytes → List Host.Cell
  | [] => m
  | b :: t => putBytes (putByte m a b) (a + 1) t

/-- `n` bytes from an address upward. -/
def getBytes (m : List Host.Cell) (a n : Nat) : Bytes := (List.range n).map (fun i => getByte m (a + i))

/-- Header and content of a record, padded to whole units (R600). -/
def recBytes (t x : Nat) (ofs : Int) (body : Bytes) : Bytes :=
  let n := recLen body.length
  let h := le 1 t ++ le 1 (n / 16) ++ le 2 x ++ le 4 (uns 32 ofs) ++ body
  h ++ List.replicate (n - h.length) 0

/-- Put one record's bytes at the end of a ring; a STOP ring that would overwrite its start stops (R603). -/
def ringPut (rb : Ring × List Host.Cell) (bs : Bytes) : Ring × List Host.Cell :=
  let r := rb.1
  let size := r.size * 1048576
  if r.full then ({ r with lost := r.lost + 1, lostRun := r.lostRun + 1 }, rb.2)
  else if r.mode = 2 ∧ size < r.pos + bs.length then
    ({ r with full := true, lost := r.lost + 1, lostRun := r.lostRun + 1 }, rb.2)
  else
    ({ r with pos := r.pos + bs.length },
     putBytes rb.2 (r.base * 1048576 + r.pos % (max size 1)) bs)

/-- A TIME_BASE record is due in a ring (R600): at every 64 KiB boundary, after a step, and after 1 s.
Log entry 102 (DEDUCED). -/
def baseDue (now : NetTime) (r : Ring) : Bool :=
  r.pos % 65536 == 0 || (match r.base0 with | none => true | some b => decide (b + oneSecond ≤ now))

/-- The TIME_BASE record that stands before a record (R600). -/
def ringBase (now : NetTime) (rb : Ring × List Host.Cell) : Ring × List Host.Cell :=
  let r := rb.1
  if baseDue now r then
    let p := ringPut rb (recBytes 0 0 0 (timeLe now ++ List.replicate 12 0))
    ({ p.1 with base0 := some now }, p.2)
  else rb

/-- Write one record into a ring, with the PAD, TIME_BASE and LOST records it needs (R600, R603).
Log entry 102 (DEDUCED). -/
def ringWrite (x : LRec) (rb : Ring × List Host.Cell) : Ring × List Host.Cell :=
  if rb.1.frozen then rb else
  let n := recLen x.body.length
  let left := 65536 - rb.1.pos % 65536
  let rb := if left < n + (if baseDue x.time rb.1 then 32 else 0) + (if rb.1.lostRun ≠ 0 then 16 else 0) then
      ringPut rb (recBytes 15 0 0 (List.replicate (left - 8) 0)) else rb
  let rb := ringBase x.time rb
  let rb := if rb.1.lostRun ≠ 0 ∧ ¬ rb.1.full then
      let k := rb.1.lostRun
      let p := ringPut ({ rb.1 with lostRun := 0 }, rb.2) (recBytes 14 0 0 (le 4 k ++ le 4 0))
      p else rb
  let b := rb.1.base0.getD x.time
  ringPut rb (recBytes x.type x.x (((x.time : Int) - b) / 65536) x.body)

/-- The writer empties staging into the rings (R603): records lost in staging count in their ring first.
Log entry 102 (DEDUCED). -/
def drainLoupe (s : State) : State :=
  let rings := s.loupe.rings.map (fun r =>
    let k := (s.loupe.lost.filter (fun e => bit r.2.types e.1)).foldl (fun a e => a + e.2) 0
    (r.1, { r.2 with lost := r.2.lost + k, lostRun := r.2.lostRun + k }))
  let step := fun (a : Tab Ring × List Host.Cell) (x : LRec) =>
    match a.1.find? (fun r => r.2.mode != 0 && bit r.2.types x.type) with
    | none => a
    | some r =>
      let p := ringWrite x (r.2, a.2)
      (tput a.1 r.1 p.1, p.2)
  let out := s.loupe.staged.foldl step (rings, s.loupe.mem)
  { s with loupe := { s.loupe with rings := out.1, mem := out.2, staged := [], used := 0, lost := [] } }

/-- The event data of R564 as 16 bytes. -/
def dataBytes (d : EvData) : Bytes :=
  le 1 d.plane ++ le 1 d.link ++ le 2 d.chan ++ le 2 d.inp ++ le 2 d.out ++ le 2 d.ep ++ le 1 d.device ++ le 1 0
    ++ le 4 d.value

/-- The event data that 16 bytes at offset `o` spell (R564). -/
def dataAt (p : Bytes) (o : Nat) : EvData :=
  { plane := fld p o 1, link := fld p (o + 1) 1, chan := fld p (o + 2) 2, inp := fld p (o + 4) 2,
    out := fld p (o + 6) 2, ep := fld p (o + 8) 2, device := fld p (o + 10) 1, value := fld p (o + 12) 4 }

end Sys2Proof.Machine
end

