-- ==== Sys2Proof/Machine/Image.lean ====
section
/-! DEFINITION. The mirror image of a bezel link (R67, R68, R70). -/

namespace Sys2Proof.Machine

/-- Image word `w` after bezel reset (R68). -/
def imageDefault (w : Nat) : Nat :=
  if w < 576 then 0x00800080 else if w < 1216 then 0x80 else if w < 1360 then 648 * 1024 + 158 else 0

/-- A word of a stored image. -/
def imageWord (t : Tab Nat) (w : Nat) : Nat := tget (imageDefault w) t w

/-- Write an image word of the KV512; a change is sent out of turn in the next ticks (R70). -/
def setImage (l w v : Nat) (s : State) : State :=
  if imageWord (s.link l).image w = v then s else
  s.updLink l (fun k => { k with
    image := tset (imageDefault w) k.image w v
    turn := if k.turn.contains (w / 16) then k.turn else k.turn ++ [w / 16]
    changed := insertAsc (w / 16) k.changed
    clean := if 1360 ≤ w ∧ w < 1396 then 0 else k.clean
    cleanAt := if 1360 ≤ w ∧ w < 1396 then s.time.tick else k.cleanAt })

/-- A 16-bit half of an image word replaced. -/
def setHalf (w : Nat) (hi : Bool) (v : Nat) : Nat := if hi then w % 65536 + v * 65536 else w / 65536 * 65536 + v

/-- The image half-word of an element channel: RANGE and FS_TRIM (R67). -/
def elemHalf (s : State) (ch : Nat) : Nat :=
  let w := imageWord (s.link (ch / 1152)).image (ch % 1152 / 2)
  if ch % 2 = 1 then w / 65536 else w % 65536

/-- Write the image half-word of an element channel. -/
def setElemHalf (ch v : Nat) (s : State) : State :=
  let l := ch / 1152
  let w := ch % 1152 / 2
  setImage l w (setHalf (imageWord (s.link l).image w) (ch % 2 == 1) v) s

/-- Send a new RANGE bit of a channel (R116). -/
def setRangeBit (ch : Nat) (high : Bool) (s : State) : State :=
  setElemHalf ch (elemHalf s ch % 256 + 256 * b1 high) s

/-- Send a new FS_TRIM of a channel. -/
def setFsTrim (ch v : Nat) (s : State) : State := setElemHalf ch (elemHalf s ch / 256 % 2 * 256 + v % 256) s

/-- Image word of a monitor channel. -/
def monWord (m : Nat) : Nat := 576 + m % 640

/-- Write MON_EN of a monitor channel (R67). -/
def setMonBit (m : Nat) (en : Bool) (s : State) : State :=
  let l := m / 640
  setImage l (monWord m) (imageWord (s.link l).image (monWord m) % 2 ^ 18 + b1 en * 2 ^ 18) s

/-- Write the trims of a monitor channel (R67). -/
def setMonTrim (m : Nat) (ofs : Int) (gain : Nat) (s : State) : State :=
  let l := m / 640
  let old := imageWord (s.link l).image (monWord m)
  let new := old / 2 ^ 18 * 2 ^ 18 + uns 10 ofs * 256 + gain % 256
  if old = new then s else (setImage l (monWord m) new s).updMon m (fun x => { x with trimPend := true })

/-- Write the ratios of drive group `g` of link `l` (R67). -/
def setRatio (l g r13 r23 : Nat) (s : State) : State := setImage l (1216 + g) (r23 % 1024 * 1024 + r13 % 1024) s

/-- SHUTTER_MASK words of a link from the map in force (R67). -/
def maskWord (s : State) (l w : Nat) : Nat :=
  (List.range 32).foldl (fun a i => if s.isShutter (l * 1152 + 32 * w + i) then a + 2 ^ i else a) 0

/-- Segments that hold an image word. -/
def segOf (w : Nat) : Nat := w / 16

/-- The sixteen words of a segment. -/
def segWords (t : Tab Nat) (seg : Nat) : List Nat := (List.range 16).map (fun i => imageWord t (16 * seg + i))

/-- The calibration in force. -/
def calNow (s : State) : Cal := s.cal.cal.getD {}

/-- The keys of two tables. -/
def bothKeys {α β : Type} (a : Tab α) (b : Tab β) : List Nat := (b.map (·.1)).foldl (fun l k => insertAsc k l) (a.map (·.1))

/-- The trims of a calibration go to the mirror in place of an older one's (R67, R536). -/
def loadTrims (old new : Cal) (s : State) : State :=
  let s := each (bothKeys old.elems new.elems) s (fun ch s => setFsTrim ch (tget {} new.elems ch).fsTrim s)
  let s := each (bothKeys old.mons new.mons) s (fun m s => setMonTrim m (tget {} new.mons m).ofs (tget {} new.mons m).gain s)
  each (bothKeys old.groups new.groups) s (fun g s =>
    setRatio (g / 144) (g % 144) (tget {} new.groups g).r13 (tget {} new.groups g).r23 s)

/-- The trims that a commissioning run has set go back to those of the calibration in force (R515, R519).
Log entry 89 (DEDUCED). -/
def dropRunTrims (s : State) : State :=
  match s.cal.run with
  | some r => loadTrims r.work (calNow s) s
  | none => s

end Sys2Proof.Machine
end

