-- ==== Sys2Proof/Machine/Wire.lean ====
section
/-! DEFINITION. The clasp ring: units and cells (R437, R438), messages, directions, sequence numbers, resending (R434, R435, R440) and
the bodies of the messages (R441). -/

namespace Sys2Proof.Machine

/-! ### Units (R437) -/

/-- A unit with its CRC (R437). -/
def claspUnit (kind flags arg len : Nat) (body : Bytes) : Bytes :=
  let p := le 1 kind ++ le 1 flags ++ le 1 arg ++ le 1 len ++ body
  p ++ le 4 (crc32c p)

/-- Bytes of a unit's body. -/
def unitBody (u : Bytes) : Bytes := (u.take (u.length - 4)).drop 4

/-- The CRC holds and the length agrees with the fields (R437); a packet that the PCS marks as errored is no such unit. -/
def unitOk (u : Bytes) : Bool :=
  let n := u.length - 8
  decide (8 ≤ u.length) && fld u (n + 4) 4 == crc32c (u.take (n + 4)) &&
  (match fld u 0 1 with
   | 1 => fld u 2 1 == n && decide (n ≤ 64) && (decide (0 < n) || bit (fld u 1 1) 5)
   | 2 => fld u 3 1 == n && (match fld u 2 1 with | 1 => n == 32 | 2 => n == 8 | 4 => n == 16 | _ => false)
   | _ => false)

/-- A CTRL unit of a link-control code (R437). -/
def ctrlUnit (code : Nat) (body : Bytes) : Bytes := claspUnit 2 0 code body.length body

/-- The body of a CTRL unit of a code; none where it is another or is discarded (R437). -/
def ctrlBody (code : Nat) (u : Bytes) : Option Bytes :=
  if unitOk u && fld u 0 1 == 2 && fld u 2 1 == code then some (unitBody u) else none

/-! ### Cells (R438) -/

/-- FLAGS of a cell (R437). -/
def cellFlags (cls : Nat) (first last abort msg : Bool) : Nat := cls + 8 * b1 first + 16 * b1 last + 32 * b1 abort + 64 * b1 msg

/-- The cells of a frame of a class; the last carries LAST when the frame is whole, and the abort cell follows when it is not (R438). -/
def cellsOf (cls : Nat) (msg whole : Bool) (d : Bytes) : List Bytes :=
  let n := ceilDiv d.length 64
  (List.range n).map (fun i =>
    let c := (d.drop (64 * i)).take 64
    claspUnit 1 (cellFlags cls (i == 0) (i + 1 == n && whole) false msg) c.length 0 c)
  ++ if whole then [] else [claspUnit 1 (cellFlags cls false false true msg) 0 0 []]

/-- A cell that is not discarded and does not abort its frame.
Log entry 185 (DESIGN CHOICE). -/
def cellOk (u : Bytes) : Bool := unitOk u && fld u 0 1 == 1 && !bit (fld u 1 1) 5
/-- Class of a cell. -/
def cellClass (u : Bytes) : Nat := fld u 1 1 % 8
/-- Class of the frame that cells carry. -/
def cellsClass (us : List Bytes) : Nat := cellClass (us.headD [])
/-- Payload of cells, up to the first that ends the frame as an aborted one. -/
def cellsLoad (us : List Bytes) : Bytes := (us.takeWhile cellOk).flatMap unitBody

/-- The frame that cells carry: whether it is a message, and its bytes; none where it ends as an aborted frame (R437, R438).
Log entry 185 (DESIGN CHOICE). -/
def frameOfCells (us : List Bytes) : Option (Bool × Bytes) :=
  let n := us.length
  let fits := fun (i : Nat) =>
    let u := us.getD i []
    let fl := fld u 1 1
    cellOk u && cellClass u == cellsClass us && bit fl 3 == (i == 0) && bit fl 4 == (i + 1 == n)
      && bit fl 6 == bit (fld (us.headD []) 1 1) 6
  if us ≠ [] ∧ (List.range n).all fits then some (bit (fld (us.headD []) 1 1) 6, cellsLoad us) else none

/-! ### Messages (R440) -/

/-- A message as it stands in its cells: the header of R440, then the body. -/
def msgBytes (m : Msg) : Bytes :=
  le 1 m.code ++ le 1 1 ++ le 1 m.src ++ le 1 m.dst ++ le 2 m.seq ++ le 2 m.ack ++ le 2 m.body.length ++ le 1 m.hops
    ++ le 1 (b1 m.resent) ++ le 4 0 ++ m.body

/-- The message that bytes spell: VERSION 0x01, and LENGTH the bytes after the header (R440). -/
def msgOf (d : Bytes) : Option Msg :=
  if 16 ≤ d.length ∧ fld d 1 1 = 1 ∧ fld d 8 2 = d.length - 16 ∧ d.length ≤ 9216 then
    some { code := fld d 0 1, src := fld d 2 1, dst := fld d 3 1, seq := fld d 4 2, ack := fld d 6 2, hops := fld d 10 1
           resent := bit (fld d 11 1) 0, body := d.drop 16 }
  else none

/-- Codes that carry a sequence number and are acknowledged (R435). -/
def sequenced (code : Nat) : Bool :=
  decide (0x10 ≤ code) && decide (code ≤ 0x41) && code != 0x20 && code != 0x21 && code != 0x12

/-- Hops to a device eastward or westward, as this device knows them; 255 when it does not. -/
def hopsTo (s : State) (dst : Nat) (west : Bool) : Nat :=
  if !(s.clasp west).up then 255
  else if s.sys.role == 1 then (if west then (s.member dst).hopsW else (s.member dst).hopsE)
  else if (s.clasp west).peerHops = 255 then 254 else (s.clasp west).peerHops + 1

/-- The direction a message takes: fewer hops, east on a tie (R434). -/
def wayTo (s : State) (dst : Nat) : Bool := decide (hopsTo s dst true < hopsTo s dst false)

/-- Traffic class of a message (R433). -/
def msgClass (code : Nat) : Nat :=
  if code = 0x40 ∨ code = 0x41 then 2
  else if code = 0x03 ∨ code = 0x20 ∨ code = 0x21 ∨ code = 0x22 ∨ code = 0x30 then 7 else 5

/-- Count in a relay counter of link `k`, in the order of R425: 0 RX_BYTES, 1 TX_BYTES, 2 RX_FRAMES and so on. -/
def relayCount (k i n : Nat) (s : State) : State :=
  let wrap := if i ≤ 1 then 2 ^ 64 else 2 ^ 32
  s.updRlink k (fun l => { l with counters := tset 0 l.counters i ((tget 0 l.counters i + n) % wrap) })

/-- Clasp port as a relay link key. -/
def claspKey (west : Bool) : Nat := 8 + 2 * b1 west

/-- Credits in hand for a class of a clasp port (R405). -/
def creditOf (s : State) (west : Bool) (cls : Nat) : Nat := tget 0 s.relay.credits (b1 west * 8 + cls)

/-- Set the credits in hand for a class of a clasp port. -/
def setCredit (west : Bool) (cls n : Nat) (s : State) : State :=
  { s with relay := { s.relay with credits := tset 0 s.relay.credits (b1 west * 8 + cls) n } }

/-- A message as a frame from ingress `ing` for one clasp port (R433, R438). -/
def msgFrame (ing cls : Nat) (west : Bool) (m : Msg) (t : NetTime) : RFrame :=
  { ing := ing, cls := cls, wire := cls, dests := [claspKey west], data := msgBytes m, len := some (16 + m.body.length), msg := true, rx := t }

/-- Send a message of this device on one clasp port: a frame of its class, which the hub processors offer to the relay and which waits there
for its buffers (R406, R433); for a port that is down it is discarded (R403).
Log entry 122 (DESIGN CHOICE). -/
def claspOut (west : Bool) (m : Msg) (s : State) : State :=
  if !(s.clasp west).up then relayCount (claspKey west) 15 1 s
  else { s with relay := { s.relay with waiting := s.relay.waiting ++ [msgFrame 12 (msgClass m.code) west m s.time.now] } }

/-- Workers that a message of the manager to every device can reach. -/
def listeners (s : State) : List Nat :=
  if s.sys.role = 1 then (List.range 16).filter (fun n => decide (n ≠ 0) && (s.member n).admitted && (s.member n).reachable) else []

/-- Keep a message until it is acknowledged (R435).
Log entry 75 (DESIGN CHOICE). -/
def awaitAck (m : Msg) (west : Bool) (want : List Nat) (s : State) : State :=
  { s with dom := { s.dom with unacked := s.dom.unacked ++ [{ msg := m, west := west, at' := s.time.mono, want := want }] } }

/-- Send a message to one device, or to every device with DST 0xFF (R434, R435, R440).
Log entry 75 (DESIGN CHOICE). -/
def claspSend (code dst : Nat) (body : Bytes) (s : State) : State :=
  let q := if sequenced code then tget 0 s.dom.seqs dst else 0
  let m : Msg := { code := code, src := s.dom.number, dst := dst, seq := q, body := body }
  let s := if sequenced code then
    { s with dom := { s.dom with seqs := tset 0 s.dom.seqs dst ((q + 1) % 65536) } } else s
  if dst = 0xFF then
    let t := claspOut true m (claspOut false m s)
    if sequenced code ∧ listeners s ≠ [] then awaitAck m false (listeners s) t else t
  else
    let w := wayTo s dst
    let t := claspOut w m s
    if sequenced code then awaitAck m w [] t else t

/-- EVENT body (R441). -/
def eventBody (e : Nat) (t : NetTime) (d : EvData) : Bytes := le 2 e ++ le 2 0 ++ timeLe t ++ dataBytes d

/-- NOTICE body (R441): kind 0 suspect, 1 withdrawn, 2 plane dark. -/
def noticeBody (kind dplane e inp out : Nat) (t : NetTime) (launch : Nat) : Bytes :=
  le 1 kind ++ le 1 dplane ++ le 2 e ++ le 2 inp ++ le 2 out ++ timeLe t ++ le 4 launch

/-- SCHED_CMD body (R441). -/
def schedBody (action dplane regime flags inp out : Nat) (t : NetTime) (e status : Nat) : Bytes :=
  le 1 action ++ le 1 dplane ++ le 1 regime ++ le 1 flags ++ le 2 inp ++ le 2 out ++ timeLe t ++ le 2 e ++ le 2 status

/-- The device is a worker whose number the manager has given it. -/
def State.admitted (s : State) : Bool := s.sys.role == 2 && s.dom.number != 0xFF

/-- A worker reports to its manager in a NOTICE, with the time of the cause (R447). -/
def notice (kind p e inp out : Nat) (t : NetTime) (launch : Nat) (s : State) : State :=
  if s.admitted then claspSend 0x22 0 (noticeBody kind (s.dplaneOf p) e inp out t launch) s else s

/-- Count in a clasp counter of R465: 0 LINK_DOWNS, 1 RESENT, 2 DUPLICATES, 3 DARK_SENT, 4 DARK_RECEIVED, 5 TUNNEL_TIMEOUTS.
Log entry 18 (DEDUCED). -/
def claspCount (west : Bool) (i : Nat) (s : State) : State :=
  s.updClasp west (fun c => { c with counters := tinc c.counters i })

/-- Send one DARK unit on one port, if its link is up (R449). -/
def darkOut (origin ident : Nat) (west : Bool) (s : State) : State :=
  if (s.clasp west).up then claspCount west 3 (s.emit (.ctrl west (ctrlUnit 2 (le 1 origin ++ le 1 0 ++ le 2 ident ++ le 4 0)))) else s

/-- Originate a DARK on both ports (R449). -/
def sendDark (s : State) : State :=
  let k := s.dom.darkId
  let s := { s with dom := { s.dom with darkId := (k + 1) % 65536 } }
  darkOut s.dom.number k true (darkOut s.dom.number k false s)

end Sys2Proof.Machine
end

