-- ==== Sys2Proof/Machine/Flags.lean ====
section
/-! DEFINITION. Flags and status: events and their vectors (R479 to R481), fault sources, records and
reactions (R538 to R561), forced zero (R113), the device state (R689) and the emergency status (R474). -/

namespace Sys2Proof.Machine

/-! ### Events -/

/-- Vector of an event source (R480). -/
def vectorOf (ev : Events) (src : Nat) : Nat := (tfind ev.vector src).getD (19 + src / 64)

/-- The vectors whose set of R481 is not empty.
Log entry 121 (DEDUCED). -/
def activeVectors (ev : Events) : List Nat :=
  if ev.irqEn then
    let live := ev.pending &&& ~~~ev.mask
    (List.range 512).foldl (fun a i =>
      if live.getLsbD i then (let v := vectorOf ev i; if 19 ≤ v then insertAsc v a else a) else a) []
  else []

/-- Change the EVENTS block and send on every vector whose set goes from empty to not empty (R481). -/
def evUpdate (f : Events → Events) (s : State) : State :=
  let old := activeVectors s.ev
  let s := { s with ev := f s.ev }
  each ((activeVectors s.ev).filter (fun v => !old.contains v)) s sendVector

/-- Set the PENDING bit of a source (R479). -/
def setPending (e : Nat) (ev : Events) : Events := { ev with pending := ev.pending ||| (1#512 <<< e) }

/-- Append to the event log of R503. -/
def logEvent (r : EvRec) (ev : Events) : Events :=
  let p := pushLog 1024 ev.log ev.lost r
  { ev with log := p.1, lost := p.2 }

/-- A worker forwards an event to the manager, in the order raised; until it is admitted it keeps them (R450).
Log entry 179 (DESIGN CHOICE). -/
def forwardEvent (e : Nat) (d : EvData) (s : State) : State :=
  if s.admitted then claspSend 0x31 0 (eventBody e s.time.now d) s
  else if s.sys.role = 2 then
    { s with dom := { s.dom with
      evq := (s.dom.evq ++ [({ device := s.dom.number, event := e, time := s.time.now, data := d } : EvRec)]).drop (s.dom.evq.length - 4095) } }
  else s

/-- Raise an event: log, PENDING bit, loupe record, and an EVENT message from a worker (R479, R450, R601). -/
def raiseEvent (e : Nat) (d : EvData) (s : State) : State :=
  let s := evUpdate (fun ev => setPending e (logEvent
    { device := s.dom.number, event := e, time := s.time.now, data := d } ev)) s
  let s := if sourceOn s 7 e then
    stageRec 7 e (le 1 s.dom.number ++ le 7 0 ++ dataBytes d ++ le 16 0) s else s
  forwardEvent e d s

/-! ### Fault sources -/

/-- One row of R541: events, scope (0 C, 1 K, 2 L, 3 P, 4 Q, 5 E, 6 W, 7 D), hardware detector, default severity, floor,
and whether R721 makes it a condition source. -/
structure FaultRow where
  /-- first event -/
  lo : Nat
  /-- last event -/
  hi : Nat
  /-- scope code of R563 -/
  scope : Nat
  /-- default severity -/
  dflt : Nat
  /-- lowest severity accepted -/
  floor : Nat
  /-- condition source (R721) -/
  cond : Bool
  deriving DecidableEq, Repr

/-- System sources of R541. -/
def faultRowsSys : List FaultRow := [
  ⟨0, 0, 7, 4, 4, true⟩, ⟨1, 1, 7, 4, 0, true⟩, ⟨2, 2, 7, 4, 4, false⟩, ⟨3, 3, 7, 4, 0, false⟩,
  ⟨4, 4, 7, 4, 4, true⟩, ⟨5, 5, 7, 1, 0, true⟩, ⟨6, 6, 7, 4, 0, true⟩, ⟨7, 14, 7, 4, 0, true⟩,
  ⟨15, 15, 7, 1, 0, true⟩, ⟨16, 19, 7, 4, 0, false⟩, ⟨20, 23, 7, 0, 0, false⟩, ⟨24, 24, 7, 4, 0, false⟩,
  ⟨25, 25, 7, 0, 0, false⟩, ⟨26, 26, 7, 1, 0, false⟩, ⟨27, 29, 7, 1, 0, true⟩, ⟨30, 31, 7, 1, 0, false⟩,
  ⟨32, 33, 3, 1, 0, false⟩, ⟨34, 34, 7, 4, 4, true⟩, ⟨35, 35, 7, 4, 0, true⟩]

/-- Link, drive and sense sources of R541. -/
def faultRowsLink : List FaultRow := [
  ⟨64, 87, 2, 3, 3, true⟩, ⟨88, 103, 2, 3, 0, true⟩, ⟨104, 127, 2, 1, 0, false⟩, ⟨128, 135, 1, 2, 0, true⟩,
  ⟨136, 143, 1, 3, 3, true⟩, ⟨144, 151, 1, 1, 0, true⟩, ⟨152, 159, 2, 1, 0, true⟩, ⟨160, 167, 1, 0, 0, false⟩,
  ⟨168, 175, 2, 3, 0, true⟩, ⟨176, 183, 2, 0, 0, false⟩]

/-- Loop, facet and calibration sources of R541. -/
def faultRowsFacet : List FaultRow := [
  ⟨192, 199, 2, 3, 0, false⟩, ⟨200, 207, 1, 1, 0, true⟩, ⟨208, 215, 1, 0, 0, false⟩, ⟨216, 217, 0, 2, 2, false⟩,
  ⟨218, 219, 3, 3, 3, true⟩, ⟨220, 223, 3, 1, 0, false⟩, ⟨224, 227, 3, 0, 0, false⟩, ⟨228, 231, 3, 1, 0, false⟩,
  ⟨232, 239, 3, 0, 0, false⟩]

/-- Scheduler and endpoint sources of R541. -/
def faultRowsSched : List FaultRow := [
  ⟨256, 289, 4, 1, 0, false⟩, ⟨290, 290, 4, 1, 0, true⟩, ⟨291, 292, 3, 1, 0, false⟩, ⟨293, 294, 3, 0, 0, false⟩,
  ⟨295, 295, 5, 0, 0, false⟩, ⟨296, 296, 5, 1, 0, true⟩, ⟨297, 298, 5, 1, 0, false⟩]

/-- Time, relay, pool, domain and security sources of R541. -/
def faultRowsDom : List FaultRow := [
  ⟨320, 320, 7, 1, 0, true⟩, ⟨321, 322, 3, 3, 3, true⟩, ⟨323, 324, 7, 1, 0, true⟩, ⟨325, 328, 7, 0, 0, true⟩,
  ⟨329, 330, 7, 0, 0, false⟩, ⟨331, 338, 7, 1, 0, true⟩, ⟨339, 346, 7, 1, 0, false⟩, ⟨347, 355, 7, 0, 0, false⟩,
  ⟨356, 361, 7, 1, 0, false⟩, ⟨384, 386, 7, 1, 0, true⟩, ⟨387, 388, 3, 3, 3, true⟩, ⟨389, 403, 6, 1, 0, true⟩,
  ⟨404, 408, 7, 1, 0, true⟩, ⟨409, 409, 7, 1, 0, false⟩, ⟨410, 410, 7, 4, 4, false⟩, ⟨411, 412, 7, 1, 0, false⟩,
  ⟨413, 413, 7, 1, 0, true⟩, ⟨414, 414, 7, 4, 0, true⟩]

/-- The fault sources (R541). -/
def faultRows : List FaultRow :=
  faultRowsSys ++ faultRowsLink ++ faultRowsFacet ++ faultRowsSched ++ faultRowsDom

/-- The row of an event, if it is a fault source (R538). -/
def faultRow (e : Nat) : Option FaultRow := faultRows.find? (fun r => decide (r.lo ≤ e) && decide (e ≤ r.hi))

/-- Severity in force of a source: the stored one within floor and S4 (R561). -/
def severityOf (s : State) (e : Nat) : Nat :=
  match faultRow e with
  | none => 0
  | some r => max r.floor (min 4 ((tfind s.flt.severity e).getD r.dflt))

/-- Scope code of a source. -/
def scopeOf (e : Nat) : Nat := ((faultRow e).map (·.scope)).getD 7

/-- The active record of a source (R556). -/
def recordOf (s : State) (e : Nat) : Option FaultRec := s.flt.records.find? (fun r => r.event == e)

/-- The cause of a source is present (R721, R562). -/
def causePresent (s : State) (e : Nat) : Bool :=
  s.flt.conds.any (fun c => c.1 == e) || s.flt.injected.any (fun c => c.1 == e && decide (s.time.mono < c.2))

/-- Highest severity among the active records; 7 when there is none (R474). -/
def maxSev (s : State) : Nat :=
  if s.flt.records = [] then 7 else s.flt.records.foldl (fun a r => max a r.sev) 0

/-- A record at or above FAULT_N_SEV stands (R560): FAULT_PIN.
Log entry 149 (DEDUCED). -/
def faultPin (s : State) : Bool := s.flt.records.any (fun r => decide (s.flt.faultNSev ≤ r.sev))

/-- The level of FAULT_N: driven low by R560, and in RESET, BOOT and SAFE_DARK by R690.
Log entries 149 (DEDUCED), 155 (DESIGN CHOICE). -/
def faultNLow (s : State) : Bool := decide (s.sys.st ≤ 2) || s.sys.st == 9 || faultPin s

/-- Planes that a record's scope covers on this device (R546). -/
def planesOfScope (s : State) (e : Nat) (d : EvData) : List Nat :=
  match scopeOf e with
  | 0 | 3 => if d.plane < 2 then [d.plane] else []
  | 1 => let pl := s.elemAt d.chan
         if pl.kind = 0 then (s.linkPlane (d.chan / 1152)).toList else [pl.plane]
  | 2 => (s.linkPlane d.link).toList
  | 7 => s.planeIds
  | _ => s.planeIds.filter (fun p => s.dplaneOf p == d.plane && decide (d.plane < 32))

/-- A record of S3 or above covers the plane (R87, R548). -/
def darkCovered (s : State) (p : Nat) : Bool :=
  s.flt.records.any (fun r => decide (4 ≤ r.sev) ||
    (decide (3 ≤ r.sev) && r.scope.any (fun d => (planesOfScope s r.event d).contains p)))

/-! ### Emergency status and device state -/

/-- Vector 18 on a change of FAULT_PIN, HOST_DARK_LATCHED or WDOG_EXPIRED (R480), and SMB_ALERT_N on a change of the
highest severity or of the state (R712). -/
def notify (old new : State) : State :=
  let new := if maxSev old ≠ maxSev new ∨ old.sys.st ≠ new.sys.st then
    { new with sys := { new.sys with smbAlert := true } } else new
  if faultPin old ≠ faultPin new ∨ old.em.hostDark ≠ new.em.hostDark ∨ old.em.expired ≠ new.em.expired then
    sendVector 18 new else new

/-- A plane is held out of service by R41, R526 or R687, or by R686. -/
def planeHeld (s : State) (p : Nat) : Bool :=
  (s.plane p).warmHeld || s.cal.cal.isNone ||
    (s.sys.park.isNone && ((s.desc p).aux == 0 || (s.desc p).tSet == 0x8000))

/-- The state of R689, once WARMING has ended. -/
def runState (s : State) : Nat :=
  if s.sys.shutdown then 10
  else if s.em.hostDark || s.flt.records.any (fun r => decide (4 ≤ r.sev)) then 9
  else if s.flt.records.any (fun r => r.sev == 3) || s.mappedLinks.any (fun l => (s.link l).st == 4)
      || s.sys.map.isNone || s.sys.role == 3 || s.planeIds.any (planeHeld s)
      || (s.sys.role == 2 && s.dom.number == 0xFF) then 8
  else if s.planeIds.any (fun p => (s.plane p).regime != 0) then 7 else 6

/-- Enter a device state, raising SYS_STATE_CHANGED when it changes (R683, R689). -/
def enterState (n : Nat) (s : State) : State :=
  if s.sys.st = n then s else
    raiseEvent 48 { value := n } (notify s { s with sys := { s.sys with st := n } })

/-- Re-evaluate the state after WARMING (R689). -/
def reState (s : State) : State := if s.sys.st < 6 then s else enterState (runState s) s

/-! ### Forced zero (R113) and light -/

/-- What FORCE_ZERO leaves in a drive path: code, queue and noise-shaper state at zero, under the HOLD set.
Log entry 53 (DEDUCED). -/
def forceReset (d : Drive) : Drive :=
  { d with queue := [], out := 0, cmd := 0, code := 0, trans := false, toHold := false, limited := false
           rate := 0, peLeft := 0, peNow := false, e1 := 0, e2 := 0, inj := 0, loopCode := none }

/-- A capture ends (R200, R202). -/
def endCapture (incomplete : Bool) (k : Capture) : Capture :=
  let few := decide (k.n < 4)
  { k with running := false, c := if few then 0 else k.c, s := if few then 0 else k.s
           flags := k.flags ||| 1 ||| (if incomplete || decide (0 < k.missed) || few then 2 else 0) }

/-- A context in OPEN, its integrator clear (R182); a capture ends as INCOMPLETE (R202). -/
def openedCtx (c : Ctx) : Ctx :=
  { c with regime := 0, pending := none, waiting := false, integ := 0, eAcc := [], outs := [], force := none, undo := none
           holdUntil := none, showBroken := true, cap := if c.cap.running then endCapture true c.cap else c.cap }

/-- A channel is under FORCE_ZERO: contained, its own source's, or a shutter of a dark plane. -/
def forced (s : State) (ch : Nat) : Bool :=
  let d := s.drive ch
  d.fzWithdrawn || d.fzSource.isSome ||
    (let e := s.elemAt ch; e.kind == 3 && (s.plane e.plane).fzDark)

/-- A frame carries the START of the present window of a conversion of modulator `j` (R60). -/
def startIn (j : Nat) (c : Conv) (f : DownFrame) : Bool := decide (c.after ≤ f.tick) && tfind f.rbStart j == some c.chan

/-- Throw away the window of a conversion so that it starts again, with a START in no frame before tick `t` (R129). RESTARTS wraps.
Log entry 178 (DESIGN CHOICE). -/
def restartConv (t : Nat) (c : Conv) : Conv :=
  { c with ticks := 0, bits := 0, cmd := 0, started := false, after := t, restarts := (c.restarts + 1) % 256 }

/-- The window of a conversion of modulator `j` has begun, and tick `t` lies in it (R125, R129): its START may be under way still. -/
def windowHolds (k : Link) (j t : Nat) (c : Conv) : Bool :=
  let from' := if c.started then some c.startTick else (k.sent.find? (startIn j c)).map (·.tick)
  (from'.map (fun a => decide (a < t) && decide (t < a + 64))).getD false

/-- Restart the conversions of link `l` whose channel satisfies `f`, counting in RB_RESTARTED, or in RB_RESTART_LINK (R129). -/
def restartConvs (l : Nat) (lost : Bool) (f : Nat → Bool) (s : State) : State :=
  s.updLink l (fun k =>
    (List.range 8).foldl (fun (k : Link) m =>
      let md := tget {} k.mods m
      match md.cur with
      | none => k
      | some c =>
        if windowHolds k m s.time.tick c && f (l * 1152 + m * 144 + c.chan) then
          let k := { k with mods := tset {} k.mods m { md with cur := some (restartConv s.time.tick c) } }
          if lost then { k with cRestartLink := (k.cRestartLink + 1) % 2 ^ 32 }
          else { k with cRestart := (k.cRestart + 1) % 2 ^ 32 }
        else k) k)

/-- Conversions whose channel came under FORCE_ZERO or was released from it since `old` start again (R129). -/
def fzRestart (old s : State) : State :=
  each (List.range 8) s (fun l => restartConvs l false (fun ch => forced old ch != forced s ch))

/-- The contexts of a cell, or the context itself (R208); a context has the number of its element channel (R177). -/
def cellMates (s : State) (c : Nat) : List Nat :=
  let k := (s.elemAt c).kind
  if k = 1 then [c, c + 1] else if k = 2 then [c - 1, c] else [c]

/-- The monitor channel of a context: the cell monitor of its cell. -/
def ctxMon (s : State) (c : Nat) : Option Nat :=
  let e := s.elemAt c
  if e.kind = 1 ∨ e.kind = 2 then s.cellMon e.plane (s.cellNo e) else none

/-- AUTO asks for the setting of a context's monitor anew, now (R156, R157). -/
def askFilter (c : Nat) (s : State) : State :=
  match ctxMon s c with
  | some m => s.updMon m (fun x => { x with askAt := s.time.now })
  | none => s

/-- Entry into OPEN for the drive path of one arm (R182): queue flushed, queue output at the drive code in force. -/
def armOpen (d : Drive) : Drive :=
  { d with queue := [], out := d.code, cmd := d.code, loopCode := none, inj := 0, peLeft := 0 }

/-- Give an implicit lease up (R579). -/
def dropImplicit (cls use first : Nat) (s : State) : State :=
  match s.implicits.findIdx? (fun l => l.cls == cls && l.use == use && l.first == first) with
  | some i => { s with implicits := s.implicits.eraseIdx i }
  | none => s

/-- The capture of a context ends (R202): its implicit lease goes and LOOP_CAPTURE_DONE is raised. -/
def captureEnded (c : Nat) (s : State) : State :=
  raiseEvent 241 { plane := (s.elemAt c).plane, link := c / 1152, chan := c } (dropImplicit 5 4 c s)

/-- Leaving INJECT ends a running capture as INCOMPLETE (R202). -/
def stopCapture (c : Nat) (s : State) : State :=
  if (s.ctx c).cap.running then captureEnded c (s.updCtx c (fun x => { x with cap := endCapture true x.cap })) else s

/-- A change of regime to OPEN, for both contexts of a cell (R179, R182); a cell that stays in OPEN with no change pending is left alone. -/
def goOpen (c : Nat) (s : State) : State :=
  if (cellMates s c).all (fun k => decide ((s.ctx k).regime = 0) && decide ((s.ctx k).pending = none)) then s
  else each (cellMates s c) s (fun k s =>
    let t := askFilter k ((s.updCtx k openedCtx).updDrive k armOpen)
    if (s.ctx k).cap.running then captureEnded k t else t)

/-- Put one channel under FORCE_ZERO (R113): `mark` sets the flag that holds it there. -/
def forceZero (ch : Nat) (mark : Drive → Drive) (s : State) : State :=
  let s := restartConvs (ch / 1152) false (fun c => c == ch && !forced s c) s
  let s := goOpen ch s
  s.updDrive ch (fun d => mark (forceReset d))

/-- Hardware part of S3 for plane `p` (step 1 of R548): LIGHT_EN low on its links, every shutter under FORCE_ZERO. -/
def hwDarkPlane (p : Nat) (s : State) : State :=
  let ls := s.linksOf p
  let s := { s with pins := { s.pins with
    light := ls.foldl (fun (b : BitVec 8) l => b &&& ~~~(1#8 <<< l)) s.pins.light } }
  let s := each ls s (fun l => restartConvs l false (fun c => s.isShutter c && !forced s c))
  let s := { s with drives := tmap {} (fun ch d =>
      let pl := s.elemAt ch
      if pl.kind = 3 ∧ pl.plane = p then forceReset d else d) s.drives }
  s.updPlane p (fun q => { q with fzDark := true })

/-- Hardware part of S4 on this device, without the DARK message: LIGHT_EN low everywhere (R549). -/
def hwDarkAll (s : State) : State :=
  let s := each s.planeIds s hwDarkPlane
  { s with pins := { s.pins with light := 0 } }

/-- Is LIGHT_EN of a link driven high? -/
def State.lightOn (s : State) (l : Nat) : Bool := s.pins.light.getLsbD l

/-- Drive LIGHT_EN of one link low, for a link that leaves RUN (R87). -/
def lightOff (l : Nat) (s : State) : State :=
  { s with pins := { s.pins with light := s.pins.light &&& ~~~(1#8 <<< l) } }

/-- Bit p of PLANE_DARK (R474): dark by S3 or S4, or in IDLE outside the light phases of a commissioning run. -/
def planeDarkBit (s : State) (p : Nat) : Bool :=
  (s.plane p).fzDark || s.em.hostDark || ((s.plane p).regime == 0 &&
    !((s.cal.run.map (fun r => r.plane == p && r.phases % 2 == 0)).getD false))

/-- Queue a firmware part of a reaction (R547 to R549), once. -/
def addTask (t : FwTask) (s : State) : State :=
  if s.flt.tasks.any (fun x => x.1 == t) then s else { s with flt := { s.flt with tasks := s.flt.tasks ++ [(t, s.time.now)] } }

/-- Contain one circuit (step 1 of R547), the rest left to the firmware.
Log entry 112 (DEDUCED). -/
def contain (p inp out e : Nat) (s : State) : State :=
  let s := match s.shutterCh p inp with
    | some ch => forceZero ch (fun d => { d with fzWithdrawn := true }) s
    | none => s
  let s := s.updPlane p (fun q => { q with dark := if q.dark.contains (inp, out) then q.dark else q.dark ++ [(inp, out)] })
  addTask (.contain p inp out e) s

/-- Circuits of a plane with a cell or a shutter on link `l` (R546). -/
def circuitsOnLink (s : State) (p l : Nat) : List (Nat × Nat) :=
  match (s.plane p).force with
  | none => []
  | some f => (s.litCircuits p).filter (fun c =>
      ((s.shutterCh p c.1).map (fun ch => ch / 1152 == l)).getD false ||
      (pathCells (s.ports p) f c.1).any (fun cell => ((s.armCh p cell false).map (fun ch => ch / 1152 == l)).getD false))

/-- The lit circuits that an S2 reaction of a source contains (R546). -/
def circuitsOfScope (s : State) (e : Nat) (d : EvData) : List (Nat × Nat × Nat) :=
  match scopeOf e with
  | 0 => if (s.litCircuits d.plane).contains (d.inp, d.out) then [(d.plane, d.inp, d.out)] else []
  | 1 =>
    let pl := s.elemAt d.chan
    if pl.kind = 3 then ((s.litCircuits pl.plane).filter (fun c => c.1 == pl.index)).map (fun c => (pl.plane, c.1, c.2))
    else if pl.kind = 1 ∨ pl.kind = 2 then (s.throughCell pl.plane (s.cellNo pl)).map (fun c => (pl.plane, c.1, c.2))
    else []
  | 2 => (s.linkPlane d.link).toList.flatMap (fun p => (circuitsOnLink s p d.link).map (fun c => (p, c.1, c.2)))
  | 3 => (s.litCircuits d.plane).map (fun c => (d.plane, c.1, c.2))
  | 7 => s.planeIds.flatMap (fun p => (s.litCircuits p).map (fun c => (p, c.1, c.2)))
  | _ => []

/-- A commissioning run of plane `p` aborts (R519): its leases and patterns go, the calibration in force stays. -/
def calAbort (p e : Nat) (s : State) : State :=
  match s.cal.run with
  | none => s
  | some r =>
    if r.plane ≠ p then s else
    let s := dropRunTrims s
    let s := { s with
      cal := { s.cal with run := none }
      ctxs := tmap {} (fun _ c => if c.cal then { openedCtx c with cal := false } else c) s.ctxs
      drives := tmap {} (fun ch d => if s.linkPlane (ch / 1152) = some p then { d with pattern := none } else d) s.drives }
    raiseEvent 52 { plane := p, value := e } s

/-- The reaction of severity `sev` on a scope (R546 to R549); `prop` lets an S4 send clasp DARK. -/
def react (sev e : Nat) (scope : List EvData) (prop : Bool) (s : State) : State :=
  if sev < 2 then s
  else if sev = 2 then
    each scope s (fun d s =>
      let s := each (circuitsOfScope s e d) s (fun c s => contain c.1 c.2.1 c.2.2 e s)
      let s := if scopeOf e = 1 ∧ (s.drive d.chan).fzSource.isNone ∧ d.chan < 9216 then
        forceZero d.chan (fun x => { x with fzSource := some e }) s else s
      if 4 ≤ scopeOf e ∧ scopeOf e ≤ 6 then addTask (.dplane 2 d.plane d.inp d.ep e) s else s)
  else if sev = 3 then
    each scope s (fun d s =>
      if 4 ≤ scopeOf e ∧ scopeOf e ≤ 6 then addTask (.dplane 3 d.plane d.inp d.ep e) s
      else each (planesOfScope s e d) s (fun p s => addTask (.planeDark p e) (calAbort p e (hwDarkPlane p s))))
  else
    let s := hwDarkAll s
    let s := if prop ∧ s.dom.propagate then sendDark s else s
    addTask (.deviceDark e) (each s.planeIds s (fun p s => calAbort p e s))

/-! ### Records -/

/-- Append to the fault log (R570). -/
def faultLog (e sev action : Nat) (inj rem : Bool) (d : EvData) (s : State) : State :=
  let p := pushLog 4096 s.flt.log s.flt.logLost
    { event := e, sev := sev, action := action, injected := inj, remote := rem, time := s.time.now, data := d }
  { s with flt := { s.flt with log := p.1, logLost := p.2 } }

/-- Insert or replace a record, ascending event number. -/
def putRecord (r : FaultRec) : List FaultRec → List FaultRec
  | [] => [r]
  | x :: t => if x.event = r.event then r :: t else if r.event < x.event then r :: x :: t else x :: putRecord r t

/-- Store a record and tell the pins and vectors that depend on it (R480, R560). -/
def setRecord (r : FaultRec) (s : State) : State :=
  notify s { s with flt := { s.flt with records := putRecord r s.flt.records } }

/-- How an occurrence came about: injected (R562), begun by a message (R563), and whether an S4 of it propagates. -/
structure Cause where
  /-- INJECTED -/
  inj : Bool := false
  /-- REMOTE -/
  rem : Bool := false
  /-- an S4 sends clasp DARK -/
  prop : Bool := true
  deriving DecidableEq, Repr

/-- A new occurrence of a source at S1 or above (R543, R556, R557): record, escalation, log and reaction. -/
def occur (c : Cause) (e : Nat) (d : EvData) (s : State) : State :=
  match recordOf s e with
  | none =>
    let sev := severityOf s e
    let s := setRecord { event := e, sev := sev, base := sev, injected := c.inj, remote := c.rem
                         first := s.time.now, last := s.time.now, data := d, scope := [d] } s
    react sev e [d] c.prop (faultLog e sev 0 c.inj c.rem d s)
  | some r =>
    let sev := if r.acked then r.sev else min 4 (r.sev + 1)
    let sc := if r.scope.contains d then r.scope else r.scope ++ [d]
    let s := setRecord { r with sev := sev, occ := sat 16 (r.occ + 1), last := s.time.now, data := d, scope := sc
                                injected := r.injected || c.inj, remote := r.remote || c.rem } s
    react sev e sc c.prop (faultLog e sev (if r.sev < sev then 1 else 0) c.inj c.rem d s)

/-- The instance of a merged occurrence joins the scope at the record's severity (R539); the one occurrence has sent its DARK.
Log entry 117 (DEDUCED). -/
def mergeOcc (c : Cause) (e : Nat) (d : EvData) (s : State) : State :=
  match recordOf s e with
  | none => s
  | some r =>
    if r.scope.contains d then s else
      react r.sev e [d] (c.prop && decide (r.sev < 4)) (setRecord { r with scope := r.scope ++ [d], data := d } s)

/-- An occurrence now merges into the one of less than 1 us ago (R539). -/
def mergesNow (s : State) (e : Nat) : Bool :=
  match tfind s.flt.lastOcc e with | some t => decide (s.time.mono < t + us 1) | none => false

/-- An occurrence of a fault source (R539, R543), with the state re-evaluated after it (R689).
Log entry 117 (DEDUCED). -/
def occurrence (c : Cause) (e : Nat) (d : EvData) (s : State) : State :=
  match tfind s.flt.lastOcc e with
  | some t =>
    if s.time.mono < t + us 1 then reState (mergeOcc c e d s)
    else
      let s := { s with flt := { s.flt with lastOcc := tput s.flt.lastOcc e s.time.mono } }
      let s := raiseEvent e d s
      reState (if severityOf s e = 0 ∧ (recordOf s e).isNone then faultLog e 0 0 c.inj c.rem d s else occur c e d s)
  | none =>
      let s := { s with flt := { s.flt with lastOcc := tput s.flt.lastOcc e s.time.mono } }
      let s := raiseEvent e d s
      reState (if severityOf s e = 0 ∧ (recordOf s e).isNone then faultLog e 0 0 c.inj c.rem d s else occur c e d s)

/-- An occurrence source detects its cause (R539). -/
def raiseFault (e : Nat) (d : EvData) (s : State) : State := occurrence {} e d s

/-- A condition of a condition source begins for an instance in a given way (R539, R563, R721); nothing while it persists. -/
def raiseCondBy (c : Cause) (e inst : Nat) (d : EvData) (s : State) : State :=
  if s.flt.conds.contains (e, inst) then s
  else occurrence c e d { s with flt := { s.flt with conds := s.flt.conds ++ [(e, inst)] } }

/-- A condition of a condition source begins for an instance on this device (R539, R721). -/
def raiseCond (e inst : Nat) (d : EvData) (s : State) : State := raiseCondBy {} e inst d s

/-- A condition ends for an instance (R721). -/
def endCond (e inst : Nat) (s : State) : State :=
  if s.flt.conds.contains (e, inst) then
    { s with flt := { s.flt with conds := s.flt.conds.filter (· ≠ (e, inst)) } } else s

/-- Raise or end a condition, as it stands. -/
def setCond (b : Bool) (e inst : Nat) (d : EvData) (s : State) : State :=
  if b then raiseCond e inst d s else endCond e inst s

/-! ### Clearing (R559) -/

/-- A record may be cleared: ACKED, and its cause gone. -/
def clearable (s : State) (r : FaultRec) : Bool := r.acked && !causePresent s r.event

/-- A plane whose shutters no record of S3 or S4 holds any more restarts them at code 0 (R559). -/
def releaseDark (s : State) : State :=
  fzRestart s (each s.planeIds s (fun p s =>
    if (s.plane p).fzDark && !darkCovered s p && !s.em.hostDark then
      s.updPlane p (fun q => { q with fzDark := false }) else s))

/-- Another active record of scope K that put the channel under FORCE_ZERO by S2 (R546, R559). -/
def otherSource (s : State) (ch : Nat) : Option Nat :=
  (s.flt.records.find? (fun r => scopeOf r.event == 1 && decide (r.base ≤ 2) && decide (2 ≤ r.sev)
    && r.scope.any (fun d => d.chan == ch))).map (·.event)

/-- Clear one record (R559). -/
def clearRecord (r : FaultRec) (s : State) : State :=
  let s := faultLog r.event r.sev 3 r.injected r.remote r.data s
  let s := notify s { s with flt := { s.flt with
    records := s.flt.records.filter (fun x => x.event != r.event)
    lastOcc := tdel s.flt.lastOcc r.event } }
  let s := fzRestart s (each r.scope s (fun d s =>
    if (s.drive d.chan).fzSource = some r.event then
      s.updDrive d.chan (fun x => { x with fzSource := otherSource s d.chan }) else s))
  releaseDark s

end Sys2Proof.Machine
end

