-- ==== Sys2Proof/Machine/Buffers.lean ====
section
/-! DEFINITION. Allocation and return of pool buffers (R410 to R414): pool 0 relay, pool 1 message. -/

namespace Sys2Proof.Machine

/-- Default quotas of a requester (R410). -/
def reqDefault (pool r : Nat) : Requester :=
  if pool = 0 then
    if r < 4 then { min := 2048, max := 16384, head := 512 }
    else if r < 6 then { min := 2048, max := 16384, head := 256 }
    else { min := 512, max := 4096 }
  else match r with
    | 0 => { min := 256, max := 1024, stage := 3 }
    | 1 => { min := 64, max := 256, stage := 2 }
    | 2 => { min := 128, max := 512, stage := 3 }
    | _ => { min := 64, max := 512, stage := 1 }

/-- Buffers of a pool (R410). -/
def poolSize (pool : Nat) : Nat := if pool = 0 then 32768 else 1024
/-- Bytes of a buffer (R410). -/
def bufBytes (pool : Nat) : Nat := if pool = 0 then 256 else 4096
/-- Requesters of a pool (R410). -/
def poolReqs (pool : Nat) : Nat := if pool = 0 then 10 else 4

/-- A pool. -/
def State.pool (s : State) (n : Nat) : Pool := tget {} s.pools n
/-- Change a pool. -/
def State.updPool (s : State) (n : Nat) (f : Pool → Pool) : State :=
  { s with pools := tset {} s.pools n (f (s.pool n)) }
/-- A requester of a pool. -/
def poolReq (p : Pool) (n r : Nat) : Requester := tget (reqDefault n r) p.reqs r
/-- Change a requester of a pool. -/
def setReq (n r : Nat) (x : Requester) (p : Pool) : Pool := { p with reqs := tset (reqDefault n r) p.reqs r x }
/-- THRESH_1 to THRESH_3 (R412). -/
def threshOf (p : Pool) (n : Nat) : List Nat :=
  if p.thresh = [] then (if n = 0 then [24576, 28672, 31130] else [768, 896, 973]) else p.thresh
/-- STAGE_CLASSES (R404). -/
def stageClasses (p : Pool) : List Nat := if p.classes = [] then [0x0F, 0x3F, 0xFF] else p.classes
/-- Reserved minimums of a pool in all. -/
def minTotal (p : Pool) (n : Nat) : Nat := (List.range (poolReqs n)).foldl (fun a r => a + (poolReq p n r).min) 0
/-- Free buffers of the shared region (R410, R427). -/
def sharedFree (p : Pool) (n : Nat) : Nat := poolSize n - minTotal p n - p.shared

/-- The stage that `alloc` buffers give, from the stage in force (R412). -/
def stageFor (p : Pool) (n : Nat) : Nat :=
  let on := fun (k : Nat) => let t := (threshOf p n).getD (k - 1) 0
    decide (t ≤ p.alloc) || (decide (k ≤ p.stage) && decide (t - poolSize n / 32 ≤ p.alloc))
  if on 3 then 3 else if on 2 then 2 else if on 1 then 1 else 0

/-- Bring the stage up to date, raising POOL_STAGE on a change (R412). -/
def restage (n : Nat) (s : State) : State :=
  let k := stageFor (s.pool n) n
  if k = (s.pool n).stage then s
  else raiseEvent (373 + n) { value := k } (s.updPool n (fun p => { p with stage := k }))

/-- A requester is in limit (R411).
Log entry 118 (DESIGN CHOICE). -/
def inLimit (s : State) (n r : Nat) : Bool :=
  let p := s.pool n
  let x := poolReq p n r
  n == 0 && decide (r < 4) &&
    (decide (x.max ≤ x.u + x.head) || (sharedFree p n == 0 && decide (x.min - x.v ≤ x.head)))

/-- The lowest free buffer number.
Log entry 118 (DESIGN CHOICE). -/
def freeBuf (p : Pool) (size : Nat) : Option Nat :=
  let rec go : Nat → Tab Buf → Nat
    | k, [] => k
    | k, (i, _) :: t => if i = k then go (k + 1) t else k
  let k := go 0 p.bufs
  if k < size then some k else none

/-- Allocate one buffer for a requester: its number, or EMPTY (R411, R412).
Log entry 118 (DESIGN CHOICE). -/
def allocBuf (n r refs : Nat) (s : State) : Option Nat × State :=
  let p := s.pool n
  let x := poolReq p n r
  let none' := (none, s.updPool n (setReq n r { x with empty := (x.empty + 1) % 2 ^ 32 }))
  if x.max ≤ x.u then none'
  else if n = 1 ∧ p.stage ≠ 0 ∧ x.stage ≤ p.stage ∧ x.min ≤ x.u then none'
  else
    let fromShared := decide (0 < sharedFree p n)
    if !fromShared && decide (x.min ≤ x.v) then none'
    else match freeBuf p (poolSize n) with
      | none => none'
      | some k =>
        let q := setReq n r { x with u := x.u + 1, v := if fromShared then x.v else x.v + 1 } p
        let q := { q with alloc := q.alloc + 1, shared := if fromShared then q.shared + 1 else q.shared
                          bufs := tput q.bufs k { alloc := true, owner := r, refs := refs
                                                  reserve := if fromShared then 0 else r + 1 } }
        (some k, restage n (s.updPool n (fun _ => q)))

/-- Allocate `k` buffers one after another, until one is refused. -/
def allocSome (n r refs : Nat) : Nat → State → Option (List Nat × State)
  | 0, s => some ([], s)
  | k + 1, s =>
    match allocBuf n r refs s with
    | (none, _) => none
    | (some b, t) => (allocSome n r refs k t).map (fun x => (b :: x.1, x.2))

/-- Allocate `k` buffers, all or none: where one is refused the whole request receives EMPTY and takes nothing (R411).
Log entry 118 (DESIGN CHOICE). -/
def allocBufs (n r refs k : Nat) (s : State) : Option (List Nat) × State :=
  match allocSome n r refs k s with
  | some x => (some x.1, x.2)
  | none =>
    let x := poolReq (s.pool n) n r
    (none, s.updPool n (setReq n r { x with empty := (x.empty + 1) % 2 ^ 32 }))

/-- Return one buffer, or one reference of it, to the pool (R413). -/
def freeAddr (n addr by' : Nat) (s : State) : State :=
  if addr % bufBytes n ≠ 0 ∨ poolSize n * bufBytes n ≤ addr then
    raiseFault (356 + n) {} (s.updPool n (fun p => { p with bad := (p.bad + 1) % 2 ^ 32 }))
  else
    let k := addr / bufBytes n
    let p := s.pool n
    match tfind p.bufs k with
    | none => raiseFault (358 + n) {} (s.updPool n (fun p => { p with dbl := (p.dbl + 1) % 2 ^ 32 }))
    | some b =>
      if b.owner ≠ by' then
        raiseFault (360 + n) {} (s.updPool n (fun p => { p with foreign := (p.foreign + 1) % 2 ^ 32 }))
      else if n = 0 ∧ 1 < b.refs then
        s.updPool n (fun p => { p with bufs := tput p.bufs k { b with refs := b.refs - 1 } })
      else
        let x := poolReq p n b.owner
        let q := setReq n b.owner { x with u := x.u - 1 } p
        let q := if b.reserve = 0 then { q with shared := q.shared - 1 }
          else
            let h := poolReq q n (b.reserve - 1)
            setReq n (b.reserve - 1) { h with v := h.v - 1 } q
        restage n (s.updPool n (fun _ => { q with alloc := q.alloc - 1, bufs := tdel q.bufs k }))

/-- Return a buffer by number. -/
def freeBufNo (n k by' : Nat) (s : State) : State := freeAddr n (k * bufBytes n) by' s

/-- Return buffers by number. -/
def freeBufs (n : Nat) (l : List Nat) (by' : Nat) (s : State) : State := each l s (fun k => freeBufNo n k by')

end Sys2Proof.Machine
end

