-- ==== Sys2Proof/Machine/Operands.lean ====
section
/-! DEFINITION. The operand forms of Bilek requests: payload layouts, refusals and their order (R492 to R497,
R719), and the lease a command acts under (R575 to R580). -/

namespace Sys2Proof.Machine

/-- A refusal: STATUS with its two details (R495, R496). -/
structure Refuse where
  /-- STATUS -/
  st : Nat
  /-- DETAIL0 -/
  d0 : Nat := 0
  /-- DETAIL1 -/
  d1 : Nat := 0
  deriving DecidableEq, Repr

/-- BAD_PARAM for the payload field at offset `o`. -/
def bad (o : Nat) : Refuse := ⟨3, o, 0⟩
/-- BAD_PARAM for a header field. -/
def badHeader : Refuse := ⟨3, 0xFFFFFFFF, 0⟩
/-- BUSY. -/
def busy : Refuse := ⟨1, 0, 0⟩
/-- REFUSED_CONFLICT with a device function of holder kind `k` (R577). -/
def conflict (k : Nat) : Refuse := ⟨2, 0, k⟩
/-- NOT_READY. -/
def notReady : Refuse := ⟨4, 0, 0⟩
/-- LATE. -/
def late : Refuse := ⟨5, 0, 0⟩
/-- BUSY_LIT. -/
def busyLit : Refuse := ⟨6, 0, 0⟩
/-- NO_CAPABILITY. -/
def noCap : Refuse := ⟨7, 0, 0⟩
/-- AUTH_FAIL. -/
def authFail : Refuse := ⟨8, 0, 0⟩
/-- TIME_REFUSED. -/
def timeRefused : Refuse := ⟨9, 0, 0⟩
/-- QUOTA. -/
def quota : Refuse := ⟨10, 0, 0⟩
/-- TARGET_UNREACHABLE. -/
def unreachableT (t : Nat) : Refuse := ⟨11, t, 0⟩
/-- EMPTY. -/
def empty : Refuse := ⟨12, 0, 0⟩

/-- What a successful command answers: response payload, and data written to host memory at an address. -/
structure Reply where
  /-- response payload -/
  pay : Bytes := []
  /-- host bus address -/
  addr : Nat := 0
  /-- data written there -/
  data : Bytes := []
  deriving DecidableEq, Repr

/-- What the run of a command comes to: a refusal, or a new state with its answer (none while the answer is still to come). -/
abbrev Ran := Except Refuse (State × Option Reply)

/-- The first refusal whose condition holds.
Log entry 154 (DEDUCED). -/
def firstOf : List (Bool × Refuse) → Option Refuse
  | [] => none
  | (c, r) :: t => if c then some r else firstOf t

/-- Go on unless one of the conditions refuses. -/
def guarded (l : List (Bool × Refuse)) (k : Ran) : Ran :=
  match firstOf l with
  | some r => .error r
  | none => k

/-- Answer OK with a payload. -/
def ok (s : State) (pay : Bytes := []) : Ran := .ok (s, some { pay := pay })

/-- Act, and leave the answer for later.
Log entry 157 (DEDUCED). -/
def later (s : State) : Ran := .ok (s, none)

/-- Sum of field sizes. -/
def total (fs : List Nat) : Nat := fs.foldl (· + ·) 0

/-- Offset of the first field that `n` bytes do not wholly contain (R719). -/
def firstMissing (n : Nat) : Nat → List Nat → Nat
  | o, [] => o
  | o, f :: t => if o + f ≤ n then firstMissing n (o + f) t else o

/-- The length check of a layout with these field sizes (R719).
Log entry 154 (DEDUCED). -/
def layout (fs : List Nat) (p : Bytes) : List (Bool × Refuse) :=
  [(decide (total fs < p.length), bad (total fs)), (decide (p.length < total fs), bad (firstMissing p.length 0 fs))]

/-- `n` times the same entry fields. -/
def entries (n : Nat) (fs : List Nat) : List Nat := (List.replicate n fs).flatten

/-- Reserved bytes that are set (R9, R495). -/
def resv (p : Bytes) (o n : Nat) : Bool × Refuse := (fld p o n != 0, bad o)

/-- A field out of range. -/
def range (p : Bytes) (o n lo hi : Nat) : Bool × Refuse := (decide (fld p o n < lo) || decide (hi < fld p o n), bad o)

/-- A count or selector field out of range, which is refused before the length is judged where the payload holds it (R719).
Log entry 154 (DEDUCED). -/
def sel (p : Bytes) (o n lo hi : Nat) : Bool × Refuse :=
  (decide (o + n ≤ p.length) && (decide (fld p o n < lo) || decide (hi < fld p o n)), bad o)

/-- A time field whose NANOSECONDS part is out of range (R346). -/
def badTime (p : Bytes) (o : Nat) : Bool × Refuse := (!timeOk p o, bad o)

/-! ### Leases -/

/-- The lease class, use and instances a command needs (R580). -/
structure Need where
  /-- class of R575 -/
  cls : Nat
  /-- use of R575 -/
  use : Nat
  /-- instances named, ascending -/
  insts : List Nat
  deriving DecidableEq, Repr

/-- The use that the class accepts (R575). -/
def useOk (cls use : Nat) : Bool :=
  use == 0 && decide (1 ≤ cls) && decide (cls ≤ 9) ||
  (match cls with
   | 1 | 2 | 7 | 8 | 9 => use == 1
   | 3 => use == 2
   | 4 => use == 3
   | 5 => use == 4
   | 6 => decide (5 ≤ use) && decide (use ≤ 8)
   | _ => false)

/-- Instances of a class (R575). -/
def instCount (cls : Nat) : Nat :=
  match cls with
  | 1 => 4 | 2 => 2 | 3 => 64 | 4 => 5120 | 5 => 9216 | 6 => 52 | 7 => 4 | 8 => 2 | 9 => 256 | _ => 0

/-- Two uses on one instance are compatible (R576).
Log entry 119 (DEDUCED). -/
def compatible (a b : Nat) : Bool :=
  a == 0 || b == 0 ||
  [(5, 6), (5, 7), (5, 8), (6, 7), (7, 8), (6, 5), (7, 5), (8, 5), (7, 6), (8, 7)].contains (a, b)

/-- A lease covers an instance; BUFFERS leases hold no numbered instance. -/
def Lease.covers (l : Lease) (i : Nat) : Bool := decide (l.first ≤ i) && decide (i < l.first + l.count)

/-- The leases, HOST and implicit, that hold an instance against a use (R576, R577). -/
def holders (s : State) (cls use own i : Nat) : List Lease :=
  if cls = 9 then [] else
  (s.leases ++ s.implicits).filter (fun l => l.cls == cls && l.id != own && l.covers i && !compatible l.use use)

/-- The refusal of R577 for the lowest conflicting instance, if there is one.
Log entry 119 (DEDUCED). -/
def holderRefusal (s : State) (n : Need) (own : Nat) : Option Refuse :=
  (n.insts.find? (fun i => !(holders s n.cls n.use own i).isEmpty)).map
    (fun i => ⟨2, ((holders s n.cls n.use own i).head?.map (·.id)).getD 0, 0⟩)

/-- The lease field is acceptable (R578): none, or a live lease whose class, use and range permit the command. -/
def leaseOk (s : State) (n : Option Need) (id : Nat) : Bool :=
  id == 0 ||
  (match s.leases.find? (fun l => l.id == id), n with
   | some l, some n => decide (s.time.mono < l.due) && l.cls == n.cls && (l.use == n.use || n.use == 0)
       && (n.cls == 9 || n.insts.all (fun i => l.covers i))
   | _, _ => false)

/-- Hold an implicit lease while an action runs (R579). -/
def holdImplicit (cls use first count : Nat) (s : State) : State :=
  { s with implicits := s.implicits ++ [{ id := 0xFFFFFFFF, cls := cls, use := use, first := first, count := count }] }

end Sys2Proof.Machine
end

