-- ==== Sys2Proof/Machine/Bilek.lean ====
section
/-! DEFINITION. Running a Bilek command: acceptance at the doorbell, the order of refusals, the wait for VCORE,
the response, and the tunnel to a worker (R451, R452, R467, R485, R486, R492 to R497, R578, R624). -/

namespace Sys2Proof

/-- INDIRECT flag of a request. -/
def Req.indirect (r : Req) : Bool := Machine.bit r.flags 0

/-- The payload length of a request (R719). -/
def Req.plen (r : Req) : Nat := if r.indirect then (r.ind.getD {}).reqLen else r.len

/-- The payload as the KV512 takes it: LENGTH or REQ_LEN bytes. -/
def Req.pay (r : Req) : Bytes := Machine.slice r.payload 0 r.plen

end Sys2Proof

namespace Sys2Proof.Machine

/-- A command: its opcode, the lease it needs, its payload checks, and its run. -/
structure Cmd where
  /-- OPCODE -/
  op : Nat
  /-- lease class, use and instances (R580) -/
  need : Bytes → State → Option Need := fun _ _ => none
  /-- payload checks, in order (step 5 of R497) -/
  checks : Bytes → State → List (Bool × Refuse)
  /-- payload offset of a host bus address to write to or read from, if the payload names one (R467) -/
  host : Option Nat := none
  /-- payload checks that the manager makes before it passes the command to a worker (R332, R452) -/
  passing : Bytes → Nat → State → List (Bool × Refuse) := fun _ _ _ => []
  /-- VCORE floor in mV that its effect needs (R206, R623) -/
  floor : Bytes → State → Nat := fun _ _ => 0
  /-- its own refusals and its effect -/
  run : Req → State → Ran

/-- The 24 bytes of an INDIRECT request (R493). -/
def indirectBytes (i : Indirect) : Bytes := le 8 i.reqAddr ++ le 4 i.reqLen ++ le 4 i.rspMax ++ le 8 i.rspAddr

/-- A request as the host writes it into the request area (R492). -/
def reqBytes (op : Nat) (r : Req) : Bytes :=
  (le 2 op ++ le 2 r.tag ++ le 2 r.len ++ le 2 r.flags ++ le 1 r.target ++ le 3 r.resv ++ le 4 r.lease
    ++ (if r.indirect then indirectBytes (r.ind.getD {}) else r.payload)).take 4096

/-- The request that a request area spells, with the payload that DMA fetches when it is INDIRECT (R492, R493). -/
def reqOf (m : Nat) (area : Bytes) (dma dmaIn : Bytes) : Nat × Req :=
  let flags := fld area 6 2
  let ind := bit flags 0
  (fld area 0 2,
   { origin := .mailbox m, tag := fld area 2 2, len := fld area 4 2, flags := flags, target := fld area 8 1
     resv := fld area 9 3, lease := fld area 12 4
     payload := if ind then dma else area.drop 16
     ind := if ind then some { reqAddr := fld area 16 8, reqLen := fld area 24 4, rspMax := fld area 28 4
                               rspAddr := fld area 32 8 } else none
     dmaIn := dmaIn })

/-! ### Responses -/

/-- A response header (R494). -/
def rspHeader (op tag st len d0 d1 : Nat) : Bytes := le 2 tag ++ le 2 st ++ le 2 len ++ le 2 op ++ le 4 d0 ++ le 4 d1

/-- New bytes over the start of an area that keeps the rest. -/
def overlay (new old : Bytes) : Bytes := new ++ old.drop new.length

/-- Complete a mailbox transaction (step 4 of R485): response area, BUSY, DONE and the vector. -/
def finishMbox (m : Nat) (flags : Nat) (rsp : Bytes) (s : State) : State :=
  let s := s.updMbox m (fun b => { b with rsp := overlay rsp b.rsp, busy := false, done := true })
  if bit flags 1 then s else sendVector m s

/-- Take the message-pool buffers that the payload of an INDIRECT request fills, for requester MAILBOX; a mailbox keeps them until
the answer (R410, R414, R493).
Log entry 183 (DEDUCED). -/
def stage (r : Req) (s : State) : Bool × State :=
  match r.origin with
  | .tunnel _ _ => (true, s)
  | .mailbox m =>
    if !r.indirect then (true, s)
    else match allocBufs 1 1 1 (ceilDiv r.plen 4096) s with
      | (none, t) => (false, t)
      | (some l, t) => (true, t.updMbox m (fun b => { b with bufs := b.bufs ++ l }))

/-- Return the message-pool buffers of a mailbox.
Log entry 183 (DEDUCED). -/
def unstage (m : Nat) (s : State) : State :=
  if (s.mbox m).bufs = [] then s else freeBufs 1 (s.mbox m).bufs 1 (s.updMbox m (fun b => { b with bufs := [] }))

/-- Segments of a tunnelled whole (R441): at most 9,184 bytes of content each. -/
def tunnelSegs (tag : Nat) (whole : Bytes) : List Bytes :=
  let n := max 1 (ceilDiv whole.length 9184)
  (List.range n).map (fun i =>
    le 4 tag ++ le 2 i ++ le 2 n ++ le 4 (i * 9184) ++ le 4 whole.length ++ (whole.drop (i * 9184)).take 9184)

/-- Answer a request through the way it came (R485, R452, R493); the response of a command that ran when the PCIe function was reset is
discarded with its data (R468).
Log entries 55 (DEDUCED), 183 (DEDUCED). -/
def answer (op : Nat) (r : Req) (st d0 d1 : Nat) (p : Reply) (s : State) : State :=
  match r.origin with
  | .mailbox m =>
    let s := if r.indirect then unstage m s else s
    if (s.mbox m).discard = some r.tag then s.updMbox m (fun b => { b with discard := none })
    else
      let s := dmaWrite p.addr p.data s
      if r.indirect then
        finishMbox m r.flags (rspHeader op r.tag st p.pay.length d0 d1) (dmaWrite (r.ind.getD {}).rspAddr p.pay s)
      else finishMbox m r.flags (rspHeader op r.tag st p.pay.length d0 d1 ++ p.pay) s
  | .tunnel dev tag =>
    each (tunnelSegs tag (rspHeader op r.tag st p.pay.length d0 d1 ++ p.pay ++ p.data)) s (fun b => claspSend 0x41 dev b)

/-- Answer with a refusal. -/
def refuseReq (op : Nat) (r : Req) (e : Refuse) (s : State) : State := answer op r e.st e.d0 e.d1 {} s

/-- Answer OK. -/
def answerOk (op : Nat) (r : Req) (p : Reply) (s : State) : State := answer op r 0 0 0 p s

/-- Room for a response payload (R493); the manager holds a tunnelled response against the room of its own request.
Log entries 17 (DEDUCED), 126 (DESIGN CHOICE). -/
def rspRoom (r : Req) : Nat :=
  match r.origin with
  | .mailbox _ => if r.indirect then (r.ind.getD {}).rspMax else 4080
  | .tunnel _ _ => 65535

/-- The refusal for want of room for the response payload (R493).
Log entry 126 (DESIGN CHOICE). -/
def noRoom (r : Req) : Refuse := if r.indirect then bad 12 else badHeader

/-- Answer OK, when the response payload has room (R493).
Log entry 126 (DESIGN CHOICE). -/
def answerFit (op : Nat) (r : Req) (p : Reply) (s : State) : State :=
  if rspRoom r < p.pay.length then refuseReq op r (noRoom r) s else answerOk op r p s

/-- The largest response payload of a command that changes the machine, as far as its request tells (R493): what the manager holds
against the room of a request before it passes the request to a worker, and what a command whose answer comes later needs before it
acts.
Log entries 17 (DEDUCED), 126 (DESIGN CHOICE). -/
def replyMax (op : Nat) (p : Bytes) : Nat :=
  match op with
  | 0x0103 | 0x0D06 | 0x0D07 | 0x1007 | 0x1102 | 0x1103 => 4
  | 0x0D04 => 8
  | 0x0509 | 0x0801 | 0x0802 | 0x0903 | 0x0A01 | 0x0C04 | 0x1704 => 12
  | 0x1304 | 0x1505 | 0x1701 => 16
  | 0x0403 | 0x0805 => 20
  | 0x050C | 0x070C | 0x0F07 => 24
  | 0x0606 | 0x080B | 0x0902 => 28
  | 0x0B05 => 32
  | 0x0A0A => 40
  | 0x1206 => 48
  | 0x0706 => 64
  | 0x0D0B => 88
  | 0x0E02 => if fld p 0 1 = 0 then 184 else 88
  | 0x1405 => if fld p 0 1 = 0 then 32 else 0
  | 0x1406 | 0x1407 => if fld p 0 1 = 0 then 32 else 4
  | 0x0104 | 0x0F06 => 4 + 32 * fld p 0 2
  | 0x1107 => 4 + 40 * fld p 0 2
  | 0x0604 => 48 * fld p 2 1
  | 0x0605 => 40 * fld p 2 1
  | 0x0C07 => 4 + 20 * fld p 1 1
  | 0x0C0B => 4 + 16 * fld p 1 1
  | _ => 0

/-- Commands whose answer may come after they have acted: `link.bezel_cmd`, `drive.readback`, `chain.start`, `sched.set_regime` and
`relay.fence`.
Log entry 126 (DESIGN CHOICE). -/
def answersLate (op : Nat) : Bool := [0x0403, 0x0509, 0x0902, 0x0A01, 0x0D07].contains op

/-! ### The order of refusals (R497) -/

/-- Steps 2: the header. -/
def headerBad (r : Req) : Bool :=
  decide (3 < r.flags) || r.resv != 0 || decide (4080 < r.len) ||
    (r.indirect && (r.len != 24 || decide (65535 < (r.ind.getD {}).reqLen)))

/-- Commands of groups sched and endpoint, which a WORKER refuses (R430). -/
def managerOnly (op : Nat) : Bool := op / 256 == 0x0A || op / 256 == 0x0B

/-- The TARGET stands for this device (R451). -/
def targetSelf (s : State) (t : Nat) : Bool :=
  t == 0xFF || (t == s.dom.number && decide (t < 16)) || (s.sys.role == 0 && t == 0)

/-- Step 3: TARGET (R430, R451, R452). -/
def targetBad (op : Nat) (r : Req) (s : State) : Bool :=
  if targetSelf s r.target then s.sys.role == 2 && managerOnly op
  else s.sys.role != 1 || decide (15 < r.target) || !(s.member r.target).admitted || managerOnly op

/-- Commands accepted while the device is shut down (R693). -/
def shutdownOk (op : Nat) : Bool := op == 0x0101 || op == 0x0104 || op == 0x1101 || op == 0x1401

/-- Commands accepted in recovery (R665). -/
def recoveryOk (op : Nat) : Bool := op == 0x0101 || op == 0x0105 || op == 0x0102 || op == 0x1402 || op == 0x1403

/-- VCORE in force in mV: the confirmed request, or with AVS off the on-die reading less 10 mV (R627); a lowering step
that has left for the regulator counts from then on.
Log entry 26 (DEDUCED). -/
def vcore (s : State) : Nat := if s.pwr.avs = 0 then s.pwr.meas - 10 else s.pwr.step.getD s.pwr.req

/-- A request in 5 mV steps within MIN_MV and MAX_MV and the absolute limits (R622).
Log entries 15 (DEDUCED), 27 (DEDUCED). -/
def clampMv (s : State) (mv : Nat) : Nat :=
  let v := clampN (ceilDiv mv 5 * 5) s.pwr.minMv s.pwr.maxMv
  clampN v 550 950

/-- Ask the regulator for a higher VCORE; a single raise serves every waiting command (R624).
Log entries 14 (DEDUCED), 15 (DEDUCED), 27 (DEDUCED). -/
def startRaise (mv : Nat) (s : State) : State :=
  let want := clampMv s mv
  match s.pwr.raise with
  | some (v, t) => if v < want then ({ s with pwr := { s.pwr with raise := some (want, t) } }).emit (.avs want) else s
  | none => ({ s with pwr := { s.pwr with raise := some (want, s.time.mono + us s.pwr.toUs), lowering := false
                                          step := none, below := none } }).emit (.avs want)

/-- Refusals 4 to 6 of R497, and the refusals that hold for whole groups of commands. RSP_MAX above 65,535 is refused at step 5 as a
field of the payload (log entry 126, DESIGN CHOICE).
Log entry 125 (DEDUCED). -/
def localRefusal (c : Cmd) (r : Req) (s : State) : Option Refuse :=
  let p := r.pay
  let n := c.need p s
  if !leaseOk s n r.lease then some badHeader
  else if r.indirect && decide (65535 < (r.ind.getD {}).rspMax) then some (bad 12)
  else match firstOf (c.checks p s ++ [(answersLate c.op && decide (rspRoom r < replyMax c.op p), noRoom r)]) with
    | some e => some e
    | none =>
      match n.bind (fun n => holderRefusal s n r.lease) with
      | some e => some e
      | none =>
        if s.sys.shutdown && !shutdownOk c.op then some notReady
        else if s.sec.locketBad && c.op / 256 == 0x14 && c.op != 0x1402 then some notReady
        else if (r.indirect || c.host.isSome) && !s.hi.busMaster && (match r.origin with | .mailbox _ => true | _ => false) then
          some notReady
        else none

/-- Run a command that steps 4 to 6 of R497 have let through (step 7, R624).
Log entries 14 (DEDUCED), 125 (DEDUCED). -/
def runNow (c : Cmd) (r : Req) (s : State) : State :=
  match c.run r s with
  | .error e => refuseReq c.op r e s
  | .ok (t, rep) =>
    if vcore s < c.floor r.pay s then
      if s.pwr.avs = 0 then refuseReq c.op r notReady s
      else if s.pwr.avs = 2 then refuseReq c.op r ⟨2, 0, 0⟩ s
      else { startRaise (c.floor r.pay s) s with
        pwr := { (startRaise (c.floor r.pay s) s).pwr with waiting := s.pwr.waiting ++ [(c.op, r)] } }
    else
      match rep with
      | none => t
      | some p => if rspRoom r < p.pay.length then answerFit c.op r p s else answerFit c.op r p t

/-- Run an admitted command on this device (R414, R497 steps 4 to 7).
Log entries 14 (DEDUCED), 125 (DEDUCED), 183 (DEDUCED). -/
def runLocal (c : Cmd) (r : Req) (s : State) : State :=
  match localRefusal c r s with
  | some e => refuseReq c.op r e s
  | none => if (stage r s).1 then runNow c r (stage r s).2 else refuseReq c.op r busy (stage r s).2

/-- Run a command that has waited (R624): its payload is staged already. -/
def runAgain (c : Cmd) (r : Req) (s : State) : State :=
  match localRefusal c r s with
  | some e => refuseReq c.op r e s
  | none => runNow c r s

/-- The whole of a TUNNEL_REQ (R441): the request with INDIRECT clear, then the host data, its address field (at payload
offset `host`) rewritten to offset 0 of that data. -/
def tunnelWhole (op : Nat) (host : Option Nat) (r : Req) : Bytes :=
  let p := r.pay
  let p := match host with
    | some o => if r.dmaIn = [] then p else p.take o ++ le 8 0 ++ p.drop (o + 8)
    | none => p
  le 2 op ++ le 2 r.tag ++ le 2 p.length ++ le 2 (r.flags / 2 * 2) ++ le 1 r.target ++ le 3 0 ++ le 4 r.lease ++ p
    ++ r.dmaIn

/-- Pass a request to an admitted worker (R452).
Log entries 17 (DEDUCED), 183 (DEDUCED). -/
def tunnelOut (op : Nat) (host : Option Nat) (r : Req) (s : State) : State :=
  if rspRoom r < replyMax op r.pay then refuseReq op r (noRoom r) s
  else if 1048576 < r.dmaIn.length then refuseReq op r quota s
  else if 16 ≤ (s.dom.tunnels.filter (fun t => t.dev == r.target)).length then refuseReq op r busy s
  else if !(stage r s).1 then refuseReq op r busy (stage r s).2
  else
    let s := (stage r s).2
    let tag := s.dom.tunnelTag
    let s := { s with dom := { s.dom with
      tunnelTag := (tag + 1) % 2 ^ 32
      tunnels := s.dom.tunnels ++ [{ tag := tag, dev := r.target, req := { r with resv := op }
                                     due := s.time.mono + ms s.dom.tunnelMs }] } }
    each (tunnelSegs tag (tunnelWhole op host r)) s (fun b => claspSend 0x40 r.target b)

/-- Run an accepted request (R497 steps 1 to 3, then here or on the worker). The manager, which moves the host data, refuses a
tunnelled request that needs DMA while Bus Master Enable is 0 before it passes it on (R467).
Log entries 18 (DEDUCED), 125 (DEDUCED). -/
def runCmd (c : Cmd) (r : Req) (s : State) : State :=
  if s.sys.recovery && !recoveryOk c.op then refuseReq c.op r noCap s
  else if headerBad r then refuseReq c.op r badHeader s
  else if targetBad c.op r s then
    let lost := s.sys.role == 1 && decide (r.target < 16) && !targetSelf s r.target && !(s.member r.target).admitted
    refuseReq c.op r (unreachableT r.target) (if lost then claspCount (wayTo s r.target) 5 s else s)
  else if targetSelf s r.target then runLocal c r s
  else if (r.indirect || c.host.isSome) && !s.hi.busMaster then refuseReq c.op r notReady s
  else match firstOf (c.passing r.pay r.target s) with
    | some e => refuseReq c.op r e s
    | none => tunnelOut c.op c.host r s

/-- Accept a doorbell (step 2 of R485). -/
def acceptBell (m : Nat) (tag : Nat) (s : State) : State :=
  s.updMbox m (fun b => { b with busy := true, done := false, tag := tag })

/-- A whole mailbox transaction: the request is written, the doorbell rung, and, unless earlier requests wait, it runs
(R485, R486).
Log entry 12 (DESIGN CHOICE). -/
def transact (c : Cmd) (m : Nat) (r : Req) (s : State) : State :=
  let b := s.mbox m
  if b.busy || !b.enabled then s.updMbox m (fun b => { b with rejected := true })
  else
    let s := s.updMbox m (fun b => { b with req := putBytes b.req 0 (reqBytes c.op r) })
    let s := acceptBell m r.tag s
    if s.hi.queue = [] ∧ s.sched.loading = [] then runCmd c r s
    else { s with hi := { s.hi with queue := s.hi.queue ++ [m] } }

/-- The meaning of a command row of the table (log entry 12, DESIGN CHOICE). -/
def command (c : Cmd) (r : Req) (s : State) : Host.Outcome State Fault Refusal :=
  match r.origin with
  | .mailbox m => onUnit m 16 s (transact c m r s)
  | .tunnel _ _ => live s (runLocal c r s)

end Sys2Proof.Machine
end

