-- ==== Sys2Proof/Machine/Store.lean ====
section
/-! DEFINITION. The two-bank images of flash and the configuration record (R524 to R526, R659). -/

namespace Sys2Proof.Machine

/-- The bank in use is B: B alone is valid, or both are and B's SEQ is later (R526). -/
def useB {α : Type} (k : Banks α) : Bool :=
  match k.a, k.b with
  | some a, some b => serialLater 32 b.1 a.1
  | none, some _ => true
  | _, _ => false

/-- SEQ and image of the bank in use. -/
def bankNow {α : Type} (k : Banks α) : Option (Nat × α) := if useB k then k.b else k.a

/-- Write an image to the bank that is not in use, with the next SEQ (R524, R525). -/
def bankWrite {α : Type} (k : Banks α) (x : α) : Banks α :=
  let q := ((bankNow k).map (fun e => (e.1 + 1) % 2 ^ 32)).getD 1
  if useB k || k.a.isNone then { k with a := some (q, x) } else { k with b := some (q, x) }

/-- The image taken at BOOT and whether the later bank was passed over (R526): `good` is the image's own check. -/
def bootImage {α : Type} (k : Banks α) (good : α → Bool) : Option α × Bool :=
  let now := bankNow k
  let other := if useB k then k.a else k.b
  match now with
  | none => (none, false)
  | some n =>
    if good n.2 then (some n.2, false)
    else match other with
      | some o => if good o.2 then (some o.2, true) else (none, false)
      | none => (none, false)

/-- Change the configuration record in force and store it (R659).
Log entry 127 (DEDUCED). -/
def setCfg (f : Cfg → Cfg) (s : State) : State :=
  let c := f s.sys.cfg
  { s with sys := { s.sys with cfg := c }, nvm := { s.nvm with cfg := bankWrite s.nvm.cfg c } }

/-- A write to flash is under way (R674). -/
def nvmBusy (s : State) : Bool := !s.nvm.jobs.isEmpty

/-- Start a write to flash. -/
def startJob (j : NvmJob) (s : State) : State := { s with nvm := { s.nvm with jobs := s.nvm.jobs ++ [j] } }

end Sys2Proof.Machine
end

