-- ==== Sys2Proof/Machine/Pool.lean ====
section
/-! DEFINITION. Back-pressure, transfers and the commands of the buffer pools (R404, R405, R413, R426, R427). -/

namespace Sys2Proof.Machine

/-! ### Back-pressure (R404, R405) -/

/-- MODE of an external port (R381). -/
def portMode (s : State) (n : Nat) : Nat := tget 0 s.relay.mode n

/-- Links of an external port in its mode, as port × 2 + link (R381). -/
def portLinks (s : State) (n : Nat) : List Nat :=
  if portMode s n = 1 then [2 * n] else if portMode s n = 2 ∨ portMode s n = 3 then [2 * n, 2 * n + 1] else []

/-- Classes that an ingress port holds off (R404): every class in limit, else those of every stage that is active. -/
def withheld (s : State) (port : Nat) : Nat :=
  let p := s.pool 0
  let x := poolReq p 0 port
  if inLimit s 0 port then 0xFF
  else if x.min < x.u then ((stageClasses p).take p.stage).foldl (· ||| ·) 0 else 0

/-- Send PFC frames for a link whose held-off classes change: XOFF for those that begin, XON for those that end; a frame in transmission
ends first (R404).
Log entry 148 (DEDUCED). -/
def pfcLink (want k : Nat) (s : State) : State :=
  let l := s.rlink k
  if !l.up || l.tx.isSome then s else
  let want := want &&& l.pfc
  let off := (List.range 8).foldl (fun a c => if bit want c && !bit l.xoff c then a + 2 ^ c else a) 0
  let on := (List.range 8).foldl (fun a c => if bit l.xoff c && !bit want c then a + 2 ^ c else a) 0
  let s := if off = 0 then s else relayCount k 9 1 (s.emit (.pfc k off true))
  let s := if on = 0 then s else relayCount k 9 1 (s.emit (.pfc k on false))
  if off = 0 ∧ on = 0 then s else s.updRlink k (fun l => { l with
    xoff := want, xoffAt := (List.range 8).foldl (fun t c => if bit off c then tset 0 t c s.time.mono else t) l.xoffAt })

/-- Return the credits a clasp port owes for classes that are not withheld (R405). -/
def payCredits (west : Bool) (s : State) : State :=
  let key := fun c => b1 west * 8 + c
  let hold := withheld s (4 + b1 west)
  let ret := (List.range 8).map (fun c => if bit hold c then 0 else tget 0 s.relay.owed (key c))
  if !(s.clasp west).up || ret.all (· == 0) then s
  else
    let left := (List.range 8).foldl (fun (t : Tab Nat) c => if bit hold c then t else tdel t (key c)) s.relay.owed
    ({ s with relay := { s.relay with owed := left } }).emit (.ctrl west (ctrlUnit 4 (ret.flatMap (le 2))))

/-- Bring the back-pressure of every port up to date with the relay pool (R404, R405). -/
def flow (s : State) : State :=
  let s := each (List.range 4) s (fun n s => each (portLinks s n) s (pfcLink (withheld s n)))
  payCredits true (payCredits false s)

/-- A clasp port owes its peer credits of a class, and returns them (R405). -/
def oweCredits (west : Bool) (cls n : Nat) (s : State) : State :=
  let k := b1 west * 8 + cls
  payCredits west { s with relay := { s.relay with owed := tset 0 s.relay.owed k (tget 0 s.relay.owed k + n) } }

/-- BUFFER_TRANSFER (R413): only the owner transfers a buffer; the same checks reject the rest. -/
def execBufferTransfer (pool addr src dst : Nat) (s : State) : Host.Outcome State Fault Refusal :=
  if 2 ≤ pool ∨ poolReqs pool ≤ src ∨ poolReqs pool ≤ dst then .fault .noSuchUnit
  else live s (
    if addr % bufBytes pool ≠ 0 ∨ poolSize pool * bufBytes pool ≤ addr then
      raiseFault (356 + pool) {} (s.updPool pool (fun p => { p with bad := (p.bad + 1) % 2 ^ 32 }))
    else
      let k := addr / bufBytes pool
      let p := s.pool pool
      match tfind p.bufs k with
      | none => raiseFault (358 + pool) {} (s.updPool pool (fun p => { p with dbl := (p.dbl + 1) % 2 ^ 32 }))
      | some b =>
        if b.owner ≠ src then
          raiseFault (360 + pool) {} (s.updPool pool (fun p => { p with foreign := (p.foreign + 1) % 2 ^ 32 }))
        else
          let x := poolReq p pool src
          let q := setReq pool src { x with u := x.u - 1 } p
          let y := poolReq q pool dst
          let q := setReq pool dst { y with u := y.u + 1 } q
          flow (s.updPool pool (fun _ => { q with bufs := tput q.bufs k { b with owner := dst } })))

/-! ### pool.config -/

/-- Is the requester field one of the pool's, or 0xFF when only thresholds are set? -/
def reqFieldBad (p : Bytes) : Bool :=
  let m := fld p 2 1
  if fld p 1 1 = 0xFF then m % 8 != 0 else decide (poolReqs (fld p 0 1) ≤ fld p 1 1)

/-- The pool with the values of a `pool.config` written (R426). -/
def poolWith (p : Bytes) (n : Nat) (q : Pool) : Pool :=
  let m := fld p 2 1
  let r := fld p 1 1
  let x := poolReq q n r
  let x := if bit m 0 then { x with min := fld p 4 4, max := fld p 8 4 } else x
  let x := if bit m 1 then { x with head := fld p 12 4 } else x
  let x := if bit m 2 then { x with stage := fld p 3 1 } else x
  let q := if m % 8 = 0 then q else setReq n r x q
  let q := if bit m 3 then { q with thresh := [fld p 16 4, fld p 20 4, fld p 24 4] } else q
  if bit m 4 then { q with classes := [fld p 28 1, fld p 29 1, fld p 30 1] } else q

/-- `pool.config` (R426). -/
def cmdPoolConfig : Cmd where
  op := 0x0E01
  checks p s :=
    let n := fld p 0 1
    let m := fld p 2 1
    let q := poolWith p n (s.pool n)
    let x := poolReq q n (fld p 1 1)
    let heads := n == 0 && decide (fld p 1 1 < 6)
    [sel p 0 1 0 1] ++ layout [1, 1, 1, 1, 4, 4, 4, 4, 4, 4, 1, 1, 1, 1] p ++
    [(reqFieldBad p, bad 1), (decide (31 < m) || (n == 0 && bit m 2) || (n == 1 && bit m 4) || (bit m 1 && !heads), bad 2),
     (bit m 2 && (decide (fld p 3 1 < 1) || decide (3 < fld p 3 1)), bad 3),
     (bit m 0 && (decide (poolSize n < fld p 4 4) || decide (fld p 8 4 < fld p 4 4)), bad 4),
     (bit m 0 && decide (poolSize n < fld p 8 4), bad 8),
     ((bit m 1 || bit m 0) && heads && decide (x.min ≤ x.head), bad 12),
     (bit m 3 && (decide (fld p 20 4 ≤ fld p 16 4) || decide (fld p 24 4 ≤ fld p 20 4) || decide (poolSize n < fld p 24 4)),
      bad 16), resv p 31 1]
  run r s :=
    let p := r.pay
    let n := fld p 0 1
    let q := poolWith p n (s.pool n)
    guarded [(decide (poolSize n < minTotal q n), quota),
             (bit (fld p 2 1) 0 && decide (fld p 4 4 < (poolReq q n (fld p 1 1)).v), busy)]
      (ok (flow (restage n (s.updPool n (fun _ => q)))))

/-- Meaning of `pool.config`. -/
def execPoolConfig (req : Req) (s : State) := command cmdPoolConfig req s

/-! ### pool.status -/

/-- One requester record of `pool.status` (R427). -/
def requesterBytes (s : State) (n r : Nat) : Bytes :=
  let x := poolReq (s.pool n) n r
  le 4 x.u ++ le 4 x.v ++ le 4 x.empty ++ le 1 (b1 (inLimit s n r)) ++ le 3 0

/-- `pool.status` (R427). -/
def cmdPoolStatus : Cmd where
  op := 0x0E02
  checks p _ := layout [1, 1, 2] p ++ [range p 0 1 0 1, range p 1 1 0 1, resv p 2 2]
  run r s :=
    let n := fld r.pay 0 1
    let q := s.pool n
    let t := if fld r.pay 1 1 = 1 then s.updPool n (fun q => { q with bad := 0, dbl := 0, foreign := 0 }) else s
    ok t (le 4 q.alloc ++ le 4 (sharedFree q n) ++ le 1 q.stage ++ le 3 0 ++ le 4 q.bad ++ le 4 q.dbl ++ le 4 q.foreign
      ++ (List.range (poolReqs n)).flatMap (requesterBytes s n))

/-- Meaning of `pool.status`. -/
def execPoolStatus (req : Req) (s : State) := command cmdPoolStatus req s

end Sys2Proof.Machine
end

