-- ==== Sys2Proof/Machine/Lease.lean ====
section
/-! DEFINITION. Leases (R575 to R589) and the holds of device functions (R577, R582). -/

namespace Sys2Proof.Machine

/-! ### Holds of device functions -/

/-- The holder kind of the device function that holds a context, if one does (R184, R577). -/
def ctxKind (s : State) (c : Nat) : Option Nat :=
  let x := s.ctx c
  let e := s.elemAt c
  if x.cal then some 1
  else if !x.launches.isEmpty then some 2
  else if (cellMates s c).any (fun k => (s.drive k).rcStep != 0) then some 3
  else if (cellMates s c).any (forced s) then some 4
  else if e.kind = 4 ∧ (s.ptemp e.plane).st ≠ 0 then some 5
  else none

/-- As `ctxKind`, with the scheduling regimes of the plane. -/
def ctxHold (s : State) (c : Nat) : Option Nat :=
  match ctxKind s c with
  | some k => some k
  | none => let e := s.elemAt c
            if e.kind ≠ 0 ∧ scheduling (s.plane e.plane).regime then some 7 else none

/-- A plane under a commissioning run (R513). -/
def calPlane (s : State) : Option Nat := s.cal.run.map (·.plane)

/-- The holder kind of a monitor channel's accumulator (R513, R520). -/
def accHold (s : State) (m : Nat) : Option Nat :=
  if s.cal.visit = some m then some 1
  else if (calPlane s).isSome && calPlane s == s.linkPlane (m / 640) then some 1 else none

/-- The holder kind of the device function on an instance of a class (R577). -/
def deviceHold (s : State) (cls i : Nat) : Option Nat :=
  match cls with
  | 3 => if (calPlane s).isSome && calPlane s == s.linkPlane (i / 8) then some 1 else none
  | 4 => accHold s i
  | 5 => ctxHold s i
  | _ => none

/-- One record of `lease.list` (R589). -/
structure HoldRec where
  /-- LEASE_ID -/
  id : Nat
  /-- CLASS -/
  cls : Nat
  /-- USE -/
  use : Nat
  /-- HOLDER -/
  kind : Nat
  /-- MAILBOX -/
  mbox : Nat
  /-- FIRST -/
  first : Nat
  /-- COUNT -/
  count : Nat
  /-- EXPIRES -/
  due : NetTime
  deriving DecidableEq, Repr

/-- Adjacent instances held alike as one record each, ascending. -/
def holdRuns (cls use : Nat) (f : Nat → Option Nat) (n : Nat) : List HoldRec :=
  ((List.range n).foldl (fun (acc : List HoldRec) i =>
    match f i with
    | none => acc
    | some k =>
      match acc with
      | h :: t => if h.kind = k ∧ h.first + h.count = i then { h with count := h.count + 1 } :: t
                  else ⟨0, cls, use, k, 0xFF, i, 1, 0⟩ :: acc
      | [] => [⟨0, cls, use, k, 0xFF, i, 1, 0⟩]) []).reverse

/-- A lease in network time as it stands (R584). -/
def expiresAt (s : State) (due : NetTime) : NetTime := s.time.now + (due - s.time.mono)

/-- Insertion by CLASS, then FIRST. -/
def insertLease (l : Lease) : List Lease → List Lease
  | [] => [l]
  | x :: t => if l.cls * 65536 + l.first < x.cls * 65536 + x.first then l :: x :: t else x :: insertLease l t

/-- Every record in the order of R589. -/
def holdList (s : State) : List HoldRec :=
  s.leases.map (fun l => ⟨l.id, l.cls, l.use, 0, l.mbox, l.first, l.count, expiresAt s l.due⟩)
  ++ (s.implicits.foldr insertLease []).map (fun l => ⟨0xFFFFFFFF, l.cls, l.use, 0, 0xFF, l.first, l.count, 0⟩)
  ++ holdRuns 3 2 (deviceHold s 3) 64 ++ holdRuns 4 3 (accHold s) 5120 ++ holdRuns 5 4 (ctxHold s) 9216

/-! ### lease.take -/

/-- Range a lease holds: a CONTEXT lease holds whole cells (R576). -/
def leaseRange (s : State) (cls first count : Nat) : Nat × Nat :=
  if cls = 5 then
    let a := (cellMates s first).headD first
    let z := (cellMates s (first + count - 1)).getLastD (first + count - 1)
    (a, z + 1 - a)
  else (first, count)

/-- The refusal of a lease by a holder on the lowest conflicting instance (R577).
Log entry 120 (DEDUCED). -/
def takeRefusal (s : State) (cls use first count : Nat) : Option Refuse :=
  if use = 0 ∨ cls = 9 then none else
  match (range' first count).find? (fun i => !(holders s cls use 0 i).isEmpty || (deviceHold s cls i).isSome) with
  | none => none
  | some i =>
    match holders s cls use 0 i with
    | l :: _ => some ⟨2, l.id, 0⟩
    | [] => some (conflict ((deviceHold s cls i).getD 0))

/-- TTL_MS in force; 0 selects 10,000 (R584). -/
def ttlOf (v : Nat) : Nat := if v = 0 then 10000 else v

/-- TTL_MS within the range of its class (R584). -/
def ttlOk (cls v : Nat) : Bool := decide (10 ≤ v) && decide (v ≤ if cls = 3 then 10000 else 600000)

/-- The LEASE_ID after this one: never 0 and never 0xFFFF_FFFF (R586). -/
def nextLease (n : Nat) : Nat := if n + 1 < 0xFFFFFFFF then n + 1 else 1

/-- Insert a lease in ascending LEASE_ID. -/
def putLease (l : Lease) : List Lease → List Lease
  | [] => [l]
  | x :: t => if l.id < x.id then l :: x :: t else x :: putLease l t

/-- The mailbox a lease was taken through. -/
def mboxOf (r : Req) : Nat := match r.origin with | .mailbox m => m | .tunnel _ _ => 0xFF

/-- Record a new lease and answer it. -/
def grantLease (r : Req) (cls use first count ttl : Nat) (s : State) : Ran :=
  let rg := leaseRange s cls first count
  let l : Lease := { id := s.leaseId, cls := cls, use := use, mbox := mboxOf r, first := rg.1, count := rg.2
                     due := s.time.mono + ms ttl }
  ok { s with leases := putLease l s.leases, leaseId := nextLease s.leaseId }
    (le 4 l.id ++ timeLe (expiresAt s l.due))

/-- `lease.take` (R576, R584, R586). A BUFFERS lease draws its buffers from requester CAPTURE.
Log entry 120 (DEDUCED). -/
def cmdLeaseTake : Cmd where
  op := 0x1701
  checks p _ :=
    let cls := fld p 0 1
    let n := fld p 6 2
    [sel p 6 2 1 65535] ++ layout [1, 1, 2, 2, 2, 4] p ++
    [(instCount cls == 0, bad 0), (!useOk cls (fld p 1 1), bad 1), resv p 2 2,
     (decide (instCount cls ≤ fld p 4 2) || (cls == 9 && fld p 4 2 != 0), bad 4),
     (decide (instCount cls < fld p 4 2 + n), bad 6), (!ttlOk cls (ttlOf (fld p 8 4)), bad 8)]
  run r s :=
    let p := r.pay
    let cls := fld p 0 1
    let use := fld p 1 1
    let rg := leaseRange s cls (fld p 4 2) (fld p 6 2)
    match takeRefusal s cls use rg.1 rg.2 with
    | some e => .error e
    | none =>
      guarded [(decide (256 ≤ s.leases.length), quota)]
        (if cls = 9 ∧ use ≠ 0 then
          let x := poolReq (s.pool 1) 1 3
          if x.max < x.u + fld p 6 2 then .error quota
          else match allocBufs 1 3 1 (fld p 6 2) s with
            | (some _, t) => grantLease r cls use (fld p 4 2) (fld p 6 2) (ttlOf (fld p 8 4)) t
            | (none, _) => .error busy
        else grantLease r cls use (fld p 4 2) (fld p 6 2) (ttlOf (fld p 8 4)) s)

/-- Meaning of `lease.take`. -/
def execLeaseTake (req : Req) (s : State) := command cmdLeaseTake req s

/-! ### Ending a lease -/

/-- A lane returns to service when no use of it is left (R583). -/
def stopLaneUse (use n : Nat) (s : State) : State :=
  s.updLane n (fun x =>
    let x := { x with uses := x.uses &&& (31 - (if use = 5 then 1 else if use = 6 then 2 else if use = 7 then 12 else 16)) }
    if use = 5 then { x with tx := 0 } else if use = 6 then { x with rx := 0, locked := false }
    else if use = 8 then { x with scan := none } else x)

/-- The message buffers requester CAPTURE holds, lowest first. -/
def captureBufs (s : State) (k : Nat) : List Nat :=
  (((s.pool 1).bufs.filter (fun b => b.2.owner == 3)).map (·.1)).take k

/-- An urgent conversion runs or waits on readback modulator `m` of 64 (R128). -/
def urgentRuns (s : State) (m : Nat) : Bool :=
  let x := tget {} (s.link (m / 8)).mods (m % 8)
  !x.urgent.isEmpty || ((x.cur.map (·.urgent)).getD false)

/-- What the end of a lease does to what it held (R583): lane uses stop, buffers return, the rest stays unprotected. -/
def leaseEnded (l : Lease) (s : State) : State :=
  if l.cls = 6 ∧ (l.use = 5 ∨ l.use = 7 ∨ l.use = 8) then each (range' l.first l.count) s (stopLaneUse l.use)
  else if l.cls = 9 ∧ l.use ≠ 0 then freeBufs 1 (captureBufs s l.count) 3 s
  else if l.cls = 5 then
    each ((range' l.first l.count).filter (fun c => (s.ctx c).cap.running)) s (fun c => holdImplicit 5 4 c 1)
  else if l.cls = 3 then
    each ((range' l.first l.count).filter (urgentRuns s)) s (fun m => holdImplicit 3 2 m 1)
  else s

/-- End one lease. -/
def endLease (l : Lease) (s : State) : State :=
  leaseEnded l { s with leases := s.leases.filter (fun x => x.id != l.id) }

/-- A lease by its identifier. -/
def leaseOf (s : State) (id : Nat) : Option Lease := s.leases.find? (fun l => l.id == id)

/-- `lease.renew` (R584, R588). -/
def cmdLeaseRenew : Cmd where
  op := 0x1704
  checks p s := layout [4, 4] p ++
    [(!ttlOk (((leaseOf s (fld p 0 4)).map (·.cls)).getD 0) (fld p 4 4), bad 4)]
  run r s :=
    match leaseOf s (fld r.pay 0 4) with
    | none => .error empty
    | some l =>
      let l := { l with due := s.time.mono + ms (fld r.pay 4 4) }
      ok { s with leases := s.leases.map (fun x => if x.id = l.id then l else x) } (timeLe (expiresAt s l.due))

/-- Meaning of `lease.renew`. -/
def execLeaseRenew (req : Req) (s : State) := command cmdLeaseRenew req s

/-! ### lease.list -/

/-- A record of `lease.list` (R589). -/
def holdBytes (h : HoldRec) : Bytes :=
  le 4 h.id ++ le 1 h.cls ++ le 1 h.use ++ le 1 h.kind ++ le 1 h.mbox ++ le 2 h.first ++ le 2 h.count ++ le 4 0
    ++ timeLe h.due ++ le 4 0

/-- `lease.list` (R589). -/
def cmdLeaseList : Cmd where
  op := 0x1703
  checks p _ := [sel p 2 2 1 100] ++ layout [2, 2] p
  run r s :=
    let c := fld r.pay 0 2
    let all := holdList s
    let l := (all.drop c).take (fld r.pay 2 2)
    let next := c + l.length
    ok s (le 2 l.length ++ le 2 (if next < all.length then next else 0xFFFF) ++ le 4 0 ++ l.flatMap holdBytes)

/-- Meaning of `lease.list`. -/
def execLeaseList (req : Req) (s : State) := command cmdLeaseList req s

end Sys2Proof.Machine
end

