-- ==== Sys2Proof/Machine/Host.lean ====
section
/-! DEFINITION. Host register accesses (R470 to R491): the emergency block, events, mailboxes, rings and every
other register of BAR0, and the SMBus reads (R712). -/

namespace Sys2Proof.Machine

/-! ### The emergency block -/

/-- The KEY field of a write to offset 0x004 is right (R474). -/
def keyOk (v : Nat) : Bool := bits v 31 16 == 0xDA2C

/-- HOST_DARK is set (R475): LIGHT_EN low and DARK at once by hardware, then SYS_HOST_DARK and the S4 reaction. -/
def hostDark (s : State) : State :=
  let s := notify s { s with em := { s.em with hostDark := true } }
  let s := hwDarkAll s
  let s := each s.planeIds s (fun p s => calAbort p 0 s)
  raiseCond 0 0 {} s

/-- A write to EMERGENCY offset 0x004 (R475, R476). DARK wins over RELEASE. -/
def emergencyWrite (v : Nat) (s : State) : State :=
  if !keyOk v then s
  else if bit v 0 then hostDark s
  else if bit v 1 then
    reState (releaseDark (endCond 0 0 (notify s { s with em := { s.em with hostDark := false } })))
  else s

/-- EMERGENCY_DARK (R475): a write to offset 0x004. -/
def execEmergencyDark (value : Nat) (s : State) := live s (emergencyWrite value s)
/-- EMERGENCY_RELEASE (R476): a write to offset 0x004. -/
def execEmergencyRelease (value : Nat) (s : State) := live s (emergencyWrite value s)

/-- A write to WDOG_TIMEOUT_MS (R477): non-zero arms, 0 disarms; WDOG_EXPIRED clears (R721). -/
def wdogWrite (v : Nat) (s : State) : State :=
  let n := v % 65536
  let t := notify s { s with em := { s.em with
    wdogMs := n, expired := false, wdogAt := if n = 0 then none else some (s.time.mono + ms n) } }
  endCond 1 0 t

/-- WDOG_TIMEOUT_WRITE (R477). -/
def execWdogTimeoutWrite (value : Nat) (s : State) := live s (wdogWrite value s)

/-- A write to WDOG_KICK restarts a running watchdog (R477). -/
def wdogKick (s : State) : State :=
  { s with em := { s.em with wdogAt := s.em.wdogAt.map (fun _ => s.time.mono + ms s.em.wdogMs) } }

/-- WDOG_KICK (R477): any value written. -/
def execWdogKick (_value : Nat) (s : State) := live s (wdogKick s)

/-- HOST_WDOG_EXPIRY (R477): WDOG_EXPIRED, watchdog stopped, SYS_HOST_WDOG. -/
def execHostWdogExpiry (s : State) :=
  live s (match s.em.wdogAt with
    | none => s
    | some t =>
      if t ≤ s.time.mono then
        raiseCond 1 0 {} (notify s { s with em := { s.em with expired := true, wdogAt := none } })
      else s)

/-! ### Events -/

/-- Word `w` of a 512-bit register. -/
def word512 (b : BitVec 512) (w : Nat) : Nat := (b >>> (32 * w)).toNat % 2 ^ 32

/-- A 512-bit register with word `w` replaced. -/
def setWord512 (b : BitVec 512) (w v : Nat) : BitVec 512 :=
  (b &&& ~~~(BitVec.ofNat 512 0xFFFFFFFF <<< (32 * w))) ||| (BitVec.ofNat 512 (v % 2 ^ 32) <<< (32 * w))

/-- A W1C write to PENDING[w] (R478, R479, R481): every vector whose set is still not empty sends again, and a source
raised in the same access stays set (R15).
Log entry 121 (DEDUCED). -/
def pendingClear (w v : Nat) (raised : List Nat) (s : State) : State :=
  let s := { s with ev := { s.ev with pending := s.ev.pending &&& ~~~(setWord512 0 w v) } }
  let s := each (activeVectors s.ev) s sendVector
  each raised s (fun e s => raiseEvent e {} s)

/-- PENDING_CLEAR (R481): `raised` are the sources that hardware raises in the same access. -/
def execPendingClear (word value : Nat) (raised : List Nat) (s : State) :=
  if 16 ≤ word then .fault .noSuchUnit else live s (pendingClear word value raised s)

/-- A write to IRQ_EN (R481). -/
def irqEnWrite (v : Nat) (s : State) : State := evUpdate (fun e => { e with irqEn := bit v 0 }) s
/-- IRQ_EN_WRITE (R481). -/
def execIrqEnWrite (value : Nat) (s : State) := live s (irqEnWrite value s)

/-- A write to MASK[w] (R481). -/
def maskWrite (w v : Nat) (s : State) : State := evUpdate (fun e => { e with mask := setWord512 e.mask w v }) s
/-- EVENT_MASK_WRITE (R481). -/
def execEventMaskWrite (word value : Nat) (s : State) :=
  if 16 ≤ word then .fault .noSuchUnit else live s (maskWrite word value s)

/-- A write to VECTOR[n] (R478, R481): byte k holds the vector of source 4n + k. -/
def vectorWrite (n v : Nat) (s : State) : State :=
  evUpdate (fun e => { e with vector := (List.range 4).foldl (fun t k =>
    tset (19 + (4 * n + k) / 64) t (4 * n + k) (bits v (8 * k + 5) (8 * k))) e.vector }) s
/-- EVENT_VECTOR_WRITE (R481). -/
def execEventVectorWrite (word value : Nat) (s : State) :=
  if 128 ≤ word then .fault .noSuchUnit else live s (vectorWrite word value s)

/-! ### Mailboxes -/

/-- A write of RING (R485): accepted, or refused with REJECTED. -/
def mailboxRing (m v : Nat) (s : State) : State :=
  if !bit v 0 then s
  else
    let b := s.mbox m
    if b.busy || !b.enabled then s.updMbox m (fun b => { b with rejected := true })
    else
      let s := acceptBell m (unle (getBytes b.req 2 2)) s
      { s with hi := { s.hi with queue := s.hi.queue ++ [m] } }

/-- MAILBOX_RING (R485). -/
def execMailboxRing (mbox value : Nat) (s : State) := onUnit mbox 16 s (mailboxRing mbox value s)

/-- A 32-bit write to a request area (R485). -/
def requestWrite (m o v : Nat) (s : State) : State :=
  if (s.mbox m).busy then s.updMbox m (fun b => { b with rejected := true })
  else s.updMbox m (fun b => { b with req := putBytes b.req o (le 4 v) })

/-- REQUEST_AREA_WRITE (R485): an aligned 32-bit word of the 4 KiB area. -/
def execRequestAreaWrite (mbox offset value : Nat) (s : State) :=
  onUnit mbox 16 s (if offset % 4 = 0 ∧ offset < 4096 then requestWrite mbox offset value s else s)

/-! ### Host frame rings -/

/-- TX_TAIL_WRITE (R487). -/
def execTxTailWrite (value : Nat) (s : State) := live s { s with hi := { s.hi with txTail := value % 65536 } }
/-- RX_TAIL_WRITE (R487). -/
def execRxTailWrite (value : Nat) (s : State) := live s { s with hi := { s.hi with rxTail := value % 65536 } }

/-! ### Every register of BAR0 -/

/-- STATUS of a mailbox (R484). -/
def mboxStatus (b : Mbox) : Nat := b.tag * 65536 + b1 b.enabled * 8 + b1 b.rejected * 4 + b1 b.done * 2 + b1 b.busy

/-- EMERGENCY STATUS (R474). -/
def emergencyStatus (s : State) : Nat :=
  b1 (faultPin s) * 2 ^ 31 + b1 s.em.hostDark * 2 ^ 30 + b1 s.em.expired * 2 ^ 29 + maxSev s * 2 ^ 24
    + min 255 s.flt.records.length * 2 ^ 16
    + (b1 (planeDarkBit s 0) + 2 * b1 (planeDarkBit s 1)) * 2 ^ 8 + s.pins.light.toNat

/-- LOUPE_GIB (R490): the largest region of the ordering code (R1), 0 until BOOT completes. -/
def loupeGib (s : State) : Nat := if s.sys.st ≤ 2 then 0 else if Config.hbm96 then 64 else 24

/-- SUMMARY (R478). -/
def eventSummary (e : Events) : Nat :=
  (List.range 16).foldl (fun a w => if word512 (e.pending &&& ~~~e.mask) w = 0 then a else a + 2 ^ w) 0

/-- FW_VERSION of IDENT (R473): written once BOOT completes. -/
def shownVersion (s : State) : Nat := if s.sys.st ≤ 2 then 0 else s.sec.version

/-- LIFECYCLE of IDENT (R473): 0 until BOOT completes. -/
def shownLifecycle (s : State) : Nat := if s.sys.st ≤ 2 then 0 else s.nvm.lifecycle

/-- The 32-bit word at an aligned offset of BAR0 (R469 to R490). -/
def bar0Word (s : State) (o : Nat) : Nat :=
  if o < 0x1000 then
    (match o with
     | 0x000 => 0x10000101
     | 0x004 => 0x0512B000 + b1 Config.hbm96
     | 0x008 => shownVersion s
     | 0x00C => s.sys.role * 2 ^ 10 + shownLifecycle s * 2 ^ 8 + s.sys.st
     | 0x010 => s.hi.heartbeat
     | 0x014 => Config.identity % 2 ^ 32
     | 0x018 => Config.identity / 2 ^ 32 % 2 ^ 32
     | _ => 0)
  else if o < 0x2000 then
    (match o with
     | 0x1000 => 0x20000102
     | 0x1008 => s.em.wdogMs
     | 0x1010 => emergencyStatus s
     | _ => 0)
  else if o < 0x3000 then
    (if o = 0x2000 then 0x30000103 else if o = 0x2004 then b1 s.ev.irqEn else if o = 0x2008 then eventSummary s.ev
     else if 0x2040 ≤ o ∧ o < 0x2080 then word512 s.ev.pending ((o - 0x2040) / 4)
     else if 0x2080 ≤ o ∧ o < 0x20C0 then word512 s.ev.mask ((o - 0x2080) / 4)
     else if 0x2100 ≤ o ∧ o < 0x2300 then
       (List.range 4).foldl (fun a k => a + vectorOf s.ev (o - 0x2100 + k) * 2 ^ (8 * k)) 0
     else 0)
  else if o < 0x4000 then
    (match o with
     | 0x3000 => 0x40000104
     | 0x3004 => s.hi.mirrorSeq
     | 0x3008 => s.hi.mirrorTime / 65536 % 1000000000
     | 0x300C => s.hi.mirrorTime / oneSecond % 2 ^ 32
     | 0x3010 => s.hi.mirrorTime % 65536 * 65536 + s.hi.mirrorTime / oneSecond / 2 ^ 32 % 65536
     | 0x3014 => s.hi.mirrorSource * 16 + s.hi.mirrorState
     | _ => 0)
  else if o < 0x5000 then
    (if o = 0x4000 then 0x50000105 else if o = 0x4004 then 0x20100010
     else if 0x4100 ≤ o ∧ o < 0x4200 ∧ o % 16 = 4 then mboxStatus (s.mbox ((o - 0x4100) / 16)) else 0)
  else if o < 0x6000 then
    (match o with
     | 0x5000 => 0x60000106
     | 0x5004 => b1 s.hi.rxEn * 2 + b1 s.hi.txEn
     | 0x5008 => s.hi.txBase % 2 ^ 32
     | 0x500C => s.hi.txBase / 2 ^ 32
     | 0x5010 => s.hi.txSize
     | 0x5014 => s.hi.txTail
     | 0x5018 => s.hi.txHead
     | 0x5020 => s.hi.rxBase % 2 ^ 32
     | 0x5024 => s.hi.rxBase / 2 ^ 32
     | 0x5028 => s.hi.rxSize
     | 0x502C => s.hi.rxTail
     | 0x5030 => s.hi.rxHead
     | _ => 0)
  else if o < 0x7000 then
    (match o with
     | 0x6000 => 0x00000107
     | 0x6004 => s.hi.winSel
     | 0x6008 => loupeGib s
     | _ => 0)
  else if 0x8000 ≤ o ∧ o < 0x8400 then (tfind s.hi.msix ((o - 0x8000) / 4)).getD (if o % 16 = 12 then 1 else 0)
  else if o = 0x9000 then s.ev.pba.toNat % 2 ^ 32
  else if o = 0x9004 then s.ev.pba.toNat / 2 ^ 32
  else if 0x10000 ≤ o ∧ o < 0x20000 then unle (getBytes (s.mbox ((o - 0x10000) / 4096)).req (o % 4096) 4)
  else if 0x20000 ≤ o ∧ o < 0x30000 then fld (s.mbox ((o - 0x20000) / 4096)).rsp (o % 4096) 4
  else 0

/-- A read of BAR0 (R470): aligned, of 32 bits, or of 64 bits as two words, lower address first; any other returns zero. -/
def bar0Read (s : State) (o size : Nat) : Nat :=
  if size = 4 ∧ o % 4 = 0 then bar0Word s o
  else if size = 8 ∧ o % 8 = 0 then bar0Word s o + bar0Word s (o + 4) * 2 ^ 32
  else 0

/-- A 32-bit word of configuration space (R466, R467, R480): the identification and the BARs at the places of a type 0 header, and the
capabilities of R466 at places of the model.
Log entry 9 (PRESUMED). -/
def configRead (s : State) (o : Nat) : Nat :=
  match o with
  | 0x00 => 0x05121EC4
  | 0x04 => 0x00100000 + 4 * b1 s.hi.busMaster
  | 0x08 => 0x0B4000B0
  | 0x10 => s.hi.bar0 % 2 ^ 32 + 0x4
  | 0x14 => s.hi.bar0 / 2 ^ 32
  | 0x18 => s.hi.bar2 % 2 ^ 32 + 0xC
  | 0x1C => s.hi.bar2 / 2 ^ 32
  | 0x2C => Config.subsystem.getD 0x1EC4
  | 0x34 => 0x70
  | 0x70 => 0x0002B010
  | 0x74 => 0x10008002
  | 0x78 => s.hi.mps * 2 ^ 5
  | 0x7C => 0x00000085
  | 0xB0 => b1 s.hi.msixEn * 2 ^ 31 + b1 s.hi.msixMask * 2 ^ 30 + 0x003F0011
  | 0xB4 => 0x00008000
  | 0xB8 => 0x00009000
  | 0x100 => 0x14820001
  | 0x148 => 0x00010003
  | 0x14C => Config.identity % 2 ^ 32
  | 0x150 => Config.identity / 2 ^ 32 % 2 ^ 32
  | _ => 0

/-- The byte that BAR2 offset `x` reads (R491). -/
def bar2Read (s : State) (x : Nat) : Byte :=
  let a := s.hi.winSel * 8589934592 + x
  if a < loupeGib s * 1073741824 then getByte s.loupe.mem a else 0xFF

/-- Messages that wait in the PBA leave when their vector is unmasked (R481). -/
def flushPba (s : State) : State :=
  (List.range 64).foldl (fun s v =>
    if s.ev.pba.getLsbD v && s.hi.msixEn && !s.hi.msixMask && !bit ((tfind s.hi.msix (4 * v + 3)).getD 1) 0 then
      ({ s with ev := { s.ev with pba := s.ev.pba &&& ~~~(1#64 <<< v) } }).emit (.msix v)
    else s) s

/-- A 32-bit write to the EMERGENCY and EVENTS blocks and the blocks after them (R474 to R490). -/
def blockWrite (o v : Nat) (s : State) : State :=
  if o = 0x1004 then emergencyWrite v s
  else if o = 0x1008 then wdogWrite v s
  else if o = 0x100C then wdogKick s
  else if o = 0x2004 then irqEnWrite v s
  else if 0x2040 ≤ o ∧ o < 0x2080 then pendingClear ((o - 0x2040) / 4) v [] s
  else if 0x2080 ≤ o ∧ o < 0x20C0 then maskWrite ((o - 0x2080) / 4) v s
  else if 0x2100 ≤ o ∧ o < 0x2300 then vectorWrite ((o - 0x2100) / 4) v s
  else if 0x4100 ≤ o ∧ o < 0x4200 ∧ o % 16 = 0 then mailboxRing ((o - 0x4100) / 16) v s
  else if 0x4100 ≤ o ∧ o < 0x4200 ∧ o % 16 = 4 then
    s.updMbox ((o - 0x4100) / 16) (fun b =>
      { b with rejected := b.rejected && !bit v 2, done := b.done && !bit v 1 })
  else if o = 0x5004 then { s with hi := { s.hi with rxEn := bit v 1, txEn := bit v 0 } }
  else if o = 0x5008 then if s.hi.txEn then s else
    { s with hi := { s.hi with txBase := s.hi.txBase / 2 ^ 32 * 2 ^ 32 + v } }
  else if o = 0x500C then if s.hi.txEn then s else
    { s with hi := { s.hi with txBase := v * 2 ^ 32 + s.hi.txBase % 2 ^ 32 } }
  else if o = 0x5010 then if s.hi.txEn then s else { s with hi := { s.hi with txSize := v % 65536 } }
  else if o = 0x5014 then { s with hi := { s.hi with txTail := v % 65536 } }
  else if o = 0x5020 then if s.hi.rxEn then s else
    { s with hi := { s.hi with rxBase := s.hi.rxBase / 2 ^ 32 * 2 ^ 32 + v } }
  else if o = 0x5024 then if s.hi.rxEn then s else
    { s with hi := { s.hi with rxBase := v * 2 ^ 32 + s.hi.rxBase % 2 ^ 32 } }
  else if o = 0x5028 then if s.hi.rxEn then s else { s with hi := { s.hi with rxSize := v % 65536 } }
  else if o = 0x502C then { s with hi := { s.hi with rxTail := v % 65536 } }
  else if o = 0x6004 then { s with hi := { s.hi with winSel := v % 8 } }
  else s

/-- A 32-bit write to BAR0 (R469, R470); read-only and reserved offsets ignore it (R14). -/
def bar0Write (o v : Nat) (s : State) : State :=
  if o < 0x8000 then blockWrite o v s
  else if o < 0x8400 then
    flushPba { s with hi := { s.hi with msix := tset (if o % 16 = 12 then 1 else 0) s.hi.msix ((o - 0x8000) / 4) v } }
  else if 0x10000 ≤ o ∧ o < 0x20000 then requestWrite ((o - 0x10000) / 4096) (o % 4096) v s
  else s

/-- A write to configuration space: Bus Master Enable (R467), the bases of the 256 KiB of BAR0 and the 8 GiB of BAR2, the maximum payload
size (R466), and the Message Control word of the MSI-X capability (R480). Device Control bit 15 has the row FUNCTION_LEVEL_RESET.
Log entry 9 (PRESUMED). -/
def configWrite (o v : Nat) (s : State) : State :=
  if o = 0x04 then { s with hi := { s.hi with busMaster := bit v 2 } }
  else if o = 0x10 then { s with hi := { s.hi with bar0 := s.hi.bar0 / 2 ^ 32 * 2 ^ 32 + v / 2 ^ 18 * 2 ^ 18 } }
  else if o = 0x14 then { s with hi := { s.hi with bar0 := v * 2 ^ 32 + s.hi.bar0 % 2 ^ 32 } }
  else if o = 0x1C then { s with hi := { s.hi with bar2 := v / 2 * 2 ^ 33 } }
  else if o = 0x78 then if 2 < bits v 7 5 then s else { s with hi := { s.hi with mps := bits v 7 5 } }
  else if o = 0xB0 then flushPba { s with hi := { s.hi with msixEn := bit v 31, msixMask := bit v 30 } }
  else s

/-- A register write of the host (R470): BAR0 takes aligned 32-bit and 64-bit accesses, lower address first. -/
def registerWrite (space : RegSpace) (o size v : Nat) (s : State) : State :=
  match space with
  | .bar0 =>
    if size = 4 ∧ o % 4 = 0 then bar0Write o (v % 2 ^ 32) s
    else if size = 8 ∧ o % 8 = 0 then bar0Write (o + 4) (v / 2 ^ 32 % 2 ^ 32) (bar0Write o (v % 2 ^ 32) s)
    else s
  | .bar2 => s
  | .config => if size = 4 ∧ o % 4 = 0 then configWrite o (v % 2 ^ 32) s else s

/-- REGISTER_WRITE (R470, R491). -/
def execRegisterWrite (space : RegSpace) (offset size value : Nat) (s : State) :=
  live s (registerWrite space offset size value s)

/-! ### Firmware and mirror -/

/-- FW_HEARTBEAT_TICK (R473): every 1 ms while an image runs; it also restarts the firmware watchdog (R550). -/
def execFwHeartbeatTick (s : State) :=
  live s (if s.sec.running ∧ s.hi.heartbeatAt + ms 1 ≤ s.time.mono then
    { s with hi := { s.hi with heartbeat := (s.hi.heartbeat + 1) % 2 ^ 32, heartbeatAt := s.time.mono }
             flt := { s.flt with fwWdogLast := s.time.mono } } else s)

/-- TIME_MIRROR_UPDATE (R483): SEQ rises before and after the update. -/
def execTimeMirrorUpdate (s : State) :=
  live s { s with hi := { s.hi with
    mirrorSeq := (s.hi.mirrorSeq + 2) % 2 ^ 32, mirrorTime := s.time.now, mirrorSource := s.time.source
    mirrorState := s.time.st, mirrorAt := s.time.mono } }

/-! ### SMBus (R712) -/

/-- Answer an SMBus read; the KV512 answers from the release of PORST_N. -/
def smbRead (d : Option Bytes) (s : State) := live s (s.emit (.smb d))

/-- SMB_STATE (R712). -/
def execSmbState (s : State) := smbRead (some (le 1 s.sys.st)) s
/-- SMB_MAX_SEV (R712). -/
def execSmbMaxSev (s : State) := smbRead (some (le 1 (maxSev s))) s
/-- SMB_LIGHT_EN (R712). -/
def execSmbLightEn (s : State) := smbRead (some (le 1 s.pins.light.toNat)) s
/-- SMB_PLANE_DARK (R712). -/
def execSmbPlaneDark (s : State) := smbRead (some (le 1 (b1 (planeDarkBit s 0) + 2 * b1 (planeDarkBit s 1)))) s
/-- SMB_VCORE_MV (R712). -/
def execSmbVcoreMv (s : State) := smbRead (some (le 2 s.pwr.meas)) s
/-- SMB_DIE_POWER_W (R712): 0 until BOOT completes. -/
def execSmbDiePowerW (s : State) := smbRead (some (le 2 (if s.sys.st ≤ 2 then 0 else s.pwr.dieMw / 1000))) s
/-- SMB_IDENTITY (R712). -/
def execSmbIdentity (s : State) := smbRead (some (le 8 Config.identity)) s
/-- SMB_ALERT_RESPONSE (R712): the alert is released by the Alert Response Address read, answered with the address.
Log entry 150 (PRESUMED). -/
def execSmbAlertResponse (s : State) :=
  live s (if s.sys.smbAlert then
    ({ s with sys := { s.sys with smbAlert := false } }).emit (.smb (some (le 1 (2 * s.sys.cfg.smb)))) else s.emit (.smb none))
/-- SMB_UNKNOWN (R712): any other code is answered with a NACK. -/
def execSmbUnknown (_code : Nat) (s : State) := smbRead none s

end Sys2Proof.Machine
end

