-- ==== Sys2Proof/Machine/Drive.lean ====
section
/-! DEFINITION. The drive path (R93 to R142): target queue, pre-emphasis, slew limiter, noise shaper, range
changes, ramps and the drive commands. -/

namespace Sys2Proof.Machine

/-- Full scale of a drive code (R95). -/
def fullCode : Nat := 0xFFFFF

/-! ### Slew sets -/

/-- Key of a slew set: plane, kind (0 arm, 1 shutter, 2 auxiliary) and set (0 HOLD, 1 TRANSITION). -/
def slewKey (p kind set : Nat) : Nat := p * 6 + kind * 2 + set

/-- Default of a slew set (R105). -/
def slewDefault (key : Nat) : Slew := if key % 2 = 0 then { step := 5, rate := 1 } else { step := 0xFFFFF, rate := 1 }

/-- A slew set in force. -/
def slewOf (s : State) (p kind set : Nat) : Slew := tget (slewDefault (slewKey p kind set)) s.slews (slewKey p kind set)

/-- Slew kind of an element: 0 cell arm, 1 shutter, 2 auxiliary heater. -/
def slewKind (e : Place) : Nat := if e.kind = 3 then 1 else if e.kind = 4 then 2 else 0

/-! ### Ranges -/

/-- A code given in range `m` (HIGH when true), in range `h` (R119). -/
def convRange (m h : Bool) (code : Nat) : Nat := if m = h then code else if m then code * 4 else (code + 2) / 4

/-- A code given in the mapped range of a channel, in the range it runs in (R119).
Log entry 137 (DEDUCED). -/
def toRange (s : State) (ch code : Nat) : Nat := convRange (s.elemAt ch).high (s.drive ch).high code

/-- PE_AMP of an entry in the range that its channel runs in (R119), at full scale at most. -/
def ampRange (s : State) (ch amp : Nat) : Nat := min 0xFFF (toRange s ch amp)

/-- A code of the running range back in the mapped range (R119, R253). -/
def fromRangeI (s : State) (ch : Nat) (v : Int) : Int :=
  let m := (s.elemAt ch).high
  let h := (s.drive ch).high
  if m = h then v else if m then divRound v 4 else v * 4

/-- Rescale by step 5 of R116 for a change into `high`.
Log entry 128 (DEDUCED). -/
def rescale (high : Bool) (c : Nat) : Nat := if high then (c + 2) / 4 else c * 4

/-- The park table that the next ramp to park uses (R120, R136). -/
def parkTable (s : State) : Tab Nat := (s.sys.park.map (·.codes)).getD []

/-- A park code in the range that its channel runs in (R119). One loaded after a change to LOW may lie beyond full scale there: it is
held to full scale (log entry 163, DESIGN CHOICE). -/
def parkIn (s : State) (t : Tab Nat) (ch : Nat) : Nat := min fullCode (toRange s ch (tget 0 t ch))

/-- Park code in force of a channel in the range it runs in (R120, R119): that of its plane's newest ramp to park (R136). -/
def parkCode (s : State) (ch : Nat) : Nat := parkIn s (s.plane (s.elemAt ch).plane).park ch

/-! ### The update tick -/

/-- A channel is frozen (R114, R691): its link is in hold, training or test, or a warm reset runs through BOOT and LINKING. -/
def frozen (s : State) (ch : Nat) : Bool :=
  let k := (s.link (ch / 1152)).st
  k == 1 || k == 3 || k == 5 || (s.sys.warm && decide (s.sys.st ≤ 3))

/-- PE_AMP expanded to a code (R101). -/
def peCode (amp : Nat) : Nat := amp * 256 + amp / 16

/-- The return to HOLD takes effect at a tick at which the code lies in the hold window (R108); pre-emphasis ends with it (R102). -/
def settleHold (d : Drive) : Drive :=
  if d.toHold && decide (d.winLo ≤ d.code) && decide (d.code ≤ d.winHi) then
    { d with trans := false, toHold := false, peLeft := 0 } else d

/-- The oldest entry leaves the queue (R98, R101, R102, R104, R108); the commanded target before it is the one of the tick before.
The flag says that its pre-emphasis was ignored. -/
def popEntry (now : NetTime) (openCtx : Bool) (d : Drive) : Drive × Bool :=
  match d.queue with
  | [] => (d, false)
  | e :: t =>
    if now < e.notBefore then (d, false)
    else
      let before := d.cmd
      let d := { d with queue := t, out := e.code, peLeft := 0 }
      let d := if e.trans then { d with trans := true, toHold := false }
        else if openCtx then { d with toHold := true } else d
      let d := settleHold d
      if e.dur = 0 then (d, false)
      else if d.trans then
        ({ d with peLeft := e.dur, peAmp := e.amp
                  peFull := if before < e.code then fullCode else if e.code < before then 0 else e.code }, false)
      else (d, true)

/-- One limiter step toward `target` (R105 to R107): the window holds under the HOLD set only. RATE is counted from the tick at which
the code last stood at its target or last moved (log entry 162, DESIGN CHOICE).
Log entry 138 (DEDUCED). -/
def limit (sl : Slew) (target : Nat) (window : Bool) (d : Drive) : Drive :=
  let k := d.rate + 1
  let goal := if window && !d.trans then clampN target d.winLo d.winHi else target
  if d.code = target ∧ goal = target then { d with rate := 0, limited := false }
  else if k < sl.rate then { d with rate := k }
  else
    let moved := if d.code < goal then min goal (d.code + sl.step) else max goal (d.code - sl.step)
    { d with code := moved, rate := 0, limited := decide (moved ≠ target) }

/-- The shaped target of this tick, with pre-emphasis counted down (R101). -/
def shaped (d : Drive) : Nat × Drive :=
  if 1 < d.peLeft then (d.peFull, { d with peLeft := d.peLeft - 1 })
  else if d.peLeft = 1 then (peCode d.peAmp, { d with peLeft := 0 })
  else (d.cmd, d)

/-- A drive code with a test signal, clamped to the code range and, under the HOLD set, to the hold window (R198). -/
def injected (d : Drive) (base sig : Int) : Nat :=
  let v := (clampI (base + sig) 0 fullCode).toNat
  if d.trans then v else clampN v d.winLo d.winHi

/-- The commanded target of this tick (R94): the loop's code, or the queue output with the test signal of an OPEN base. -/
def target (d : Drive) : Drive :=
  match d.loopCode with
  | some v => { d with cmd := v }
  | none => { d with cmd := if d.inj = 0 then d.out else injected d d.out d.inj }

/-- What one update tick does to a channel outside a ramp (R93); a range change ramps under the HOLD set (R116). The flag says PE_LIMITED (R102, R103): an entry's pre-emphasis was
ignored, or the code did not follow a pre-emphasis step in its tick. -/
def tickNormal (now : NetTime) (openCtx : Bool) (hold trans : Slew) (d : Drive) : Drive × Bool :=
  let d := settleHold d
  let r := popEntry now openCtx d
  let d := target r.1
  let pe := decide (0 < d.peLeft)
  let q := shaped d
  let m := limit (if d.trans && d.rcStep == 0 then trans else hold) q.1 true q.2
  ({ m with peNow := pe, rcZero := m.rcStep == 1 && d.code == 0 }, r.2 || (pe && m.code != q.1))

/-- The ramp target at tick `n` of `N`, rounded toward the destination (R123). -/
def rampTarget (a b n total : Nat) : Nat :=
  if a ≤ b then a + ceilDiv ((b - a) * n) total else a - ceilDiv ((a - b) * n) total

/-- What one update tick does to a channel in a ramp (R123, R124): HOLD set, no window, queue held.
Log entry 123 (DEDUCED). -/
def tickRamp (r : Ramp) (hold : Slew) (d : Drive) : Drive :=
  let t := if r.shutdown then 0 else rampTarget d.rampA d.rampB (min (r.done + 1) r.ticks) (max r.ticks 1)
  let d := { d with out := t, cmd := t, trans := false, toHold := false, peLeft := 0, peNow := false, loopCode := none, inj := 0 }
  limit hold t false d

/-- A context passes the queue output: in OPEN, and in INJECT on a base of OPEN (R181). -/
def queueFed (c : Ctx) : Bool := c.regime == 0 || (c.regime == 4 && c.injBase == 0)

/-- One channel at an update tick of its plane. -/
def tickDrive (s : State) (ch : Nat) (d : Drive) : Drive × Bool :=
  let e := s.elemAt ch
  let hold := slewOf s e.plane (slewKind e) 0
  let trans := slewOf s e.plane (slewKind e) 1
  if forced s ch || frozen s ch then (d, false)
  else match (s.plane e.plane).ramp with
    | some r => if r.start ≤ s.time.now then (tickRamp r hold d, false)
                else tickNormal s.time.now (queueFed (s.ctx ch)) hold trans d
    | none => tickNormal s.time.now (queueFed (s.ctx ch)) hold trans d

/-- A launch moves an element: an arm of a changing or retuned cell, or a shutter of a checked circuit (R220, R238). -/
def launchMoves (s : State) (l : Launch) (ch : Nat) : Bool :=
  let e := s.elemAt ch
  if e.kind = 3 then (tfind l.checks e.index).isSome
  else if e.kind = 1 ∨ e.kind = 2 then (tfind l.cells (s.cellNo e)).isSome
  else false

/-- PE_LIMITED is counted for the link, once for each entry ignored and each step cut, and DRIVE_PE_LIMITED raised (R102, R103; log
entry 170, DEDUCED); a launch under way that moves the element notes it and loses its guarantee (R103, R259). -/
def peLimited (ch : Nat) (s : State) : State :=
  let p := (s.elemAt ch).plane
  let s := s.updLink (ch / 1152) (fun k => { k with cPe := (k.cPe + 1) % 2 ^ 32 })
  let s := s.updPlane p (fun q => { q with cur := q.cur.map (fun l =>
    if l.begun ∧ !l.done ∧ launchMoves s l ch then { l with peLimited := insertAsc ch l.peLimited, void := true } else l) })
  raiseFault (160 + ch / 1152) { plane := p, link := ch / 1152, chan := ch } s

/-- DRIVE_TRACE record of a channel (R601). -/
def driveTrace (s : State) (ch : Nat) : Bytes :=
  let d := s.drive ch
  le 4 (d.out + b1 d.trans * 2 ^ 20 + b1 d.limited * 2 ^ 21 + b1 (forced s ch) * 2 ^ 22 + b1 d.peNow * 2 ^ 23)
    ++ le 4 d.code

/-- DRIVE_TRACE records of a plane at an update tick (R602): one every DIV update ticks. -/
def traceDrives (p : Nat) (s : State) : State :=
  let c := tget {} s.loupe.srcs 3
  let n := s.time.now / us (s.plane p).tickUs
  if c.on && n % max c.div 1 == 0 then
    each ((range' c.first c.count).filter (fun ch => (s.elemAt ch).kind != 0 && (s.elemAt ch).plane == p)) s
      (fun ch s => stageRec 3 ch (driveTrace s ch) s)
  else s

/-- The newest update-tick boundary of a plane (R96). -/
def tickBoundary (s : State) (p : Nat) : NetTime := s.time.now / us (s.plane p).tickUs * us (s.plane p).tickUs

/-- An update tick of the plane begins now (R96): its boundary lies in the modulator tick under way and has not been taken yet. -/
def atBoundary (s : State) (p : Nat) : Bool :=
  decide (s.time.now < tickBoundary s p + modTick) && (s.plane p).tickAt != some (tickBoundary s p)

/-- UPDATE_TICK (R96): every channel of the plane takes its step of R93, and a ramp its next tick (R123).
Log entry 123 (DEDUCED). -/
def updateTick (p : Nat) (s : State) : State :=
  let cut := (s.drives.filter (fun e => (s.elemAt e.1).kind != 0 && (s.elemAt e.1).plane == p
    && (tickDrive s e.1 e.2).2)).map (·.1)
  let t := { s with drives := tmap {} (fun ch d =>
    if (s.elemAt ch).kind ≠ 0 ∧ (s.elemAt ch).plane = p then (tickDrive s ch d).1 else d) s.drives }
  let warmFrozen := s.sys.warm && decide (s.sys.st ≤ 3)
  let t := t.updPlane p (fun q => { q with
    tickAt := some (tickBoundary s p)
    ramp := q.ramp.map (fun r =>
    if r.start ≤ s.time.now ∧ !warmFrozen then { r with done := r.done + 1 } else r) })
  traceDrives p (each cut t peLimited)

/-! ### The noise shaper -/

/-- Noise-shaper state in half codes: errors e1 and e2, and whether the tick clamped (R109). -/
structure Shaped where
  /-- level emitted -/
  level : Nat
  /-- e1 in half codes -/
  e1 : Int
  /-- e2 in half codes -/
  e2 : Int
  /-- a clamp is counted -/
  clamp : Bool
  deriving DecidableEq, Repr

/-- The level nearest to `w` half codes, a tie going to the lower level (R109): levels stand 699,050 half codes apart.
Log entry 137 (DEDUCED). -/
def nearestLevel (w : Int) : Nat :=
  if w ≤ 349525 then 0 else if w ≤ 1048575 then 1 else if w ≤ 1747625 then 2 else 3

/-- One modulator tick of the noise shaper (R109). -/
def shape (code : Nat) (e1 e2 : Int) : Shaped :=
  if code = 0 then ⟨0, 0, 0, false⟩
  else if code = fullCode then ⟨3, 0, 0, false⟩
  else
    let w : Int := 2 * code - 2 * e1 + e2
    let y := nearestLevel w
    let e : Int := 699050 * y - w
    let c := clampI e (-1048575) 1048575
    ⟨y, c, e1, decide (c ≠ e)⟩

/-- One modulator tick of a channel: FORCE_ZERO, a calibration pattern, training, or the noise shaper (R109, R113, R122, R515). -/
def emitLevel (s : State) (ch : Nat) (d : Drive) : Drive × Bool :=
  if forced s ch then ({ d with e1 := 0, e2 := 0, level := 0 }, false)
  else if (s.link (ch / 1152)).st ≤ 1 ∨ (s.link (ch / 1152)).st = 4 then ({ d with level := 0 }, false)
  else match d.pattern with
    | some l => ({ d with level := l % 4 }, false)
    | none =>
      let r := shape d.code d.e1 d.e2
      ({ d with level := r.level, e1 := r.e1, e2 := r.e2 }, r.clamp)

/-! ### drive.set_target, drive.read_state -/

/-- The circuit test of a channel: its cell or shutter carries a lit circuit (R131). -/
def litChannel (s : State) (ch : Nat) : Bool :=
  let e := s.elemAt ch
  if e.kind = 3 then (s.litCircuits e.plane).any (fun c => c.1 == e.index)
  else if e.kind = 1 ∨ e.kind = 2 then !(s.throughCell e.plane (s.cellNo e)).isEmpty
  else false

/-- A channel that the map does not use (R31, R131). -/
def unused (s : State) (ch : Nat) : Bool := decide (9216 ≤ ch) || (s.elemAt ch).kind == 0

/-- Refusal of a command on a context or channel held by a device function (R577). -/
def heldBy (s : State) (c : Nat) : Refuse := conflict ((ctxHold s c).getD 0)

/-- Queue entries of a payload from offset 4 (R99), released from 1 us after now on (R98). -/
def entriesAt (p : Bytes) (n : Nat) (now : NetTime) : List QEntry :=
  (List.range n).map (fun i =>
    let o := 4 + 8 * i
    { code := fld p o 4 % 2 ^ 20, amp := fld p (o + 4) 2 % 4096, dur := fld p (o + 6) 1, trans := bit (fld p (o + 7) 1) 0
      notBefore := if i = 0 then now + us 1 else 0 })

/-- The refusals of queue entries (R99). -/
def entryChecks (p : Bytes) (n : Nat) : List (Bool × Refuse) :=
  (List.range n).flatMap (fun i =>
    let o := 4 + 8 * i
    [range p o 4 0 fullCode, range p (o + 4) 2 0 0xFFF, range p (o + 7) 1 0 3])

/-- `drive.set_target` (R98, R99, R131).
Log entry 178 (DESIGN CHOICE). -/
def cmdDriveSetTarget : Cmd where
  op := 0x0501
  checks p s :=
    let n := fld p 2 1
    [sel p 2 1 1 16] ++ layout ([2, 1, 1] ++ entries n [4, 2, 1, 1]) p ++ [(unused s (fld p 0 2), bad 0), resv p 3 1]
      ++ entryChecks p n
  run r s :=
    let p := r.pay
    let ch := fld p 0 2
    let n := fld p 2 1
    let d := s.drive ch
    let old := if bit (fld p 11 1) 1 then [] else d.queue
    guarded [((s.ctx ch).regime != 0 || forced s ch, heldBy s ch),
             (litChannel s ch, busyLit), (decide (16 < old.length + n), busy)]
      (ok (s.updDrive ch (fun d => { d with queue := old ++ entriesAt p n s.time.now })))

/-- Meaning of `drive.set_target`. -/
def execDriveSetTarget (req : Req) (s : State) := command cmdDriveSetTarget req s

/-- FLAGS of `drive.read_state` (R132). -/
def driveFlags (s : State) (ch : Nat) : Nat :=
  let d := s.drive ch
  b1 d.trans + 2 * b1 d.high + 4 * b1 d.limited + 8 * b1 (forced s ch) + 16 * b1 (d.rcStep != 0)
    + 32 * b1 d.peNow + 64 * b1 (frozen s ch)

/-- `drive.read_state` (R132). -/
def cmdDriveReadState : Cmd where
  op := 0x0502
  checks p s := layout [2, 2] p ++ [(unused s (fld p 0 2), bad 0), resv p 2 2]
  run r s :=
    let ch := fld r.pay 0 2
    let d := s.drive ch
    ok s (le 4 d.out ++ le 4 d.code ++ le 4 d.winLo ++ le 4 d.winHi ++ le 1 d.queue.length ++ le 1 (driveFlags s ch)
      ++ le 2 0 ++ le 4 d.rbPower ++ le 4 d.rbCmd)

/-- Meaning of `drive.read_state`. -/
def execDriveReadState (req : Req) (s : State) := command cmdDriveReadState req s

/-! ### drive.set_slew, drive.set_tick -/

/-- `drive.set_slew` (R105, R133). -/
def cmdDriveSetSlew : Cmd where
  op := 0x0503
  checks p _ := [sel p 1 1 0 2, sel p 2 1 0 1] ++ layout [1, 1, 1, 1, 4] p ++
    [range p 0 1 0 1, range p 3 1 1 255, range p 4 4 1 fullCode]
  run r s :=
    let p := r.pay
    let k := slewKey (fld p 0 1) (fld p 1 1) (fld p 2 1)
    guarded [(fld p 2 1 == 1 && scheduling (s.plane (fld p 0 1)).regime, busyLit)]
      (ok { s with slews := tset (slewDefault k) s.slews k { step := fld p 4 4, rate := fld p 3 1 } })

/-- Meaning of `drive.set_slew`. -/
def execDriveSetSlew (req : Req) (s : State) := command cmdDriveSetSlew req s

/-- The update ticks of R96. -/
def tickValues : List Nat := [1, 2, 4, 5, 8, 10, 16, 20, 25, 32, 40, 50, 64]

/-- `drive.set_tick` (R97, R134). -/
def cmdDriveSetTick : Cmd where
  op := 0x0504
  checks p _ := layout [1, 1, 2] p ++ [range p 0 1 0 1, (!tickValues.contains (fld p 1 1), bad 1), resv p 2 2]
  run r s :=
    let q := fld r.pay 0 1
    guarded [((s.plane q).regime != 0, busyLit), ((s.plane q).ramp.isSome, busy)]
      (ok (s.updPlane q (fun x => { x with tickUs := fld r.pay 1 1 })))

/-- Meaning of `drive.set_tick`. -/
def execDriveSetTick (req : Req) (s : State) := command cmdDriveSetTick req s

/-! ### Range changes -/

/-- The codes of one channel after a change into `high` (R117, R119): drive code, for a cell arm hold window and SUM, and the stored
park and open codes. The windows of shutters and auxiliary heaters are always the whole range (R107).
Log entry 128 (DEDUCED). -/
def rangeCodes (s : State) (high : Bool) (ch : Nat) : List Nat :=
  let d := s.drive ch
  let e := s.elemAt ch
  let t := (s.plane e.plane).park
  [rescale high d.code]
    ++ (if e.kind = 1 ∨ e.kind = 2 then [rescale high d.winLo, rescale high d.winHi, rescale high (s.ctx ch).sum] else [])
    ++ [convRange e.high high (tget 0 t ch), convRange e.high high (tget 0 (parkTable s) ch)]
    ++ (if e.kind = 3 then [convRange e.high high ((s.cal.cal.map (fun c => (tget {} c.elems ch).openCode)).getD 0)] else [])

/-- Start the range change of one channel (steps 1 and 2 of R116).
Log entry 128 (DEDUCED). -/
def startRange (high : Bool) (ch : Nat) (s : State) : State :=
  let rg := (s.ctx ch).regime
  let s := goOpen ch s
  s.updDrive ch (fun d => { d with
    queue := [], out := 0, peLeft := 0, toHold := true, rcStep := 1, rcZero := false, rcHigh := high, rcCode := d.code
    rcRegime := if d.rcStep = 0 then rg else d.rcRegime })

/-- Channels a range change acts on: both arms of a cell together (R116). -/
def rangeChs (s : State) (ch : Nat) : List Nat := cellMates s ch

/-- `drive.set_range` (R116, R117, R135). A request for the range in force changes nothing and raises no event, and a shutter that
carries a lit circuit is refused as a cell is (log entry 163, DESIGN CHOICE). -/
def cmdDriveSetRange : Cmd where
  op := 0x0505
  need p s := some ⟨5, 4, cellMates s (fld p 0 2)⟩
  checks p s := layout [2, 1, 1] p ++ [(unused s (fld p 0 2), bad 0), range p 2 1 0 1, resv p 3 1]
  run r s :=
    let ch := fld r.pay 0 2
    let high := fld r.pay 2 1 == 1
    let l := rangeChs s ch
    let q := (s.elemAt ch).plane
    guarded [(litChannel s ch, busyLit), (scheduling (s.plane q).regime, conflict 7),
             (l.any (fun c => (s.drive c).rcStep != 0), conflict 3),
             ((ctxKind s ch).isSome, heldBy s ch),
             ((s.drive ch).high != high && l.any (fun c => (rangeCodes s high c).any (fun v => decide (fullCode < v))), bad 2)]
      (if (s.drive ch).high = high then ok s
       else
         let rg := (s.ctx ch).regime
         let t := each l s (startRange high)
         ok (each l t (fun c s => s.updDrive c (fun d => { d with rcRegime := rg }))))

/-- Meaning of `drive.set_range`. -/
def execDriveSetRange (req : Req) (s : State) := command cmdDriveSetRange req s

/-- RANGE_RAMP_DOWN_DONE (step 3 of R116): after one update tick at code 0 the new RANGE bits are sent out of turn. -/
def execRangeRampDownDone (ch : Nat) (s : State) :=
  onUnit ch 9216 s (
    let l := rangeChs s ch
    if l.all (fun c => (s.drive c).rcStep == 1 && (s.drive c).code == 0 && (s.drive c).rcZero) then
      each l s (fun c s => setRangeBit c (s.drive c).rcHigh (s.updDrive c (fun d => { d with rcStep := 2 })))
    else s)

/-- Step 5 of R116 for one channel: its range is in force, its codes are rescaled and ramp back. -/
def rangeApply (ch : Nat) (s : State) : State :=
  let hi := (s.drive ch).rcHigh
  let s := restartConvs (ch / 1152) false (fun c => c == ch) s
  let cell := (s.elemAt ch).kind = 1 ∨ (s.elemAt ch).kind = 2
  let s := s.updDrive ch (fun d => { d with
    rcStep := 3, high := hi, e1 := 0, e2 := 0, out := rescale hi d.rcCode
    winLo := if cell then rescale hi d.winLo else d.winLo
    winHi := if cell then rescale hi d.winHi else d.winHi })
  s.updCtx ch (fun c => { c with
    sum := rescale hi c.sum
    outLo := c.outLo.map (fun v => if hi then divRound v 4 else 4 * v)
    outHi := c.outHi.map (fun v => if hi then divRound v 4 else 4 * v) })

/-- RANGE_SEG_APPLIED (steps 4 and 5 of R116): the segments with the new RANGE bits have been echoed. -/
def execRangeSegApplied (ch : Nat) (s : State) :=
  onUnit ch 9216 s (
    let l := rangeChs s ch
    if l.all (fun c => (s.drive c).rcStep == 2 &&
        !(s.link (c / 1152)).changed.contains (segOf (c % 1152 / 2))) then each l s rangeApply
    else s)

/-- Where the ramp back of a range change ends (R107, R116): the queue output, inside the hold window once the HOLD set applies. -/
def rangeEnd (d : Drive) : Nat := if d.trans then d.out else clampN d.out d.winLo d.winHi

/-- RANGE_CHANGE_DONE (steps 6 and 7 of R116): the contexts return to their regimes with a soft-start.
Log entry 178 (DESIGN CHOICE). -/
def execRangeChangeDone (ch : Nat) (s : State) :=
  onUnit ch 9216 s (
    let l := rangeChs s ch
    if l.all (fun c => (s.drive c).rcStep == 3 && (s.drive c).code == rangeEnd (s.drive c)) then
      let s := each l s (fun c s =>
        let rg := (s.drive c).rcRegime
        let s := s.updDrive c (fun d => { d with rcStep := 0, rcCode := 0, rcRegime := 0 })
        if rg = 0 then s else s.updCtx c (fun x => { x with pending := some { regime := rg, tick := x.pairedTick, base := x.injBase, filter := x.injFilter } }))
      raiseEvent 185 { plane := (s.elemAt ch).plane, link := ch / 1152, chan := l.headD ch } s
    else s)

/-! ### Park table and ramps -/

/-- Bytes of a park table (R120). -/
def parkBytes : Nat := 36884

/-- The park codes of an image (R120). -/
def parkAt (p : Bytes) : Park :=
  { gen := 0, mapGen := fld p 4 4
    codes := (List.range 9216).foldr (fun ch t => if fld p (16 + 4 * ch) 4 = 0 then t else (ch, fld p (16 + 4 * ch) 4) :: t) [] }

/-- The checks of R121 on a park table against the map in force. -/
def parkOk (s : State) (k : Park) : Bool :=
  s.sys.map.isSome && k.mapGen == (s.sys.map.map (·.gen)).getD 0 &&
    k.codes.all (fun e => decide (e.1 < 9216) && decide (e.2 ≤ fullCode) &&
      !((s.elemAt e.1).kind == 3 || (s.elemAt e.1).kind == 0))

/-- The byte-level checks of R121: CHECK, FORMAT and reserved bits. -/
def parkImageOk (s : State) (p : Bytes) : Bool :=
  p.length == parkBytes && fld p 0 2 == 1 && fld p 2 2 == 0 && fld p 8 8 == 0 &&
    fld p 36880 4 == crc32c (p.take 36880) && parkOk s (parkAt p)

/-- Bits of a host bus address with its length, of a command that reads or writes host memory.
Log entry 8 (DESIGN CHOICE). -/
def hostRead (r : Req) (n : Nat) : Bytes := slice r.dmaIn 0 n

/-- `drive.park_load` (R121, R136): written to NVM as a new generation; the codes apply from the next ramp to park.
Log entry 178 (DESIGN CHOICE). -/
def cmdDriveParkLoad : Cmd where
  op := 0x0506
  host := some 0
  checks p _ := layout [8, 4] p ++ [range p 8 4 36884 36884]
  run r s :=
    let img := hostRead r parkBytes
    guarded [(!s.allIdle, busyLit), (!parkImageOk s img, bad 0)]
      (let k := { parkAt img with gen := ((bankNow s.nvm.park).map (fun e => (e.1 + 1) % 2 ^ 32)).getD 1 }
       ok (reState (endCond 27 0 { startJob (.park k) s with sys := { s.sys with park := some k } })))

/-- Meaning of `drive.park_load`. -/
def execDriveParkLoad (req : Req) (s : State) := command cmdDriveParkLoad req s

/-- `drive.park_read` (R137).
Log entry 178 (DESIGN CHOICE). -/
def cmdDriveParkRead : Cmd where
  op := 0x0507
  checks p _ := [sel p 4 2 1 1000] ++ layout [4, 2, 2] p ++
    [(decide (9216 < fld p 0 4 + fld p 4 2), bad 0), resv p 6 2]
  run r s :=
    let k := (s.sys.park.map (·.codes)).getD []
    ok s ((range' (fld r.pay 0 4) (fld r.pay 4 2)).flatMap (fun ch => le 4 (tget 0 k ch)))

/-- Meaning of `drive.park_read`. -/
def execDriveParkRead (req : Req) (s : State) := command cmdDriveParkRead req s

/-- Update ticks of a ramp (R123). -/
def rampTicks (ms' tickUs : Nat) : Nat := ceilDiv (ms' * 1000) tickUs

/-- Destination of a channel in a ramp: its code of the park table loaded, or zero; shutters stay at 0 (R121, R136).
Log entry 163 (DESIGN CHOICE). -/
def rampDest (s : State) (dest ch : Nat) : Nat := if dest = 1 then parkIn s (parkTable s) ch else 0

/-- A ramp whose largest step would exceed the HOLD STEP of some channel (R123). -/
def rampTooFast (s : State) (p dest ticks : Nat) : Bool :=
  (s.planeChs p false).any (fun ch =>
    let a := (s.drive ch).code
    let b := rampDest s dest ch
    decide ((slewOf s p (slewKind (s.elemAt ch)) 0).step < ceilDiv (if a ≤ b then b - a else a - b) (max ticks 1)))

/-- Start a ramp of a plane (R123, R138): it leaves the plane not parked; one to park brings the park table loaded into force (R136). -/
def startRamp (p dest ticks : Nat) (parking : Bool) (s : State) : State :=
  let s := each (s.planeChs p false) s (fun ch s =>
    let b := rampDest s dest ch
    s.updDrive ch (fun d => { d with rampA := d.code, rampB := b, rate := 0 }))
  s.updPlane p (fun q => { q with
    ramp := some { start := ceilTo s.time.now (us q.tickUs), ticks := ticks, dest := dest, parking := parking }
    parked := false, park := if dest = 1 then parkTable s else q.park })

/-- `drive.ramp` (R123, R138).
Log entry 178 (DESIGN CHOICE). -/
def cmdDriveRamp : Cmd where
  op := 0x0508
  checks p _ := layout [1, 1, 2, 4] p ++ [range p 0 1 0 1, range p 1 1 0 1, resv p 2 2,
    (fld p 4 4 != 0 && (decide (fld p 4 4 < 10) || decide (10000 < fld p 4 4)), bad 4)]
  run r s :=
    let q := fld r.pay 0 1
    let n := rampTicks (if fld r.pay 4 4 = 0 then 250 else fld r.pay 4 4) (s.plane q).tickUs
    guarded [((s.plane q).regime != 0, busyLit), (rampTooFast s q (fld r.pay 1 1) n, bad 4)]
      (ok (startRamp q (fld r.pay 1 1) n false s))

/-- Meaning of `drive.ramp`. -/
def execDriveRamp (req : Req) (s : State) := command cmdDriveRamp req s

/-! ### Readback settings and counters -/

/-- `drive.set_readback` (R126, R130, R140); a link with SCAN 0 raises DRIVE_RB_SCAN_OFF. -/
def cmdDriveSetReadback : Cmd where
  op := 0x050A
  checks p _ := layout [1, 1, 2, 1, 3] p ++
    [(decide (8 ≤ fld p 0 1) && fld p 0 1 != 0xFF, bad 0), range p 2 2 5 250, range p 4 1 0 1, resv p 5 3]
  run r s :=
    let p := r.pay
    let ls := if fld p 0 1 = 0xFF then List.range 8 else [fld p 0 1]
    ok (each ls s (fun l s =>
      let s := s.updLink l (fun k => { k with rbDelay := fld p 1 1, rbTol := fld p 2 2, rbScan := bit (fld p 4 1) 0 })
      setCond (!bit (fld p 4 1) 0) (152 + l) 0 { plane := (s.linkPlane l).getD 0xFF, link := l } s))

/-- Meaning of `drive.set_readback`. -/
def execDriveSetReadback (req : Req) (s : State) := command cmdDriveSetReadback req s

/-- DRIVE_LEAD_PS of a link (R112): as set, or T_APPLY of its bezel. -/
def leadPs (k : Link) : Nat := if k.leadPs = 0 then k.tApply else k.leadPs

/-- `drive.set_link_lead` (R112, R141). -/
def cmdDriveSetLinkLead : Cmd where
  op := 0x050B
  checks p _ := layout [1, 3, 4] p ++ [range p 0 1 0 7, resv p 1 3, range p 4 4 50000 250000]
  run r s := ok (s.updLink (fld r.pay 0 1) (fun k => { k with leadPs := fld r.pay 4 4 }))

/-- Meaning of `drive.set_link_lead`. -/
def execDriveSetLinkLead (req : Req) (s : State) := command cmdDriveSetLinkLead req s

/-- `drive.counters` (R142). -/
def cmdDriveCounters : Cmd where
  op := 0x050C
  checks p _ := layout [1, 1, 2] p ++ [range p 0 1 0 7, range p 1 1 0 1, resv p 2 2]
  run r s :=
    let l := fld r.pay 0 1
    let k := s.link l
    let t := if fld r.pay 1 1 = 1 then s.updLink l (fun k => { k with
      cConv := 0, cRestart := 0, cRestartLink := 0, cMismatch := 0, cClamp := 0, cPe := 0 }) else s
    ok t (le 4 k.cConv ++ le 4 k.cRestart ++ le 4 k.cRestartLink ++ le 4 k.cMismatch ++ le 4 k.cClamp ++ le 4 k.cPe)

/-- Meaning of `drive.counters`. -/
def execDriveCounters (req : Req) (s : State) := command cmdDriveCounters req s

/-! ### drive.readback -/

/-- `drive.readback` (R128, R139): an urgent conversion; the answer comes when it completes. With SYNC on a free modulator it waits for
a level event of its own channel from now on (R126). -/
def cmdDriveReadback : Cmd where
  op := 0x0509
  need p _ := some ⟨3, 2, [fld p 0 2 / 144]⟩
  checks p s := layout [2, 1, 1] p ++ [(unused s (fld p 0 2), bad 0), range p 2 1 0 1, resv p 3 1]
  run r s :=
    let ch := fld r.pay 0 2
    let l := ch / 1152
    let m := ch % 1152 / 144
    let md := tget {} (s.link l).mods m
    guarded [((calPlane s).isSome && calPlane s == s.linkPlane l, conflict 1), ((s.link l).st != 2, notReady), (decide (4 ≤ md.urgent.length), busy)]
      (let c : Conv := { chan := ch % 144, urgent := true, sync := bit (fld r.pay 2 1) 0, req := some r }
       let md := if c.sync ∧ md.cur = none ∧ md.urgent = [] then { md with idle := 0, sinceEvent := none } else md
       let s := s.updLink l (fun k => { k with mods := tset {} k.mods m { md with urgent := md.urgent ++ [c] } })
       later (if r.lease = 0 ∧ ¬ s.implicits.any (fun x => x.cls == 3 && x.first == ch / 144) then
         holdImplicit 3 2 (ch / 144) 1 s else s))

/-- Meaning of `drive.readback`. -/
def execDriveReadback (req : Req) (s : State) := command cmdDriveReadback req s

end Sys2Proof.Machine
end

