-- ==== Sys2Proof/Machine/Sense.lean ====
section
/-! DEFINITION. The sense path (R143 to R176): decimation, tags, filter settings, reference outputs, accumulators
and trackers, and the sense commands. -/

namespace Sys2Proof.Machine

/-! ### Filters -/

/-- Order of a filter: FAST 3, MID 4, FINE 5 (R145); it is also the SETTLE count. -/
def filterOrder (f : Nat) : Nat := if f = 0 then 3 else if f = 1 then 4 else 5

/-- Oversampling ratio of a filter (R145). -/
def filterOsr (f : Nat) : Nat := if f = 0 then 25 else if f = 1 then 200 else 1024

/-- Output period of a filter (R145). -/
def filterPeriod (f : Nat) : NetTime := filterOsr f * modTick

/-- Span of a sample in ticks (R145). -/
def filterSpan (f : Nat) : Nat := filterOrder f * filterOsr f

/-- The tick `tick`, which began at network time `start`, ends on a boundary of filter `f` (R147). -/
def onBoundary (f runTick tick : Nat) (start : NetTime) : Bool :=
  if f = 2 then decide (runTick ≤ tick) && (tick + 1 - runTick) % 1024 == 0
  else (start + modTick) / filterPeriod f != start / filterPeriod f

/-- Ticks from the end of a tick to the next boundary of `f` strictly after it, given a tick whose start is known. -/
def toBoundary (f runTick tick : Nat) (start : NetTime) (e : Nat) : Nat :=
  if f = 2 then (if e + 1 ≤ runTick then runTick + 1024 - (e + 1) else 1024 - (e + 1 - runTick) % 1024)
  else
    let t := start + (e + 1 - tick) * modTick - (tick - (e + 1)) * modTick
    (filterPeriod f - t % filterPeriod f) / modTick

/-- One tick of the running sums (R146): each stage adds the one before it. -/
def integrate (b : Int) : List Int → List Int
  | [] => []
  | x :: t => let y := (x + b) % 2 ^ 64; y :: integrate y t

/-- One boundary of the differences (R146): the output and the new stages. -/
def differ (x : Int) : List Int → Int × List Int
  | [] => (x, [])
  | y :: t => let r := differ ((x - y) % 2 ^ 64) t; (r.1, x :: r.2)

/-- The sample value of a filter sum (R144): density `sum / osr^order`, rounded and saturated, with the unclamped value. -/
def sampleValue (f : Nat) (sum : Int) : Int × Int :=
  let n := filterOsr f ^ filterOrder f
  let v := divRound ((2 * sum - n) * 41943035) (4 * n)
  (clampI v (-0x7FFFFF) 0x7FFFFF, v)

/-- A filter with its state cleared (R156). -/
def clearFilter (f : Nat) (m : Mon) : Mon :=
  { m with filter := f, integ := List.replicate (filterOrder f) 0, comb := List.replicate (filterOrder f) 0
           settleLeft := filterOrder f }

/-- Restart of the SETTLE count after a change (R154). -/
def settleAgain (m : Mon) : Mon := { m with settleLeft := filterOrder m.filter }

/-- Monitor `m` carries the light of a lit circuit: a cell on one, or the output port of one. -/
def litMonitor (s : State) (m : Nat) : Bool :=
  let e := s.monAt m
  if e.kind = 1 then !(s.throughCell e.plane (s.cellNo e)).isEmpty
  else if e.kind = 2 then (s.litCircuits e.plane).any (fun c => c.2 == e.index)
  else false

/-- The arm A context of a cell monitor. -/
def monCtx (s : State) (m : Nat) : Option Nat :=
  let e := s.monAt m
  if e.kind = 1 then s.armCh e.plane (s.cellNo e) false else none

/-- The setting that a channel's own setting, its launches and AUTO give (R156 to R158). -/
def wantedFilter (s : State) (m : Nat) : Nat :=
  let x := s.mon m
  if x.setting ≠ 3 then x.setting
  else if x.taken ≠ [] then 0
  else
    let e := s.monAt m
    if e.kind = 1 then
      match monCtx s m with
      | none => 1
      | some c =>
        let k := s.ctx c
        if k.regime = 1 then 0 else if k.regime = 2 then 2
        else if k.regime = 3 then (if k.pairedTick = 0 then 0 else 2)
        else if k.regime = 4 then k.injFilter else 1
    else if e.kind = 2 ∨ e.kind = 3 then 2
    else 1

/-! ### One apply tick (R143, R150 to R155) -/

/-- Members of the reference group of a local monitor channel: eight neighbours (R90). -/
def groupOf (local' : Nat) : Nat := local' / 8

/-- The channels of a link that overload in a tick (R65, R151, R152): listed channels that are enabled, and the whole of a
group whose bit is set while no valid list entry names one of its channels. -/
def overloaded (s : State) (l : Nat) (u : UpFrame) : List Nat :=
  (List.range 640).filter (fun i =>
    (s.mon (l * 640 + i)).live &&
      (u.ovrList.contains i ||
        (u.ovrGroup.getLsbD (groupOf i) && !u.ovrList.any (fun j => decide (j < 640) && groupOf j == groupOf i))))

/-- An overloaded tick of its group at a channel, enabled or not (R152): `other` says that another channel of the group overloaded;
an overload of the channel's own extends a disturbance that stands. -/
def distTick (runTick tick : Nat) (start : NetTime) (other : Bool) (m : Mon) : Mon :=
  let disturbed := match m.lastDist with
    | none => false
    | some d => decide (tick + 1 ≤ d + 1 + toBoundary m.filter runTick tick start d + 2 * filterOsr m.filter)
  if other || disturbed then { m with lastDist := some tick } else m

/-- Take one tick into a channel's filter and latch the sample of a boundary, with its tags (R144, R147 to R155). -/
def senseTick (runTick tick : Nat) (start : NetTime) (b : Bool) (ovl : Bool) (k : SenseLink) (m : Mon) : Mon :=
  let m := { m with integ := integrate (b1 b) (if m.integ = [] then List.replicate (filterOrder m.filter) 0 else m.integ)
                    comb := if m.comb = [] then List.replicate (filterOrder m.filter) 0 else m.comb }
  let m := if ovl then { m with lastOvr := some tick } else m
  if onBoundary m.filter runTick tick start then
    let r := differ (m.integ.getLastD 0) m.comb
    let v := sampleValue m.filter r.1
    let first := tick + 1 - filterSpan m.filter
    let inSpan : Option Nat → Bool := fun x => (x.map (fun t => decide (first ≤ t))).getD false
    let ovr : Bool := inSpan m.lastOvr
    { m with
      comb := r.2
      settleLeft := m.settleLeft - 1
      ready := m.ready ++ [{
        value := if ovr then (if 0 ≤ v.2 then 0x7FFFFF else -0x7FFFFF) else v.1
        valid := !inSpan k.lastBad && decide (m.since ≤ first) && decide (filterSpan m.filter ≤ tick + 1)
        ovr := ovr
        dist := match m.lastDist with
          | some d => decide (tick + 1 ≤ d + 3 * filterOsr m.filter + 1)
          | none => false
        settle := decide (0 < m.settleLeft)
        refnr := inSpan k.lastRefnr
        time := start + modTick
        filter := m.filter }] }
  else m

/-- A boundary that falls in tick `tick`, in which MON_EN is not in effect, is a missing sample to a loop that runs on that monitor (R143). -/
def absentTick (l tick : Nat) (start : NetTime) (s : State) : State :=
  let ms' := s.ctxs.filterMap (fun e => if e.2.regime != 0 && (s.elemAt e.1).kind == 1 then ctxMon s e.1 else none)
  each ms' s (fun m s =>
    let x := s.mon m
    if m / 640 = l ∧ x.live = false ∧ onBoundary x.filter (s.link l).runTick tick start = true then
      s.updMon m (fun x => { x with ready := x.ready ++ [{ absent := true, time := start + modTick, filter := x.filter }] })
    else s)

/-- Take the tick of a checked up-frame, or of a lost one, into every enabled channel of a link (R143, R150 to R155): `d` is the
down-frame of that tick, with what stood in it. -/
def senseFrame (l : Nat) (d : DownFrame) (u : Option UpFrame) (s : State) : State :=
  let tick := d.tick
  let start := d.start
  let s := absentTick l tick start s
  let k := s.sense l
  let refBad := d.refBad || (match u with | some f => !f.status.getLsbD 18 | none => false)
  let ovl := match u with | some f => overloaded s l f | none => []
  let groups := ovl.foldl (fun g i => insertAsc (groupOf i) g) []
  let fresh := groups.filter (fun g => match tfind k.grpLast g with | none => true | some t => decide (t + 25000 < tick))
  let s := s.updSense l (fun k => { k with
    tick := tick, start := start
    lastBad := if u.isNone || !d.run || d.realign then some tick else k.lastBad
    lastRefnr := if refBad then some tick else k.lastRefnr
    ovrTicks := (k.ovrTicks + ovl.length) % 2 ^ 32
    ovrEvents := (k.ovrEvents + fresh.length) % 2 ^ 32
    grpLast := groups.foldl (fun g i => tput g i tick) k.grpLast })
  let k := s.sense l
  let rt := (s.link l).runTick
  let s := each groups s (fun g s => each (range' (8 * g) 8) s (fun i s =>
    s.updMon (l * 640 + i) (distTick rt tick start (ovl.any (fun j => j != i && groupOf j == g)))))
  let one : Nat → Mon → Mon := fun m x =>
    if m / 640 = l ∧ x.live = true then
      senseTick rt tick start ((u.map (fun f => f.mon.getLsbD (m % 640))).getD false) (ovl.contains (m % 640)) k x
    else x
  let s := { s with mons := tmap {} one s.mons }
  each fresh s (fun g s => raiseFault (176 + l)
    { plane := (s.linkPlane l).getD 0xFF, link := l, chan := l * 640 + ((ovl.find? (fun i => groupOf i == g)).getD 0)
      value := g } s)

/-- The echo of a segment has been lost with its up-frame: MON_EN that it clears counts as cleared, so that no bit without meaning is
taken (R92). -/
def senseUnechoed (l seg : Nat) (data : List Nat) (s : State) : State :=
  each (List.range 16) s (fun i s =>
    let w := 16 * seg + i
    if 576 ≤ w ∧ w < 1216 ∧ !bit (data.getD i 0) 18 then
      s.updMon (l * 640 + (w - 576)) (fun x => { x with live := false }) else s)

/-- A segment of the image has been echoed: MON_EN and new trims of its monitor words take effect, in its apply tick (R69, R154). -/
def senseEcho (l seg tick : Nat) (data : List Nat) (s : State) : State :=
  each (List.range 16) s (fun i s =>
    let w := 16 * seg + i
    if 576 ≤ w ∧ w < 1216 then
      let m := l * 640 + (w - 576)
      let v := data.getD i 0
      let x := s.mon m
      let on := bit v 18
      let s := if on ≠ x.live then s.updMon m (fun x =>
          if on then { clearFilter (wantedFilter s m) x with live := true, since := tick } else { x with live := false })
        else s
      if x.trimPend ∧ v = imageWord (s.link l).image w then
        s.updMon m (fun x => { settleAgain x with trimPend := false }) else s
    else s)

/-- The bezel has been reset: no MON_EN is in effect on the link (R68). -/
def senseReset (l : Nat) (s : State) : State :=
  { s with mons := tmap {} (fun m x => if m / 640 = l then { x with live := false } else x) s.mons }

/-! ### Accumulators and trackers (R165 to R170) -/

/-- A sample is admitted under an EXCL mask (R167). -/
def admits (excl : Nat) (x : Sample) : Bool :=
  x.valid && !(bit excl 0 && x.ovr) && !(bit excl 1 && x.dist) && !(bit excl 2 && x.settle) && !(bit excl 3 && x.refnr)

/-- An admitted sample in an accumulator (R165). -/
def Acc.add (a : Acc) (x : Sample) : Acc :=
  { a with count := a.count + 1, sum := a.sum + x.value, sumsq := a.sumsq + x.value.natAbs ^ 2
           start := if a.count = 0 then x.time else a.start, fin := x.time }

/-- An admitted sample in a tracker (R170). -/
def Tracker.add (t : Tracker) (x : Sample) : Tracker :=
  let lo := t.seen == 0 || decide (x.value < t.min)
  let hi := t.seen == 0 || decide (t.max < x.value)
  { min := if lo then x.value else t.min, tMin := if lo then x.time else t.tMin
    max := if hi then x.value else t.max, tMax := if hi then x.time else t.tMax, seen := sat 32 (t.seen + 1) }

/-- Content of an ACC_BLOCK record (R601). -/
def blockRec (m : Mon) (b : Acc) : Bytes :=
  le 1 m.filter ++ le 1 (2 + 4 * m.mode) ++ le 2 0 ++ le 4 b.count ++ le 4 b.excluded ++ le 8 (uns 64 b.sum) ++ le 16 b.sumsq
    ++ le 4 ((b.fin - b.start) / 65536) ++ le 16 0

/-- A complete block is latched, written to the loupe and announced (R166). -/
def latchBlock (c : Nat) (s : State) : State :=
  let m := s.mon c
  if m.mode = 2 ∧ m.blockN ≤ m.acc.count then
    let s := s.updMon c (fun m => { m with block := some m.acc, blocks := (m.blocks + 1) % 65536, acc := {} })
    let s := if bit m.flags 0 then stageRec 2 c (blockRec m m.acc) s else s
    if bit m.flags 1 then raiseEvent 187 { plane := (s.monAt c).plane, link := c / 640, chan := c } s else s
  else s

/-- ACC_BLOCK_DONE (R166). -/
def execAccBlockDone (mon : Nat) (s : State) := onUnit mon 5120 s (latchBlock mon s)

/-- A sample in a channel's accumulator and tracker (R166 to R170). -/
def accumulate (c : Nat) (x : Sample) (s : State) : State :=
  let s := latchBlock c s
  let m := s.mon c
  let a := admits m.excl x
  let s := if a then s.updMon c (fun m => { m with trk := m.trk.add x }) else s
  if m.mode = 0 ∨ m.sat then s
  else if a then
    let s := s.updMon c (fun m => { m with acc := m.acc.add x })
    if m.mode = 1 ∧ m.acc.count + 1 = 0xFFFFFFFF then
      raiseEvent 188 { plane := (s.monAt c).plane, link := c / 640, chan := c } (s.updMon c (fun m => { m with sat := true }))
    else s
  else s.updMon c (fun m => { m with acc := { m.acc with excluded := (m.acc.excluded + 1) % 2 ^ 32 } })

/-- Samples whose boundary has passed and that still wait go into accumulator and tracker before a read or a configuration (R169). The
moment of the read is the newest tick whose up-frame has been checked (log entry 164, DESIGN CHOICE). -/
def flushReady (m : Nat) (s : State) : State :=
  let s := each ((s.mon m).ready.filter (fun x => !x.absent && !x.counted)) s (accumulate m)
  s.updMon m (fun y => { y with ready := y.ready.map (fun x => { x with counted := true }) })

/-- The sample counters of a link (R176). -/
def countSample (l : Nat) (x : Sample) (s : State) : State :=
  s.updSense l (fun k => { k with
    invalid := (k.invalid + b1 (!x.valid)) % 2 ^ 32, dist := (k.dist + b1 x.dist) % 2 ^ 32
    settle := (k.settle + b1 x.settle) % 2 ^ 32, refnr := (k.refnr + b1 x.refnr) % 2 ^ 32 })

/-! ### Reference outputs (R161 to R164, R171) -/

/-- The reference of a link is not ready (R162). -/
def refMissing (s : State) (l : Nat) : Bool := !(s.sense l).refReady

/-- Switch a reference output (R161 to R163). -/
def refSet (on : Bool) (l : Nat) (s : State) : State :=
  s.updSense l (fun k =>
    if on then (if k.refOn then k else { k with refOn := true, refAt := s.time.mono, refReady := false })
    else { k with refOn := false, refReady := false })

/-- `sense.ref_enable` (R163, R171). -/
def cmdSenseRefEnable : Cmd where
  op := 0x0601
  checks p _ := layout [1, 1, 2] p ++ [(decide (8 ≤ fld p 0 1) && fld p 0 1 != 0xFF, bad 0), range p 1 1 0 1, resv p 2 2]
  run r s :=
    let ls := if fld r.pay 0 1 = 0xFF then List.range 8 else [fld r.pay 0 1]
    let on := fld r.pay 1 1 == 1
    guarded [(!on && ls.any (fun l => ((s.linkPlane l).map s.lit).getD false), busyLit)]
      (ok (each ls s (fun l s => refSet on l s)))

/-- Meaning of `sense.ref_enable`. -/
def execSenseRefEnable (req : Req) (s : State) := command cmdSenseRefEnable req s

/-- REF_WARMUP_DONE (R162): 5 ms after its enabling the reference is ready. -/
def execRefWarmupDone (link : Nat) (s : State) :=
  onUnit link 8 s (
    let k := s.sense link
    if k.refOn ∧ !k.refReady ∧ k.refAt + ms 5 ≤ s.time.mono then
      raiseEvent 186 { plane := (s.linkPlane link).getD 0xFF, link := link }
        (s.updSense link (fun k => { k with refReady := true }))
    else s)

/-- REF_STATE of a link (R176). -/
def refState (s : State) (l : Nat) : Nat :=
  let k := s.sense l
  if !k.refOn then 0 else if !k.refReady then 1
  else if (s.link l).status.getLsbD 18 then 2 else 3

/-! ### Sense commands -/

/-- The refusals of a range FIRST, COUNT over `n` instances (R172). -/
def rangeChecks (p : Bytes) (n : Nat) : List (Bool × Refuse) :=
  [range p 0 2 0 (n - 1), (decide (n < fld p 0 2 + fld p 2 2), bad 2)]

/-- Channels of a range FIRST, COUNT. -/
def rangeOf (p : Bytes) : List Nat := range' (fld p 0 2) (fld p 2 2)

/-- The accumulator need of a range (R580). -/
def accNeed (use : Nat) (first count : Nat) : Option Need := some ⟨4, use, range' first (min count 5120)⟩

/-- The device function that holds one of these accumulators refuses (R170, R577). -/
def accConflict (s : State) (l : List Nat) : Bool × Refuse :=
  match l.find? (fun m => (accHold s m).isSome) with
  | some m => (true, conflict ((accHold s m).getD 1))
  | none => (false, conflict 1)

/-- `sense.set_channel` (R156, R162, R172). -/
def cmdSenseSetChannel : Cmd where
  op := 0x0602
  checks p _ := [sel p 2 2 1 5120] ++ layout [2, 2, 1, 1, 2] p ++ rangeChecks p 5120 ++
    [(decide (1 < fld p 4 1) && fld p 4 1 != 0xFF, bad 4), (decide (3 < fld p 5 1) && fld p 5 1 != 0xFF, bad 5), resv p 6 2]
  run r s :=
    let ms' := rangeOf r.pay
    let en := fld r.pay 4 1
    let f := fld r.pay 5 1
    guarded [accConflict s ms', (en == 1 && ms'.any (fun m => refMissing s (m / 640)), notReady),
             ((en == 0 || decide (f ≤ 2)) && ms'.any (litMonitor s), busyLit),
             (en == 0 && ms'.any (fun m => ((monCtx s m).map (fun c => (s.ctx c).regime != 0)).getD false), ⟨2, 0, 0⟩)]
      (ok (each ms' s (fun m s =>
        let s := if f ≤ 3 then s.updMon m (fun x => { x with setting := f, askAt := s.time.now }) else s
        if en ≤ 1 then setMonBit m (en == 1) (s.updMon m (fun x => { x with en := en == 1 })) else s)))

/-- Meaning of `sense.set_channel`. -/
def execSenseSetChannel (req : Req) (s : State) := command cmdSenseSetChannel req s

/-- An accumulator and tracker after a configuration (R169, R173). -/
def configureAcc (mode excl flags n : Nat) (x : Mon) : Mon :=
  { x with mode := mode, excl := excl, flags := flags, blockN := if mode = 2 then n else x.blockN
           acc := {}, block := none, blocks := 0, sat := false, trk := {} }

/-- `sense.acc_config` (R162, R166, R170, R173). -/
def cmdSenseAccConfig : Cmd where
  op := 0x0603
  need p _ := accNeed 3 (fld p 0 2) (fld p 2 2)
  checks p _ := [sel p 2 2 1 5120] ++ layout [2, 2, 1, 1, 1, 1, 4] p ++ rangeChecks p 5120 ++
    [range p 4 1 0 2, range p 5 1 0 15, range p 6 1 0 3, resv p 7 1,
     (fld p 4 1 == 2 && (decide (fld p 8 4 < 4) || decide (16777216 < fld p 8 4)), bad 8)]
  run r s :=
    let p := r.pay
    guarded [accConflict s (rangeOf p), (fld p 4 1 != 0 && (rangeOf p).any (fun m => refMissing s (m / 640)), notReady)]
      (ok (each (rangeOf p) s (fun m s =>
        (flushReady m s).updMon m (configureAcc (fld p 4 1) (fld p 5 1) (fld p 6 1) (fld p 8 4)))))

/-- Meaning of `sense.acc_config`. -/
def execSenseAccConfig (req : Req) (s : State) := command cmdSenseAccConfig req s

/-- One record of `sense.acc_read` (R174). -/
def accBytes (a : Acc) (x : Mon) : Bytes :=
  le 4 a.count ++ le 4 a.excluded ++ le 8 (uns 64 a.sum) ++ le 16 a.sumsq ++ timeLe (if a.count = 0 then 0 else a.start)
    ++ le 1 (b1 x.sat + 2 * b1 x.block.isSome + 4 * x.mode) ++ le 1 x.filter ++ le 2 x.blocks

/-- What leaves the sense path covers at least four samples (R160): sums over fewer read 0 (log entry 165, DEDUCED). -/
def accShown (a : Acc) : Acc := if a.count < 4 then { a with sum := 0, sumsq := 0 } else a

/-- The record as it is read: the latest block in BLOCK mode. -/
def accRec (x : Mon) : Bytes := accBytes (if x.mode = 2 then x.block.getD {} else accShown x.acc) x

/-- The refusals of FIRST, COUNT (1 byte) and CLEAR (R174, R175). -/
def readChecks (p : Bytes) : List (Bool × Refuse) :=
  [sel p 2 1 1 64] ++ layout [2, 1, 1] p ++ [range p 0 2 0 5119, (decide (5120 < fld p 0 2 + fld p 2 1), bad 2), range p 3 1 0 1]

/-- `sense.acc_read` (R169, R174). -/
def cmdSenseAccRead : Cmd where
  op := 0x0604
  need p _ := accNeed (if fld p 3 1 = 1 then 3 else 0) (fld p 0 2) (fld p 2 1)
  checks p _ := readChecks p
  run r s :=
    let ms' := range' (fld r.pay 0 2) (fld r.pay 2 1)
    let clear := fld r.pay 3 1 == 1
    let t := each ms' s flushReady
    guarded (if clear then [accConflict s ms'] else [])
      (ok (if clear then each ms' t (fun m s => s.updMon m (fun x =>
              if x.mode = 2 then x else { x with acc := {}, sat := false })) else t)
          (ms'.flatMap (fun m => accRec (t.mon m))))

/-- Meaning of `sense.acc_read`. -/
def execSenseAccRead (req : Req) (s : State) := command cmdSenseAccRead req s

/-- One record of `sense.minmax_read` (R170, R175). -/
def trkRec (t : Tracker) : Bytes :=
  le 4 (uns 32 t.min) ++ le 4 (uns 32 t.max) ++ timeLe t.tMin ++ timeLe t.tMax ++ le 4 t.seen ++ le 4 0

/-- `sense.minmax_read` (R170, R175). -/
def cmdSenseMinmaxRead : Cmd where
  op := 0x0605
  need p _ := accNeed (if fld p 3 1 = 1 then 3 else 0) (fld p 0 2) (fld p 2 1)
  checks p _ := readChecks p
  run r s :=
    let ms' := range' (fld r.pay 0 2) (fld r.pay 2 1)
    let clear := fld r.pay 3 1 == 1
    let t := each ms' s flushReady
    guarded (if clear then [accConflict s ms'] else [])
      (ok (if clear then each ms' t (fun m s => s.updMon m (fun x => { x with trk := {} })) else t)
          (ms'.flatMap (fun m => trkRec (t.mon m).trk)))

/-- Meaning of `sense.minmax_read`. -/
def execSenseMinmaxRead (req : Req) (s : State) := command cmdSenseMinmaxRead req s

/-- `sense.status` (R176). -/
def cmdSenseStatus : Cmd where
  op := 0x0606
  checks p _ := layout [1, 1, 2] p ++ [range p 0 1 0 7, range p 1 1 0 1, resv p 2 2]
  run r s :=
    let l := fld r.pay 0 1
    let k := s.sense l
    let n := (s.mons.filter (fun e => e.1 / 640 == l && e.2.en)).length
    let t := if fld r.pay 1 1 = 1 then s.updSense l (fun k => { k with
      ovrTicks := 0, ovrEvents := 0, invalid := 0, dist := 0, settle := 0, refnr := 0 }) else s
    ok t (le 1 (refState s l) ++ le 1 0 ++ le 2 n ++ le 4 k.ovrTicks ++ le 4 k.ovrEvents ++ le 4 k.invalid ++ le 4 k.dist
      ++ le 4 k.settle ++ le 4 k.refnr)

/-- Meaning of `sense.status`. -/
def execSenseStatus (req : Req) (s : State) := command cmdSenseStatus req s

end Sys2Proof.Machine
end

