-- ==== Sys2Proof/Machine/Loop.lean ====
section
/-! DEFINITION. The loop engines (R177 to R219, R722): regimes, the control law, bank swaps, test signals and captures,
and the loop commands. -/

namespace Sys2Proof.Machine

/-! ### Contexts -/

/-- The context that governs a channel: arm A of a cell, or the channel itself (R178, R208). -/
def governs (s : State) (c : Nat) : Nat := (cellMates s c).headD c

/-- The governing contexts of a list, each once, ascending. -/
def governed (s : State) (l : List Nat) : List Nat := l.foldl (fun a c => insertAsc (governs s c) a) []

/-- The channel is an arm of a cell. -/
def isCell (s : State) (c : Nat) : Bool := (s.elemAt c).kind == 1 || (s.elemAt c).kind == 2

/-- How a regime controls: 0 queue output only, 1 single-ended, 2 paired (R181). -/
def loopClass (regime base : Nat) : Nat :=
  let r := if regime = 4 then base else regime
  if r = 0 then 0 else if r = 3 then 2 else 1

/-- The arm that carries a single-ended correction (R179); a context that is no cell's acts on itself. -/
def corrArm (s : State) (c : Nat) : Nat := if (s.ctx c).corrB && isCell s c then c + 1 else c

/-- The active bank of a context (R193). -/
def Ctx.active (x : Ctx) : Bank := if x.bank = 1 then x.b1 else x.b0

/-- The drive code in force stays the output of an arm (R188). -/
def freezeArm (d : Drive) : Drive := { d with loopCode := some d.code, softCode := d.code, inj := 0 }

/-- An arm that the loop does not correct passes its queue output (R179). -/
def queueArm (d : Drive) : Drive := { d with loopCode := none, inj := 0 }

/-- The arms of a cell as a class of regime holds them at a soft-start (R179, R188); on an OPEN base both pass their queue output
(R181). -/
def softArms (cls c : Nat) (s : State) : State :=
  if cls = 0 then each (cellMates s c) s (fun k s => s.updDrive k queueArm)
  else if cls = 2 then each (cellMates s c) s (fun k s => s.updDrive k freezeArm)
  else each (cellMates s c) s (fun k s => s.updDrive k (if k = corrArm s c then freezeArm else queueArm))

/-- The slew set that a regime asks for (R108, R181). -/
def slewAsk (regime base tick : Nat) : Bool :=
  let r := if regime = 4 then base else regime
  r == 2 || (r == 3 && tick == 1)

/-- A pending change of regime takes effect (R182). -/
def applyPend (c : Nat) (s : State) : State :=
  let x := s.ctx c
  match x.pending with
  | none => s
  | some p =>
    let old := loopClass x.regime x.injBase
    let new := loopClass p.regime p.base
    let fresh := x.regime == 0
    let s := askFilter c (if p.regime ≠ 4 then stopCapture c s else s)
    let s := each (cellMates s c) s (fun k s => s.updCtx k (fun y => { y with regime := p.regime, pending := none }))
    let s := s.updCtx c (fun y => { y with
      pairedTick := p.tick, injBase := p.base, injFilter := p.filter, showBroken := y.showBroken || p.regime == 4
      eBlk := if fresh then 0 else y.eBlk, eAcc := if fresh then [] else y.eAcc })
    let s := if slewAsk p.regime p.base p.tick then
      each (cellMates s c) s (fun k s => s.updDrive k (fun d => { d with toHold := true })) else s
    if new = 0 ∧ !fresh then
      (each (cellMates s c) s (fun k s => s.updDrive k armOpen)).updCtx c (fun y => { y with
        integ := 0, waiting := false, outs := [], force := none, undo := none })
    else if old ≠ new ∨ fresh then
      (softArms new c s).updCtx c (fun y => { y with waiting := true, outs := [], force := none, undo := none })
    else if p.regime ≠ 4 then each (cellMates s c) s (fun k s => s.updDrive k (fun d => { d with inj := 0 }))
    else s

/-! ### Gains (R187, R193, R722) -/

/-- One of the three words of breakpoint `i` of a gain table: 0 E, 1 KP, 2 KI. -/
def tabWord (t : List Nat) (i w : Nat) : Nat := t.getD (3 * i + w) 0

/-- The gain of column `w` at error magnitude `a`, rounded to Q12.20 (R187, R722). -/
def interp (t : List Nat) (w a : Nat) : Int :=
  let i := ((List.range 32).filter (fun i => decide (tabWord t i 0 ≤ a))).length
  if i = 0 then tabWord t 0 w
  else if i = 32 then tabWord t 31 w
  else
    let e0 := tabWord t (i - 1) 0
    let e1 := tabWord t i 0
    let k0 : Int := tabWord t (i - 1) w
    let k1 : Int := tabWord t i w
    divRound (k0 * (e1 - e0) + (k1 - k0) * (a - e0)) (e1 - e0)

/-- KP and KI of a bank at |e|, in Q12.20 (R185, R722). -/
def gains (s : State) (b : Bank) (e : Int) : Int × Int :=
  match tfind s.tables b.table with
  | none => (0, 0)
  | some t => (divRound (interp t 1 e.natAbs * b.kscale) 4096, divRound (interp t 2 e.natAbs * b.kscale) 4096)

/-- The clamp of the integrator, in units of 2^-20 code (R185). -/
def integClamp (i : Int) : Int := clampI i (-(2 ^ 44)) (2 ^ 44)

/-! ### Bank swaps (R194, R195) -/

/-- A swap takes effect; with an error `e` the integrator is re-based (R194). LOOP_SWAP_DONE follows the last of its group (R195). -/
def doSwap (c : Nat) (e : Option Int) (s : State) : State :=
  let x := s.ctx c
  match x.swap with
  | none => s
  | some (b, _, g) =>
    let new := if b = 1 then x.b1 else x.b0
    let integ := match e with
      | some e => x.integ + ((gains s x.active e).1 - (gains s new e).1) * e
      | none => x.integ
    let s := s.updCtx c (fun x => { x with swap := none, bank := b, integ := integ })
    let s := s.updEngine (c / 36) (fun k => { k with swaps := (k.swaps + 1) % 2 ^ 32 })
    match tfind s.swaps g with
    | none => s
    | some k =>
      if k.left ≤ 1 then raiseEvent 240 { value := k.n } { s with swaps := tdel s.swaps g }
      else { s with swaps := tput s.swaps g { k with left := k.left - 1 } }

/-- A swap that no sample can serve, on a context in OPEN or WAITING, acts at its AT (R195). -/
def swapAt (c : Nat) (s : State) : State :=
  let x := s.ctx c
  match x.swap with
  | some (_, t, _) => if t ≤ s.time.now ∧ (x.regime = 0 ∨ x.waiting) then doSwap c none s else s
  | none => s

/-- BANK_SWAP_AT (R195). -/
def execBankSwapAt (ctx : Nat) (s : State) := onUnit ctx 9216 s (swapAt ctx s)

/-! ### Updates -/

/-- Feed-forward and drive code in force of the controlled variable (R185, R188). -/
def loopBase (s : State) (c : Nat) : Int × Int :=
  let x := s.ctx c
  if loopClass x.regime x.injBase = 2 then
    (((s.drive c).out : Int) - (s.drive (c + 1)).out, ((s.drive c).code : Int) - (s.drive (c + 1)).code)
  else
    let d := s.drive (corrArm s c)
    (d.out, d.code)

/-- The limits lo and hi of R186. -/
def loopLimits (s : State) (c : Nat) : Int × Int :=
  let x := s.ctx c
  if loopClass x.regime x.injBase = 2 then
    (max (x.outLo.getD (-0xFFFFF)) (-x.sum), min (x.outHi.getD 0xFFFFF) x.sum)
  else
    let d := s.drive (corrArm s c)
    let lo := x.outLo.getD 0
    let hi := x.outHi.getD 0xFFFFF
    if d.trans then (lo, hi) else (max lo d.winLo, min hi d.winHi)

/-- The slew limiter of the corrected arm, or of either arm in PAIRED, is LIMITED (R185). -/
def loopSlewed (s : State) (c : Nat) : Bool :=
  let x := s.ctx c
  if loopClass x.regime x.injBase = 2 then (s.drive c).limited || (s.drive (c + 1)).limited
  else (s.drive (corrArm s c)).limited

/-- An update of a context is complete: UPDATES of its engine counts it (R219). -/
def countUpdate (c : Nat) (s : State) : State :=
  s.updEngine (c / 36) (fun k => { k with updates := (k.updates + 1) % 2 ^ 32 })

/-- The code at which an arm stands until the loop gives its first output, without any test signal (R188, R198). -/
def heldCode (d : Drive) : Nat := if d.loopCode.isSome then d.softCode else d.code

/-- The drive code in force of the controlled variable at a soft-start, without any test signal (R188, R198); on an OPEN base the queue
output. -/
def heldBase (s : State) (c : Nat) : Int :=
  match loopClass (s.ctx c).regime (s.ctx c).injBase with
  | 0 => (loopBase s c).1
  | 1 => (heldCode (s.drive (corrArm s c)) : Nat)
  | _ => (heldCode (s.drive c) : Nat) - ((heldCode (s.drive (c + 1)) : Nat) : Int)

/-- Soft-start at the first admitted sample (R188), which is one update (R185). -/
def softStart (y : Int) (c : Nat) (s : State) : State :=
  let ff := (loopBase s c).1
  let held := heldBase s c
  countUpdate c (s.updCtx c (fun x => { x with
    sp := y, waiting := false, output := held
    integ := if loopClass x.regime x.injBase = 0 then x.integ else (held - ff) * 2 ^ 20 }))

/-- Sign of a number. -/
def signI (v : Int) : Int := if v < 0 then -1 else if v = 0 then 0 else 1

/-- The mean error of blocks of four updates, rounded toward zero (R207). -/
def blockErr (e : Int) (x : Ctx) : Ctx :=
  if x.eAcc.length = 3 then { x with eBlk := (x.eAcc.foldl (· + ·) e).tdiv 4, eAcc := [] }
  else { x with eAcc := x.eAcc ++ [e] }

/-- The update-tick boundary at which the output of a sample of time `t` enters the drive path (R204). -/
def outAt (s : State) (c : Nat) (t : NetTime) : NetTime := ceilTo (t + us 2) (us (s.plane (s.elemAt c).plane).tickUs)

/-- What an update with deadline `due` may have to give back (R205). -/
def loopVars (due : NetTime) (x : Ctx) : LoopVars :=
  { due := due, starved := x.starved, measOvr := x.measOvr, ovrAt := x.ovrAt, bank := x.bank, swap := x.swap, updates := x.updates
    sp := x.sp, integ := x.integ, output := x.output, saturated := x.saturated, limited := x.limited, waiting := x.waiting
    eBlk := x.eBlk, eAcc := x.eAcc, missRun := x.missRun, cap := x.cap }

/-- One update of R185 at an admitted sample of value `y` and time `t`, with a due swap (R183, R194). In INJECT on an OPEN base no law
acts: SP, E_BLK4 and the counters move, OUTPUT is the queue output, and the integrator stays (R180, R181; log entry 166, DEDUCED). -/
def loopUpdate (y : Int) (t : NetTime) (c : Nat) (s : State) : State :=
  let x := s.ctx c
  let due := match x.swap with | some (_, a, _) => decide (a ≤ t) | none => false
  let next := match x.swap with | some (b, _, _) => if b = 1 then x.b1 else x.b0 | none => x.active
  let ramp : Int := (if due then next else x.active).ramp * 128
  let step := x.target - x.sp
  let cut := decide (ramp ≠ 0) && decide (ramp < (step.natAbs : Int))
  let sp := x.sp + (if cut then clampI step (-ramp) ramp else step)
  let e := if x.neg then y - sp else sp - y
  let base0 := loopClass x.regime x.injBase == 0
  let s := s.updCtx c (fun x => { x with sp := sp })
  let s := if due then doSwap c (if base0 then none else some e) s else s
  let x := s.ctx c
  let k := gains s x.active e
  let b := loopBase s c
  let lim := loopLimits s c
  let v := b.1 * 2 ^ 20 + k.1 * e + x.integ
  let a := clampI v (lim.1 * 2 ^ 20) (lim.2 * 2 ^ 20)
  let slewed := loopSlewed s c
  let di := if slewed && signI (k.2 * e) == signI (a - b.2 * 2 ^ 20) then 0 else k.2 * e
  let integ := integClamp (x.integ + di + divRound ((x.active.kt : Int) * (a - v)) 16384)
  let out := divRound a (2 ^ 20)
  countUpdate c (s.updCtx c (fun x =>
    if base0 then blockErr e { x with output := b.1, saturated := false, limited := cut || slewed, updates := sat 32 (x.updates + 1) }
    else blockErr e { x with
      integ := integ, output := out, saturated := decide (a ≠ v), limited := cut || slewed
      outs := x.outs ++ [(out, outAt s c t)], updates := sat 32 (x.updates + 1) }))

/-- MISS_RUN has reached MISS_LIMIT (R191): STARVED, once per run. -/
def starveCheck (c : Nat) (s : State) : State :=
  let x := s.ctx c
  if x.missLimit ≠ 0 ∧ x.missLimit ≤ x.missRun ∧ !x.starved then
    let s := s.updCtx c (fun x => { x with starved := true })
    let s := s.updEngine (c / 36) (fun k => { k with starved := (k.starved + 1) % 2 ^ 32 })
    raiseCond (200 + c / 1152) c { plane := (s.elemAt c).plane, link := c / 1152, chan := c } s
  else s

/-- LOOP_SAMPLE_STARVED (R191). -/
def execLoopSampleStarved (ctx : Nat) (s : State) := onUnit ctx 9216 s (starveCheck ctx s)

/-- A missing sample (R190). -/
def missSample (c : Nat) (s : State) : State :=
  let s := s.updCtx c (fun x => { x with missRun := sat 16 (x.missRun + 1) })
  starveCheck c (s.updEngine (c / 36) (fun k => { k with missed := (k.missed + 1) % 2 ^ 32 }))

/-- FILTER_SWITCH (R156): at the first boundary of the new setting's grid at or after the request, or at any time while the channel is
not enabled. A loop in HOLD misses the FINE sample that the switch discards (R158).
Log entry 135 (DEDUCED). -/
def execFilterSwitch (m : Nat) (s : State) :=
  onUnit m 5120 s (
    let x := s.mon m
    let w := wantedFilter s m
    let k := s.sense (m / 640)
    if w ≠ x.filter ∧ (!x.live || (onBoundary w (s.link (m / 640)).runTick k.tick k.start && decide (x.askAt ≤ k.start + modTick))) then
      let t := s.updMon m (clearFilter w)
      match monCtx s m with
      | some c => if x.live ∧ x.filter = 2 ∧ (s.ctx c).regime = 2 then missSample c t else t
      | none => t
    else s)

/-- A sample is admitted to a loop (R190). -/
def loopAdmits (x : Sample) : Bool := x.valid && !x.dist && !x.settle && !x.refnr

/-- The flags that an admitted sample sets and clears (R190 to R192). -/
def admitFlags (x : Sample) (c : Nat) (s : State) : State :=
  let k := s.ctx c
  let s := s.updCtx c (fun y => { y with missRun := 0, starved := false, measOvr := y.measOvr || x.ovr, ovrAt := if x.ovr then x.time else y.ovrAt })
  let s := if k.starved then endCond (200 + c / 1152) c s else s
  if x.ovr ∧ !k.measOvr then
    raiseFault (208 + c / 1152) { plane := (s.elemAt c).plane, link := c / 1152, chan := c } s
  else s

/-- The LOOP_TRACE record of a context (R601), every DIV loop ticks.
Log entry 133 (DEDUCED). -/
def loopTrace (missed : Bool) (c : Nat) (s : State) : State :=
  if sourceOn s 1 c then
    let x := s.ctx c
    if (tget {} s.loupe.srcs 1).div ≤ x.trace + 1 then
      stageRec 1 c (le 4 (uns 32 x.output) ++ le 4 (uns 24 x.eBlk + x.regime * 2 ^ 24 + b1 x.saturated * 2 ^ 27
        + b1 x.limited * 2 ^ 28 + b1 missed * 2 ^ 29)) (s.updCtx c (fun x => { x with trace := 0 }))
    else s.updCtx c (fun x => { x with trace := x.trace + 1 })
  else s

/-! ### Test signals and captures (R196 to R202) -/

/-- Bits of a PRBS register and its feedback taps (R196).
Log entry 130 (PRESUMED). -/
def prbsTaps (poly : Nat) : Nat × Nat := if poly = 7 then (7, 6) else if poly = 9 then (9, 5) else (15, 14)

/-- One step of a PRBS register.
Log entry 130 (PRESUMED). -/
def prbsStep (poly r : Nat) : Nat :=
  let t := prbsTaps poly
  (2 * r + b1 (bit r (t.1 - 1) != bit r (t.2 - 1))) % 2 ^ t.1

/-- The register after `n` chips from its start. -/
def prbsAt (poly seed : Nat) : Nat → Nat
  | 0 => seed
  | n + 1 => prbsStep poly (prbsAt poly seed n)

/-- Chip `n` of a generator: the last stage, inverted for PRBS15 (ITU-T O.150).
Log entry 130 (PRESUMED). -/
def chipAt (g : Gen) (n : Nat) : Bool :=
  let t := prbsTaps g.c0.poly
  bit (prbsAt g.c0.poly g.seed (n % (2 ^ t.1 - 1))) (t.1 - 1) != (g.c0.poly == 15)

/-- Contribution of one component at phase `ph` (R197). -/
def compValue (g : Gen) (k : Comp) (ph : Nat) : Int :=
  if k.wave = 1 then scale62 k.amp (sinTurn (ph * 65536))
  else if k.wave = 2 then (if ph < 2 ^ 31 then k.amp else -k.amp)
  else if k.wave = 3 then (if chipAt g ((g.ticks - 1) / max k.chip 1) then k.amp else -k.amp)
  else 0

/-- One update tick of a generator (R197): PHASE0 at the first, then INC further each tick.
Log entry 131 (DEDUCED). -/
def genTick (now : NetTime) (g : Gen) : Gen :=
  { g with
    ph0 := if g.ticks = 0 then g.c0.phase0 else (g.ph0 + g.c0.inc) % 2 ^ 32
    ph1 := if g.ticks = 0 then g.c1.phase0 else (g.ph1 + g.c1.inc) % 2 ^ 32
    ticks := g.ticks + 1, at' := now }

/-- The sum of the components in the present tick.
Log entry 131 (DEDUCED). -/
def genValue (g : Gen) : Int := compValue g g.c0 g.ph0 + compValue g g.c1 g.ph1

/-- INJECTION_START (R216): the configuration whose START has come replaces the old one and ends a capture in progress. The PRBS
register starts from a free value. -/
def execInjectionStart (ctx : Nat) (s : State) :=
  onUnit ctx 9216 s (
    match (s.ctx ctx).genNext with
    | [] => s
    | (a, b, t) :: rest =>
      if s.time.now < t then s else
      let d := s.draw
      let run := (s.ctx ctx).cap.running
      let seed := 1 + d.1 % (2 ^ (prbsTaps a.poly).1 - 1)
      let s := d.2.updCtx ctx (fun x => { x with
        genNext := rest, gen := { c0 := a, c1 := b, seed := seed, on := true }
        cap := if run then endCapture true x.cap else x.cap })
      if run then captureEnded ctx s else s)

/-- The component of a running capture. -/
def capComp (x : Ctx) : Comp := if x.cap.comp = 1 then x.gen.c1 else x.gen.c0

/-- A sample at time `t` lies in the capture's window (R200). -/
def inWindow (tick : NetTime) (x : Ctx) (t : NetTime) : Bool :=
  let k := x.cap
  if k.n + k.missed = 0 then decide (k.start ≤ t)
  else if k.wave = 3 then decide (k.n + k.missed < k.length)
  else decide ((t - k.tStart) * (capComp x).inc < k.length * 2 ^ 32 * tick)

/-- The phase of the captured component half an update tick before `t`, in 2^-48 turns (R201). -/
def capPhase (tick : NetTime) (x : Ctx) (t : NetTime) : Int :=
  let ph := if x.cap.comp = 1 then x.gen.ph1 else x.gen.ph0
  (ph : Int) * 65536 + ((t : Int) - tick / 2 - x.gen.at') * (capComp x).inc * 65536 / tick

/-- The chip in effect LAG update ticks before `t`, as +1 or −1; 0 before the first (R201). -/
def capChip (tick : NetTime) (x : Ctx) (t : NetTime) : Int :=
  let i : Int := (x.gen.ticks : Int) - 1 + ((t : Int) - x.gen.at') / tick - x.cap.lag
  if i < 0 then 0 else if chipAt x.gen (i.toNat / max x.gen.c0.chip 1) then 1 else -1

/-- The marks of the update ticks up to a sample at `t` that lie in the window go into the flags of a capture (R218): a mark of a tick
that begins at its time lies in the window when some of that tick does. -/
def mergeMarks (tick t : NetTime) (k : Capture) : Capture :=
  let got := k.marks.filter (fun m => decide (m.1 ≤ t))
  { k with marks := k.marks.filter (fun m => decide (t < m.1))
           flags := got.foldl (fun f m => if k.tStart < m.1 + tick then f ||| m.2 else f) k.flags }

/-- A sample in a running capture (R200, R201). -/
def captureSample (tick : NetTime) (p : Sample) (x : Ctx) : Ctx :=
  let k := x.cap
  if !k.running then x
  else if !inWindow tick x p.time then { x with cap := { k with marks := k.marks.filter (fun m => decide (p.time < m.1 + tick)) } }
  else
    let k := if k.n + k.missed = 0 then { k with tStart := p.time } else k
    let k := mergeMarks tick p.time { k with tEnd := p.time }
    if loopAdmits p && !p.ovr then
      if k.wave = 3 then { x with cap := { k with n := k.n + 1, c := k.c + p.value * capChip tick x p.time } }
      else
        let th := capPhase tick x p.time
        { x with cap := { k with n := k.n + 1, c := k.c + scale62 p.value (cosTurn th), s := k.s + scale62 p.value (sinTurn th) } }
    else { x with cap := { k with missed := k.missed + 1 } }

/-- CAPTURE_DONE (R202): no further sample lies in the window. -/
def execCaptureDone (ctx : Nat) (s : State) :=
  onUnit ctx 9216 s (
    let x := s.ctx ctx
    let tick := us (s.plane (s.elemAt ctx).plane).tickUs
    let per := filterPeriod (((ctxMon s ctx).map (fun m => (s.mon m).filter)).getD 1)
    if x.cap.running ∧ x.cap.n + x.cap.missed ≠ 0 ∧ !inWindow tick x (x.cap.tEnd + per) then
      captureEnded ctx (s.updCtx ctx (fun x => { x with cap := endCapture false x.cap }))
    else s)

/-- The update of a sample has made the swap that was pending before it (R194). -/
def noteSwap (old x : Ctx) : Ctx :=
  if old.swap.isSome && x.swap.isNone then { x with undo := x.undo.map (fun u => { u with swapped := true }) } else x

/-- A sample of a cell monitor at its loop context (R180 to R195, R239). A sample whose span begins before the end of the
pre-emphasis is discarded. -/
def loopSample (span : NetTime) (p : Sample) (c : Nat) (s : State) : State :=
  if (match (s.ctx c).holdUntil with | some e => decide (p.time < e + span) | none => false) then s else
  let s := s.updCtx c (fun x => { x with holdUntil := none })
  let s := if p.absent then s else applyPend c s
  let x := s.ctx c
  if x.regime = 0 then s else
  let tick := us (s.plane (s.elemAt c).plane).tickUs
  let s := s.updCtx c (captureSample tick p)
  if !loopAdmits p then loopTrace true c (missSample c s)
  else
    let s := admitFlags p c (s.updCtx c (fun y => { y with undo := some (loopVars (outAt s c p.time) x) }))
    let s := if x.waiting then
        softStart p.value c (match x.swap with | some (_, t, _) => if t ≤ p.time then doSwap c none s else s | none => s)
      else loopUpdate p.value p.time c s
    loopTrace false c (s.updCtx c (noteSwap x))

/-- The swap of a discarded update is undone (R194, R205): it is pending again unless a newer command has put another in its place. -/
def unswap (c : Nat) (u : LoopVars) (s : State) : State :=
  match u.swapped, u.swap with
  | true, some (_, _, g) =>
    let s := s.updEngine (c / 36) (fun k => { k with swaps := (k.swaps + 2 ^ 32 - b1 u.counted) % 2 ^ 32 })
    if (s.ctx c).swap.isSome then s.updCtx c (fun x => { x with bank := u.bank }) else
    let s := s.updCtx c (fun x => { x with bank := u.bank, swap := u.swap })
    match tfind s.swaps g with
    | some k => { s with swaps := tput s.swaps g { k with left := k.left + 1 } }
    | none => s
  | _, _ => s

/-- The sample of a discarded update counts as missing in a running capture, or in one that it ended (R190, R200, R205). -/
def uncapture (u k : Capture) : Capture :=
  if k.n = u.n + 1 then
    let w := { k with c := u.c, s := u.s, n := u.n, missed := k.missed + 1 }
    if k.running then w else endCapture false w
  else k

/-- LOOP_PACE_OVERRUN (R205): the newest update is discarded before its deadline, and its sample counts as missing.
Log entry 156 (DESIGN CHOICE). -/
def execLoopPaceOverrun (ctx : Nat) (s : State) :=
  onUnit ctx 9216 s (
    let x := s.ctx ctx
    match x.undo with
    | none => s
    | some u =>
      let s := unswap ctx u s
      let s := s.updCtx ctx (fun x => { x with
        sp := u.sp, integ := u.integ, output := u.output, saturated := u.saturated, limited := u.limited
        waiting := u.waiting, eBlk := u.eBlk, eAcc := u.eAcc, missRun := sat 16 (u.missRun + 1)
        starved := u.starved, measOvr := u.measOvr, ovrAt := u.ovrAt, updates := u.updates, cap := uncapture u.cap x.cap
        outs := x.outs.filter (fun o => decide (o.2 < u.due)), undo := none })
      let s := if u.starved then { s with flt := { s.flt with conds := if s.flt.conds.contains (200 + ctx / 1152, ctx) then
        s.flt.conds else s.flt.conds ++ [(200 + ctx / 1152, ctx)] } } else s
      let s := s.updEngine (ctx / 36) (fun k => { k with
        missed := (k.missed + 1) % 2 ^ 32, overrun := (k.overrun + 1) % 2 ^ 32
        updates := if u.counted then (k.updates + 2 ^ 32 - 1) % 2 ^ 32 else k.updates })
      raiseFault (192 + ctx / 1152) { plane := (s.elemAt ctx).plane, link := ctx / 1152, chan := ctx } (starveCheck ctx s))

/-! ### The update tick of a context (R198, R204) -/

/-- The code given to an arm, noting a clamp of the test signal (R198). -/
def armCode (base sig : Int) (d : Drive) : Drive × Bool :=
  let v := if sig = 0 then (clampI base 0 fullCode).toNat else injected d base sig
  ({ d with loopCode := some v }, decide (sig ≠ 0) && decide ((v : Int) ≠ base + sig))

/-- The test signal and the loop output of a context enter its drive paths (R185, R198, R204). -/
def loopArms (c : Nat) (sig : Int) (s : State) : State × Bool :=
  let x := s.ctx c
  let cls := loopClass x.regime x.injBase
  if cls = 0 then
    let a := corrArm s c
    let d := s.drive a
    let out : Int := (popEntry s.time.now true d).1.out
    (s.updDrive a (fun d => { d with inj := sig }), decide (sig ≠ 0) && decide ((injected d out sig : Int) ≠ out + sig))
  else if cls = 1 then
    let a := corrArm s c
    let base : Int := x.force.getD (heldCode (s.drive a) : Nat)
    let r := armCode base sig (s.drive a)
    (s.updDrive a (fun _ => r.1), r.2)
  else
    let a : Int := (heldCode (s.drive c) : Nat)
    let b : Int := (heldCode (s.drive (c + 1)) : Nat)
    let sum : Int := if x.force.isSome then x.sum else a + b
    let ca := (sum + x.force.getD (a - b) + sig) / 2
    let base := (sum + x.force.getD (a - b)) / 2
    let r := armCode base (ca - base) (s.drive c)
    let q := armCode (sum - base) (base - ca) (s.drive (c + 1))
    ((s.updDrive c (fun _ => r.1)).updDrive (c + 1) (fun _ => q.1), r.2 || q.2)

/-- What an update tick at `t` did to a context with a running capture: CLIPPED (4), LIMITED (8) (R218). -/
def markCapture (t : NetTime) (v : Nat) (x : Ctx) : Ctx :=
  if x.cap.running && v != 0 then { x with cap := { x.cap with marks := x.cap.marks ++ [(t, v)] } } else x

/-- One update tick of a context that is not in OPEN. -/
def loopTick (c : Nat) (s : State) : State :=
  let now := s.time.now
  let x := s.ctx c
  let due := x.outs.filter (fun o => decide (o.2 ≤ now))
  let s := s.updCtx c (fun x => { x with
    outs := x.outs.filter (fun o => decide (now < o.2))
    force := match due.getLast? with | some o => some o.1 | none => x.force
    undo := x.undo.bind (fun u => if u.due ≤ now then none else some u)
    gen := if x.regime = 4 ∧ x.gen.on then genTick now x.gen else x.gen })
  let x := s.ctx c
  if x.holdUntil.isSome ∧ x.force = none ∧ (s.drive (corrArm s c)).loopCode = none then s else
  let sig := if x.regime = 4 ∧ x.gen.on then genValue x.gen else 0
  let r := loopArms c sig s
  r.1.updCtx c (fun x => markCapture now (if r.2 then 4 else 0) { x with clipped := x.clipped || r.2 })

/-- The cells of a plane whose contexts are not in OPEN. -/
def loopCells (s : State) (p : Nat) : List Nat :=
  (s.ctxs.filter (fun e => e.2.regime != 0 && (s.elemAt e.1).plane == p && (s.elemAt e.1).kind == 1)).map (·.1)

/-- The loops of a plane at an update tick; a test signal runs on while its link is frozen (R114, R197). -/
def loopTicks (p : Nat) (s : State) : State := each (loopCells s p) s loopTick

/-- After the drives of a plane have taken their step, captures note a slew limiter that limited (R218). -/
def loopMarks (p : Nat) (s : State) : State :=
  each (loopCells s p) s (fun c s => if loopSlewed s c then s.updCtx c (markCapture s.time.now 8) else s)

/-- UPDATE_TICK (R96): the loops hand over their outputs, then every channel of the plane takes its step. -/
def execUpdateTick (plane : Nat) (s : State) :=
  onUnit plane 2 s (if atBoundary s plane then loopMarks plane (updateTick plane (loopTicks plane s)) else s)

/-! ### Loop commands -/

/-- The CONTROL need of a range of contexts (R580): whole cells (R208). -/
def ctxNeed (use : Nat) (s : State) (first count : Nat) : Option Need :=
  some ⟨5, use, (range' first (min count 9216)).foldl (fun a c => (cellMates s c).foldl (fun a k => insertAsc k a) a) []⟩

/-- The device function that holds one of the contexts refuses (R184, R577); `sched` adds the scheduling regimes (R574).
Log entry 134 (DEDUCED). -/
def ctxConflict (s : State) (sched : Bool) (l : List Nat) : Bool × Refuse :=
  match l.find? (fun c => ((if sched then ctxHold s c else ctxKind s c)).isSome) with
  | some c => (true, conflict (((if sched then ctxHold s c else ctxKind s c)).getD 0))
  | none => (false, conflict 0)

/-- VCORE floor of a regime (R206). -/
def regimeFloor (regime tick : Nat) : Nat :=
  if regime = 1 ∨ regime = 4 then 700 else if regime = 3 then (if tick = 0 then 700 else 650) else 0

/-- A cell carries a lit circuit (R209). -/
def litCell (s : State) (c : Nat) : Bool := isCell s c && litChannel s c

/-- `loop.set_regime` (R162, R199, R206, R209, R574). -/
def cmdLoopSetRegime : Cmd where
  op := 0x0701
  need p s := ctxNeed 4 s (fld p 0 2) (fld p 2 2)
  checks p s := [sel p 2 2 1 9216] ++ layout [2, 2, 1, 1, 1, 1] p ++ rangeChecks p 9216 ++
    [range p 4 1 0 4, range p 5 1 0 1, range p 6 1 0 3, range p 7 1 0 2,
     (fld p 4 1 != 0 && (rangeOf p).any (fun c => !isCell s c), bad 4)]
  floor p _ := regimeFloor (fld p 4 1) (fld p 5 1)
  run r s :=
    let p := r.pay
    let cs := governed s (rangeOf p)
    let rg := fld p 4 1
    guarded [(rg != 0 && cs.any (fun c => refMissing s (c / 1152)), notReady),
             (rg != 0 && cs.any (fun c => (s.plane (s.elemAt c).plane).regime == 0), notReady),
             (rg != 0 && cs.any (fun c => !((ctxMon s c).map (fun m => (s.mon m).en)).getD false), notReady),
             ctxConflict s true cs,
             ((rg == 0 || rg == 4) && cs.any (litCell s), busyLit)]
      (ok (each cs s (fun c s =>
        if rg = 0 then goOpen c s
        else s.updCtx c (fun x => { x with
          pending := some { regime := rg, tick := fld p 5 1, base := fld p 6 1, filter := fld p 7 1 } }))))

/-- Meaning of `loop.set_regime`. -/
def execLoopSetRegime (req : Req) (s : State) := command cmdLoopSetRegime req s

/-- `loop.set_gains` (R193, R210).
Log entry 134 (DEDUCED). -/
def cmdLoopSetGains : Cmd where
  op := 0x0702
  need p s := ctxNeed 4 s (fld p 0 2) (fld p 2 2)
  checks p s := [sel p 2 2 1 9216] ++ layout [2, 2, 1, 1, 2, 2, 2, 2, 2] p ++ rangeChecks p 9216 ++
    [range p 4 1 0 1, resv p 5 1, (decide (1023 < fld p 6 2) || (fld p 6 2 != 0 && (tfind s.tables (fld p 6 2)).isNone), bad 6),
     resv p 14 2]
  run r s :=
    let p := r.pay
    let cs := governed s (rangeOf p)
    let k := fld p 4 1
    guarded [ctxConflict s false cs, (cs.any (fun c => (s.ctx c).bank == k && (s.ctx c).regime != 0), ⟨2, 0, 0⟩)]
      (let b : Bank := { table := fld p 6 2, kscale := fld p 8 2, kt := fld p 10 2, ramp := fld p 12 2 }
       ok (each cs s (fun c s => s.updCtx c (fun x => if k = 1 then { x with b1 := b } else { x with b0 := b }))))

/-- Meaning of `loop.set_gains`. -/
def execLoopSetGains (req : Req) (s : State) := command cmdLoopSetGains req s

/-- A pending swap of a context is cancelled, and with it its group's LOOP_SWAP_DONE (R194, R195).
Log entry 134 (DEDUCED). -/
def cancelSwap (c : Nat) (s : State) : State :=
  match (s.ctx c).swap with
  | none => s
  | some (_, _, g) => { s.updCtx c (fun x => { x with swap := none }) with swaps := tdel s.swaps g }

/-- `loop.swap_bank` (R194, R195, R211).
Log entry 134 (DEDUCED). -/
def cmdLoopSwapBank : Cmd where
  op := 0x0703
  need p s := ctxNeed 4 s (fld p 0 2) (fld p 2 2)
  checks p _ := [sel p 2 2 1 9216] ++ layout [2, 2, 1, 3, 12] p ++ rangeChecks p 9216 ++ [range p 4 1 0 1, resv p 5 3, badTime p 8]
  run r s :=
    let p := r.pay
    let cs := governed s (rangeOf p)
    let t := timeAt p 8
    let b := fld p 4 1
    guarded [ctxConflict s false cs, (t != 0 && decide (t < s.time.now + us 10), late)]
      (let s := each cs s cancelSwap
       let todo := cs.filter (fun c => (s.ctx c).bank != b)
       let g := s.swapId
       let s := { s with swapId := (g + 1) % 2 ^ 32
                         swaps := if todo = [] then s.swaps else tput s.swaps g { left := todo.length, n := todo.length } }
       let due := if t = 0 then s.time.now else t
       ok (each todo s (fun c s => swapAt c (s.updCtx c (fun x => { x with swap := some (b, due, g) })))))

/-- Meaning of `loop.swap_bank`. -/
def execLoopSwapBank (req : Req) (s : State) := command cmdLoopSwapBank req s

/-- The TARGET words that a `loop.set_setpoint` sets: (governing context, offset of its word) (R212). -/
def targetWords (s : State) (p : Bytes) : List (Nat × Nat) :=
  (List.range (fld p 2 2)).filterMap (fun i =>
    let c := fld p 0 2 + i
    if isCell s c && !(governs s c != c && decide (fld p 0 2 ≤ governs s c)) then some (governs s c, 4 + 4 * i) else none)

/-- `loop.set_setpoint` (R189, R212). -/
def cmdLoopSetSetpoint : Cmd where
  op := 0x0704
  need p s := ctxNeed 4 s (fld p 0 2) (fld p 2 2)
  checks p s := [sel p 2 2 1 256] ++ layout ([2, 2] ++ entries (fld p 2 2) [4]) p ++ rangeChecks p 9216 ++
    (targetWords s p).map (fun w => (decide (2 ^ 24 ≤ fld p w.2 4) || fld p w.2 4 == 0x800000, bad w.2))
  run r s :=
    let ws := targetWords s r.pay
    guarded [(ws.any (fun w => litCell s w.1), busyLit), ctxConflict s true (ws.map (·.1))]
      (ok (each ws s (fun w s => s.updCtx w.1 (fun x => { x with target := sgn 24 (fld r.pay w.2 4) }))))

/-- Meaning of `loop.set_setpoint`. -/
def execLoopSetSetpoint (req : Req) (s : State) := command cmdLoopSetSetpoint req s

/-- The fields of R213 written into a context. -/
def limitCtx (p : Bytes) (x : Ctx) : Ctx :=
  let k := fld p 4 1
  let x := if bit k 0 then { x with outLo := some (sgn 32 (fld p 8 4)), outHi := some (sgn 32 (fld p 12 4)) } else x
  let x := if bit k 1 then { x with sum := fld p 16 4 } else x
  let x := if bit k 2 then { x with missLimit := fld p 6 2 } else x
  let x := if bit k 3 then { x with neg := bit (fld p 5 1) 0 } else x
  if bit k 4 then { x with corrB := bit (fld p 5 1) 1 } else x

/-- `loop.set_limits` (R186, R213). -/
def cmdLoopSetLimits : Cmd where
  op := 0x0705
  need p s := ctxNeed 4 s (fld p 0 2) (fld p 2 2)
  checks p _ := [sel p 2 2 1 9216] ++ layout [2, 2, 1, 1, 2, 4, 4, 4] p ++ rangeChecks p 9216 ++ [range p 4 1 0 31, range p 5 1 0 3,
    (bit (fld p 4 1) 0 && decide (sgn 32 (fld p 12 4) < sgn 32 (fld p 8 4)), bad 8),
    (bit (fld p 4 1) 1 && decide (fullCode < fld p 16 4), bad 16)]
  run r s :=
    let p := r.pay
    let cs := governed s (rangeOf p)
    let k := fld p 4 1
    guarded [ctxConflict s true cs,
             ((bit k 1 || bit k 3 || bit k 4) && cs.any (fun c => (s.ctx c).regime != 0), ⟨2, 0, 0⟩)]
      (ok (each cs s (fun c s => s.updCtx c (limitCtx p))))

/-- Meaning of `loop.set_limits`. -/
def execLoopSetLimits (req : Req) (s : State) := command cmdLoopSetLimits req s

/-- A coefficient bank as 8 bytes (R207). -/
def bankBytes (b : Bank) : Bytes := le 2 b.table ++ le 2 b.kscale ++ le 2 b.kt ++ le 2 b.ramp

/-- MODE of a context record (R207). -/
def ctxMode (x : Ctx) : Nat :=
  x.pairedTick + 2 * b1 x.corrB + 4 * b1 x.neg + 8 * x.bank + 16 * b1 x.swap.isSome + 32 * x.injBase

/-- The context record (R207). -/
def ctxRec (s : State) (c : Nat) : Bytes :=
  let g := s.ctx (governs s c)
  if governs s c ≠ c then le 1 g.regime ++ le 1 (ctxMode g) ++ List.replicate 62 0
  else
    let paired := loopClass g.regime g.injBase == 2
    le 1 g.regime ++ le 1 (ctxMode g) ++ le 1 g.injFilter
    ++ le 1 (b1 g.waiting + 2 * b1 g.limited + 4 * b1 g.saturated + 8 * b1 g.measOvr + 16 * b1 g.starved + 32 * b1 g.clipped
        + 64 * b1 (ctxKind s c).isSome)
    ++ le 2 ((ctxMon s c).getD 0xFFFF) ++ le 2 g.missLimit ++ le 4 (uns 24 g.target) ++ le 4 (uns 24 g.sp)
    ++ le 4 (uns 32 (g.outLo.getD (if paired then -0xFFFFF else 0))) ++ le 4 (uns 32 (g.outHi.getD 0xFFFFF)) ++ le 4 g.sum
    ++ le 4 (uns 32 g.eBlk) ++ le 8 (uns 64 g.integ) ++ le 4 (uns 32 g.output) ++ le 2 g.missRun ++ le 2 0
    ++ bankBytes g.b0 ++ bankBytes g.b1

/-- `loop.read_state` (R207, R214). -/
def cmdLoopReadState : Cmd where
  op := 0x0706
  need p s := ctxNeed (if fld p 2 1 = 1 then 4 else 0) s (fld p 0 2) 1
  checks p _ := layout [2, 1, 1] p ++ [range p 0 2 0 9215, range p 2 1 0 1, resv p 3 1]
  run r s :=
    let c := fld r.pay 0 2
    ok (if fld r.pay 2 1 = 1 then s.updCtx (governs s c) (fun x => { x with measOvr := false, clipped := false }) else s)
      (ctxRec s c)

/-- Meaning of `loop.read_state`. -/
def execLoopReadState (req : Req) (s : State) := command cmdLoopReadState req s

/-- The words of a gain table in a payload (R187, R215). -/
def tableAt (p : Bytes) : List Nat := (List.range 96).map (fun i => fld p (4 + 4 * i) 4)

/-- The breakpoint checks of a gain table (R187). -/
def tableChecks (p : Bytes) : List (Bool × Refuse) :=
  (List.range 32).map (fun i => (decide (2 ^ 24 ≤ fld p (4 + 12 * i) 4) ||
    (i != 0 && decide (fld p (4 + 12 * i) 4 ≤ fld p (4 + 12 * (i - 1)) 4)), bad (4 + 12 * i)))

/-- A context that is not in OPEN names the table in its active bank or in a pending swap (R215). -/
def tableUsed (s : State) (t : Nat) : Bool :=
  s.ctxs.any (fun e => e.2.regime != 0 && (e.2.active.table == t ||
    (match e.2.swap with | some (b, _, _) => (if b = 1 then e.2.b1 else e.2.b0).table == t | none => false)))

/-- `loop.table_load` (R187, R215). -/
def cmdLoopTableLoad : Cmd where
  op := 0x0707
  checks p _ := layout ([2, 2] ++ entries 32 [4, 4, 4]) p ++ [range p 0 2 1 1023, resv p 2 2] ++ tableChecks p
  run r s := guarded [(tableUsed s (fld r.pay 0 2), ⟨2, 0, 0⟩)]
    (ok { s with tables := tput s.tables (fld r.pay 0 2) (tableAt r.pay) })

/-- Meaning of `loop.table_load`. -/
def execLoopTableLoad (req : Req) (s : State) := command cmdLoopTableLoad req s

/-- `loop.table_read` (R215). -/
def cmdLoopTableRead : Cmd where
  op := 0x0708
  checks p _ := layout [2, 2] p ++ [range p 0 2 0 1023, resv p 2 2]
  run r s :=
    let t := fld r.pay 0 2
    if t = 0 then ok s (List.replicate 384 0)
    else match tfind s.tables t with
      | none => .error empty
      | some w => ok s (w.flatMap (le 4))

/-- Meaning of `loop.table_read`. -/
def execLoopTableRead (req : Req) (s : State) := command cmdLoopTableRead req s

/-- A component at offset `o` (R216). -/
def compAt (p : Bytes) (o : Nat) : Comp :=
  { wave := fld p o 1, poly := fld p (o + 1) 1, chip := fld p (o + 2) 1, amp := fld p (o + 4) 4, inc := fld p (o + 8) 4
    phase0 := fld p (o + 12) 4 }

/-- The checks of a component at offset `o` (R196, R216), whatever its WAVE: `first` allows PRBS.
Log entry 166 (DEDUCED). -/
def compChecks (p : Bytes) (o : Nat) (first other : Bool) : List (Bool × Refuse) :=
  let w := fld p o 1
  [(decide (3 < w) || (w == 3 && (!first || other)), bad o),
   (!([7, 9, 15].contains (fld p (o + 1) 1)), bad (o + 1)), (fld p (o + 2) 1 == 0, bad (o + 2)),
   resv p (o + 3) 1, (decide (2 ^ 19 ≤ fld p (o + 4) 4), bad (o + 4))]

/-- A generator configuration in the order of START, behind those of the same START. -/
def putGen (g : Comp × Comp × NetTime) : List (Comp × Comp × NetTime) → List (Comp × Comp × NetTime)
  | [] => [g]
  | x :: t => if g.2.2 < x.2.2 then g :: x :: t else x :: putGen g t

/-- `loop.inject` (R196, R216). -/
def cmdLoopInject : Cmd where
  op := 0x0709
  need p s := ctxNeed 4 s (fld p 0 2) 1
  checks p s := layout ([2, 2, 12] ++ entries 2 [1, 1, 1, 1, 4, 4, 4]) p ++
    [(decide (9215 < fld p 0 2) || governs s (fld p 0 2) != fld p 0 2, bad 0), resv p 2 2, badTime p 4]
    ++ compChecks p 16 true (fld p 32 1 != 0) ++ compChecks p 32 false false
  run r s :=
    let c := fld r.pay 0 2
    let t := timeAt r.pay 4
    guarded [ctxConflict s false [c]]
      (ok (s.updCtx c (fun x => { x with genNext := putGen (compAt r.pay 16, compAt r.pay 32,
        if t = 0 then ceilTo (s.time.now + 1) (us (s.plane (s.elemAt c).plane).tickUs) else t) x.genNext })))

/-- Meaning of `loop.inject`. -/
def execLoopInject (req : Req) (s : State) := command cmdLoopInject req s

/-- A tone capture of `n` periods spans fewer than 4 sample periods (R217). -/
def captureShort (s : State) (c n inc : Nat) : Bool :=
  let tick := us (s.plane (s.elemAt c).plane).tickUs
  let per := filterPeriod (((ctxMon s c).map (fun m => (s.mon m).filter)).getD 1)
  decide (n * 2 ^ 32 * tick < 4 * per * inc)

/-- `loop.capture` (R200, R202, R217). -/
def cmdLoopCapture : Cmd where
  op := 0x070A
  need p s := ctxNeed 4 s (fld p 0 2) 1
  checks p s := layout [2, 1, 1, 4, 4, 12] p ++
    [(decide (9215 < fld p 0 2) || governs s (fld p 0 2) != fld p 0 2, bad 0), range p 2 1 0 1, resv p 3 1, range p 8 4 0 65535,
     badTime p 12]
  run r s :=
    let p := r.pay
    let c := fld p 0 2
    let x := s.ctx c
    let k := if fld p 2 1 = 1 then x.gen.c1 else x.gen.c0
    let n := fld p 4 4
    guarded [(x.regime != 4 || x.cap.running, ⟨2, 0, 0⟩), (!x.gen.on || k.wave == 0, bad 2),
             (if k.wave = 3 then decide (n < 4) || decide (16777216 < n)
              else decide (n < 1) || decide (65535 < n) || captureShort s c n k.inc, bad 4)]
      (let s := s.updCtx c (fun x => { x with cap := {
         running := true, comp := fld p 2 1, length := n, lag := fld p 8 4, start := timeAt p 12
         amp := k.amp, wave := k.wave } })
       ok (if r.lease = 0 then holdImplicit 5 4 c 1 s else s))

/-- Meaning of `loop.capture`. -/
def execLoopCapture (req : Req) (s : State) := command cmdLoopCapture req s

/-- H_RE and H_IM of a capture (R201): the numerator is scaled by `v`, π/2^62 for a square wave. -/
def capPoint (k : Capture) (v : Int) : Nat :=
  let na := k.n * k.amp
  if k.wave = 1 then f32OfRat (2 * v) na
  else if k.wave = 2 then f32OfRat (piFix * v) (2 * na * 2 ^ 62)
  else f32OfRat v na

/-- A capture of fewer than four samples, running or ended, shows no sums (R160, R200). -/
def capShown (k : Capture) : Capture := if k.n < 4 then { k with c := 0, s := 0 } else k

/-- `loop.capture_read` (R201, R218). -/
def cmdLoopCaptureRead : Cmd where
  op := 0x070B
  need p s := ctxNeed 0 s (fld p 0 2) 1
  checks p _ := layout [2, 2] p ++ [range p 0 2 0 9215, resv p 2 2]
  run r s :=
    let k := capShown (s.ctx (governs s (fld r.pay 0 2))).cap
    ok s (le 8 (uns 64 k.c) ++ le 8 (uns 64 k.s) ++ le 4 k.n ++ le 4 k.missed ++ le 1 k.flags ++ le 3 0
      ++ le 4 (capPoint k (if k.wave = 3 then k.c else k.s)) ++ le 4 (if k.wave = 3 then 0 else capPoint k k.c)
      ++ timeLe k.tStart ++ timeLe k.tEnd)

/-- Meaning of `loop.capture_read`. -/
def execLoopCaptureRead (req : Req) (s : State) := command cmdLoopCaptureRead req s

/-- The updates of engine `n` that the last samples made are no longer in UPDATES, so a discard does not take them back (R205, R219). -/
def uncounted (n : Nat) (s : State) : State :=
  { s with ctxs := tmap {} (fun c x => if c / 36 = n then
      { x with undo := x.undo.map (fun u => { u with counted := false }) } else x) s.ctxs }

/-- `loop.counters` (R219). MAX_UPDATE_NS is a free value once an update has been made: the manual bounds it but does not give it.
Log entry 132 (DESIGN CHOICE). -/
def cmdLoopCounters : Cmd where
  op := 0x070C
  checks p _ := layout [1, 1, 2] p ++ [range p 1 1 0 1, resv p 2 2]
  run r s :=
    let n := fld r.pay 0 1
    let k := s.engine n
    let d := if k.updates = 0 then (k.maxNs, s) else (max k.maxNs (s.draw.1 % 65536), s.draw.2)
    let t := d.2.updEngine n (fun k => if fld r.pay 1 1 = 1 then {} else { k with maxNs := d.1 })
    ok (if fld r.pay 1 1 = 1 then uncounted n t else t) (le 4 k.updates ++ le 4 k.missed ++ le 4 k.overrun ++ le 4 k.starved ++ le 4 k.swaps ++ le 2 d.1 ++ le 2 0)

/-- Meaning of `loop.counters`. -/
def execLoopCounters (req : Req) (s : State) := command cmdLoopCounters req s

end Sys2Proof.Machine
end

