-- ==== Sys2Proof/Machine/Facet.lean ====
section
/-! DEFINITION. Facets (R220 to R236, R254 to R256, R261 to R263): building, the library, and the facet commands. -/

namespace Sys2Proof.Machine

/-! ### Calibration that facets rest on -/

/-- Plane `p` is commissioned (R526, R527). -/
def commissioned (s : State) (p : Nat) : Bool := s.cal.cal.isSome && bit (calNow s).planes p

/-- The cell record of a cell of a plane (R527). -/
def cellCal (s : State) (p cell : Nat) : CellCal := tget {} (calNow s).cells (p * 1920 + cell)

/-- The element record of a channel. -/
def elemCal (s : State) (ch : Nat) : ElemCal := tget {} (calNow s).elems ch

/-- SUM of a cell in codes (R19).
Log entry 172 (DESIGN CHOICE). -/
def cellSum (k : CellCal) : Nat := min fullCode (k.dc.natAbs + (11 * k.pPi + 5) / 10)

/-- BAR_HIGH of a cell record (R529). -/
def barHigh (k : CellCal) : Bool := bit k.flags 0

/-- The operating point of a state lies at D_c + P_π (R18, R227). -/
def highPoint (k : CellCal) (cross : Bool) : Bool := barHigh k != cross

/-- D_state of a cell (R227). -/
def dState (k : CellCal) (cross : Bool) : Int := if highPoint k cross then k.dc + k.pPi else k.dc - k.pPi

/-- The monitor value at the working point of a state (R529): the fringe at WP_MRAD from its extremum, with the residual offset. -/
def expectOf (s : State) (p cell : Nat) (cross : Bool) : Int :=
  let k := cellCal s p cell
  let m : Int := k.mMax
  let lo := scale62 m (dbDown k.ext)
  let c := cosTurn ((s.cal.wp : Int) * 2 ^ 48 * 1000000 / 6283185307)
  let share := if cross then (fixOne - c) / 2 else (fixOne + c) / 2
  let v := lo + scale62 (m - lo) share + ((s.cellMon p cell).map (fun q => (tget {} (calNow s).mons q).resid)).getD 0
  clampI (divRound v 256) (-32768) 32767

/-! ### Compensation (R228) -/

/-- The cells of a plane with their arms. -/
def planeCells (s : State) (p : Nat) : List (Nat × Nat) :=
  (List.range (s.cells p)).filterMap (fun i => (s.armCh p i false).map (fun a => (i, a)))

/-- Power of one code of a channel, in codes of range LOW (R119). -/
def codeUnit (s : State) (ch : Nat) : Int := if (s.elemAt ch).high then 4 else 1

/-- Fraction bits of the powers of R228. -/
def powBits : Int := 2 ^ 20

/-- Heat that the aggressors of an element bring beyond their park power, in 2^-20 LOW codes (R228).
Log entry 136 (DEDUCED). -/
def heatOf (s : State) (pw : Tab Int) (e mate : Nat) : Int :=
  ((tget {} (calNow s).xts e).coef.filter (fun j => j.1 != e && j.1 != mate)).foldl (fun a j =>
    match tfind pw j.1 with
    | none => a
    | some w => a + divRound (j.2 * (w - (tget 0 (s.plane (s.elemAt j.1).plane).park j.1 : Nat) * codeUnit s j.1 * powBits)) 32768) 0

/-- One Jacobi pass over the cells (R228).
Log entry 136 (DEDUCED). -/
def jacobi (s : State) (cells : List (Nat × Nat × Int × Int)) (prev : Tab Int) : Tab Int :=
  cells.foldl (fun pw c =>
    let a := c.2.1
    let d := c.2.2.1 - (heatOf s prev a (a + 1) - heatOf s prev (a + 1) a)
    tput (tput pw a ((c.2.2.2 + d) / 2)) (a + 1) ((c.2.2.2 - d) / 2)) prev

/-- The compensated code of an arm from its power, and whether a clamp was needed (R228). -/
def armTarget (s : State) (a : Nat) (sum : Nat) (pw : Int) : Nat × Bool :=
  let v := divRound pw (codeUnit s a * powBits).toNat
  ((clampI v 0 sum).toNat, decide (v < 0) || decide ((sum : Int) < v))

/-! ### Pre-emphasis (R229, R230) -/

/-- PE_AMP whose expansion is nearest to the code `num / den` (R101, R229).
Log entry 7 (DEDUCED). -/
def ampOf (num den : Int) : Nat :=
  let b := min 4095 ((clampI (num / den) 0 fullCode).toNat / 256)
  [b - 1, b, min 4095 (b + 1)].foldl (fun (best : Nat) a =>
    if ((peCode a : Int) * den - num).natAbs < ((peCode best : Int) * den - num).natAbs then a else best) b

/-- The first count of ticks, from 1 to 255, after which `q ^ n` has fallen to `goal` (R229, R230). -/
def ticksTo (q goal : Int) : Nat :=
  (((List.range 254).map (· + 1)).find? (fun n => decide (powFix q n ≤ goal))).getD 255

/-- PE_DUR and the rising arm's PE_AMP of a changing cell (R229); 0 when the cell has no overdrive. -/
def cellPe (s : State) (p : Nat) (k : CellCal) (high : Bool) : Nat × Nat :=
  if k.k ≤ 100 ∨ k.pPi = 0 then (0, 0)
  else
    let up : Int := if high then 1 else -1
    let q := expNeg ((s.plane p).tickUs * 1000) (s.desc p).tauNs
    let d := ticksTo q (fixOne * (k.k - 100) / (k.k + 100))
    let full : Int := fullCode - up * k.dc
    let u := full * fixOne + (-(k.pPi : Int) - full) * powFix q (d - 1)
    let goal : Int := (k.pPi : Int) * fixOne + k.pPi * (fixOne * 4000000 / 314159265)
    let den := fixOne * max 1 (fixOne - q)
    (d, ampOf (up * k.dc * den + goal * fixOne - u * q) den)

/-- PE_DUR and PE_AMP of an opening shutter (R230). -/
def shutterPe (s : State) (p open' : Nat) : Nat × Nat :=
  if open' = 0 then (0, 0)
  else
    let q := expNeg ((s.plane p).tickUs * 1000) (s.desc p).tauNs
    let d := ticksTo q (fixOne * (fullCode - open' : Nat) / fullCode)
    let x := (fullCode : Int) * (fixOne - powFix q (d - 1))
    (d, ampOf ((open' : Int) * fixOne * fixOne - x * q) (fixOne * max 1 (fixOne - q)))

/-! ### Building -/

/-- Cells that carry a lit circuit of a facet, ascending. -/
def litCells (ports : Nat) (f : Facet) : List Nat :=
  (circuitsOf f.perm).foldl (fun a c => (pathCells ports f c.1).foldl (fun a i => insertAsc i a) a) []

/-- A facet built from a permutation record, and whether a code was clamped (R224 to R230, R233, R529). -/
def buildFacet (s : State) (p : Nat) (perm : List Nat) : Facet × Bool :=
  let cross := routeRecord perm
  let lit := litCells (s.ports p) { perm := perm, cross := cross }
  let cells := (planeCells s p).map (fun c =>
    let k := cellCal s p c.1
    (c.1, c.2, dState k (cross.contains c.1) * codeUnit s c.2 * powBits, (cellSum k : Int) * codeUnit s c.2 * powBits))
  let shut := (List.range (s.ports p)).filterMap (fun i => (s.shutterCh p i).map (fun ch =>
    (i, ch, if permAt perm i = 0xFFFF then 0 else (elemCal s ch).openCode)))
  let pw0 : Tab Int := shut.foldl (fun t e => tput t e.2.1 ((e.2.2 : Int) * codeUnit s e.2.1 * powBits))
    (cells.foldl (fun t c => tput (tput t c.2.1 ((c.2.2.2 + c.2.2.1) / 2)) (c.2.1 + 1) ((c.2.2.2 - c.2.2.1) / 2)) [])
  let pw := jacobi s cells (jacobi s cells pw0)
  let arms := cells.foldl (fun (acc : Tab Entry × Bool) c =>
    let k := cellCal s p c.1
    let st := cross.contains c.1
    let pe := cellPe s p k (highPoint k st)
    let a := armTarget s c.2.1 (cellSum k) (tget 0 pw c.2.1)
    let b := armTarget s (c.2.1 + 1) (cellSum k) (tget 0 pw (c.2.1 + 1))
    let on := lit.contains c.1
    let ea : Entry := { code := a.1, dur := pe.1, amp := if highPoint k st then pe.2 else 0, expect := expectOf s p c.1 st
                        lit := on, state := st }
    let eb : Entry := { code := b.1, dur := pe.1, amp := if highPoint k st then 0 else pe.2, lit := on, state := st }
    (tset {} (tset {} acc.1 c.2.1 ea) (c.2.1 + 1) eb, acc.2 || a.2 || b.2)) ([], false)
  let all := shut.foldl (fun (t : Tab Entry) e =>
    let pe := shutterPe s p e.2.2
    let on := permAt perm e.1 != 0xFFFF
    tset {} t e.2.1 { code := e.2.2, dur := pe.1, amp := pe.2, lit := on, state := on }) arms.1
  ({ perm := perm, cross := cross, entries := all }, arms.2)

/-- The signature of a permutation record (R234). -/
def signature (perm : List Nat) : Nat := crc64 (le 2 perm.length ++ perm.flatMap (le 2))

/-! ### The library (R231 to R236) -/

/-- Slots of a plane (R231). -/
def slotCount (s : State) (p : Nat) : Nat := if s.ports p = 512 then 1820 else if s.ports p = 256 then 2048 else 0

/-- Channels of a slot in entry order (R232). -/
def slotChs (s : State) (p : Nat) : List Nat := s.planeChs p true

/-- A slot is valid: in use and of the map in force (R236). -/
def slotValid (s : State) (p n : Nat) : Bool :=
  (s.slot p n).valid && decide (n < slotCount s p) && (s.slot p n).mapGen == (s.sys.map.map (·.gen)).getD 0

/-- A slot is stale: built under another calibration (R236). -/
def slotStale (s : State) (p n : Nat) : Bool := (s.slot p n).calGen != (calNow s).gen

/-- A loaded chain names the slot (R235). -/
def chainRef (s : State) (p n : Nat) : Bool :=
  s.sched.chains.any (fun c => c.2.dplane == s.dplaneOf p && c.2.steps.any (fun e => e.1 == n))

/-- A launch of the slot is accepted and not begun. -/
def slotStaged (s : State) (p n : Nat) : Bool := (s.plane p).accepted.any (fun l => l.slot == n)

/-- The slot is in force. -/
def slotCurrent (s : State) (p n : Nat) : Bool := (s.plane p).forceSlot == n

/-- A slot that nothing but its age protects (R235). -/
def evictable (s : State) (p n : Nat) : Bool :=
  !(s.slot p n).pinned && !chainRef s p n && !slotStaged s p n && !slotCurrent s p n

/-- Pinned slots (R261). -/
def pinCount (s : State) (p : Nat) : Nat :=
  ((List.range (slotCount s p)).filter (fun n => slotValid s p n && (s.slot p n).pinned)).length

/-- Pinned or chain-referenced slots (R263). -/
def pinnedSlots (s : State) (p : Nat) : Nat :=
  ((List.range (slotCount s p)).filter (fun n => slotValid s p n && ((s.slot p n).pinned || chainRef s p n))).length

/-- The slot that a miss may overwrite: the least recently shown, the lowest on a tie (R235). -/
def evictSlot (s : State) (p : Nat) : Option Nat :=
  ((List.range (slotCount s p)).filter (fun n => slotValid s p n && evictable s p n)).foldl (fun (best : Option Nat) n =>
    match best with
    | none => some n
    | some b => if (s.slot p n).shown < (s.slot p b).shown then some n else some b) none

/-- The first valid slot that holds a record (R235). -/
def findSlot (s : State) (p : Nat) (perm : List Nat) : Option Nat :=
  let sig := signature perm
  (List.range (slotCount s p)).find? (fun n => slotValid s p n && (s.slot p n).sig == sig && (s.slot p n).facet.perm == perm)

/-- Counters of a plane (R263): 0 HITS, 1 MISSES, 2 EVICTIONS, 3 LAUNCHES, 4 SUSPECTS, 5 FOLDS. -/
def planeCount (p i : Nat) (s : State) : State := s.updPlane p (fun q => { q with counters := tinc q.counters i })

/-- Build a facet into a slot (R228, R234 to R236); a rebuild keeps the slot's pins, flags and history. -/
def buildInto (p n : Nat) (perm : List Nat) (s : State) : State :=
  let f := buildFacet s p perm
  let s := s.updSlot p n (fun x => { x with
    valid := true, facet := f.1, sig := signature perm, clamped := f.2, edited := false
    mapGen := (s.sys.map.map (·.gen)).getD 0, calGen := (calNow s).gen })
  let s := planeCount p 1 s
  if f.2 then raiseFault (224 + p) { plane := p, value := n } s else s

/-- A lookup of a record in the library (R235, R236): the slot and whether it hit, with the state after. -/
def lookup (p : Nat) (perm : List Nat) (build : Bool) (s : State) : Except Refuse (Nat × Bool × State) :=
  match findSlot s p perm with
  | some n =>
    if slotStale s p n then (if build then .ok (n, false, buildInto p n perm s) else .error empty)
    else .ok (n, true, planeCount p 0 s)
  | none =>
    if !build then .error empty
    else
      match (List.range (slotCount s p)).find? (fun n => !slotValid s p n) with
      | some n => .ok (n, false, buildInto p n perm (s.updSlot p n (fun _ => {})))
      | none =>
        match evictSlot s p with
        | none => .error quota
        | some n =>
          let s := planeCount p 2 (s.updSlot p n (fun _ => {}))
          .ok (n, false, buildInto p n perm (raiseEvent (244 + p) { plane := p, value := n } s))

/-! ### Commands -/

/-- The permutation record at offset `o`. -/
def permOf (p : Bytes) (o n : Nat) : List Nat := (List.range n).map (fun i => fld p (o + 2 * i) 2)

/-- A plane that the map does not hold (R254). -/
def badPlane (s : State) (p : Bytes) (o : Nat) : Bool × Refuse := (!s.planeIds.contains (fld p o 1), bad o)

/-- The offset of the first entry that R221 refuses, if the record is not valid. -/
def permChecks (s : State) (p : Bytes) (o n : Nat) : List (Bool × Refuse) :=
  let perm := permOf p o n
  (List.range n).map (fun i =>
    let q := perm.getD i 0xFFFF
    (q != 0xFFFF && (decide (n ≤ q) || (perm.take i).contains q), bad (o + 2 * i))) ++
    [(!permOk (s.ports (fld p 0 1)) perm, bad o)]

/-- A plane that the map does not hold, where it calls for the length of a record (R254, R719). -/
def selPlane (s : State) (p : Bytes) (o : Nat) : Bool × Refuse :=
  (decide (o < p.length) && !s.planeIds.contains (fld p o 1), bad o)

/-- The checks of the payload of R254. -/
def recordChecks (s : State) (p : Bytes) (flags : Bool) : List (Bool × Refuse) :=
  [selPlane s p 0, (decide (4 ≤ p.length) && fld p 2 2 != s.ports (fld p 0 1), bad 2)] ++ layout ([1, 1, 2] ++ entries (s.ports (fld p 0 1)) [2]) p ++
    (if flags then [range p 1 1 0 3] else []) ++ permChecks s p 4 (s.ports (fld p 0 1))

/-- `facet.define` (R235, R254, R261). -/
def cmdFacetDefine : Cmd where
  op := 0x0801
  checks p s := recordChecks s p true
  floor _ _ := 700
  run r s :=
    let p := fld r.pay 0 1
    let perm := permOf r.pay 4 (s.ports p)
    let pin := bit (fld r.pay 1 1) 0
    let was := ((findSlot s p perm).map (fun n => (s.slot p n).pinned)).getD false
    guarded [(!commissioned s p, notReady), (pin && !was && decide (slotCount s p / 2 ≤ pinCount s p), quota)]
      (match lookup p perm true s with
       | .error e => .error e
       | .ok (n, hit, s) =>
         let s := s.updSlot p n (fun x => { x with
           pinned := x.pinned || pin, learnOff := x.learnOff || bit (fld r.pay 1 1) 1 })
         ok s (le 2 n ++ le 1 (b1 hit) ++ le 1 0 ++ le 8 (signature perm)))

/-- Meaning of `facet.define`. -/
def execFacetDefine (req : Req) (s : State) := command cmdFacetDefine req s

/-- `facet.lookup` (R254). -/
def cmdFacetLookup : Cmd where
  op := 0x0802
  checks p s := recordChecks s p false
  floor _ _ := 700
  run r s :=
    let p := fld r.pay 0 1
    let perm := permOf r.pay 4 (s.ports p)
    guarded [(!commissioned s p, notReady)]
      (match lookup p perm false s with
       | .error e => .error e
       | .ok (n, hit, s) => ok s (le 2 n ++ le 1 (b1 hit) ++ le 1 0 ++ le 8 (signature perm)))

/-- Meaning of `facet.lookup`. -/
def execFacetLookup (req : Req) (s : State) := command cmdFacetLookup req s

/-- `facet.route` (R262). -/
def cmdFacetRoute : Cmd where
  op := 0x080A
  checks p s := recordChecks s p true
  floor _ _ := 700
  run r s := ok s (stateVector (s.ports (fld r.pay 0 1)) (routeRecord (permOf r.pay 4 (s.ports (fld r.pay 0 1)))))

/-- Meaning of `facet.route`. -/
def execFacetRoute (req : Req) (s : State) := command cmdFacetRoute req s

/-- A library entry as its 64-bit word (R233). -/
def entryWord (valid : Bool) (e : Entry) : Nat :=
  e.code * 2 ^ 44 + e.amp * 2 ^ 32 + e.dur * 2 ^ 24 + uns 16 e.expect * 2 ^ 8 + 128 * b1 valid + 64 * b1 e.lit + 32 * b1 e.state
    + 16 * b1 e.learned + 8 * b1 e.frozen + 4 * b1 e.host

/-- The slot header (R255). -/
def slotHeader (s : State) (p n : Nat) : Bytes :=
  let x := s.slot p n
  le 8 x.sig ++ le 2 (s.ports p) ++
  le 2 (b1 (slotValid s p n) + 2 * b1 x.pinned + 4 * b1 (chainRef s p n) + 8 * b1 x.learnOff + 16 * b1 x.edited
    + 32 * b1 x.clamped + 64 * b1 (slotStale s p n) + 128 * b1 (slotStaged s p n))
  ++ le 4 x.mapGen ++ le 4 x.calGen ++ le 4 x.showings ++ le 4 x.folds ++ le 2 (circuitsOf x.facet.perm).length ++ le 2 0
  ++ timeLe x.shown ++ List.replicate 20 0

/-- `facet.read` (R255). -/
def cmdFacetRead : Cmd where
  op := 0x0803
  checks p s := [sel p 4 1 0 3] ++ (if fld p 4 1 = 1 then [sel p 8 2 1 1000] else []) ++ layout [1, 1, 2, 1, 1, 2, 2] p ++
    [badPlane s p 0, resv p 1 1, range p 2 2 0 (slotCount s (fld p 0 1) - 1), resv p 5 1,
     (fld p 4 1 == 1 && decide ((slotChs s (fld p 0 1)).length ≤ fld p 6 2), bad 6),
     (fld p 4 1 == 1 && decide ((slotChs s (fld p 0 1)).length < fld p 6 2 + fld p 8 2), bad 8)]
  run r s :=
    let p := fld r.pay 0 1
    let n := fld r.pay 2 2
    let x := (s.slot p n).facet
    guarded [(!slotValid s p n, empty)]
      (ok s (match fld r.pay 4 1 with
        | 0 => slotHeader s p n
        | 1 => (((slotChs s p).drop (fld r.pay 6 2)).take (fld r.pay 8 2)).flatMap (fun ch =>
                  le 8 (entryWord true (tget {} x.entries ch)))
        | 2 => x.perm.flatMap (le 2)
        | _ => stateVector (s.ports p) x.cross))

/-- Meaning of `facet.read`. -/
def execFacetRead (req : Req) (s : State) := command cmdFacetRead req s

/-- An entry after `facet.write` of word `w` under a MASK (R233, R256). -/
def writeEntry (mask w : Nat) (e : Entry) : Entry :=
  let e := if bit mask 0 then { e with code := bits w 63 44 } else e
  let e := if bit mask 1 then { e with amp := bits w 43 32, dur := bits w 31 24 } else e
  let e := if bit mask 2 then { e with expect := sgn 16 (bits w 23 8) } else e
  let e := if bit mask 3 then { e with frozen := bit w 3 } else e
  { e with host := true }

/-- A hold window of an arm in the mapped range (R107, R119). -/
def windowOf (s : State) (ch : Nat) : Int × Int :=
  (fromRangeI s ch (s.drive ch).winLo, fromRangeI s ch (s.drive ch).winHi)

/-- The refusals of one written entry (R256). -/
def entryBad (s : State) (ch mask w : Nat) (e : Entry) : Bool :=
  let k := (s.elemAt ch).kind
  let n := writeEntry mask w e
  (bit mask 0 && (k == 1 || k == 2) &&
    (decide ((n.code : Int) < (windowOf s ch).1) || decide ((windowOf s ch).2 < n.code)))
  || (bit mask 1 && n.dur == 0 && n.amp != 0)

/-- `facet.write` (R233, R256). -/
def cmdFacetWrite : Cmd where
  op := 0x0804
  checks p s := [sel p 6 2 1 1000] ++ layout ([1, 1, 2, 2, 2] ++ entries (fld p 6 2) [8]) p ++
    [badPlane s p 0, range p 1 1 0 15, range p 2 2 0 (slotCount s (fld p 0 1) - 1),
     (decide ((slotChs s (fld p 0 1)).length ≤ fld p 4 2), bad 4),
     (decide ((slotChs s (fld p 0 1)).length < fld p 4 2 + fld p 6 2), bad 6)]
  run r s :=
    let p := fld r.pay 0 1
    let n := fld r.pay 2 2
    let k := fld r.pay 1 1
    let chs := ((slotChs s p).drop (fld r.pay 4 2)).take (fld r.pay 6 2)
    let t := (s.slot p n).facet.entries
    let w := fun (i : Nat) => fld r.pay (8 + 8 * i) 8
    guarded ([(!slotValid s p n, empty)] ++ chs.zipIdx.map (fun e => (entryBad s e.1 k (w e.2) (tget {} t e.1), bad (8 + 8 * e.2))))
      (ok (s.updSlot p n (fun x => { x with
        edited := true
        facet := { x.facet with entries := chs.zipIdx.foldl (fun t e =>
          tset {} t e.1 (writeEntry k (w e.2) (tget {} t e.1))) x.facet.entries } })))

/-- Meaning of `facet.write`. -/
def execFacetWrite (req : Req) (s : State) := command cmdFacetWrite req s

/-- `facet.pin` (R261). -/
def cmdFacetPin : Cmd where
  op := 0x0809
  checks p s := layout [1, 1, 2] p ++ [badPlane s p 0, range p 1 1 0 2, range p 2 2 0 (slotCount s (fld p 0 1) - 1)]
  run r s :=
    let p := fld r.pay 0 1
    let n := fld r.pay 2 2
    let a := fld r.pay 1 1
    guarded [(!slotValid s p n, empty), (a == 2 && !evictable s p n, ⟨2, 0, 0⟩),
             (a == 1 && !(s.slot p n).pinned && decide (slotCount s p / 2 ≤ pinCount s p), quota)]
      (ok (s.updSlot p n (fun x => if a = 2 then {} else { x with pinned := a == 1 })))

/-- Meaning of `facet.pin`. -/
def execFacetPin (req : Req) (s : State) := command cmdFacetPin req s

/-- `facet.status` (R263). -/
def cmdFacetStatus : Cmd where
  op := 0x080B
  checks p s := layout [1, 1, 2] p ++ [badPlane s p 0, range p 1 1 0 1, resv p 2 2]
  run r s :=
    let p := fld r.pay 0 1
    let c := fun i => le 4 (tget 0 (s.plane p).counters i)
    ok (if fld r.pay 1 1 = 1 then s.updPlane p (fun q => { q with counters := [] }) else s)
      (le 2 ((List.range (slotCount s p)).filter (slotValid s p)).length ++ le 2 (pinnedSlots s p)
        ++ c 0 ++ c 1 ++ c 2 ++ c 3 ++ c 4 ++ c 5)

/-- Meaning of `facet.status`. -/
def execFacetStatus (req : Req) (s : State) := command cmdFacetStatus req s

end Sys2Proof.Machine
end

