-- ==== Sys2Proof/Machine/Launch.lean ====
section
/-! DEFINITION. Launches (R237 to R247, R252, R253, R257 to R259), supervision (R244) and the delivery of samples (R148, R159). -/

namespace Sys2Proof.Machine

/-! ### Classification (R238) -/

/-- The facet a launch at time `t` will follow: of the accepted launch before it, or the one in force.
Log entry 13 (DEDUCED). -/
def facetBefore (s : State) (p : Nat) (t : NetTime) : Option Facet :=
  match (((s.plane p).accepted.filter (fun l => decide (l.at' < t))).getLast?) with
  | some l => some l.facet
  | none => (s.plane p).force

/-- A code that the facet gives a channel, in the range in which it runs. -/
def entryCode (s : State) (f : Facet) (ch : Nat) : Nat := min fullCode (toRange s ch (tget {} f.entries ch).code)

/-- The code of a channel differs from `base` by more than RETUNE_MIN. -/
def retunes (s : State) (p : Nat) (f : Facet) (base : Nat → Nat) (ch : Nat) : Bool :=
  decide ((s.plane p).cfg.retuneMin < ((entryCode s f ch : Int) - base ch).natAbs)

/-- The cells that a facet changes or retunes against `old`, with the codes that stand before it: (cell, changing) (R238).
While no facet is in force every cell counts as changing (log entry 13, DEDUCED). -/
def movingCells (s : State) (p : Nat) (old : Option Facet) (f : Facet) (base : Nat → Nat) : List (Nat × Bool) :=
  let n := s.ports p
  let litNew := litCells n f
  match old with
  | none => (planeCells s p).map (fun c => (c.1, true))
  | some o =>
    let litOld := litCells n o
    (planeCells s p).filterMap (fun c =>
      if f.cross.contains c.1 != o.cross.contains c.1 then some (c.1, true)
      else if retunes s p f base c.2 || retunes s p f base (c.2 + 1) || (litNew.contains c.1 && !litOld.contains c.1) then
        some (c.1, false)
      else none)

/-- Input ports whose shutter opens (R238). -/
def openingPorts (old : Option Facet) (f : Facet) : List Nat :=
  ((circuitsOf f.perm).map (·.1)).filter (fun i => match old with | none => true | some o => permAt o.perm i == 0xFFFF)

/-- The circuits of a facet that a launch may check: its shutter stays under FORCE_ZERO for a withdrawn one, or one of a dark plane, and
that one is neither lit nor checked (R222, R271). -/
def checkable (s : State) (p : Nat) (f : Facet) : List (Nat × Nat) :=
  if (s.plane p).fzDark then [] else (circuitsOf f.perm).filter (fun c => !(s.plane p).dark.contains c)

/-- The circuits that a launch checks (R238), as (input, output, moving cells on the path). -/
def checkedCircuits (s : State) (p : Nat) (old : Option Facet) (f : Facet) (moving : List Nat) : List (Nat × Nat × List Nat) :=
  let opening := openingPorts old f
  (checkable s p f).filterMap (fun c =>
    let on := (pathCells (s.ports p) f c.1).filter moving.contains
    if on ≠ [] ∨ opening.contains c.1 then some (c.1, c.2, on) else none)

/-- The monitors that a launch takes (R157, R158): of moving cells and of the outputs of checked circuits. -/
def launchMons (s : State) (p : Nat) (cells : List Nat) (outs : List Nat) : List Nat :=
  cells.filterMap (s.cellMon p) ++ outs.filterMap (s.outMon p)

/-- A facet lights a monitor (R520, R521): its cell, or its output port, carries a lit circuit. -/
def facetLights (s : State) (f : Facet) (m : Nat) : Bool :=
  let e := s.monAt m
  if e.kind = 1 then (litCells (s.ports e.plane) f).contains (s.cellNo e)
  else e.kind == 2 && (circuitsOf f.perm).any (fun c => c.2 == e.index)

/-! ### Acceptance (R237, R247) -/

/-- A range change runs on the plane (R118). -/
def rangeRuns (s : State) (p : Nat) : Bool :=
  s.drives.any (fun e => e.2.rcStep != 0 && (s.elemAt e.1).kind != 0 && (s.elemAt e.1).plane == p)

/-- A context of one of these cells held by a host lease (R581). -/
def heldCell (s : State) (p : Nat) (cells : List Nat) : Option Refuse :=
  let chs := cells.flatMap (fun i => match s.armCh p i false with | some a => [a, a + 1] | none => [])
  (chs.find? (fun c => !(holders s 5 4 0 c).isEmpty)).map (fun c => ⟨2, ((holders s 5 4 0 c).head?.map (·.id)).getD 0, 0⟩)

/-- Insert a launch by its time. -/
def insertLaunch (l : Launch) : List Launch → List Launch
  | [] => [l]
  | x :: t => if l.at' < x.at' then l :: x :: t else x :: insertLaunch l t

/-- Codes that will stand before a launch: of the facet it follows, or the queue outputs. -/
def baseCode (s : State) (p : Nat) (t : NetTime) (ch : Nat) : Nat :=
  match (((s.plane p).accepted.filter (fun l => decide (l.at' < t))).getLast?) with
  | some l => entryCode s l.facet ch
  | none => (s.drive ch).out

/-- Take or leave the contexts of a cell for a launch (R184). -/
def ownCell (p id : Nat) (take : Bool) (cell : Nat) (s : State) : State :=
  match s.armCh p cell false with
  | none => s
  | some a => each [a, a + 1] s (fun c s => s.updCtx c (fun x => { x with
      launches := if take then (if x.launches.contains id then x.launches else x.launches ++ [id]) else x.launches.filter (· != id) }))

/-- Ask for acceptance of a launch of slot `n` on plane `p` at `t` (R237, R247, R574, R581). `lead` is the notice needed. -/
def acceptLaunch (p n : Nat) (t : NetTime) (lead : NetTime) (hit : Bool) (pipe : Option Nat) (s : State) :
    Except Refuse (State × Launch) :=
  let q := s.plane p
  let l := ceilTo t (us q.tickUs)
  let f := (s.slot p n).facet
  let moving := (movingCells s p (facetBefore s p l) f (baseCode s p l)).map (·.1)
  match firstOf ([(decide (t < s.time.now + lead), late), (decide (s.pwr.avs = 2), ⟨2, 0, 0⟩),
      (s.time.st == 4 || (s.linksOf p).any (fun k => (s.link k).st != 2 || refMissing s k), notReady),
      (q.accepted.any (fun a => decide (a.at' < l + us 10) && decide (l < a.at' + us 10)), ⟨2, 0, 0⟩), (rangeRuns s p, conflict 3),
      (decide (32 ≤ q.accepted.length), busy)]) with
  | some e => .error e
  | none =>
    match heldCell s p moving with
    | some e => .error e
    | none =>
      let id := s.launchId
      let checks := checkedCircuits s p (facetBefore s p l) f moving
      let mons := launchMons s p moving (checks.map (·.2.1))
      let fixed := mons.filter (fun m => (s.mon m).setting != 3)
      let la : Launch := { id := id, slot := n, at' := l, facet := f, hit := hit, rounded := decide (l ≠ t)
                           filterReset := !fixed.isEmpty, pipe := pipe, fast := mons, acceptAt := s.time.now }
      let s := { s with launchId := if id + 1 = 2 ^ 32 then 1 else id + 1
                        cal := if (s.cal.visit.map (fun m => (s.monAt m).plane == p && facetLights s f m)).getD false then { s.cal with visit := none } else s.cal }
      let s := each moving s (ownCell p id true)
      let s := each fixed s (fun m s => s.updMon m (fun x => { x with setting := 3, askAt := s.time.now }))
      .ok (s.updPlane p (fun q => { q with accepted := insertLaunch la q.accepted }), la)

/-! ### Reports (R259) -/

/-- The 40 bytes of a launch report. -/
def reportBytes (p : Nat) (l : Launch) : Bytes :=
  le 4 l.id ++ le 2 l.slot ++ le 1 p ++
  le 1 (b1 l.done + 2 * b1 l.hit + 4 * b1 l.rounded + 8 * b1 l.void + 16 * b1 l.cancelled + 32 * b1 l.ended + 64 * b1 l.holdReturn
    + 128 * b1 l.filterReset)
  ++ timeLe l.at' ++ le 2 (l.cells.filter (·.2.changing)).length ++ le 2 (l.cells.filter (fun c => !c.2.changing)).length
  ++ le 2 l.checks.length ++ le 2 (l.checks.filter (·.2.suspect)).length ++ le 2 (l.cells.filter (·.2.timedOut)).length
  ++ le 2 (sat 16 l.peLimited.length) ++ le 4 l.maxSettle ++ le 4 l.doneNs

/-- File a launch's report, and write it to the loupe (R259, R602). -/
def fileReport (p : Nat) (l : Launch) (s : State) : State :=
  let s := s.updPlane p (fun q => { q with reports := (l :: q.reports).take 64 })
  if sourceOn s 5 p then stageRec 5 p (reportBytes p l ++ le 16 0) s else s

/-- A launch lets go of its contexts and monitors (R158, R245, R258).
Log entry 135 (DEDUCED). -/
def releaseLaunch (p : Nat) (l : Launch) (s : State) : State :=
  let s := { s with
    ctxs := tmap {} (fun _ x => { x with launches := x.launches.filter (· != l.id) }) s.ctxs
    mons := tmap {} (fun _ x => if x.taken.contains l.id then { x with taken := x.taken.filter (· != l.id), askAt := s.time.now }
      else x) s.mons }
  s.updPlane p id

/-! ### Completion (R245) -/

/-- Change the launch under way. -/
def updLaunch (p : Nat) (f : Launch → Launch) (s : State) : State :=
  s.updPlane p (fun q => { q with cur := q.cur.map f })

/-- Every checked circuit is resolved and every lit moving cell settled or timed out (R245). -/
def launchOver (l : Launch) : Bool :=
  l.checks.all (fun c => c.2.verified || c.2.suspect) &&
    l.cells.all (fun c => !c.2.lit || c.2.settled.isSome || c.2.timedOut)

/-- The return of a settled cell to HOLD_REGIME (R182, R245). A cell that has left SETTLE since stays as it is. -/
def holdReturn (p cell : Nat) (s : State) : State :=
  match s.armCh p cell false with
  | none => s
  | some a =>
    let r := (s.plane p).cfg.holdRegime
    if (s.ctx a).regime ≠ 1 then s
    else s.updCtx a (fun x => { x with pending := some { regime := r, tick := 1, base := x.injBase, filter := x.injFilter } })

/-- The launch under way completes when it can (R245). -/
def launchCheck (p : Nat) (s : State) : State :=
  match (s.plane p).cur with
  | none => s
  | some l =>
    if l.done ∨ !l.begun ∨ !launchOver l then s
    else
      let back := !(s.plane p).accepted.any (fun a => decide (a.at' < s.time.now + us (s.plane p).cfg.holdMinUs))
      let l := { l with done := true, doneNs := (s.time.now - l.at') / 65536, holdReturn := back }
      let s := releaseLaunch p l (updLaunch p (fun _ => l) s)
      let s := if back then each (l.cells.filter (fun c => c.2.settled.isSome)) s (fun c s => holdReturn p c.1 s) else s
      raiseEvent (242 + p) { plane := p, value := l.id } (fileReport p l s)

/-! ### Suspect circuits (R243) -/

/-- A circuit becomes suspect (R243): its shutter goes under FORCE_ZERO, FACET_CIRCUIT_SUSPECT is raised, and a worker tells its
manager. -/
def suspectCircuit (p inp out : Nat) (s : State) : State :=
  let id := ((s.plane p).cur.map (·.id)).getD 0
  let s := updLaunch p (fun l => { l with checks := match tfind l.checks inp with
    | some c => tput l.checks inp { c with suspect := true }
    | none => l.checks }) s
  let s := s.updPlane p (fun q => { q with showSuspect := q.showSuspect ++ [(inp, out)] })
  let s := planeCount p 4 (contain p inp out (216 + p) s)
  let s := raiseFault (216 + p) { plane := p, inp := inp, out := out, value := id } s
  notice 0 p (216 + p) inp out s.time.now id s

/-- A cell has timed out (R241): its checked circuits become suspect. -/
def cellTimeout (p cell : Nat) (s : State) : State :=
  match (s.plane p).cur with
  | none => s
  | some l =>
    let hit := l.checks.filter (fun c => c.2.cells.contains cell && !c.2.verified && !c.2.suspect)
    let s := updLaunch p (fun l => { l with cells := match tfind l.cells cell with
      | some c => tput l.cells cell { c with timedOut := true }
      | none => l.cells }) s
    let s := raiseFault (220 + p) { plane := p, chan := (s.armCh p cell false).getD 0xFFFF, value := cell } s
    launchCheck p (each hit s (fun c s => suspectCircuit p c.1 c.2.out s))

/-- SETTLE_TIMEOUT (R241). -/
def execSettleTimeout (plane cell : Nat) (s : State) :=
  onUnit plane 2 s (
    match (s.plane plane).cur with
    | none => s
    | some l =>
      match tfind l.cells cell with
      | none => s
      | some c =>
        if c.lit ∧ c.settled = none ∧ !c.timedOut ∧ l.at' + us (s.plane plane).cfg.settleUs ≤ s.time.now then
          cellTimeout plane cell s
        else s)

/-- VERIFY_TIMEOUT (R242): `port` is the circuit's input. -/
def execVerifyTimeout (plane port : Nat) (s : State) :=
  onUnit plane 2 s (
    match (s.plane plane).cur with
    | none => s
    | some l =>
      match tfind l.checks port with
      | none => s
      | some c =>
        if !c.verified ∧ !c.suspect ∧ l.at' + us (s.plane plane).cfg.verifyUs ≤ s.time.now then
          launchCheck plane (suspectCircuit plane port c.out s)
        else s)

/-! ### Beginning (R238 to R240, R246) -/

/-- Load the queue of one channel at a launch (R100, R119, R238). A channel under FORCE_ZERO stays as it is, and an element whose code
does not change carries no pre-emphasis (R230). -/
def loadEntry (t : NetTime) (e : Entry) (code : Nat) (trans pe : Bool) (ch : Nat) (s : State) : State :=
  if forced s ch then s else
  let pe := pe && code != (s.drive ch).out
  s.updDrive ch (fun d => { d with queue := [
    { code := code, amp := if pe then ampRange s ch e.amp else 0, dur := if pe then e.dur else 0, trans := trans, notBefore := t }] })

/-- A moving, lit cell at the launch (R239): SETTLE, waiting, held until its pre-emphasis ends; a capture ends (R202). A cell with an arm
under FORCE_ZERO stays in OPEN (R184). -/
def startCell (t e : NetTime) (expect : Int) (a : Nat) (s : State) : State :=
  if forced s a || forced s (a + 1) then goOpen a s else
  let fresh := (s.ctx a).regime == 0
  let s := stopCapture a s
  let s := each [a, a + 1] s (fun c s => (s.updCtx c (fun x => { x with regime := 1, pending := none })).updDrive c queueArm)
  s.updCtx a (fun x => { x with
    waiting := true, holdUntil := some (max e t), target := expect * 256, updates := 0, outs := [], force := none, undo := none
    eBlk := if fresh then 0 else x.eBlk, eAcc := if fresh then [] else x.eAcc })

/-- A showing begins for a context (R252): it has been out of HOLD, SETTLE and PAIRED so far when it stands in OPEN or INJECT. -/
def beginShowing (x : Ctx) : Ctx := { x with updates := 0, showBroken := x.regime == 0 || x.regime == 4 }

/-- A moving cell runs in the range that its map entry does not give (R119). -/
def offRange (s : State) (p : Nat) (cells : List Nat) : Bool :=
  cells.any (fun i => match s.armCh p i false with
    | some a => [a, a + 1].any (fun c => (s.drive c).high != (s.elemAt c).high)
    | none => false)

/-- The update tick at which the entries of a launch that begins now leave the queues (R100, R246): a launch that begins late, or after
its update tick, has this one in place of its L.
Log entry 173 (DEDUCED). -/
def beginAt (s : State) (p : Nat) (l : Launch) : NetTime :=
  max l.at' (if atBoundary s p then tickBoundary s p else tickBoundary s p + us (s.plane p).tickUs)

/-- A launch takes monitors until it is complete (R157, R158, R246). -/
def takeMons (id : Nat) (mons : List Nat) (t : NetTime) (s : State) : State :=
  each mons s (fun m s => s.updMon m (fun x =>
    if x.taken.contains id then x else { x with taken := x.taken ++ [id], askAt := t }))

/-- The output ports whose circuit a facet changes: the samples of another circuit count no further there (R244). -/
def newOutputs (old : Option Facet) (f : Facet) : List Nat :=
  ((circuitsOf f.perm).filter (fun c => match old with | some o => permAt o.perm c.1 != c.2 | none => true)).map (·.2)

/-- The launch begins (R238 to R240, R246, R255).
Log entry 178 (DESIGN CHOICE). -/
def beginLaunch (p : Nat) (l : Launch) (s : State) : State :=
  let q := s.plane p
  let tick := us q.tickUs
  let l := { l with at' := beginAt s p l }
  let old := q.force
  let f := l.facet
  let n := s.ports p
  let lit := litCells n f
  let moving := movingCells s p old f (fun ch => (s.drive ch).out)
  let unverified : List Nat := match q.cur with
    | some c => if c.done then [] else (c.checks.filter (fun (k : Nat × Check) => !k.2.verified && !k.2.suspect && permAt f.perm k.1 == k.2.out)).map (·.1)
    | none => []
  let s := match q.cur with
    | some c => if c.done then s else releaseLaunch p { c with ended := true } (fileReport p { c with ended := true } s)
    | none => s
  let opening := openingPorts old f
  let closing : List Nat := match old with | none => [] | some o => ((circuitsOf o.perm).map (·.1)).filter (fun i => permAt f.perm i == 0xFFFF)
  let cellOf : Nat → Option (Nat × Bool) := fun i => moving.find? (fun (m : Nat × Bool) => m.1 == i)
  let s := each (planeCells s p) s (fun c s =>
    let a := c.2
    let ea := tget {} f.entries a
    let mv := cellOf c.1
    let pe := (mv.map (·.2)).getD false
    let s := s.updCtx a beginShowing
    let s := if lit.contains c.1 then
        (if mv.isSome then startCell l.at' (l.at' + (if pe then ea.dur * tick else 0)) ea.expect a s else s)
      else goOpen a s
    each [a, a + 1] s (fun ch s => loadEntry l.at' (tget {} f.entries ch) (entryCode s f ch) mv.isSome pe ch s))
  let s := fzRestart s (each (List.range n) s (fun i s =>
    match s.shutterCh p i with
    | none => s
    | some ch =>
      let dark := q.dark.contains (i, permAt f.perm i)
      let s := if !dark then s.updDrive ch (fun d => { d with fzWithdrawn := false })
        else if (s.drive ch).fzWithdrawn then s else forceZero ch (fun d => { d with fzWithdrawn := true }) s
      let moves := opening.contains i || closing.contains i
      loadEntry l.at' (tget {} f.entries ch) (entryCode s f ch) moves (opening.contains i) ch s))
  let cells : Tab CellRun := moving.foldl (fun t m =>
    let ea := ((s.armCh p m.1 false).map (tget {} f.entries)).getD {}
    tput t m.1 { changing := m.2, e := l.at' + (if m.2 then ea.dur * tick else 0), lit := lit.contains m.1 }) []
  let on := checkedCircuits s p old f (moving.map (·.1))
  let more := (checkable s p f).filter (fun c => unverified.contains c.1 && !on.any (fun k => k.1 == c.1))
  let mk := fun (t : Tab Check) (k : Nat × Nat × List Nat) =>
    let sd := ((s.shutterCh p k.1).map (fun ch => (tget {} f.entries ch).dur)).getD 0
    tput t k.1 { out := k.2.1, cells := k.2.2, shutterE := l.at' + (if opening.contains k.1 then sd * tick else 0) }
  let checks : Tab Check := more.foldl (fun t c => mk t (c.1, c.2, [])) (on.foldl mk [])
  let s := each (moving.map (·.1)) s (ownCell p l.id true)
  let mons := launchMons s p (moving.map (·.1)) (checks.map (·.2.out))
  let s := takeMons l.id mons s.time.now s
  let s := each (newOutputs old f) s (fun o s => match s.outMon p o with
    | some m => s.updMon m (fun y => { y with outRun := 0 })
    | none => s)
  let la := { l with begun := true, cells := cells, checks := checks, fast := mons, void := l.void || offRange s p (moving.map (·.1)) }
  let s := s.updSlot p l.slot (fun x => if x.valid then { x with showings := sat 32 (x.showings + 1), shown := l.at' } else x)
  let s := planeCount p 3 s
  let s := s.updPlane p (fun q => { q with
    cur := some la, accepted := q.accepted.filter (fun a => a.id != l.id), force := some f, forceSlot := l.slot
    showing := some (l.at', l.slot, []), showSuspect := [] })
  launchCheck p s

/-- LAUNCH_TIME (R239, R246): the oldest accepted launch begins at its time, or when its plane's links are no longer frozen. -/
def execLaunchTime (plane launch : Nat) (s : State) :=
  onUnit plane 2 s (
    match (s.plane plane).accepted with
    | [] => s
    | l :: _ =>
      if l.id ≠ launch ∨ s.time.now < l.at' then s
      else if (s.linksOf plane).any (fun k => frozen s (k * 1152)) then
        (if l.void then s
         else raiseFault (222 + plane) { plane := plane, value := l.id } (s.updPlane plane (fun q => { q with
           accepted := q.accepted.map (fun a => if a.id = l.id then { a with void := true } else a) })))
      else beginLaunch plane l s)

/-- The monitors of an accepted launch as the launches before it now stand (R157, R158, R238). -/
def leadMons (s : State) (p : Nat) (l : Launch) : List Nat :=
  let old := facetBefore s p l.at'
  let moving := (movingCells s p old l.facet (baseCode s p l.at')).map (·.1)
  launchMons s p moving ((checkedCircuits s p old l.facet moving).map (·.2.1))

/-- LAUNCH_FAST_LEAD (R158): from 3 us before the launch, AUTO puts its monitors in FAST. -/
def execLaunchFastLead (plane launch : Nat) (s : State) :=
  onUnit plane 2 s (
    match (s.plane plane).accepted.find? (fun l => l.id == launch) with
    | none => s
    | some l =>
      if l.at' ≤ s.time.now + us 3 then
        takeMons l.id (leadMons s plane l) (max (l.at' - us 3) l.acceptAt) s
      else s)

/-- PRE_EMPHASIS_END (R101, R239): at E the context of the cell enters SETTLE by soft-start, its output held at the code in force. -/
def execPreEmphasisEnd (ch : Nat) (s : State) :=
  onUnit ch 9216 s (
    let a := governs s ch
    match (s.ctx a).holdUntil with
    | some e =>
      if e ≤ s.time.now ∧ (s.ctx a).force = none ∧ (s.drive (corrArm s a)).loopCode = none then
        (softArms 1 a s).updCtx a (fun x => { x with waiting := true })
      else s
    | none => s)

/-! ### Settling and verification by samples (R240, R242, R244) -/

/-- A sample that carries VALID and no tag (R159).
Log entry 135 (DEDUCED). -/
def cleanSample (x : Sample) : Bool := x.valid && !x.ovr && !x.dist && !x.settle && !x.refnr

/-- A reading lies within SETTLE_TOL of the set-point (R240, R529). -/
def inTolerance (s : State) (p cell : Nat) (expect v : Int) : Bool :=
  let k := cellCal s p cell
  decide ((v - expect * 256).natAbs * 65536 ≤ k.tol * k.mMax)

/-- A reading lies in the band of a circuit (R242). -/
def inBand (c : FacetCfg) (expect v : Int) : Bool :=
  if expect = 0 then decide ((c.lightMin : Int) ≤ v) && decide (v ≤ 0x7FFFFF)
  else decide (0 < expect) && decide (0 < v) &&
    decide ((expect.natAbs * 256) ^ 100 ≤ v.natAbs ^ 100 * 10 ^ c.verifyLo) &&
    decide (v.natAbs ^ 100 ≤ (expect.natAbs * 256) ^ 100 * 10 ^ c.verifyHi)

/-- A cell monitor's sample in settle detection (R240). -/
def settleSample (m : Nat) (x : Sample) (s : State) : State :=
  let e := s.monAt m
  let cell := s.cellNo e
  match (s.plane e.plane).cur with
  | none => s
  | some l =>
    match tfind l.cells cell with
    | none => s
    | some c =>
      if l.done ∨ !c.lit ∨ c.settled.isSome ∨ c.timedOut ∨ x.filter ≠ 0 ∨ x.time < c.e + us 3 then s
      else
        let a := s.armCh e.plane cell false
        let good := cleanSample x && inTolerance s e.plane cell ((a.map (fun a => (tget {} l.facet.entries a).expect)).getD 0) x.value
        if good && c.okOnce then
          let s := updLaunch e.plane (fun l => { l with
            cells := tput l.cells cell { c with settled := some x.time }
            maxSettle := max l.maxSettle ((x.time - l.at') / 65536) }) s
          let s := match a with | some a => s.updCtx a (fun y => { y with updates := 0 }) | none => s
          let s := s.updPlane e.plane (fun q => { q with showing := q.showing.map (fun w => (w.1, w.2.1, insertAsc cell w.2.2)) })
          launchCheck e.plane s
        else updLaunch e.plane (fun l => { l with cells := tput l.cells cell { c with okOnce := good } }) s

/-- The ready time of a checked circuit, when every moving lit cell on its path has settled (R242). -/
def readyTime (l : Launch) (c : Check) : Option NetTime :=
  c.cells.foldl (fun (t : Option NetTime) i =>
    match t, (tfind l.cells i).bind (·.settled) with
    | some t, some w => some (max t w)
    | _, _ => none) (some c.shutterE)

/-- An output monitor's sample in verification and supervision (R242, R244). An overloaded sample is out of tolerance in verification
(R159) and counts by its value in supervision.
Log entry 135 (DEDUCED). -/
def verifySample (m : Nat) (x : Sample) (s : State) : State :=
  let e := s.monAt m
  let p := e.plane
  let q := s.plane p
  let cal := (s.cal.run.map (fun r => r.plane == p)).getD false
  let expectOfPort := fun (i : Nat) => ((s.shutterCh p i).bind (fun ch => q.force.map (fun f => (tget {} f.entries ch).expect))).getD 0
  if !loopAdmits x ∨ cal then s
  else match q.force.bind (fun f => (circuitsOf f.perm).find? (fun c => c.2 == e.index)) with
  | none =>
    if (q.cfg.darkMax : Int) < x.value then
      raiseCond (218 + p) e.index { plane := p, out := e.index, chan := m }
        (s.updPlane p (fun q => { q with lit := tput q.lit e.index x.time }))
    else if (match tfind q.lit e.index with | some t => decide (t + ms 1 ≤ x.time) | none => false) then
      endCond (218 + p) e.index (s.updPlane p (fun q => { q with lit := tdel q.lit e.index }))
    else s
  | some c =>
    let busyCheck := match q.cur with
      | some l => if l.done then none else (tfind l.checks c.1).bind (fun k => if k.verified || k.suspect then none else some (l, k))
      | none => none
    match busyCheck with
    | some (l, k) =>
      if x.filter ≠ 0 then s
      else match readyTime l k with
      | none => s
      | some t =>
        if x.time < t + us 1 then s
        else if x.ovr || !inBand q.cfg (expectOfPort c.1) x.value then launchCheck p (suspectCircuit p c.1 c.2 s)
        else
          let k := { k with samples := k.samples ++ [x.value], verified := decide (q.cfg.verifyN ≤ k.samples.length + 1) }
          launchCheck p (updLaunch p (fun l => { l with checks := tput l.checks c.1 k }) (s.updMon m (fun y => { y with outRun := 0 })))
    | none =>
      if q.fzDark ∨ q.dark.contains c then s
      else if inBand q.cfg (expectOfPort c.1) x.value then s.updMon m (fun y => { y with outRun := 0 })
      else
        let n := (s.mon m).outRun + 1
        if q.cfg.verifyN ≤ n then suspectCircuit p c.1 c.2 (s.updMon m (fun y => { y with outRun := 0 }))
        else s.updMon m (fun y => { y with outRun := n })

/-- SAMPLE_DELIVER (R143 to R159): the oldest sample that waits goes to its consumers; one that MON_EN 0 kept from being taken is missing
for its loop alone. -/
def deliver (m : Nat) (s : State) : State :=
  match (s.mon m).ready with
  | [] => s
  | x :: rest =>
    let s := s.updMon m (fun y => { y with ready := rest })
    let s := if x.absent then s else countSample (m / 640) x s
    let s := if x.absent || x.counted then s else accumulate m x s
    let e := s.monAt m
    if e.kind = 1 then
      let s := match monCtx s m with
        | some c => loopSample (filterSpan x.filter * modTick) x c s
        | none => s
      if x.absent then s else settleSample m x s
    else if e.kind = 2 ∧ !x.absent then verifySample m x s
    else s

/-- SAMPLE_DELIVER. -/
def execSampleDeliver (mon : Nat) (s : State) := onUnit mon 5120 s (deliver mon s)

/-! ### Learning (R252, R253) -/

/-- A cell of the showing may be folded (R252); a circuit that was dark before the showing is not lit in it and is not asked for
(R222, R271). -/
def mayFold (s : State) (p : Nat) (t : NetTime) (settled : List Nat) (cell : Nat) : Bool :=
  match s.armCh p cell false, (s.plane p).cur with
  | some a, some l =>
    let x := s.ctx a
    (settled.contains cell || ((tfind l.cells cell).isNone && !x.showBroken && (x.regime == 1 || x.regime == 2 || x.regime == 3)))
      && ((s.plane p).force.map (fun f => (circuitsOf f.perm).all (fun c =>
            !(pathCells (s.ports p) f c.1).contains cell ||
            (!(s.plane p).showSuspect.contains c &&
              (match tfind l.checks c.1 with | some k => k.verified && !k.suspect | none => true))))).getD false
      && !x.starved && !x.saturated && (x.ovrAt == 0 || decide (x.ovrAt < t)) && decide ((s.plane p).cfg.learnMin ≤ x.updates)
  | _, _ => false

/-- The readings of the verified circuits of the launch (R253): input port, sum and number of the verification samples. -/
def readOuts (q : Plane) : List (Nat × Int × Nat) :=
  ((q.cur.map (·.checks)).getD []).filterMap (fun c =>
    if c.2.verified && !c.2.suspect && !c.2.samples.isEmpty then some (c.1, c.2.samples.foldl (· + ·) 0, c.2.samples.length) else none)

/-- LEARN_READ (R252): 3 us before the next launch the showing is read. -/
def execLearnRead (plane : Nat) (s : State) :=
  onUnit plane 2 s (
    let q := s.plane plane
    match q.showing, q.accepted.head?, q.force with
    | some (t, n, settled), some nx, some f =>
      if s.time.now + us 3 < nx.at' ∨ q.cfg.lambda = 0 ∨ !slotValid s plane n ∨ (s.slot plane n).learnOff then s
      else
        let cells := (litCells (s.ports plane) f).filter (mayFold s plane t settled)
        let rd := cells.filterMap (fun i => (s.armCh plane i false).map (fun a => (a, (s.ctx a).integ, (s.ctx a).regime == 3)))
        s.updPlane plane (fun q => { q with learn := rd, learnOut := readOuts q, learnSlot := n, showing := none })
    | _, _, _ => s)

/-- Add to a TARGET_CODE within the arm's hold window (R253): the entry, and whether it was clamped. -/
def foldCode (s : State) (ch : Nat) (d : Int) (e : Entry) : Entry × Bool :=
  if e.frozen then (e, false) else
  let w := windowOf s ch
  let v := (e.code : Int) + d
  ({ e with code := (clampI v w.1 w.2).toNat, learned := true, host := false }, decide (v < w.1) || decide (w.2 < v))

/-- Fold one cell's integrator into the entries of its arms (R253). -/
def foldCell (s : State) (p : Nat) (r : Nat × Int × Bool) (t : Tab Entry × Bool) : Tab Entry × Bool :=
  let a := r.1
  let lam : Int := (s.plane p).cfg.lambda
  if r.2.2 then
    let d := divRound (lam * fromRangeI s a r.2.1) (512 * 2 ^ 20)
    let x := foldCode s a d (tget {} t.1 a)
    let y := foldCode s (a + 1) (-d) (tget {} t.1 (a + 1))
    (tset {} (tset {} t.1 a x.1) (a + 1) y.1, t.2 || x.2 || y.2)
  else
    let c := corrArm s a
    let x := foldCode s c (divRound (lam * fromRangeI s c r.2.1) (256 * 2 ^ 20)) (tget {} t.1 c)
    (tset {} t.1 c x.1, t.2 || x.2)

/-- Fold one verified circuit's mean into its shutter's EXPECT (R253). -/
def foldOut (s : State) (p : Nat) (r : Nat × Int × Nat) (t : Tab Entry) : Tab Entry :=
  match s.shutterCh p r.1 with
  | none => t
  | some ch =>
    let e := tget {} t ch
    if e.frozen then t
    else
      let v := if e.expect = 0 then divRound r.2.1 (256 * r.2.2)
        else e.expect + divRound (((s.plane p).cfg.lambda : Int) * (r.2.1 - e.expect * (256 * r.2.2))) (65536 * r.2.2)
      tset {} t ch { e with expect := clampI v (-32768) 32767, learned := true, host := false }

/-- LEARN_FOLD_WRITE (R253): the reading is folded into its slot. -/
def execLearnFoldWrite (plane : Nat) (s : State) :=
  onUnit plane 2 s (
    let q := s.plane plane
    if (q.learn = [] ∧ q.learnOut = []) ∨ !slotValid s plane q.learnSlot then
      s.updPlane plane (fun q => { q with learn := [], learnOut := [] })
    else
      let r := q.learn.foldl (fun t x => foldCell s plane x t) ((s.slot plane q.learnSlot).facet.entries, false)
      let t := q.learnOut.foldl (fun t x => foldOut s plane x t) r.1
      let s := s.updSlot plane q.learnSlot (fun x => { x with
        facet := { x.facet with entries := t }, folds := (x.folds + 1) % 2 ^ 32 })
      let s := planeCount plane 5 (s.updPlane plane (fun q => { q with learn := [], learnOut := [] }))
      if r.2 then raiseFault (226 + plane) { plane := plane, value := q.learnSlot } s else s)

/-! ### Launch commands -/

/-- The refusal of a launch by the plane's regime (R257). -/
def regimeRefusal (s : State) (p : Nat) : List (Bool × Refuse) :=
  [(s.em.hostDark || (s.plane p).regime == 0, notReady), (scheduling (s.plane p).regime, conflict 7)]

/-- The answer of `facet.launch` for slot `n` (R257). -/
def launchReply (n : Nat) (x : Except Refuse (State × Launch)) : Ran :=
  match x with
  | .error e => .error e
  | .ok (s, l) => ok s (le 4 l.id ++ le 2 n ++ le 1 (b1 l.hit + 2 * b1 l.rounded) ++ le 1 0 ++ timeLe l.at')

/-- The launch of a facet that has been looked up (R237). -/
def builtLaunch (p : Nat) (t : NetTime) (x : Except Refuse (Nat × Bool × State)) : Ran :=
  match x with
  | .error e => .error e
  | .ok (n, hit, s) => launchReply n (acceptLaunch p n t (us 20) hit none s)

/-- `facet.launch` (R237, R257). -/
def cmdFacetLaunch : Cmd where
  op := 0x0805
  checks p s := [selPlane s p 0, sel p 1 1 0 1] ++
    layout ([1, 1, 2, 12] ++ (if fld p 1 1 = 1 then entries (s.ports (fld p 0 1)) [2] else [])) p ++
    [(fld p 1 1 == 0 && decide (slotCount s (fld p 0 1) ≤ fld p 2 2), bad 2), badTime p 4] ++
    (if fld p 1 1 = 1 then permChecks s p 16 (s.ports (fld p 0 1)) else [])
  floor _ _ := 700
  run r s :=
    let p := fld r.pay 0 1
    let t := timeAt r.pay 4
    guarded (regimeRefusal s p)
      (if fld r.pay 1 1 = 0 then
         (if slotValid s p (fld r.pay 2 2) then launchReply (fld r.pay 2 2) (acceptLaunch p (fld r.pay 2 2) t (us 10) true none s) else .error empty)
       else if !commissioned s p then .error notReady
       else builtLaunch p t (lookup p (permOf r.pay 16 (s.ports p)) true s))

/-- Meaning of `facet.launch`. -/
def execFacetLaunch (req : Req) (s : State) := command cmdFacetLaunch req s

/-- Withdraw an accepted launch (R258). -/
def withdrawLaunch (p : Nat) (l : Launch) (s : State) : State :=
  let l := { l with cancelled := true }
  fileReport p l (releaseLaunch p l (s.updPlane p (fun q => { q with accepted := q.accepted.filter (fun a => a.id != l.id) })))

/-- `facet.cancel` (R258). -/
def cmdFacetCancel : Cmd where
  op := 0x0806
  checks p s := layout [1, 3, 4] p ++ [badPlane s p 0, resv p 1 3]
  run r s :=
    let p := fld r.pay 0 1
    let id := fld r.pay 4 4
    match (s.plane p).accepted.find? (fun l => l.id == id) with
    | some l => if l.at' ≤ s.time.now + us 3 then .error late else ok (withdrawLaunch p l s)
    | none => if (s.plane p).reports.any (fun l => l.id == id) || ((s.plane p).cur.map (fun l => l.id == id)).getD false
        then .error late else .error empty

/-- Meaning of `facet.cancel`. -/
def execFacetCancel (req : Req) (s : State) := command cmdFacetCancel req s

/-- The launches of a plane that a report may be asked of, newest first. -/
def knownLaunches (s : State) (p : Nat) : List Launch :=
  let q := s.plane p
  (q.accepted.reverse ++ (match q.cur with | some l => if l.done then [] else [l] | none => []) ++ q.reports).take 64

/-- `facet.report` (R259): LAUNCH_ID 0 asks for the newest identifier.
Log entry 135 (DEDUCED). -/
def cmdFacetReport : Cmd where
  op := 0x0807
  checks p s := layout [1, 3, 4] p ++ [badPlane s p 0, resv p 1 3]
  run r s :=
    let p := fld r.pay 0 1
    let id := fld r.pay 4 4
    let l := knownLaunches s p
    match (if id = 0 then l.foldl (fun (b : Option Launch) x => match b with
        | none => some x | some y => if serialLater 32 x.id y.id then some x else some y) none
      else l.find? (fun x => x.id == id)) with
    | none => .error empty
    | some x => ok s (reportBytes p x)

/-- Meaning of `facet.report`. -/
def execFacetReport (req : Req) (s : State) := command cmdFacetReport req s

end Sys2Proof.Machine
end

