-- ==== Sys2Proof/Machine/Frame.lean ====
section
/-! DEFINITION. The tick frames of a bezel link: scrambler, CRC-24, and the payload fields of both directions
(R50 to R62, R66, R71, R72). -/

namespace Sys2Proof.Machine

/-- SYNC of a down-lane or an up-lane frame (R53). -/
def syncOf (lane : Nat) : Nat := if lane ≤ 2 then 0x1D2 else 0x2D

/-- Seed of the scrambler (R54). -/
def seedOf (lane seq : Nat) : Nat := 0x400000 ||| lane * 2 ^ 19 ||| seq * 2 ^ 15 ||| 0x5A5A

/-- One bit of the scrambler: the next state, and the keystream so far with this bit behind it. -/
def scrambleStep (a : Nat × Nat) : Nat × Nat :=
  let fb := (a.1 / 2 ^ 22 + a.1 / 2 ^ 17) % 2
  (a.1 * 2 % 2 ^ 23 + fb, a.2 * 2 + fb)

/-- The 1,088 scrambler bits of a frame as a number, first bit most significant (R54). -/
def keystream (lane seq : Nat) : Nat := ((List.range 1088).foldl (fun a _ => scrambleStep a) (seedOf lane seq, 0)).2

/-- CRC-24 over the `n` bits of a number, first bit most significant (R55). -/
def crc24 (n v : Nat) : Nat :=
  (List.range n).foldl (fun c i =>
    let fb := (c / 2 ^ 23 + v / 2 ^ (n - 1 - i)) % 2
    (c * 2 % 2 ^ 24) ^^^ (if fb = 1 then 0x864CFB else 0)) 0xB704CE

/-- The CRC of a frame: payload as on the line, then the SEQ bits (R55). -/
def frameCrc (payload seq : Nat) : Nat := crc24 1092 (payload % 2 ^ 1088 * 16 + seq % 16)

/-- A lane frame is valid against the expected SEQ (R56); with no SEQ expected yet, any SEQ is taken.
Log entry 139 (DEDUCED). -/
def laneOk (lane : Nat) (seq : Option Nat) (f : LaneFrame) : Bool :=
  f.sync == syncOf lane && f.crc == frameCrc f.payload f.seq && f.onTime && f.seq == seq.getD f.seq && decide (f.seq < 16)

/-- The payload of a lane frame, descrambled (R54). -/
def payloadOf (lane : Nat) (f : LaneFrame) : Nat := f.payload % 2 ^ 1088 ^^^ keystream lane f.seq

/-- The lane frame that carries a payload (R53). -/
def mkFrame (lane seq payload : Nat) : LaneFrame :=
  let line := payload % 2 ^ 1088 ^^^ keystream lane seq
  { sync := syncOf lane, payload := line, crc := frameCrc line seq, seq := seq }

/-- The 1,125 bits of a lane frame as a number, first bit most significant. -/
def lineBits (f : LaneFrame) : Nat := f.sync * 2 ^ 1116 + f.payload * 2 ^ 28 + f.crc * 16 + f.seq

/-! ### Pattern generators of the lanes (R591) -/

/-- Length and second tap of the shift register of lane pattern 1 to 5 (R591): PRBS7, PRBS9, PRBS15, PRBS23, PRBS31 of ITU-T O.150. -/
def laneTaps (pat : Nat) : Nat × Nat :=
  match pat with
  | 1 => (7, 6)
  | 2 => (9, 5)
  | 3 => (15, 14)
  | 4 => (23, 18)
  | _ => (31, 28)

/-- One bit of a lane pattern from its register, and the register after it; of the user pattern, bit 39 first (R591). -/
def laneBit (pat user r : Nat) : Bool × Nat :=
  if pat = 6 then (bit user (39 - r % 40), (r + 1) % 40)
  else
    let t := laneTaps pat
    (bit r (t.1 - 1), (2 * r + b1 (bit r (t.1 - 1) != bit r (t.2 - 1))) % 2 ^ t.1)

/-- The next `n` bits of a lane pattern behind those of `a`, first bit most significant, and its register.
Log entry 130 (PRESUMED). -/
def laneGen (pat user : Nat) : Nat → Nat → Nat → Nat × Nat
  | 0, r, a => (a, r)
  | n + 1, r, a => laneGen pat user n (laneBit pat user r).2 (2 * a + b1 (laneBit pat user r).1)

/-- Where a generator starts: the user pattern at its first bit, a PRBS at a state that the free value `d` gives, never all zeros
(log entry 2, DESIGN CHOICE). -/
def laneSeed (pat d : Nat) : Nat := if pat = 6 then 0 else 1 + d % (2 ^ (laneTaps pat).1 - 1)

/-- The bits of one tick of a lane under pattern `pat`, from its register or, at its start, from the free value `d`. -/
def laneTick (pat user : Nat) (inv : Bool) (reg : Option Nat) (d : Nat) : Nat × Nat :=
  let r := laneGen pat user 1125 (reg.getD (laneSeed pat d)) 0
  (if inv then 2 ^ 1125 - 1 - r.1 else r.1, r.2)

/-- A lane frame of any 1,125 bits, as a free value gives them. -/
def anyLane (v : Nat) : LaneFrame :=
  { sync := v % 512, payload := v / 512 % 2 ^ 1088, crc := v / 2 ^ 1097 % 2 ^ 24, seq := v / 2 ^ 1121 % 16 }

/-- The field of `n` bits at payload offset `o` (R51). -/
def pfield (v o n : Nat) : Nat := v / 2 ^ (1088 - o - n) % 2 ^ n

/-- A value placed in the field of `n` bits at payload offset `o`. -/
def pput (o n v : Nat) : Nat := v % 2 ^ n * 2 ^ (1088 - o - n)

/-! ### Down-frames -/

/-- The CMD slot as a 256-bit number (R71). -/
def cmdBits (c : BezelCmd) : Nat :=
  c.op % 256 * 2 ^ 248 + c.tag % 256 * 2 ^ 240 + c.addr % 65536 * 2 ^ 224
    + (List.range 6).foldl (fun a i => a + c.data.getD i 0 % 2 ^ 32 * 2 ^ (160 - 32 * i)) 0

/-- The command of a CMD slot. -/
def cmdOf (v : Nat) : BezelCmd :=
  { op := v / 2 ^ 248 % 256, tag := v / 2 ^ 240 % 256, addr := v / 2 ^ 224 % 65536
    data := (List.range 6).map (fun i => v / 2 ^ (160 - 32 * i) % 2 ^ 32) }

/-- DRIVE of a lane (R58). -/
def driveBits (levels : Tab Nat) (lane : Nat) : Nat :=
  (levels.filter (fun e => e.1 / 384 == lane)).foldl (fun a e => a + pput (2 * (e.1 % 384)) 2 e.2) 0

/-- The three payloads of a down-frame (R57). -/
def downPayload (f : DownFrame) (lane : Nat) : Nat :=
  driveBits f.levels lane +
  (if lane = 0 then
    pput 768 32 (b1 f.dark * 2 ^ 31) + pput 800 256 (cmdBits f.cmd)
      + pput 1056 32 (match f.segment with | some g => 2 ^ 31 + g | none => 0)
   else if lane = 1 then
    (f.rbStart.foldl (fun a e => a + pput (768 + 16 * e.1) 16 (e.2 * 256 + 128)) 0)
      + (List.range 6).foldl (fun a i => a + pput (896 + 32 * i) 32 (f.data.getD i 0)) 0
   else (range' 6 10).foldl (fun a i => a + pput (768 + 32 * (i - 6)) 32 (f.data.getD i 0)) 0)

/-- What a bezel takes from the three descrambled payloads of a down-frame. -/
def downOf (seq p0 p1 p2 : Nat) : DownFrame :=
  let p := fun (c : Nat) => if c / 384 = 0 then p0 else if c / 384 = 1 then p1 else p2
  let h := pfield p0 1056 32
  { seq := seq
    levels := (List.range 1152).filterMap (fun c =>
      let v := pfield (p c) (2 * (c % 384)) 2
      if v = 0 then none else some (c, v))
    dark := bit (pfield p0 768 32) 31
    rbStart := (List.range 8).filterMap (fun j =>
      let v := pfield p1 (768 + 16 * j) 16
      if bit v 7 then some (j, v / 256) else none)
    cmd := cmdOf (pfield p0 800 256)
    segment := if bit h 31 then some (h % 128) else none
    data := (List.range 16).map (fun i => if i < 6 then pfield p1 (896 + 32 * i) 32 else pfield p2 (768 + 32 * (i - 6)) 32) }

/-! ### Up-frames -/

/-- The response of a RESP slot, 160 bits (R72). -/
def respOf (v : Nat) : BezelResp :=
  { op := v / 2 ^ 152 % 256, tag := v / 2 ^ 144 % 256, status := v / 2 ^ 136 % 256
    data := (List.range 4).map (fun i => v / 2 ^ (96 - 32 * i) % 2 ^ 32) }

/-- A RESP slot as a 160-bit number. -/
def respBits (r : BezelResp) : Nat :=
  r.op % 256 * 2 ^ 152 + r.tag % 256 * 2 ^ 144 + r.status % 256 * 2 ^ 136
    + (List.range 4).foldl (fun a i => a + r.data.getD i 0 % 2 ^ 32 * 2 ^ (96 - 32 * i)) 0

/-- `n` bits whose bit `i` stands at payload offset `o + i`. -/
def bitsAt (p o n : Nat) : Nat := (List.range n).foldl (fun a i => a + pfield p (o + i) 1 * 2 ^ i) 0

/-- The fields of an up-frame payload (R62). -/
def upOf (p : Nat) : UpFrame :=
  let e := pfield p 1072 16
  { mon := BitVec.ofNat 640 (bitsAt p 0 640), rb := BitVec.ofNat 8 (bitsAt p 640 8), ovrGroup := BitVec.ofNat 80 (bitsAt p 648 80)
    ovrList := (List.range 8).filterMap (fun i =>
      let v := pfield p (728 + 11 * i) 11
      if bit v 10 then some (v % 1024) else none)
    status := BitVec.ofNat 32 (pfield p 816 32), temps := (List.range 4).map (fun i => pfield p (848 + 16 * i) 16)
    resp := respOf (pfield p 912 160), started := BitVec.ofNat 8 (e / 256), applied := bit e 7, segment := e % 128 }

/-- The payload of an up-frame (R62). -/
def upPayload (u : UpFrame) : Nat :=
  (List.range 640).foldl (fun a i => a + pput i 1 (b1 (u.mon.getLsbD i))) 0
    + (List.range 8).foldl (fun a i => a + pput (640 + i) 1 (b1 (u.rb.getLsbD i))) 0
    + (List.range 80).foldl (fun a i => a + pput (648 + i) 1 (b1 (u.ovrGroup.getLsbD i))) 0
    + (List.range 8).foldl (fun a i => a + pput (728 + 11 * i) 11 (match u.ovrList[i]? with | some c => 1024 + c | none => 0)) 0
    + pput 816 32 u.status.toNat + (List.range 4).foldl (fun a i => a + pput (848 + 16 * i) 16 (u.temps.getD i 0)) 0
    + pput 912 160 (respBits u.resp) + pput 1072 16 (u.started.toNat * 256 + b1 u.applied * 128 + u.segment % 128)

/-- The two up-lane frames with SEQ `seq`, as numbers of 1,125 bits: both carry the same payload (R62, R63). -/
def upLines (seq : Nat) (u : UpFrame) : Nat × Nat :=
  (lineBits (mkFrame 3 seq (upPayload u)), lineBits (mkFrame 4 seq (upPayload u)))

end Sys2Proof.Machine
end

