-- ==== Sys2Proof/Machine/Link.lean ====
section
/-! DEFINITION. The KV512's side of a bezel link: training, commands, the modulator tick, up-frames, readback
conversions and LIGHT_EN (R48 to R92, R112, R125 to R130, R555), and the link commands (R505 to R507). -/

namespace Sys2Proof.Machine

/-- Event data of a link. -/
def linkData (s : State) (l : Nat) : EvData := { plane := (s.linkPlane l).getD 0xFF, link := l }

/-- Event data of an element channel. -/
def chanData (s : State) (ch : Nat) : EvData :=
  { plane := if (s.elemAt ch).kind = 0 then (s.linkPlane (ch / 1152)).getD 0xFF else (s.elemAt ch).plane, link := ch / 1152, chan := ch }

/-! ### The bezel reset line -/

/-- What a low BZ_RST_N leaves in a bezel (R82): only its supplies and its view of LIGHT_EN carry on. -/
def bezelReset (b : Bezel) : Bezel :=
  { supplyOk := b.supplyOk, supplyAt := b.supplyAt, powered := b.powered, htrOpen := b.htrOpen, htrShort := b.htrShort, vhtr := b.vhtr
    lightPin := b.lightPin, lightAt := b.lightAt, qualified := b.qualified, lowSeen := !b.lightPin }

/-- Drive BZ_RST_N of a link. -/
def bzDrive (l : Nat) (high : Bool) (s : State) : State :=
  { s with pins := { s.pins with
    bz := if high then s.pins.bz ||| (1#8 <<< l) else s.pins.bz &&& ~~~(1#8 <<< l) } }

/-- BZ_RST_N of a link is high. -/
def State.bzHigh (s : State) (l : Nat) : Bool := s.pins.bz.getLsbD l

/-! ### Commands to the bezel (R71 to R75) -/

/-- The next TAG in turn that no outstanding command has (R74). -/
def freeTag (k : Link) : Nat :=
  (((List.range 5).map (fun i => (k.tag + i) % 256)).find? (fun t => !k.cmds.any (fun c => c.cmd.tag == t))).getD k.tag

/-- One more command outstanding, under a TAG of its own (R74). -/
def addCmd (op addr : Nat) (data : List Nat) (req : Option Req) (k : Link) : Link :=
  { k with tag := (freeTag k + 1) % 256
           cmds := k.cmds ++ [{ cmd := { op := op, tag := freeTag k, addr := addr, data := data }, req := req }] }

/-- Queue a bezel command; at most four are outstanding (R74). -/
def queueBezel (l op addr : Nat) (data : List Nat) (req : Option Req) (s : State) : State :=
  s.updLink l (fun k => if 4 ≤ k.cmds.length then k else addCmd op addr data req k)

/-- Requests that wait on a link that is no longer in RUN are answered NOT_READY (R507).
Log entry 140 (DEDUCED). -/
def dropCmds (l : Nat) (s : State) : State :=
  let waiting := (s.link l).cmds.filterMap (·.req)
  let s := s.updLink l (fun k => { k with cmds := [], poll := [] })
  each waiting s (fun r s => refuseReq 0x0403 r notReady s)

/-! ### Training (R85) -/

/-- Start training attempt `n` of a link: BZ_RST_N and LIGHT_EN low (steps 1 of R85, R87), noise shapers at zero (R111).
Log entry 139 (DEDUCED). -/
def startAttempt (l n : Nat) (s : State) : State :=
  let s := restartConvs l false (fun _ => true) s
  let s := each (s.link l).sent s (fun f s => senseFrame l f none s)
  let s := senseReset l (dropCmds l (bzDrive l false (lightOff l s)))
  let s := { s with drives := tmap {} (fun ch d =>
    if ch / 1152 = l then { d with e1 := 0, e2 := 0, level := 0 } else d) s.drives }
  s.updLink l (fun k => { k with
    st := 1, step := 1, attempts := n, tries := 0, oneUp := false, rstAt := s.time.mono, echoed := 0, pass := 0, passBad := false, checkOnly := false
    good3 := 0, good4 := 0, badActive := 0, lostRun := 0, clean := 0, turn := [], changed := [], rot := 0, sent := []
    disagree := none, relockAt := none, htrAny := false, laneTest := false, laneTestWait := none })

/-- Start training a link.
Log entry 140 (DEDUCED). -/
def startTraining (l : Nat) (s : State) : State := reState (startAttempt l 1 s)

/-- Training attempt over (R85): another one, or LINK_TRAIN_FAIL with BZ_RST_N low after three.
Log entry 6 (DESIGN CHOICE). -/
def trainFailed (l : Nat) (s : State) : State :=
  let n := (s.link l).attempts
  if n < 3 then startAttempt l (n + 1) s
  else
    let s := startAttempt l n s
    reState (raiseCond (72 + l) 0 (linkData s l) (s.updLink l (fun k => { k with st := 4, step := 0 })))

/-- BZ_RST_HOLD_EXPIRY (step 1 of R85): after 10 us BZ_RST_N rises; the bezel has been reset (R82). -/
def execBzRstHoldExpiry (link : Nat) (s : State) :=
  onUnit link 8 s (
    let k := s.link link
    if k.st = 1 ∧ k.step = 1 ∧ k.rstAt + us 10 ≤ s.time.mono ∧ !s.pins.scan then
      ((bzDrive link true s).updLink link (fun k => { k with step := 2 })).updBezel link (fun b =>
        { bezelReset b with rstN := true, rstAt := s.time.mono })
    else s)

/-- TRAIN_TIMEOUT (R85): no RUN within 1 ms of the attempt's start. A step that overruns its own limit of 100 or 150 us ends the
attempt only through this millisecond (log entry 160, DESIGN CHOICE). -/
def execTrainTimeout (link : Nat) (s : State) :=
  onUnit link 8 s (
    if (s.link link).st = 1 ∧ (s.link link).rstAt + ms 1 ≤ s.time.mono then trainFailed link s else s)

/-- UP_LANE_LOCK (step 3 of R85): eight consecutive valid frames lock an up-lane; the first lock leads to READ_ID. -/
def execUpLaneLock (link lane : Nat) (s : State) :=
  onUnit link 8 s (
    let k := s.link link
    let good := if lane = 3 then k.good3 else if lane = 4 then k.good4 else 0
    if k.st = 1 ∧ (k.step = 2 ∨ k.step = 3) ∧ 8 ≤ good then
      queueBezel link 1 0 [] none (s.updLink link (fun k => { k with step := 4, tries := 1, active := lane, pass := 0, badActive := 0 }))
    else s)

/-- RUN begins, or a warm reset's check of a link ends (step 6 of R85, R691). -/
def enterRun (l : Nat) (s : State) : State :=
  let k := s.link l
  let one := !(decide (8 ≤ k.good3) && decide (8 ≤ k.good4))
  let s := s.updLink l (fun k => { k with
    st := 2, step := 0, checkOnly := false, lostRun := 0, relockAt := none
    oneUp := if k.checkOnly then k.oneUp else one, runTick := if k.checkOnly then k.runTick else s.time.tick })
  let s := endCond (72 + l) 0 (endCond (64 + l) 0 s)
  let s := if one && !k.checkOnly then raiseFault (112 + l) (linkData s l) s else s
  reState s

/-- A segment echo in step 5 of training: segments are counted in order; the second pass must be clean (R85).
Log entry 139 (DEDUCED). -/
def trainEcho (l seg : Nat) (bad' : Bool) (s : State) : State :=
  let k := s.link l
  if k.step ≠ 5 ∨ seg ≠ k.echoed then s
  else
    let bad'' := k.passBad || (bad' && k.pass == 2)
    if k.echoed < 127 then s.updLink l (fun k => { k with echoed := k.echoed + 1, passBad := bad'' })
    else if k.pass ≤ 1 then s.updLink l (fun k => { k with echoed := 0, pass := 2, passBad := false })
    else if !bad'' then enterRun l s
    else if k.tries < 2 then s.updLink l (fun k => { k with echoed := 0, pass := 1, passBad := false, tries := k.tries + 1 })
    else trainFailed l s

/-- Step 5 of training begins. -/
def startPasses (l pass : Nat) (s : State) : State :=
  s.updLink l (fun k => { k with step := 5, echoed := 0, pass := pass, passBad := false, tries := 1, rot := 0 })

/-! ### Responses (R72 to R75) -/

/-- Channels that four READ_REG words of HTR_OPEN or HTR_SHORT cover, with their bits. -/
def heaterBits (addr : Nat) (data : List Nat) : List (Nat × Bool) :=
  let base := if addr < 0x40 then addr else addr - 0x40
  (List.range 4).flatMap (fun w =>
    if base + w < 36 then (List.range 32).map (fun i => (32 * (base + w) + i, bit (data.getD w 0) i)) else [])

/-- Words of HTR_OPEN or HTR_SHORT: DRIVE_HEATER_FAULT for each channel newly named (R555), ended where no register names it.
Log entry 141 (DEDUCED). -/
def heaterWords (l addr : Nat) (data : List Nat) (s : State) : State :=
  let off := if addr < 0x40 then 0 else 1152
  each (heaterBits addr data) s (fun (e : Nat × Bool) s =>
    let ch := l * 1152 + e.1
    if e.2 then
      let s := s.updLink l (fun k => { k with htrKnown := insertAsc (off + e.1) k.htrKnown })
      raiseCond (144 + l) ch (chanData s ch) s
    else
      let s := s.updLink l (fun k => { k with htrKnown := k.htrKnown.filter (· != off + e.1) })
      if (s.link l).htrKnown.contains e.1 || (s.link l).htrKnown.contains (1152 + e.1) then s else endCond (144 + l) ch s)

/-- The KV512's own use of a response: READ_ID and CLEAR_STICKY of training (step 4 of R85), and heater registers.
Log entry 160 (DESIGN CHOICE). -/
def ownResponse (l : Nat) (c : BezelCmd) (r : BezelResp) (s : State) : State :=
  let k := s.link l
  let again := fun (s : State) =>
    if k.tries < 3 then queueBezel l c.op c.addr c.data none (s.updLink l (fun k => { k with tries := k.tries + 1 })) else trainFailed l s
  if c.op = 1 ∧ k.step = 4 then
    if r.status ≠ 0 then again s
    else if r.data.getD 0 0 / 65536 ≠ 1 then trainFailed l s
    else
      let s := s.updLink l (fun k => { k with
        implementer := r.data.getD 1 0 / 65536, part := r.data.getD 1 0 % 65536, tApply := r.data.getD 2 0 })
      if k.checkOnly then startPasses l 2 s
      else queueBezel l 4 0 [] none (s.updLink l (fun k => { k with tries := 1 }))
  else if c.op = 4 ∧ k.step = 4 then
    if r.status ≠ 0 then again s else s.updLink l (fun k => { k with pass := 1 })
  else if c.op = 2 ∧ r.status = 0 then heaterWords l c.addr r.data s
  else s

/-- A response completes the command of its TAG (R74); a response to no outstanding command is ignored (R75). -/
def bezelResponse (l : Nat) (r : BezelResp) (s : State) : State :=
  match (s.link l).cmds.find? (fun c => c.sentAt.isSome && c.cmd.tag == r.tag && c.cmd.op == r.op) with
  | none => s
  | some c =>
    let s := s.updLink l (fun k => { k with cmds := k.cmds.filter (fun x => !(x.cmd.tag == r.tag && x.sentAt.isSome)) })
    match c.req with
    | some q => answerOk 0x0403 q { pay := le 1 r.status ++ le 3 0 ++ (List.range 4).flatMap (fun i => le 4 (r.data.getD i 0)) } s
    | none => ownResponse l c.cmd r s

/-- BEZEL_RESPONSE (R74). -/
def execBezelResponse (link : Nat) (resp : BezelResp) (s : State) := onUnit link 8 s (bezelResponse link resp s)

/-- A bezel command has had no response for 32 ticks since it was sent, or 420 for HTR_TEST (R75). -/
def cmdOverdue (now : NetTime) (tag : Nat) (c : CmdWait) : Bool :=
  match c.sentAt with
  | some t => c.cmd.tag == tag && decide (t + (if c.cmd.op = 5 then 420 else 32) * modTick ≤ now)
  | none => false

/-- BEZEL_CMD_RETRY (R75): no response within 32 ticks, or 420 for HTR_TEST, sends the command again; in step 4 of training that is
a further attempt of the three, each of the two commands having its own (R85; log entry 160, DESIGN CHOICE). -/
def execBezelCmdRetry (link tag : Nat) (s : State) :=
  onUnit link 8 s (
    let k := s.link link
    if !k.cmds.any (cmdOverdue s.time.mono tag) then s
    else if k.st = 1 ∧ k.step = 4 ∧ 3 ≤ k.tries then trainFailed link s
    else s.updLink link (fun k => { k with
      tries := if k.st = 1 ∧ k.step = 4 then k.tries + 1 else k.tries
      cmds := k.cmds.map (fun c => if cmdOverdue s.time.mono tag c then { c with sentAt := none } else c) }))

/-- The READ_REG addresses of HTR_OPEN and HTR_SHORT, four words each.
Log entry 141 (DEDUCED). -/
def heaterAddrs : List Nat := (List.range 9).map (4 * ·) ++ (List.range 9).map (0x40 + 4 * ·)

/-- HEATER_STATUS_POLL (R555): every 10 ms while HTR_OPEN_ANY or HTR_SHORT_ANY stays set. -/
def execHeaterStatusPoll (link : Nat) (s : State) :=
  onUnit link 8 s (
    let k := s.link link
    if k.htrAny ∧ k.htrPoll + ms 10 ≤ s.time.mono then
      s.updLink link (fun k => { k with poll := heaterAddrs, htrPoll := s.time.mono })
    else s)

/-! ### The modulator tick (R112) -/

/-- Waiting for a start event: one tick of a free readback modulator, with whether its channel's level changed (R126).
Log entry 177 (DESIGN CHOICE). -/
def modWait (event : Bool) (m : RbMod) : RbMod :=
  match m.cur with
  | some _ => m
  | none =>
    match m.sinceEvent with
    | some n => { m with sinceEvent := some (n + 1) }
    | none => if event ∨ 64 ≤ m.idle + 1 then { m with idle := m.idle + 1, sinceEvent := some 0 } else { m with idle := m.idle + 1 }

/-- The channel whose level event a free modulator waits for: of the first waiting urgent request, or of the routine scan. -/
def RbMod.waitsFor (m : RbMod) : Nat := (m.urgent.head?.map (·.chan)).getD m.next

/-- The START controls of a frame (R60): conversions whose START no frame under way carries. -/
def rbStarts (k : Link) : Tab Nat :=
  (List.range 8).filterMap (fun j =>
    match (tget {} k.mods j).cur with
    | some c => if !c.started && !k.sent.any (startIn j c) then some (j, c.chan) else none
    | none => none)

/-- Frames of a link carry mirror segments and commands once training has come that far (R85). -/
def carriesMirror (k : Link) : Bool := k.st == 2 || k.st == 3 || k.st == 5 || (k.st == 1 && k.step == 5)

/-- The command that the next frame carries, and the commands after it (R71, R74). -/
def nextCmd (now : NetTime) (k : Link) : BezelCmd × List CmdWait :=
  match k.cmds.findIdx? (fun c => c.sentAt.isNone) with
  | some i => if k.st = 1 ∧ k.step < 4 then ({}, k.cmds) else
      ((k.cmds[i]?.map (·.cmd)).getD {}, k.cmds.mapIdx (fun j c => if j = i then { c with sentAt := some now } else c))
  | none => ({}, k.cmds)

/-- The levels that the channels of a link emit in this tick, and their drive paths after it (R109, R58). -/
def emitLink (l : Nat) (s : State) : Tab Nat × State × Nat :=
  let out := s.drives.map (fun e => if e.1 / 1152 = l then (e.1, emitLevel s e.1 e.2) else (e.1, (e.2, false)))
  ((out.filter (fun e => e.1 / 1152 == l && e.2.1.level != 0)).map (fun e => (e.1 % 1152, e.2.1.level)),
   { s with drives := (out.map (fun e => (e.1, e.2.1))).filter (fun e => e.2 ≠ {}) },
   (out.filter (fun e => e.2.2)).length)

/-- The line bits of a down-lane in this tick: of its pattern generator while that runs (R591, R593), else of its frame. -/
def laneOut (n frame : Nat) (s : State) : Nat × State :=
  let x := s.lane n
  if x.tx = 0 then (frame, s)
  else
    let d := s.draw
    let r := laneTick x.tx x.txUser x.txInv x.txGen d.1
    (r.1, (if x.txGen.isNone then d.2 else s).updLane n (fun x => { x with txGen := some r.2 }))

/-- Record the three lane frames of a link.
Log entry 2 (DESIGN CHOICE). -/
def emitFrames (l : Nat) (f : DownFrame) (s : State) : State :=
  let lane := fun (i : Nat) => lineBits (mkFrame i f.seq (downPayload f i))
  let a := laneOut (5 * l) (lane 0) s
  let b := laneOut (5 * l + 1) (lane 1) a.2
  let c := laneOut (5 * l + 2) (lane 2) b.2
  c.2.emit (.down l a.1 b.1 c.1)

/-- Build and send the down-frame of a link (R57 to R61, R66, R70, R71, R87, R112).
Log entries 5 (DESIGN CHOICE), 175 (DESIGN CHOICE). -/
def linkTick (l : Nat) (s : State) : State :=
  if !s.bzHigh l then absentTick l s.time.tick s.time.now s
  else
    let before := (s.link l).down.levels
    let e := emitLink l s
    let s := e.2.1
    let k := s.link l
    let c := nextCmd s.time.mono k
    let seg : Option Nat := if carriesMirror k then (match k.turn with | g :: _ => some g | [] => some k.rot) else none
    let f : DownFrame := {
      seq := k.seq, tick := s.time.tick, start := s.time.now, sendAt := s.time.now - leadPs k * 8192 / 125, levels := e.1, dark := !s.lightOn l, run := k.st == 2
      refBad := !(s.sense l).refOn || !(s.sense l).refReady, realign := s.time.st == 4
      rbStart := if k.st = 2 then rbStarts k else [], cmd := c.1, segment := seg, turn := seg.isSome && !k.turn.isEmpty
      data := match seg with | some g => segWords k.image g | none => [] }
    let s := s.updLink l (fun k =>
      let k := if k.poll ≠ [] ∧ k.cmds.length < 4 ∧ k.st = 2 then
          addCmd 2 (k.poll.headD 0) [] none { k with poll := k.poll.tail, cmds := c.2 }
        else { k with cmds := c.2 }
      { k with
        seq := (k.seq + 1) % 16, cClamp := (k.cClamp + e.2.2) % 2 ^ 32, down := f, sent := (k.sent ++ [f]).drop (k.sent.length - 15)
        turn := if seg.isSome then k.turn.tail else k.turn
        rot := if seg.isSome && k.turn.isEmpty then (k.rot + 1) % 128 else k.rot
        mods := (List.range 8).foldl (fun (t : Tab RbMod) j =>
          let m := tget ({} : RbMod) k.mods j
          let c := 144 * j + m.waitsFor
          tset ({} : RbMod) t j (modWait (tget 0 before c != tget 0 e.1 c) m)) k.mods })
    emitFrames l f s

/-- The direction of a slew. -/
def slewDir (t : Time) : Int := if t.slew < 0 then -1 else 1

/-- The rate of the slew under way, 2^-16 ppb (R352): SLEW_PPM, within 1,000 ppm together with the frequency correction. -/
def slewRate (t : Time) : Int :=
  if t.slew = 0 then 0 else max 0 (min ((t.slewPpm : Int) * 65536000) (65536000000 - slewDir t * t.freq))

/-- How far a slew works off in one tick of 40 ns (R352), exactly.
Log entry 72 (DEDUCED). -/
def slewTick (t : Time) : Int := slewDir t * min (t.slew.natAbs : Int) (40 * slewRate t)

/-- The increment per REFCLK period for a total frequency correction in 2^-16 ppb: 6.4 ns × (1 + correction), in 2^-48 ns to the nearest
(R348, R351). -/
def incrOf (f : Int) : Nat := (divRound (64 * 2 ^ 48 * (65536000000000 + f)) 655360000000000).toNat

/-- One tick of the timekeeper (R346, R348, R352, R357): 40 ns of network time, less what a realignment takes off at 100 ppm; REFCLK runs
as many periods as the increment gives; the slew and the phase work off.
Log entry 5 (DESIGN CHOICE). -/
def timeTick (t : Time) : Time :=
  let left : Int := if t.phase < 0 then t.phase + min t.phase.natAbs 262144 else t.phase - min t.phase.natAbs 262144
  let ph := t.phase / 1000 - left / 1000
  let step := ((modTick : Int) - ph).toNat
  let inc := max 1 (incrOf (t.freq + slewDir t * slewRate t))
  let part := t.refPart + step * 2 ^ 32
  { t with now := t.now + step, mono := t.mono + step, tick := t.tick + 1
           incr := inc, refclk := t.refclk + part / inc, refPart := part % inc
           slew := t.slew - slewTick t, phase := left }

/-- MODULATOR_TICK (R112): every link out of bezel reset sends the down-frame of the tick that begins now, and time advances by one
tick. -/
def execModulatorTick (s : State) :=
  live s (let t := each (List.range 8) s linkTick; { t with time := timeTick t.time })

/-! ### Readback conversions (R125 to R130) -/

/-- Weight of tick `k` of a conversion: triangular, 1 to 32 and back (R125).
Log entry 124 (DEDUCED). -/
def rbWeight (k : Nat) : Nat := min (k + 1) (64 - k)

/-- Sum of the 64 weights.
Log entry 124 (DEDUCED). -/
def rbTotal : Nat := 1056

/-- One up-frame in a conversion, valid or lost (R125, R129, R63). -/
def convTick (f : DownFrame) (u : Option UpFrame) (j : Nat) (shutter : Bool) (c : Conv) : Conv × Bool :=
  match u with
  | none => if (c.started ∧ c.ticks < 64) ∨ (!c.started ∧ startIn j c f) then (restartConv (f.tick + 1) c, true) else (c, false)
  | some u =>
    let c := if !c.started && startIn j c f && u.started.getLsbD j then { c with started := true, startTick := f.tick } else c
    if !c.started ∨ 64 ≤ c.ticks then (c, false)
    else
      let w := rbWeight c.ticks
      let level := if shutter && !u.status.getLsbD 30 then 0 else tget 0 f.levels (144 * j + c.chan)
      ({ c with ticks := c.ticks + 1, bits := c.bits + w * b1 (u.rb.getLsbD j), cmd := c.cmd + w * level }, false)

/-- One up-frame in every conversion of a link. -/
def convFrame (l : Nat) (f : DownFrame) (u : Option UpFrame) (s : State) : State :=
  each (List.range 8) s (fun j s =>
    let m := tget {} (s.link l).mods j
    match m.cur with
    | none => s
    | some c =>
      let r := convTick f u j (s.isShutter (l * 1152 + 144 * j + c.chan)) c
      s.updLink l (fun k => { k with
        mods := tset {} k.mods j { m with cur := some r.1 }
        cRestartLink := (k.cRestartLink + b1 r.2) % 2 ^ 32 }))

/-- Start a conversion on a free modulator. -/
def beginConv (l j : Nat) (c : Conv) (m : RbMod) (s : State) : State :=
  s.updLink l (fun k => { k with mods := tset {} k.mods j { m with cur := some { c with after := s.time.tick }, idle := 0, sinceEvent := none } })

/-- READBACK_START (R126 to R128): an urgent request at once, aborting a routine conversion, or by a level event; else the
routine scan. -/
def execReadbackStart (link modulator : Nat) (s : State) :=
  if 8 ≤ modulator then .fault .noSuchUnit else
  onUnit link 8 s (
    let k := s.link link
    let m := tget {} k.mods modulator
    let due := match m.sinceEvent with | some n => decide (k.rbDelay ≤ n) | none => false
    if k.st ≠ 2 then s
    else match m.cur, m.urgent with
      | some c, u :: t =>
        if c.urgent then s
        else
          let s := s.updLink link (fun k => { k with cRestart := (k.cRestart + 1) % 2 ^ 32 })
          let m := { m with cur := none, next := c.chan, idle := 0, sinceEvent := none }
          if u.sync then s.updLink link (fun k => { k with mods := tset {} k.mods modulator m })
          else beginConv link modulator u { m with urgent := t } s
      | some _, [] => s
      | none, u :: t =>
        if u.sync && !due then s else beginConv link modulator u { m with urgent := t } s
      | none, [] =>
        if k.rbScan && due then beginConv link modulator { chan := m.next % 144 } m s else s)

/-- Full-scale power of a channel in nW (R90). -/
def fullPower (s : State) (ch : Nat) : Nat := if (s.drive ch).high then 50000000 else 12500000

/-- Measured power of a conversion in nW (R125, R530), before it is stored. -/
def measuredPower (s : State) (ch : Nat) (c : Conv) : Int :=
  let e := elemCal s ch
  divRound ((fullPower s ch : Int) * ((c.bits * e.rbGain * 4 : Nat) + e.rbOfs * rbTotal)) (rbTotal * 65536)

/-- Commanded power of a conversion in nW (R125). -/
def commandedPower (s : State) (ch : Nat) (c : Conv) : Nat := (divRound ((fullPower s ch * c.cmd : Nat) : Int) (3 * rbTotal)).toNat

/-- Supervision of a completed conversion (R130, R544); the occurrence carries the measured power (R564). -/
def superviseConv (l j ch : Nat) (m c : Int) (s : State) : State :=
  let k := s.link l
  let tol : Int := (k.rbTol : Int) * fullPower s ch
  let zeroBad := s.isShutter ch && c == 0 && decide (tol < m * 1000)
  let data := { chanData s ch with value := uns 32 m }
  let s := if s.isShutter ch && c == 0 then setCond zeroBad (136 + l) ch data s else s
  if !k.rbScan then s
  else if tol < ((m - c).natAbs : Int) * 1000 then
    if zeroBad then s
    else if (s.drive ch).rbMis then raiseCond (128 + l) ch data s
    else
      let s := s.updDrive ch (fun d => { d with rbMis := true })
      s.updLink l (fun k =>
        let md := tget {} k.mods j
        let k := { k with cMismatch := (k.cMismatch + 1) % 2 ^ 32 }
        if md.urgent.length < 4 then
          { k with mods := tset {} k.mods j { md with urgent := md.urgent ++ [{ chan := ch % 144, urgent := true, confirm := true }] } }
        else k)
  else endCond (128 + l) ch (s.updDrive ch (fun d => { d with rbMis := false }))

/-- READBACK_COMPLETE (R125, R130, R139): a conversion has all its 64 ticks. -/
def execReadbackComplete (link modulator : Nat) (s : State) :=
  if 8 ≤ modulator then .fault .noSuchUnit else
  onUnit link 8 s (
    let m := tget {} (s.link link).mods modulator
    match m.cur with
    | none => s
    | some c =>
      if c.ticks < 64 then s
      else
        let ch := link * 1152 + 144 * modulator + c.chan
        let mp := measuredPower s ch c
        let cp := commandedPower s ch c
        let d := s.draw
        let shown := if mp < 0 then d.1 % 2 ^ 32 else mp.toNat
        let s := if mp < 0 then d.2 else s
        let m := { m with cur := none, idle := 0, sinceEvent := none, next := if c.urgent then m.next else (c.chan + 1) % 144 }
        let s := s.updLink link (fun k => { k with cConv := (k.cConv + 1) % 2 ^ 32, mods := tset {} k.mods modulator m })
        let s := s.updDrive ch (fun d => { d with rbPower := shown, rbCmd := cp })
        let s := if sourceOn s 4 link then stageRec 4 ch (le 4 shown ++ le 4 cp) s else s
        let s := superviseConv link modulator ch mp cp s
        match c.req with
        | none => s
        | some r =>
          let more := (tget {} (s.link link).mods modulator).urgent.any (·.req.isSome)
          let s := if more then s else dropImplicit 3 2 (link * 8 + modulator) s
          answerOk 0x0509 r { pay := le 4 shown ++ le 4 cp ++ le 1 c.restarts ++ le 3 0 } s)

/-! ### Up-frames (R56, R63, R88, R89, R555) -/

/-- The link leaves RUN for hold (R89): LINK_CRC_LOSS, LIGHT_EN low, drive paths frozen, conversions restarted. -/
def crcLoss (l : Nat) (s : State) : State :=
  let s := restartConvs l false (fun _ => true) (lightOff l s)
  let s := s.updLink l (fun k => { k with st := 3, relockAt := some s.time.mono, checkOnly := false })
  reState (raiseCond (64 + l) 0 (linkData s l) s)

/-- A rotation segment without its echo breaks a refresh under way; a complete one stands (R87).
Log entry 161 (DEDUCED). -/
def cleanMissed (f : DownFrame) (k : Link) : Nat := if f.segment = none ∨ f.turn ∨ k.clean = 128 then k.clean else 0

/-- The up-frame of a tick is lost (R89).
Log entry 176 (DESIGN CHOICE). -/
def upLost (l : Nat) (f : DownFrame) (s : State) : State :=
  let s := s.updLink l (fun k => { k with upLost := if k.st = 1 ∧ k.step < 4 then k.upLost else (k.upLost + 1) % 2 ^ 32
                                          lostRun := sat 8 (k.lostRun + 1), clean := cleanMissed f k })
  let s := match f.segment with
    | some g => senseUnechoed l g f.data s
    | none => s
  let s := convFrame l f none (senseFrame l f none s)
  if (s.link l).st = 2 ∧ 2 ≤ (s.link l).lostRun then crcLoss l s else s

/-- LIGHT_PIN or SHUTTER_GATE disagrees with a low LIGHT_EN for more than 2 us, or SUPPLY_OK is 0 (R541). -/
def bezelFault (l : Nat) (st : Word) (s : State) : State :=
  let dis := !s.lightOn l && (st.getLsbD 31 || st.getLsbD 30)
  let s := s.updLink l (fun k => { k with disagree := if dis then some (k.disagree.getD s.time.mono) else none })
  let long := match (s.link l).disagree with | some t => decide (t + us 2 < s.time.mono) | none => false
  setCond (!st.getLsbD 23 || long) (80 + l) 0 (linkData s l) s

/-- Heater bits of STATUS (R555): a first poll at once; with both bits clear no channel is named. -/
def heaterStatus (l : Nat) (st : Word) (s : State) : State :=
  let any := st.getLsbD 21 || st.getLsbD 20
  let k := s.link l
  if any then
    if k.htrAny then s else s.updLink l (fun k => { k with htrAny := true, htrPoll := s.time.mono, poll := heaterAddrs })
  else
    let s := each k.htrKnown s (fun c s => endCond (144 + l) (l * 1152 + c % 1152) s)
    s.updLink l (fun k => { k with htrAny := false, htrKnown := [] })

/-- The actions on the STATUS word of an up-frame (R555); `own` are the segments with a change of the KV512's own, as they stood
before this frame's echo (R70), and `old` the STATUS of the frame before: SENSE_REF_LOST needs a fall of REF_OK (R164).
Log entries 141 (DEDUCED), 176 (DESIGN CHOICE). -/
def statusActions (l : Nat) (old : Word) (own : List Nat) (f : DownFrame) (u : UpFrame) (s : State) : State :=
  let st := u.status
  let s := bezelFault l st s
  let s := setCond (st.getLsbD 22) (88 + l) 0 (linkData s l) s
  let s := heaterStatus l st s
  let s := if st.getLsbD 18 then endCond (168 + l) 0 s
    else if old.getLsbD 18 && (s.sense l).refReady then raiseCond (168 + l) 0 (linkData s l) s else s
  let up := st.getLsbD 17 && u.applied && (s.link l).st != 1 && !f.turn && !own.contains u.segment
  let s := if up then raiseFault (104 + l) { linkData s l with value := u.segment } s else s
  if (s.link l).st ≠ 2 then s
  else if st.getLsbD 19 ∧ !(s.link l).checkOnly then startTraining l (crcLoss l s)
  else if st.getLsbD 29 then crcLoss l s
  else s

/-- The segment of a down-frame is echoed in its up-frame (R69). -/
def echoes (f : DownFrame) (u : UpFrame) : Bool := u.applied && f.segment == some u.segment

/-- The echo of a mirror segment (R70, R85, R87): SHUTTER_MASK words are held while the gate is open. A MIRROR_MISMATCH of any
segment asks for a new complete refresh (log entry 161, DEDUCED). -/
def echoFrame (l : Nat) (f : DownFrame) (u : UpFrame) (s : State) : State :=
  if !echoes f u then s.updLink l (fun k => { k with clean := cleanMissed f k })
  else
    let g := u.segment
    let bad' := u.status.getLsbD 17
    let kept := bad' && u.status.getLsbD 30 && decide (85 ≤ g) && decide (g ≤ 87)
    let s := s.updLink l (fun k => { k with
      changed := if f.data = segWords k.image g ∧ !kept then k.changed.filter (· != g) else k.changed
      clean := if bad' then 0 else if f.turn ∨ f.tick < k.cleanAt then k.clean else min 128 (k.clean + 1) })
    if (s.link l).st = 1 ∨ (s.link l).checkOnly then trainEcho l g bad' s else s

/-- A LIVE margin scan of a lane ends at once, with no result (R595). -/
def scanEnds (n : Nat) (s : State) : State :=
  if (s.lane n).scan.isSome then s.updLane n (fun x => { x with scan := none, uses := x.uses &&& 15 }) else s

/-- A LANE_TEST that waits for the shutter gate is sent, once in a session (R593).
Log entry 95 (DESIGN CHOICE). -/
def laneTestSend (l : Nat) (st : Word) (s : State) : State :=
  match (s.link l).laneTestWait with
  | none => s
  | some v =>
    if st.getLsbD 30 then s
    else queueBezel l 6 0 [v % 2 ^ 32, v / 2 ^ 32 % 2 ^ 32, v / 2 ^ 64 % 256] none
      (s.updLink l (fun k => { k with laneTestWait := none, laneTest := true }))

/-- A valid up-frame is taken (R63); the echo of a segment counts from its apply tick on, so before that tick's bits (R69).
Log entries 22 (DESIGN CHOICE), 140 (DEDUCED). -/
def upTaken (l : Nat) (f : DownFrame) (u : UpFrame) (s : State) : State :=
  let old := (s.link l).status
  let s := s.updLink l (fun k => { k with status := u.status, lostRun := 0
                                          relockAt := if k.st = 3 then some s.time.mono else none })
  let s := if echoes f u then senseEcho l u.segment f.tick f.data s else s
  let s := senseFrame l f (some u) s
  let s := convFrame l f (some u) s
  let own := (s.link l).changed
  let s := echoFrame l f u s
  let s := laneTestSend l u.status (statusActions l old own f u s)
  let k := s.link l
  let s := if k.st = 1 ∧ k.step = 4 ∧ k.pass = 1 ∧ !u.status.getLsbD 19 then startPasses l 1 s
    else if k.st = 3 ∧ !u.status.getLsbD 29 ∧ !u.status.getLsbD 19 then
      reState (endCond (64 + l) 0 (s.updLink l (fun k => { k with st := 2, relockAt := none, runTick := s.time.tick })))
    else s
  if u.resp.op = 0 then s else bezelResponse l u.resp s

/-- Lane counters and the choice of the active lane (R85, R88).
Log entries 22 (DESIGN CHOICE), 139 (DEDUCED), 176 (DESIGN CHOICE). -/
def laneCount (l : Nat) (ok3 ok4 : Bool) (s : State) : State :=
  let k := s.link l
  let count := !(k.st == 1 && decide (k.step < 4))
  let okA := if k.active = 3 then ok3 else ok4
  let n := if okA then 0 else k.badActive + 1
  let other := if k.active = 3 then k.good4 else k.good3
  let swap := count && k.st != 5 && decide (16 ≤ n) && !k.oneUp && (k.st != 1 || decide (8 ≤ other))
  let s := s.updLink l (fun k => { k with
    crc3 := if count ∧ !ok3 then (k.crc3 + 1) % 2 ^ 32 else k.crc3
    crc4 := if count ∧ !ok4 then (k.crc4 + 1) % 2 ^ 32 else k.crc4
    good3 := if 8 ≤ k.good3 then k.good3 else if ok3 then k.good3 + 1 else 0
    good4 := if 8 ≤ k.good4 then k.good4 else if ok4 then k.good4 + 1 else 0
    badActive := if swap then 0 else n
    active := if swap then 7 - k.active else k.active })
  let s := if okA then s else scanEnds (5 * l + 7 - k.active) s
  if swap then raiseFault (112 + l) (linkData s l) s else s

/-- A valid up-frame of a link that trains before step 4, or whose bezel has been sent LANE_TEST: only STATUS and a response are taken
(R74, R505); its tick gives no monitor bits. -/
def upSeen (l : Nat) (f : DownFrame) (u : UpFrame) (s : State) : State :=
  let s := convFrame l f none (senseFrame l f none (s.updLink l (fun k => { k with status := u.status })))
  if (s.link l).st ≠ 5 ∨ u.resp.op = 0 then s else bezelResponse l u.resp s

/-- UP_FRAME_CHECK (R56, R63, R88, R89): the two up-lane frames of the oldest tick not yet checked. -/
def execUpFrameCheck (link : Nat) (lane3 lane4 : LaneFrame) (s : State) :=
  onUnit link 8 s (
    match (s.link link).sent with
    | [] => s
    | f :: rest =>
      let s := s.updLink link (fun k => { k with sent := rest })
      let ok3 := laneOk 3 (some f.seq) lane3
      let ok4 := laneOk 4 (some f.seq) lane4
      let act := (s.link link).active
      let s := if ok3 && ok4 && payloadOf 3 lane3 != payloadOf 4 lane4 &&
          !((s.link link).st == 1 && decide ((s.link link).step < 4)) then
        raiseFault (120 + link) (linkData s link) s else s
      let s := laneCount link ok3 ok4 s
      let k := s.link link
      let u := upOf (if (ok3 && (act == 3 || !ok4)) then payloadOf 3 lane3 else payloadOf 4 lane4)
      if !ok3 && !ok4 then upLost link f s
      else if (k.st = 1 ∧ k.step < 4) ∨ (k.st = 5 ∧ k.laneTest) then upSeen link f u s
      else upTaken link f u s)

/-- RELOCK_TIMEOUT (R86): 1 ms with neither HOLD cleared nor a valid up-frame pulses BZ_RST_N. -/
def execRelockTimeout (link : Nat) (s : State) :=
  onUnit link 8 s (
    match (s.link link).relockAt with
    | some t => if (s.link link).st = 3 ∧ t + ms 1 ≤ s.time.mono then startTraining link s else s
    | none => s)

/-! ### LIGHT_EN (R87) -/

/-- The conditions of R87, with the device states of R690 that allow LIGHT_EN.
Log entries 36 (DEDUCED), 161 (DEDUCED). -/
def lightAllowed (s : State) (l : Nat) : Bool :=
  let k := s.link l
  k.st == 2 && !k.checkOnly && decide (128 ≤ k.clean) && k.status.getLsbD 23 && k.status.getLsbD 18 && !s.em.hostDark &&
    (s.sys.st == 6 || s.sys.st == 7 || s.sys.st == 8) && !s.pins.scan && !s.pwr.anaTrip &&
    (match s.linkPlane l with | some p => !darkCovered s p | none => false)

/-- LIGHT_EN_RISE (R87): the bezel sees a rising edge after a low level (R79). -/
def execLightEnRise (link : Nat) (s : State) :=
  onUnit link 8 s (
    if lightAllowed s link && !s.lightOn link then
      ({ s with pins := { s.pins with light := s.pins.light ||| (1#8 <<< link) } }).updBezel link (fun b =>
        { b with lightPin := true, lightAt := s.time.mono, qualified := false, lowSeen := true })
    else s)

/-! ### Commands -/

/-- `link.status` (R505). -/
def cmdLinkStatus : Cmd where
  op := 0x0401
  checks p _ := layout [1, 3] p ++ [range p 0 1 0 7, resv p 1 3]
  run r s :=
    let l := fld r.pay 0 1
    let k := s.link l
    ok s (le 1 k.st ++ le 1 k.active ++ le 1 (b1 (s.lightOn l) + 2 * b1 k.oneUp) ++ le 1 0 ++ le 4 k.status.toNat
      ++ le 2 k.implementer ++ le 2 k.part ++ le 4 k.tApply ++ le 4 k.crc3 ++ le 4 k.crc4 ++ le 4 k.upLost)

/-- Meaning of `link.status`. -/
def execLinkStatus (req : Req) (s : State) := command cmdLinkStatus req s

/-- `link.retrain` (R506); a link that serves no plane, which LINKING leaves in reset (R684), is trained too.
Log entry 140 (DEDUCED). -/
def cmdLinkRetrain : Cmd where
  op := 0x0402
  checks p _ := layout [1, 3] p ++ [range p 0 1 0 7, resv p 1 3]
  run r s :=
    let l := fld r.pay 0 1
    guarded [((match s.linkPlane l with | some p => s.lit p | none => false), busyLit)]
      (ok (startTraining l s))

/-- Meaning of `link.retrain`. -/
def execLinkRetrain (req : Req) (s : State) := command cmdLinkRetrain req s

/-- `link.bezel_cmd` (R507): the answer comes with the bezel's response. -/
def cmdLinkBezelCmd : Cmd where
  op := 0x0403
  checks p _ := layout [1, 1, 2] p ++ [range p 0 1 0 7, range p 1 1 1 5]
  run r s :=
    let l := fld r.pay 0 1
    guarded [((s.link l).st != 2, notReady), (decide (4 ≤ (s.link l).cmds.length), busy)]
      (later (queueBezel l (fld r.pay 1 1) (fld r.pay 2 2) [] (some r) s))

/-- Meaning of `link.bezel_cmd`. -/
def execLinkBezelCmd (req : Req) (s : State) := command cmdLinkBezelCmd req s

end Sys2Proof.Machine
end

