-- ==== Sys2Proof/Machine/Bezel.lean ====
section
/-! DEFINITION. The bezel at the far end of a link: the contract of R48 to R92. What the plane and the bezel's own circuits show
is an operand (log entry 11, DESIGN CHOICE). -/

namespace Sys2Proof.Machine

/-- The bezel sees a qualified LIGHT_EN: the path from a low pin is combinational (R79, R81). -/
def lightQualified (s : State) (l : Nat) : Bool := s.lightOn l && (s.bezel l).qualified

/-- The shutter gate is open (R80). -/
def gateOpen (s : State) (l : Nat) : Bool :=
  let b := s.bezel l
  lightQualified s l && !b.hold && !b.test && !b.latched && !b.dark && b.rstN && b.powered && s.bzHigh l

/-- The heater drivers carry power (R83): supplies in range, and since their last recovery BZ_RST_N has been high for 10 us. -/
def heaterOn (s : State) (l : Nat) (b : Bezel) : Bool :=
  b.supplyOk && (b.powered || (b.rstN && s.bzHigh l && decide (b.rstAt + us 10 ≤ s.time.mono)))

/-- Enter hold (R77). -/
def enterHold (b : Bezel) : Bezel :=
  if b.hold then b else { b with hold := true, holdCount := (b.holdCount + 1) % 2 ^ 32, holdPos := 0 }

/-- The level codes of this tick (R77, the table after R84): in hold and in test the last 16 valid ones in turn, oldest first,
with the newest in the place of frames that have not come since reset (log entry 159, DESIGN CHOICE); else those of the last
valid frame. -/
def bezelLevels (b : Bezel) : Tab Nat :=
  if b.hold || b.test then b.hist.getD (15 - b.holdPos) (b.hist.headD []) else b.hist.headD []

/-- Image half-word of a local channel. -/
def halfOf (t : Tab Nat) (c : Nat) : Nat := imageWord t (c / 2) / (if c % 2 = 1 then 65536 else 1) % 65536

/-- RANGE bits take effect at the first tick in which the channel's level is 0 (R69). -/
def applyRanges (image levels : Tab Nat) (l : List Nat) : List Nat :=
  (List.range 1152).filter (fun c =>
    let want := bit (halfOf image c) 8
    if tget 0 levels c = 0 then want else l.contains c)

/-- RANGE bits that a tick of repeated levels lets take effect (R69). -/
def bezelRanges (b : Bezel) : Bezel := { b with ranges := applyRanges b.image (bezelLevels b) b.ranges }

/-- A tick whose down-frame is lost (R77): levels repeat, nothing else is applied, and the second in a row begins hold. -/
def bezelLost (lanes : List Nat) (b : Bezel) : Bezel :=
  let n := b.lostRun + 1
  let b := { b with
    lostDown := (b.lostDown + 1) % 16, lostTotal := (b.lostTotal + 1) % 2 ^ 32, good := 0, lostRun := sat 8 n
    crcErr := lanes.foldl (fun t i => if i < 3 then tinc t i else t) b.crcErr
    seq := b.seq.map (fun q => (q + 1) % 16), holdPos := if b.hold then (b.holdPos + 1) % 16 else b.holdPos }
  bezelRanges (if 2 ≤ n then enterHold b else b)

/-- Leave hold (R78): LATCHED_DARK is set until LIGHT_EN has been seen low and then qualified high. -/
def leaveHold (pin : Bool) (b : Bezel) : Bezel :=
  { b with hold := false, lostRun := 0, latched := true, lowSeen := !pin }

/-- BEZEL_HOLD_EXIT (R78): after eight consecutive valid down-frames. -/
def execBezelHoldExit (link : Nat) (s : State) :=
  onUnit link 8 s (
    let b := s.bezel link
    if b.hold ∧ !b.test ∧ 8 ≤ b.good then s.updBezel link (leaveHold (s.lightOn link)) else s)

/-- BEZEL_LIGHT_EN_FALL (R79, R81): the gate closes with LIGHT_EN, and a low level has been seen. -/
def execBezelLightEnFall (link : Nat) (s : State) :=
  onUnit link 8 s (if s.lightOn link then s else
    s.updBezel link (fun b => { b with lightPin := false, qualified := false, lowSeen := true }))

/-- BEZEL_LIGHT_EN_QUALIFY (R79): LIGHT_EN high without interruption for 1 us. -/
def execBezelLightEnQualify (link : Nat) (s : State) :=
  onUnit link 8 s (
    let b := s.bezel link
    if s.lightOn link ∧ b.lightPin ∧ b.lightAt + us 1 ≤ s.time.mono then
      s.updBezel link (fun b => { b with qualified := true, latched := b.latched && !b.lowSeen })
    else s)

/-- BEZEL_RESET (R82): BZ_RST_N low for 1 us or more. -/
def execBezelReset (link : Nat) (s : State) :=
  onUnit link 8 s (
    if !s.bzHigh link ∧ (s.link link).rstAt + us 1 ≤ s.time.mono then s.updBezel link bezelReset else s)

/-- BEZEL_SUPPLY_LOSS (R83): every heater driver at zero power. -/
def execBezelSupplyLoss (link : Nat) (s : State) :=
  onUnit link 8 s (s.updBezel link (fun b => { b with supplyOk := false, powered := false, supplyAt := s.time.mono }))

/-- BEZEL_SUPPLY_RECOVER (R83): the supplies have been in range for 1 ms, so no loss lies less than 1 ms back; heater drivers carry
power again once BZ_RST_N has been high for 10 us (`heaterOn`). -/
def execBezelSupplyRecover (link : Nat) (s : State) :=
  onUnit link 8 s (
    if !(s.bezel link).supplyOk ∧ (s.bezel link).supplyAt + ms 1 ≤ s.time.mono then
      s.updBezel link (fun b => { b with supplyOk := true, supplyAt := s.time.mono, powered := heaterOn s link { b with supplyOk := true } })
    else s)

/-- BEZEL_DOWN_LANE_LOCK (step 2 of R85): eight consecutive valid frames on every down-lane start the up-lanes. -/
def execBezelDownLaneLock (link : Nat) (s : State) :=
  onUnit link 8 s (
    let b := s.bezel link
    if b.rstN ∧ !b.locked ∧ 8 ≤ b.good then
      (s.updBezel link (fun b => { b with locked := true, lostRun := 0, powered := heaterOn s link b })).updLink link (fun k =>
          if k.st = 1 ∧ k.step = 2 then { k with step := 3 } else k)
    else s)

/-! ### Commands (R73 to R76) -/

/-- A register of READ_REG (R76). -/
def bezelReg (b : Bezel) (a : Nat) : Nat :=
  let word := fun (l : List Nat) (w : Nat) =>
    (l.filter (fun c => c / 32 == w)).foldl (fun v c => v ||| 2 ^ (c % 32)) 0
  if a ≤ 0x23 then word b.htrOpen a
  else if 0x40 ≤ a ∧ a ≤ 0x63 then word b.htrShort (a - 0x40)
  else if a = 0x80 then b.vhtr
  else if a = 0x81 then b.lostTotal
  else if 0x82 ≤ a ∧ a ≤ 0x84 then tget 0 b.crcErr (a - 0x82)
  else if a = 0x85 then b.holdCount
  else 0

/-- T_APPLY of the bezel on a link in ps, from 50 to 200 ns (R61). -/
def bezelTApplyPs (l : Nat) : Nat := 50000 + Config.bezelTApply l % 150001

/-- Execute one bezel command (R73 to R76): its response, and the bezel after it. `ohm` is what HTR_TEST measures. A bezel without
HTR_TEST answers BAD_OP; of a READ_REG that begins at 0xFD to 0xFF the words past 0xFF are 0 with status OK; a LANE or pattern
that R73 does not list is taken and drives no lane (log entry 159, DESIGN CHOICE).
Log entry 11 (DESIGN CHOICE). -/
def bezelExec (s : State) (l ohm : Nat) (c : BezelCmd) (b : Bezel) : BezelResp × Bezel :=
  let rsp := fun (st : Nat) (d : List Nat) => ({ op := c.op, tag := c.tag, status := st, data := d } : BezelResp)
  match c.op with
  | 1 => (rsp 0 [0x00010000, Config.bezelImplementer l % 65536 * 65536 + Config.bezelPart l % 65536, bezelTApplyPs l,
      b1 (Config.bezelHtrTest l)], b)
  | 2 => if 0xFF < c.addr then (rsp 2 [], b) else (rsp 0 ((List.range 4).map (fun i => bezelReg b (c.addr + i))), b)
  | 3 => if 2044 < c.addr then (rsp 2 [], b) else (rsp 0 ((List.range 4).map (fun i => imageWord b.image (c.addr + i))), b)
  | 4 => (rsp 0 [], { b with resetSeen := false })
  | 5 => if !Config.bezelHtrTest l then (rsp 1 [], b) else if 1152 ≤ c.addr then (rsp 2 [], b)
    else (rsp 0 [if b.htrOpen.contains c.addr then 0xFFFFFFFF else ohm % 2 ^ 32], b)
  | 6 => if gateOpen s l then (rsp 3 [], b) else 
      let w := c.data.getD 0 0
      (rsp 0 [], { b with test := true, hold := false, holdPos := 0, testLane := w % 8, testPat := bits w 6 4, testFar := bit w 8
                          testUser := c.data.getD 1 0 % 2 ^ 32 + c.data.getD 2 0 % 256 * 2 ^ 32, testGen := none })
  | _ => (rsp 1 [], b)

/-- BEZEL_COMMAND_COMPLETE (R74): the oldest command is executed and its response waits for one up-frame; while a response still
waits for its up-frame, and in test, no command completes. -/
def execBezelCommandComplete (link ohm : Nat) (s : State) :=
  onUnit link 8 s (
    match (s.bezel link).cmds with
    | [] => s
    | c :: t =>
      if (s.bezel link).resp.op ≠ 0 ∨ (s.bezel link).test then s else
      s.updBezel link (fun b =>
        let r := bezelExec s link ohm c { b with cmds := t }
        { r.2 with resp := r.1 }))

/-! ### The apply tick (R61, R69) -/

/-- An image word without its reserved bits (R67). -/
def wordMask (w v : Nat) : Nat :=
  if w < 576 then v &&& 0x01FF01FF else if w < 1216 then v % 2 ^ 19 else if w < 1360 then v % 2 ^ 20 else if w < 1396 then v % 2 ^ 32 else 0

/-- Write a segment into the held image (R69): the image, and whether a word differed. -/
def applySegment (gate : Bool) (seg : Nat) (data : List Nat) (t : Tab Nat) : Tab Nat × Bool :=
  (List.range 16).foldl (fun (a : Tab Nat × Bool) i =>
    let w := 16 * seg + i
    let v := wordMask w (data.getD i 0)
    if 1396 ≤ w ∨ imageWord a.1 w = v then a
    else if 1360 ≤ w ∧ gate then (a.1, true)
    else (tset (imageDefault w) a.1 w v, true)) (t, false)

/-- STATUS of a bezel (R64), with MIRROR_MISMATCH of this tick. HOLD shows in test too (R75, R77). -/
def bezelStatus (s : State) (l : Nat) (env : BezelEnv) (mismatch : Bool) : Word :=
  let b := s.bezel l
  let hot := env.temps.any (fun t => t != 0x8000 && decide (125 * 64 < sgn 16 t))
  BitVec.ofNat 32 (b1 (lightQualified s l) * 2 ^ 31 + b1 (gateOpen s l) * 2 ^ 30 + b1 (b.hold || b.test) * 2 ^ 29 + b1 b.latched * 2 ^ 28
    + b.lostDown * 2 ^ 24 + b1 b.supplyOk * 2 ^ 23 + b1 hot * 2 ^ 22 + b1 (!env.htrOpen.isEmpty) * 2 ^ 21
    + b1 (!env.htrShort.isEmpty) * 2 ^ 20 + b1 b.resetSeen * 2 ^ 19 + b1 env.refOk * 2 ^ 18 + b1 mismatch * 2 ^ 17)

/-- The up-frame of a bezel tick (R62, R65): the first eight overloaded channels are listed, and every group bit is set.
Log entry 139 (DEDUCED). -/
def bezelUp (s : State) (l : Nat) (env : BezelEnv) (starts : List Nat) (seg : Option Nat) (mismatch : Bool) : UpFrame :=
  let ovr := env.ovr.foldl (fun a c => if c < 640 then insertAsc c a else a) []
  { mon := env.mon, rb := env.rb
    ovrGroup := ovr.foldl (fun (g : BitVec 80) c => g ||| (1#80 <<< (c / 8))) 0
    ovrList := ovr.take 8, status := bezelStatus s l env mismatch, temps := env.temps, resp := (s.bezel l).resp
    started := starts.foldl (fun (g : BitVec 8) j => g ||| (1#8 <<< j)) 0
    applied := seg.isSome, segment := seg.getD 0 }

/-- Apply a valid down-frame in one tick (R61).
Log entry 153 (DEDUCED). -/
def bezelApply (gate : Bool) (f : DownFrame) (b : Bezel) : Bezel × List Nat × Bool :=
  let starts := f.rbStart.filter (fun e => decide (e.2 < 144))
  let m := match f.segment with
    | some g => applySegment gate g f.data b.image
    | none => (b.image, false)
  ({ b with
      hist := (f.levels :: b.hist).take 16, dark := f.dark, image := m.1
      chan := starts.foldl (fun t e => tset 0 t e.1 e.2) b.chan
      cmds := if f.cmd.op = 0 then b.cmds else b.cmds ++ [f.cmd]
      ranges := applyRanges m.1 f.levels b.ranges, good := min 255 (b.good + 1), lostRun := 0 },
   starts.map (·.1), m.2)

/-- The bezel sends the up-frame of a tick on both up-lanes with that tick's SEQ; its response slot is then empty again (R63, R74). -/
def bezelSend (l seq : Nat) (u : UpFrame) (s : State) : State :=
  let v := upLines seq u
  (s.updBezel l (fun b => { b with up := u, upSeq := seq, resp := {} })).emit (.up l v.1 v.2)

/-- What the up-lanes of a bezel in test carry (R73, R75, R591): down-lane LANE looped onto up-lane 3, or the bits of the pattern
generator; a lane without either is idle, shown as 0 (log entry 159, DESIGN CHOICE). -/
def bezelTestLanes (l : Nat) (f0 f1 f2 : LaneFrame) (s : State) : State :=
  let b := s.bezel l
  let on := (b.testLane == 3 || b.testLane == 4) && b.testPat != 0 && decide (b.testPat ≤ 6)
  let d := s.draw
  let r := if on then laneTick b.testPat b.testUser false b.testGen d.1 else (0, 0)
  let s := if on then (if b.testGen.isNone then d.2 else s).updBezel l (fun b => { b with testGen := some r.2 }) else s
  let pat := fun (i : Nat) => if b.testLane = i then r.1 else 0
  let far := if b.testLane = 0 then f0 else if b.testLane = 1 then f1 else f2
  s.emit (.up l (if b.testFar ∧ b.testLane ≤ 2 then lineBits far else pat 3) (pat 4))

/-- A tick of a bezel in test, which behaves as in hold (R75, R77): the last 16 levels go round, and a response that still waits is sent
in a frame of its own first. -/
def bezelTest (l : Nat) (f0 f1 f2 : LaneFrame) (env : BezelEnv) (s : State) : State :=
  let b := s.bezel l
  let s := s.updBezel l (fun b => bezelRanges { b with holdPos := (b.holdPos + 1) % 16, seq := b.seq.map (fun q => (q + 1) % 16) })
  if b.resp.op ≠ 0 then bezelSend l (b.seq.getD 0) (bezelUp s l env [] none false) s else bezelTestLanes l f0 f1 f2 s

/-- What the heaters and their supply do to the bezel in this tick (R75, R82, R83). -/
def bezelFeels (l : Nat) (env : BezelEnv) (s : State) : State :=
  s.updBezel l (fun b => { b with htrOpen := env.htrOpen, htrShort := env.htrShort, vhtr := env.vhtr, powered := heaterOn s l b })

/-- One tick of a bezel with the three lane frames that arrive in it. A SHUTTER_MASK word of a frame is judged by the shutter gate as
it stood before that frame; lane frames that fail before the bezel has locked count in no register; a response that waits when
the test begins is sent first; valid frames that arrive in hold do not join the 16 that are repeated (log entry 159, DESIGN
CHOICE).
Log entries 11 (DESIGN CHOICE), 153 (DEDUCED). -/
def bezelTick (l : Nat) (f0 f1 f2 : LaneFrame) (env : BezelEnv) (s : State) : State :=
  let s := bezelFeels l env s
  let b := s.bezel l
  let oks := [laneOk 0 b.seq f0, laneOk 1 b.seq f1, laneOk 2 b.seq f2]
  let one := f0.seq == f1.seq && f1.seq == f2.seq
  let good := oks.all id && one
  if !b.rstN || !s.bzHigh l then s
  else if b.test then bezelTest l f0 f1 f2 env s
  else if !b.locked then
    s.updBezel l (fun b => if good then { b with good := min 255 (b.good + 1), seq := some ((f0.seq + 1) % 16) }
      else { b with good := 0, seq := none })
  else if !good then
    let s := s.updBezel l (bezelLost ((List.range 3).filter (fun i => !(oks.getD i true))))
    bezelSend l (b.seq.getD 0) (bezelUp s l env [] none false) s
  else
    let next := some ((f0.seq + 1) % 16)
    if b.hold then
      let s := s.updBezel l (fun b => bezelRanges { b with
        good := min 255 (b.good + 1), lostRun := 0, seq := next, holdPos := (b.holdPos + 1) % 16 })
      bezelSend l f0.seq (bezelUp s l env [] none false) s
    else
      let f := downOf f0.seq (payloadOf 0 f0) (payloadOf 1 f1) (payloadOf 2 f2)
      let r := bezelApply (gateOpen s l) f b
      let s := s.updBezel l (fun _ => { r.1 with seq := next })
      bezelSend l f0.seq (bezelUp s l env r.2.1 f.segment r.2.2) s

/-- BEZEL_APPLY_TICK (R61, R63, R69, R77): the bezel sends the up-frame that reports the tick. -/
def execBezelApplyTick (link : Nat) (lane0 lane1 lane2 : LaneFrame) (env : BezelEnv) (s : State) :=
  onUnit link 8 s (bezelTick link lane0 lane1 lane2 env s)

/-- BEZEL_LOST_DOWN_FRAME (R77): `lanes` are those whose own frame failed the checks of R56; the up-frame of the tick goes out with
free monitor and readback bits (log entry 159, DESIGN CHOICE). In test the row is a tick as in hold (R75). -/
def execBezelLostDownFrame (link : Nat) (lanes : List Nat) (s : State) :=
  onUnit link 8 s (
    let b := s.bezel link
    if b.rstN && s.bzHigh link && (b.locked || b.test) then
      let d := (if b.test then s else s.updBezel link (bezelLost lanes)).draw
      let env : BezelEnv := { mon := BitVec.ofNat 640 d.1, rb := BitVec.ofNat 8 (d.1 / 2 ^ 640), temps := b.up.temps
                              htrOpen := b.htrOpen, htrShort := b.htrShort, vhtr := b.vhtr, refOk := b.up.status.getLsbD 18 }
      if b.test then bezelTest link (anyLane d.1) (anyLane (d.1 / 2 ^ 1125)) (anyLane (d.1 / 2 ^ 2250)) env d.2
      else bezelSend link (b.seq.getD 0) (bezelUp d.2 link env [] none false) d.2
    else s)

/-- The power level that a bezel gives a local channel, in thirds of full scale (the table after R84); BZ_RST_N counts at the pin. -/
def bezelPower (s : State) (l c : Nat) : Nat :=
  let b := s.bezel l
  let shutter := bit (imageWord b.image (1360 + c / 32)) (c % 32)
  if !heaterOn s l b || !b.rstN || !s.bzHigh l then 0
  else if shutter && !gateOpen s l then 0
  else tget 0 (bezelLevels b) c

end Sys2Proof.Machine
end

