-- ==== Sys2Proof/Machine/Relay.lean ====
section
/-! DEFINITION. The path of a frame through the relay (R380 to R409): classification, lookup, buffers, crossbar,
egress, shapers, gates, flow control, mirroring and the transparent clock (R362). Links are numbered port × 2 + link. -/

namespace Sys2Proof.Machine

/-! ### Links -/

/-- Rate of a link in Mb/s (R380, R381). -/
def linkRate (s : State) (k : Nat) : Nat :=
  if k < 8 then (match portMode s (k / 2) with | 1 => 100000 | 2 => 50000 | 3 => 25000 | _ => 0)
  else if k < 12 then 100000 else 200000

/-- A link that can carry frames now. -/
def linkUp (s : State) (k : Nat) : Bool :=
  if k < 8 then (s.rlink k).up else if k = 8 then (s.clasp false).up else k == 10 && (s.clasp true).up

/-- Bit of a link in the masks of R387. -/
def maskBit (k : Nat) : Nat := if k < 8 then k else k / 2 + 4

/-! ### What a frame says (R382, R384) -/

/-- One IEEE 802.1Q tag. -/
def tagged (d : Bytes) : Bool := fldBe d 12 2 == 0x8100
/-- Offset of what follows the EtherType. -/
def payOfs (d : Bytes) : Nat := if tagged d then 18 else 14
/-- EtherType after the tag. -/
def etype (d : Bytes) : Nat := fldBe d (payOfs d - 2) 2
/-- VID; 0 when untagged (R385). -/
def vidOf (d : Bytes) : Nat := if tagged d then fldBe d 14 2 % 4096 else 0
/-- Destination port and payload offset of UDP over IPv4. -/
def udpOf (d : Bytes) : Option (Nat × Nat) :=
  let o := payOfs d
  let u := o + fld d o 1 % 16 * 4
  if etype d = 0x0800 ∧ fld d (o + 9) 1 = 17 ∧ fldBe d (o + 6) 2 % 8192 = 0 then some (fldBe d (u + 2) 2, u + 8) else none
/-- Offset of the PTP header of a PTP message (R384 rule 1). -/
def ptpOfs (d : Bytes) : Option Nat :=
  if etype d = 0x88F7 then some (payOfs d)
  else match udpOf d with
    | some (p, o) => if p = 319 ∨ p = 320 then some o else none
    | none => none
/-- messageType of a PTP message. -/
def ptpType (d : Bytes) : Option Nat := (ptpOfs d).map (fun o => fld d o 1 % 16)
/-- A PTP event message (R358). -/
def ptpEvent (d : Bytes) : Bool := match ptpType d with | some t => decide (t ≤ 3) | none => false
/-- An endpoint message by rule 2 of R384. -/
def endpointMsg (s : State) (d : Bytes) : Bool :=
  (etype d == s.eps.cfg.ethertype && fldBe d 0 6 == s.relay.mac) ||
  (match udpOf d with
   | some (p, _) => p == s.eps.cfg.udpPort && fldBe d (payOfs d + 16) 4 == s.eps.cfg.ipv4
   | none => false)

/-- One bit step of the reflected CRC-32 of IEEE 802.3. -/
def crc32Step (c : Nat) : Nat := if bit c 0 then (c / 2) ^^^ 0xEDB88320 else c / 2
/-- FCS of the bytes of a frame. -/
def fcsOf (p : Bytes) : Nat :=
  (p.foldl (fun c b => (List.range 8).foldl (fun c _ => crc32Step c) (c ^^^ b.toNat)) 0xFFFFFFFF) ^^^ 0xFFFFFFFF

/-! ### Lookup (R385 to R388) -/

/-- Forwarding entry of a frame. -/
def fdbOf (s : State) (d : Bytes) : Fdb := tget {} s.relay.fdb (fldBe d 0 6 * 4096 + vidOf d)
/-- Destinations of a group: an unsplit port takes its A bit, and no copy leaves by the ingress link (R387). -/
def groupDests (s : State) (g ing : Nat) : List Nat :=
  let m := tget 0 s.relay.groups g
  ((List.range 14).filter (fun b => bit m b && !(decide (b < 8) && b % 2 == 1 && decide (portMode s (b / 2) < 2)))).map
    (fun b => if b < 8 then b else 2 * (b - 4)) |>.filter (· != ing)
/-- Destinations by the table, and whether the key was missed (R387).
Log entry 143 (DEDUCED). -/
def tableDests (s : State) (ing : Nat) (d : Bytes) : List Nat × Bool :=
  let e := fdbOf s d
  match e.kind with
  | 1 => ([e.port * 2 + e.link], false)
  | 2 => (groupDests s e.group ing, false)
  | 3 => ([], false)
  | _ => (if s.relay.miss = 1 then [12] else if s.relay.miss = 2 then groupDests s s.relay.missGroup ing else [], true)

/-- A frame that the table sends to a group (R386, R387). -/
def toGroup (s : State) (d : Bytes) : Bool := (fdbOf s d).kind == 2 || ((fdbOf s d).kind == 0 && s.relay.miss == 2)

/-- Class, destinations and miss of a received frame (R360, R384).
Log entry 143 (DEDUCED). -/
def classify (s : State) (ing : Nat) (d : Bytes) : Nat × List Nat × Bool :=
  if (ptpOfs d).isSome then
    (s.relay.ptpClass,
      if s.time.source = 1 ∧ s.time.ptp.on ∧ s.time.ptp.port = ing / 2 then ([12], false)
      else if s.time.source = 2 then ([18], false) else tableDests s ing d)
  else if s.sys.role ≤ 1 ∧ endpointMsg s d then (s.relay.epClass, [14], false)
  else
    let ovr := (fdbOf s d).ovr
    let pcp := fldBe d 14 2 / 8192
    (if bit ovr 7 then ovr % 8 else if tagged d then (tget (pcp + 1) s.relay.pcp pcp) - 1 else s.relay.defClass,
      tableDests s ing d)

/-! ### Frames in the relay -/

/-- A frame by its handle. -/
def frameOf (s : State) (id : Nat) : Option RFrame := s.relay.frames.find? (fun f => f.id == id)
/-- Change a frame. -/
def updFrame (id : Nat) (f : RFrame → RFrame) (s : State) : State :=
  { s with relay := { s.relay with frames := s.relay.frames.map (fun x => if x.id = id then f x else x) } }
/-- Take a frame out of the relay. -/
def removeFrame (id : Nat) (s : State) : State :=
  { s with relay := { s.relay with frames := s.relay.frames.filter (fun x => x.id != id) } }
/-- Length of a frame with its FCS, 9,216 when it is not yet known. -/
def RFrame.length (f : RFrame) : Nat := f.len.getD 9216
/-- A frame in transmission on some link. -/
def sending (s : State) (id : Nat) : Bool := (List.range 12).any (fun k => ((s.rlink k).tx.map (·.1 == id)).getD false)
/-- Cells of a destination that are still to cross. -/
def cellsLeft (f : RFrame) (d : Nat) : Nat := tget 0 f.cells d

/-! ### Shapers (R399) -/

/-- A frame of a class waits on, or is being sent by, a link. -/
def waitsOn (s : State) (k c : Nat) : Bool := s.relay.frames.any (fun f => f.dests.contains k && f.cls == c)

/-- Bring the shaper credits of a link up to date: they rise with the idle slope while frames wait or the credit is
negative, and fall to zero when none waits (R399). Units of bit × 65,536,000. -/
def shapeLink (k : Nat) (s : State) : State :=
  let l := s.rlink k
  let dt := s.time.mono - l.creditAt
  let one : Tab Int → Nat × Nat → Tab Int := fun t e =>
    let v := tget 0 t e.1
    let up := v + (e.2 * dt : Nat)
    tset 0 t e.1 (if waitsOn s k e.1 then up else if v < 0 then min 0 up else 0)
  s.updRlink k (fun l => { l with credit := l.slope.foldl one l.credit, creditAt := s.time.mono })

/-- A new IDLE_SLOPE applies at a frame boundary (R423): 0 turns the shaper off. -/
def newSlopes (k : Nat) (s : State) : State :=
  if (s.rlink k).slopeNext = [] then s
  else (shapeLink k s).updRlink k (fun l => { l with
    slope := l.slopeNext.foldl (fun t e => tset 0 t e.1 (e.2 - 1)) l.slope
    credit := l.slopeNext.foldl (fun t e => if e.2 = 1 then tdel t e.1 else t) l.credit, slopeNext := [] })

/-- What a sent frame takes from its class's credit: its length plus OVERHEAD (R399). -/
def spendShaper (k c len : Nat) (s : State) : State :=
  if tget 0 (s.rlink k).slope c = 0 then s else
  s.updRlink k (fun l => { l with
    credit := tset 0 l.credit c (tget 0 l.credit c - ((len + l.overhead) * 8 * 65536000 : Nat)) })

/-! ### Into the relay -/

/-- Put a frame into the relay with a new handle; every destination still has `n` cells to cross. The shapers of its links are up to
date before it waits there (R399). -/
def pushFrame (f : RFrame) (n : Nat) (s : State) : State :=
  let s := each (f.dests.filter (fun k => decide (k < 12))) s shapeLink
  let f := { f with id := s.relay.nextId, ver := s.relay.version, mc := f.mc || decide (1 < f.dests.length)
                    cells := f.dests.foldl (fun (t : Tab Nat) d => tset 0 t d n) [] }
  { s with relay := { s.relay with frames := s.relay.frames ++ [f], nextId := s.relay.nextId + 1 } }

/-! ### Mirroring (R408, R409) -/

/-- A link of a metadata header. -/
def mirrorLink (k : Nat) : Nat := k / 2 + 16 * (k % 2)
/-- The frame with its FCS, as it came or left; a clasp message has none (R438). -/
def wholeFrame (f : RFrame) : Bytes :=
  if f.msg then f.data else f.data ++ le 4 (if f.bad then fcsOf f.data ^^^ 0xFFFFFFFF else fcsOf f.data)
/-- The copy a session makes, behind its metadata.
Log entry 142 (DEDUCED). -/
def mirrorBytes (n : Nat) (x : MirrorSes) (egr : Nat) (t : NetTime) (f : RFrame) : Bytes :=
  le 1 (mirrorLink f.ing) ++ le 1 egr ++ le 1 f.cls
    ++ le 1 (b1 x.egress + 2 * b1 (decide (x.trunc < f.length)) + 4 * b1 f.cut + 8 * b1 f.bad)
    ++ le 2 f.length ++ le 1 n ++ le 1 0 ++ timeLe t ++ le 4 x.seq ++ (wholeFrame f).take x.trunc
/-- A session. -/
def mirrorOf (s : State) (n : Nat) : MirrorSes := tget {} s.relay.mirrors n
/-- Change a session. -/
def updMirror (n : Nat) (f : MirrorSes → MirrorSes) (s : State) : State :=
  { s with relay := { s.relay with mirrors := tset {} s.relay.mirrors n (f (mirrorOf s n)) } }

/-- Make a copy: buffers of requester 8, to HUB in class 0, or MIRROR_SKIPPED (R408). -/
def mirrorCopy (n egr : Nat) (t : NetTime) (f : RFrame) (s : State) : State :=
  let bs := mirrorBytes n (mirrorOf s n) egr t f
  match allocBufs 0 8 1 (ceilDiv bs.length 256) s with
  | (none, u) => { u with relay := { u.relay with skipped := (u.relay.skipped + 1) % 2 ^ 32 } }
  | (some l, u) =>
    flow (pushFrame { ing := 16, dests := [12], data := bs, len := some bs.length, bufs := l, rx := t } (ceilDiv bs.length 64)
      (relayCount 16 2 1 (relayCount 16 0 bs.length (updMirror n (fun x => { x with seq := (x.seq + 1) % 2 ^ 32 }) u))))

/-- Offer a frame to the sessions of a point: every Nth match is copied (R408).
Log entry 142 (DEDUCED). -/
def mirror (egress : Bool) (k egr : Nat) (t : NetTime) (f : RFrame) (s : State) : State :=
  each (List.range 4) s (fun n s =>
    let x := mirrorOf s n
    if x.on && x.egress == egress && bit x.classes f.cls && bit x.links (maskBit k) && f.ing != 16 then
      if x.n ≤ x.count + 1 then mirrorCopy n egr t f (updMirror n (fun x => { x with count := 0 }) s)
      else updMirror n (fun x => { x with count := x.count + 1 }) s
    else s)

/-- EGRESS of an ingress copy: 0xFF for a multicast frame (R409).
Log entry 142 (DEDUCED). -/
def mirrorEgress (f : RFrame) : Nat :=
  match f.mc, f.dests with
  | false, [d] => mirrorLink d
  | _, _ => 0xFF

/-! ### Frames of the internal ports (R406) -/

/-- Take a frame of an internal port, which allocates its buffers first; without them it waits. -/
def offer (f : RFrame) (s : State) : State :=
  let wait := { s with relay := { s.relay with waiting := s.relay.waiting ++ [f] } }
  if s.relay.waiting.any (fun x => x.ing == f.ing) then wait
  else match allocBufs 0 (f.ing / 2) f.dests.length (ceilDiv f.length 256) s with
    | (none, t) => { t with relay := wait.relay }
    | (some l, t) =>
      let t := relayCount f.ing 2 1 (relayCount f.ing 0 f.length t)
      flow (mirror false f.ing (mirrorEgress f) f.rx f (pushFrame { f with bufs := l } (ceilDiv f.length 64) t))

/-- Offer what waits again.
Log entry 122 (DESIGN CHOICE). -/
def retryWaiting (s : State) : State :=
  each s.relay.waiting { s with relay := { s.relay with waiting := [] } } offer

/-- Send a frame from an internal port, padded to 60 bytes, to these destinations in this class.
Log entry 147 (DEDUCED). -/
def inject (ing cls : Nat) (dests : List Nat) (data : Bytes) (stack : Bool) (s : State) : State :=
  let d := data ++ List.replicate (60 - data.length) 0
  if dests = [] then s else
    offer { ing := ing, cls := cls, dests := dests, data := d, len := some (d.length + 4), rx := s.time.now, stack := stack } s

/-! ### A destination served, a frame dropped (R395, R413) -/

/-- Credits that a frame from a clasp port took of its sender return as its buffers do, in the class it spent (R405). -/
def oweBack (ing cls n : Nat) (s : State) : State := if ing = 8 ∨ ing = 10 then oweCredits (ing == 10) cls n s else s

/-- Destination `k` of a frame is done with: its references return, in the name of the ingress requester. -/
def served (id k : Nat) (s : State) : State :=
  match frameOf s id with
  | none => s
  | some f =>
    if !f.dests.contains k then s else
    let s := freeBufs 0 f.bufs (f.ing / 2) s
    let left := f.dests.filter (· != k)
    let s := if left = [] then oweBack f.ing f.wire f.bufs.length (removeFrame id s)
      else updFrame id (fun x => { x with dests := left }) s
    flow (retryWaiting s)

/-- Drop a frame that no one has begun to send. -/
def dropFrame (id : Nat) (s : State) : State :=
  match frameOf s id with
  | none => s
  | some f => if f.dests = [] then removeFrame id s else each f.dests s (served id)

/-- A frame whole at an internal port is taken: HUB hands it to the firmware or, a mirror copy, to the loupe writer; SCHED
and LOUPE consume it (R380, R408). -/
def arriveInside (id d : Nat) (s : State) : State :=
  match frameOf s id with
  | none => s
  | some f =>
    if f.len.isNone ∨ cellsLeft f d ≠ 0 ∨ ¬ (f.dests.contains d ∧ (d = 12 ∨ d = 14 ∨ d = 16)) then s
    else
      let s := relayCount d 3 1 (relayCount d 1 f.length s)
      let s := if d ≠ 12 then mirror true d (mirrorLink d) s.time.now f s
        else if f.ing = 16 then stageRec 8 (f.data.length - 24) f.data s else s.emit (.hub f.data)
      served id d s

/-! ### Ingress -/

/-- The frame that link `k` is receiving; on a clasp link of a class, which has at most one (R438). -/
def receiving (s : State) (k w : Nat) : Option RFrame := s.relay.frames.find? (fun f => f.ing == k && f.wire == w && f.len.isNone)

/-- End a frame that proved bad: stomped when its head has left, else discarded (R382, R397). -/
def badFrame (f : RFrame) (data : Bytes) (len : Nat) (s : State) : State :=
  if sending s f.id then
    let f := { f with data := data.take 9212, len := some (min len 9216), bad := true }
    mirror false f.ing (mirrorEgress f) f.rx f (updFrame f.id (fun x => { x with data := f.data, len := f.len, bad := true }) s)
  else dropFrame f.id s

/-- A frame that is broken off in its reception counts as an error of its ingress (R397, R438). -/
def breakOff (k w : Nat) (s : State) : State :=
  match receiving s k w with
  | none => s
  | some f => badFrame f f.data (f.data.length + 4) (relayCount k (if k < 8 then 4 else 5) 1 s)

/-- No buffer at ingress (R407). -/
def overrun (k : Nat) (s : State) : State :=
  let s := relayCount k 16 1 s
  if k < 8 then raiseFault (339 + k) {} s else s

/-- Nothing is in transmission on a link and nothing but frame `id` waits for it (R396). -/
def idleFor (s : State) (k id : Nat) : Bool :=
  (s.rlink k).tx.isNone && !s.relay.frames.any (fun f => f.id != id && f.dests.contains k)

/-- The egress lets a frame of this class cut through (R396).
Log entry 145 (DEDUCED). -/
def cutOk (s : State) (ing k : Nat) : Bool :=
  let l := s.rlink k
  decide (k < 12) && l.cut && idleFor s k 0 && decide (linkRate s k ≤ linkRate s ing) && !l.gates.on

/-- The head of a frame is looked up and stored; `w` is the class it takes on a clasp link (R388). One that the table discards is only
counted, and seen by the mirror sessions when it is whole (R408). -/
def headTake (k w : Nat) (head : Bytes) (rx : NetTime) (s : State) : State :=
  if etype head = 0x8808 then (if fldBe head 14 2 = 1 then relayCount k 7 1 s else s)
  else
    let c := classify s k head
    let s := if c.2.2 then relayCount k 12 1 s else s
    let f : RFrame := { ing := k, cls := c.1, wire := w, dests := c.2.1, data := head, rx := rx
                        mc := toGroup s head && c.2.1 == (tableDests s k head).1 }
    if c.2.1 = [] then pushFrame f 0 s
    else
      let cut := (fdbOf s head).kind == 1 && (match c.2.1 with | [d] => cutOk s k d | _ => false)
      match allocBuf 0 (k / 2) c.2.1.length s with
      | (none, t) => overrun k t
      | (some b, t) => flow (pushFrame { f with cut := cut, bufs := [b] } 1 t)

/-- A head of 64 bytes arrives on link `k` (R388); on a clasp link, in the first cell of its frame: a cell that is discarded, and the
abort cell, end the frame in progress of its class (R437, R438).
Log entry 185 (DESIGN CHOICE). -/
def headArrive (k : Nat) (head : Bytes) (rx : NetTime) (s : State) : State :=
  if !linkUp s k then s
  else if k < 8 then headTake k 0 head rx (breakOff k 0 s)
  else
    let s := breakOff k (cellClass head) s
    if cellOk head ∧ bit (fld head 1 1) 3 ∧ ¬ bit (fld head 1 1) 6 then headTake k (cellClass head) (unitBody head) rx s else s

/-- FRAME_HEAD_ARRIVE (R388). -/
def execFrameHeadArrive (link : Nat) (head : Bytes) (rx : NetTime) (s : State) :=
  if link = 9 ∨ link = 11 then .fault .noSuchUnit else onUnit link 12 s (headArrive link head rx s)

/-- A good frame is whole: its other buffers, its other cells, the mirror sessions (R391, R408). -/
def frameGood (k : Nat) (frame : Bytes) (f : RFrame) (s : State) : State :=
  let len := frame.length + 4
  if f.dests = [] then
    let f := { f with data := frame, len := some len }
    oweBack k f.wire (ceilDiv len 256) (mirror false k 0xFF f.rx f (removeFrame f.id s))
  else match allocBufs 0 (k / 2) f.dests.length (ceilDiv len 256 - 1) s with
    | (none, t) => oweBack k f.wire (ceilDiv len 256 - 1) (badFrame f frame len (overrun k t))
    | (some l, t) =>
      let more := ceilDiv len 64 - 1
      let t := updFrame f.id (fun x => { x with
        data := frame, len := some len, bufs := x.bufs ++ l
        cells := x.dests.foldl (fun (c : Tab Nat) d => tset 0 c d (tget 0 c d + more)) x.cells }) t
      let t := flow (match frameOf t f.id with
        | some x => mirror false k (mirrorEgress x) x.rx x t
        | none => t)
      each f.dests t (arriveInside f.id)

/-- The end of a frame: length, FCS, the rest of its buffers (R382, R391, R397, R407). -/
def frameEnd (k w : Nat) (frame : Bytes) (fcs : Nat) (s : State) : State :=
  let len := frame.length + 4
  let s := relayCount k 2 1 (relayCount k 0 len s)
  let good := fcsOf frame
  let lenBad := decide (len < 64) || decide (9216 < len)
  let s := if lenBad then relayCount k 6 1 s else if fcs = good then s
    else relayCount k (if fcs = good ^^^ 0xFFFFFFFF then 5 else 4) 1 s
  match receiving s k w with
  | none => oweBack k w (ceilDiv len 256) s
  | some f =>
    if lenBad || fcs != good then oweBack k w (ceilDiv len 256 - f.bufs.length) (badFrame f frame len s) else frameGood k frame f s

/-- A frame on a clasp link ends as an aborted frame: discarded, and counted in RX_STOMPED (R437, R438). -/
def cellsAborted (k : Nat) (cells : List Bytes) (s : State) : State :=
  let w := cellsClass cells
  let d := cellsLoad cells
  let s := relayCount k 5 1 (relayCount k 2 1 (relayCount k 0 d.length s))
  match receiving s k w with
  | none => oweBack k w (ceilDiv d.length 256) s
  | some f => oweBack k w (ceilDiv d.length 256 - f.bufs.length) (badFrame f d d.length s)

/-- The last byte of a frame arrives. `frame` is the frame in the units that carried it: on an Ethernet link its pieces in order, with
the FCS received; on a clasp link its cells, where the FCS stands in the last four bytes of their payload (R438).
Log entries 142 (DEDUCED), 185 (DESIGN CHOICE). -/
def receiveEnd (k : Nat) (frame : List Bytes) (fcs : Nat) (s : State) : State :=
  if !linkUp s k then s
  else if k < 8 then frameEnd k 0 frame.flatten fcs s
  else match frameOfCells frame with
    | none => cellsAborted k frame s
    | some (msg, d) =>
      if msg then s else frameEnd k (cellsClass frame) (d.take (d.length - 4)) (unle (d.drop (d.length - 4))) s

/-- FRAME_RECEIVE_END (R382, R397). -/
def execFrameReceiveEnd (link : Nat) (frame : List Bytes) (fcs : Nat) (s : State) :=
  if link = 9 ∨ link = 11 then .fault .noSuchUnit else onUnit link 12 s (receiveEnd link frame fcs s)

/-! ### The crossbar (R391, R392) -/

/-- Highest class of an eligible virtual output queue of a pair, plus 1; 0 when it has none. -/
def pairClass (s : State) (i o : Nat) : Nat :=
  s.relay.frames.foldl (fun a f =>
    if f.ing / 2 = i ∧ f.dests.any (fun d => d / 2 == o && decide (0 < cellsLeft f d)) then max a (f.cls + 1) else a) 0

/-- The best of a list of (partner, priority): highest priority, then first at or after the pointer modulo 10. -/
def pickBest (ptr : Nat) (l : List (Nat × Nat)) : Option Nat :=
  (l.foldl (fun (a : Option (Nat × Nat)) e =>
    match a with
    | none => some e
    | some b =>
      if b.2 < e.2 ∨ (b.2 = e.2 ∧ (e.1 + 10 - ptr) % 10 < (b.1 + 10 - ptr) % 10) then some e else a) none).map (·.1)

/-- The pairs matched so far, with the pointers. -/
structure XMatch where
  /-- matched (input, output) pairs -/
  pairs : List (Nat × Nat) := []
  /-- output pointers -/
  optr : Tab Nat := []
  /-- input pointers -/
  iptr : Tab Nat := []
  deriving DecidableEq, Repr

/-- One iteration of request, grant and accept (R392); pointers move only in the first.
Log entry 143 (DEDUCED). -/
def xIter (s : State) (first : Bool) (m : XMatch) : XMatch :=
  let ins := (List.range 10).filter (fun i => !m.pairs.any (fun p => p.1 == i))
  let outs := (List.range 10).filter (fun o => !m.pairs.any (fun p => p.2 == o))
  let grants : List (Nat × Nat) := outs.filterMap (fun o =>
    (pickBest (tget 0 m.optr o) ((ins.map (fun i => (i, pairClass s i o))).filter (fun e => e.2 != 0))).map (fun i => (i, o)))
  ins.foldl (fun m i =>
    match pickBest (tget 0 m.iptr i) ((grants.filter (fun g => g.1 == i)).map (fun g => (g.2, pairClass s i g.2))) with
    | none => m
    | some o =>
      let m := { m with pairs := m.pairs ++ [(i, o)] }
      if first then { m with optr := tset 0 m.optr o ((i + 1) % 10), iptr := tset 0 m.iptr i ((o + 1) % 10) } else m) m

/-- Move one cell of a matched pair, from the highest class, oldest frame first. -/
def moveCell (p : Nat × Nat) (s : State) : State :=
  let c := pairClass s p.1 p.2
  let fits := fun (f : RFrame) => f.ing / 2 == p.1 && f.cls + 1 == c
  match s.relay.frames.find? (fun f => fits f && f.dests.any (fun d => d / 2 == p.2 && decide (0 < cellsLeft f d))) with
  | none => s
  | some f =>
    match f.dests.find? (fun d => d / 2 == p.2 && decide (0 < cellsLeft f d)) with
    | none => s
    | some d => arriveInside f.id d
        (updFrame f.id (fun x => { x with cells := tset 0 x.cells d (cellsLeft x d - 1) }) (if d < 12 then shapeLink d s else s))

/-- One cell time (R392): frames of the internal ports that wait for buffers are offered again first (R406). -/
def cellTime (s : State) : State :=
  let s := retryWaiting s
  let m := xIter s false (xIter s false (xIter s true { optr := s.relay.optr, iptr := s.relay.iptr }))
  each m.pairs { s with relay := { s.relay with optr := m.optr, iptr := m.iptr } } moveCell

/-- CROSSBAR_CELL_TIME (R392). -/
def execCrossbarCellTime (s : State) := live s (cellTime s)

/-! ### Gates (R400 to R402) -/

/-- The entries from a position of the cycle onward, once around: (duration in 2^-16 ns, mask). -/
def gateRot : List (Nat × Nat) → Nat → List (Nat × Nat) → List (Nat × Nat)
  | [], _, acc => acc.reverse
  | (d, m) :: t, pos, acc =>
    let d' := ns d
    if pos < d' then (d' - pos, m) :: t.map (fun e => (ns e.1, e.2)) ++ acc.reverse ++ [(pos, m)]
    else gateRot t (pos - d') ((d', m) :: acc)

/-- The list of a gate list as it stands at a time. -/
def gateNow (g : GateList) (now : NetTime) : List (Nat × Nat) :=
  gateRot g.entries (((now : Int) - g.base) % (ns g.cycle : Nat)).toNat []

/-- Time to the closing of a class that is open at the head of the list; none when it never closes. -/
def closing (c : Nat) (l : List (Nat × Nat)) : Option Nat :=
  let run := l.takeWhile (fun e => bit e.2 c)
  if run.length = l.length then none else some (run.foldl (fun a e => a + e.1) 0)

/-- The longest opening of a class in 2^-16 ns: none when it is always open, 0 when it has none. -/
def longest (c : Nat) (g : GateList) : Option Nat :=
  if g.entries.all (fun e => bit e.2 c) then none
  else some ((g.entries ++ g.entries).foldl (fun (a : Nat × Nat) e =>
    if bit e.2 c then (a.1 + ns e.1, max a.2 (a.1 + ns e.1)) else (0, a.2)) (0, 0)).2

/-- MAX_FRAME of a class. -/
def maxFrame (g : GateList) (c : Nat) : Nat := g.maxFrame.getD c 9216

/-- A frame of `len` bytes lasts no longer than `d` (2^-16 ns) on the link (R400). -/
def lasts (s : State) (k len d : Nat) : Bool :=
  decide ((len + (s.rlink k).overhead) * 8000 * 65536 ≤ d * linkRate s k)

/-- The guard band of a class in ns (R400). -/
def guardNs (s : State) (k c : Nat) : Nat :=
  ceilDiv ((maxFrame (s.rlink k).gates c + (s.rlink k).overhead) * 8000) (max 1 (linkRate s k))

/-- The gate of the class lets a frame of this length start now (R400), and it ends before a new list takes effect (R402).
Log entry 146 (DEDUCED). -/
def gateOk (s : State) (k c len : Nat) : Bool :=
  let l := s.rlink k
  let g := l.gates
  let rot := gateNow g s.time.now
  let isOpen := !g.on || ((rot.head?.map (fun e => bit e.2 c)).getD true)
  let shut := if g.on then closing c rot else none
  decide (8 ≤ k) || (isOpen && (match shut with
    | none => true
    | some d => decide (ns (guardNs s k c) < d) || lasts s k len d)
    && (match l.gatesAt with
    | none => true
    | some n => lasts s k len (n.at' - s.time.now)))

/-- A frame is oversize for its gate (R401). -/
def oversize (s : State) (k : Nat) (f : RFrame) : Bool :=
  let g := (s.rlink k).gates
  decide (k < 8) && g.on && (match longest f.cls g with
    | some 0 => false
    | some d => decide (maxFrame g f.cls < f.length) || !lasts s k f.length d
    | none => decide (maxFrame g f.cls < f.length))

/-- GATE_MASK in force (R400). -/
def gateMask (l : RLink) (now : NetTime) : Nat :=
  if l.gates.on then ((gateNow l.gates now).head?.map (·.2)).getD 0xFF else 0xFF

/-- GATE_ENTRY_BOUNDARY (R400). -/
def execGateEntryBoundary (link : Nat) (s : State) :=
  onUnit link 8 s (s.updRlink link (fun l => { l with gate := gateMask l s.time.now }))

/-- GATE_LIST_TAKE_EFFECT (R402). -/
def execGateListTakeEffect (link : Nat) (s : State) :=
  onUnit link 8 s (match (s.rlink link).gatesAt with
    | some g =>
      if g.at' ≤ s.time.now then s.updRlink link (fun l =>
        let l := { l with gates := g, gatesAt := none }
        { l with gate := gateMask l s.time.now })
      else s
    | none => s)

/-! ### The transparent clock (R362) -/

/-- The transparent clock serves a frame from one external port to another. -/
def tcServes (s : State) (ing k : Nat) : Bool :=
  s.time.tcOn && decide (ing < 8) && decide (k < 8) && bit s.time.tcMask (ing / 2) && bit s.time.tcMask (k / 2)

/-- Match key: port identity, sequenceId and domainNumber of the header at `o`, the identity at `i`. -/
def tcKey (d : Bytes) (o i : Nat) (delay : Bool) : Nat :=
  b1 delay * 2 ^ 128 + fldBe d i 10 * 2 ^ 24 + fldBe d (o + 30) 2 * 2 ^ 8 + fld d (o + 4) 1

/-- The key that a Follow_Up or Delay_Resp looks for. -/
def tcWants (d : Bytes) : Option Nat :=
  match ptpOfs d with
  | none => none
  | some o =>
    if fld d o 1 % 16 = 8 then some (tcKey d o (o + 20) false)
    else if fld d o 1 % 16 = 9 then some (tcKey d o (o + 44) true) else none

/-- The pending match of a key on a port.
Log entry 144 (DEDUCED). -/
def tcMatch (s : State) (port key : Nat) : Option TcMatch := (tget [] s.time.tc port).find? (fun m => m.key == key)

/-- Count one entry or message in TC_UNMATCHED. -/
def tcLost (s : State) : State := { s with time := { s.time with tcUnmatched := (s.time.tcUnmatched + 1) % 2 ^ 32 } }

/-- Add a match to a port; the oldest of 64 gives way. -/
def tcAdd (port key : Nat) (res : NetTime) (s : State) : State :=
  let l := tget [] s.time.tc port
  let s := if l.length < 64 then s else tcLost s
  let l := (if l.length < 64 then l else l.drop 1) ++ [{ key := key, residence := res, at' := s.time.mono }]
  { s with time := { s.time with
      tc := tset [] s.time.tc port l
      tcHold := s.time.tcHold.filter (fun h => !(h.port == port && h.key == key)) } }

/-- The message's correctionField with a residence added, and a UDP checksum set to zero. -/
def addCorrection (d : Bytes) (o : Nat) (res : NetTime) : Bytes :=
  let v := uns 64 (sgn 64 (fldBe d (o + 8) 8) + (res : Nat))
  let d := d.take (o + 8) ++ be 8 v ++ d.drop (o + 16)
  if etype d = 0x0800 then d.take (o - 2) ++ [0, 0] ++ d.drop o else d

/-- What the transparent clock makes of a frame that leaves on link `k` at `t`: its bytes, and the matches. -/
def tcLeave (k : Nat) (t : NetTime) (f : RFrame) (s : State) : Bytes × State :=
  match ptpOfs f.data with
  | none => (f.data, s)
  | some o =>
    if !tcServes s f.ing k then (f.data, s) else
    let res := t - f.rx
    match fld f.data o 1 % 16 with
    | 0 =>
      if bit (fld f.data (o + 6) 1) 1 then (f.data, tcAdd (k / 2) (tcKey f.data o (o + 20) false) res s)
      else (addCorrection f.data o res, s)
    | 1 => (f.data, tcAdd (f.ing / 2) (tcKey f.data o (o + 20) true) res s)
    | _ =>
      match (tcWants f.data).bind (tcMatch s (k / 2)) with
      | none => (f.data, s)
      | some m =>
        (addCorrection f.data o m.residence,
         { s with time := { s.time with
             tc := tset [] s.time.tc (k / 2) ((tget [] s.time.tc (k / 2)).filter (fun x => x.key != m.key)) } })

/-- The frame has overtaken its event message and is held on this link (R362). -/
def tcHeld (s : State) (k : Nat) (f : RFrame) : Bool := s.time.tcHold.any (fun h => h.frame == f.id && h.port == k / 2)

/-- The frame must be held: it looks for a match that is not there, and has not been released already. -/
def tcMustHold (s : State) (k : Nat) (f : RFrame) : Bool :=
  tcServes s f.ing k && !f.held.contains (64 + k) &&
    (match tcWants f.data with | some key => (tcMatch s (k / 2) key).isNone | none => false)

/-- Hold a message; `held` remembers that it has been held on this link. -/
def tcHoldFrame (k : Nat) (f : RFrame) (s : State) : State :=
  let s := updFrame f.id (fun x => { x with held := x.held ++ [64 + k] }) s
  { s with time := { s.time with tcHold := s.time.tcHold ++
      [{ key := (tcWants f.data).getD 0, port := k / 2, frame := f.id, at' := s.time.mono }] } }

/-- TC_MATCH_TIMEOUT (R362): entries of a port not matched within 1 s are dropped and counted. -/
def execTcMatchTimeout (port : Nat) (s : State) :=
  onUnit port 4 s (
    let l := tget [] s.time.tc port
    let old := l.filter (fun m => decide (m.at' + oneSecond ≤ s.time.mono))
    let s := each old s (fun _ s => tcLost s)
    { s with time := { s.time with
        tc := tset [] s.time.tc port (l.filter (fun m => !decide (m.at' + oneSecond ≤ s.time.mono))) } })

/-- TC_HOLD_TIMEOUT (R362): a message held for 1 ms goes on unchanged, and is counted. -/
def execTcHoldTimeout (frame : Nat) (s : State) :=
  live s (
    let due := fun (h : TcHold) => h.frame == frame && decide (h.at' + ms 1 ≤ s.time.mono)
    let s' := each (s.time.tcHold.filter due) s (fun _ s => tcLost s)
    { s' with time := { s'.time with tcHold := s'.time.tcHold.filter (fun h => !due h) } })

/-! ### Egress (R383, R398 to R403) -/

/-- A frame may be considered for sending on link `k`: its first cell is there, and it is whole or still cuts through (R396).
Log entry 143 (DEDUCED). -/
def atEgress (s : State) (k : Nat) (f : RFrame) : Bool :=
  f.dests.contains k && (match f.len with
    | some n => decide (cellsLeft f k < ceilDiv n 64)
    | none => f.cut && cellsLeft f k == 0 && (s.rlink k).cut && !(s.rlink k).gates.on && idleFor s k f.id)

/-- The head of a class's queue on a link; a frame that is held holds back the later ones of its ingress link (R362, R394). -/
def headOf (s : State) (k c : Nat) : Option RFrame :=
  let q := s.relay.frames.filter (fun f => f.cls == c && f.dests.contains k)
  let held := q.filter (tcHeld s k)
  q.find? (fun f => atEgress s k f && !held.any (fun h => h.ing == f.ing && decide (h.id ≤ f.id)))

/-- Discard oversize heads of a class, hold messages that overtook their event message (R362, R401). -/
def tidyHead (k c : Nat) : Nat → State → State
  | 0, s => s
  | n + 1, s =>
    match headOf s k c with
    | none => s
    | some f =>
      if oversize s k f then tidyHead k c n (raiseFault 355 {} (served f.id k (relayCount k 14 1 s)))
      else if tcMustHold s k f then tidyHead k c n (tcHoldFrame k f s)
      else s

/-- Count a head that its gate holds, once (R400). -/
def countHeld (k c : Nat) (s : State) : State :=
  match headOf s k c with
  | none => s
  | some f =>
    if gateOk s k c f.length || f.held.contains k then s
    else relayCount k 13 1 (updFrame f.id (fun x => { x with held := x.held ++ [k] }) s)

/-- Credits that a frame takes on a clasp port: those of the largest frame while its length is not known (R405).
Log entry 145 (DEDUCED). -/
def claspNeed (f : RFrame) : Nat := ceilDiv f.length 256

/-- A class is eligible on a link (R398, R405).
Log entry 143 (DEDUCED). -/
def eligible (s : State) (k c : Nat) : Bool :=
  match headOf s k c with
  | none => false
  | some f =>
    let l := s.rlink k
    !bit l.paused c && (tget 0 l.slope c == 0 || decide (0 ≤ tget 0 l.credit c)) && gateOk s k c f.length
      && (decide (k < 8) || decide (claspNeed f ≤ creditOf s (k == 10) c))

/-- Discard every frame queued for a link that is down (R403). -/
def discardQueued (k : Nat) (s : State) : State :=
  each (s.relay.frames.filter (fun f => f.dests.contains k)) s (fun f s => relayCount k 15 1 (served f.id k s))

/-- Begin to send a frame (R396, R398). -/
def beginSend (k : Nat) (f : RFrame) (s : State) : State :=
  let s := updFrame f.id (fun x => { x with cut := x.len.isNone }) s
  let s := if k < 8 then s else setCredit (k == 10) f.cls (creditOf s (k == 10) f.cls - claspNeed f) s
  let s := s.updRlink k (fun l => { l with tx := some (f.id, s.time.now) })
  if f.len.isNone then relayCount k 10 1 s
  else mirror true k (mirrorLink k) s.time.now { f with cut := false } s

/-- Start the frame that was chosen, if one was. -/
def beginHead (k : Nat) (f : Option RFrame) (s : State) : State :=
  match f with
  | none => s
  | some f => beginSend k f s

/-- On an idle link the highest eligible class starts its next frame (R398). -/
def egressStart (k : Nat) (s : State) : State :=
  if !linkUp s k then discardQueued k s
  else if (s.rlink k).tx.isSome then s
  else
    let s := shapeLink k (newSlopes k s)
    let s := each (List.range 8) s (fun c s => countHeld k c (tidyHead k c (s.relay.frames.length + 1) s))
    beginHead k (((List.range 8).reverse.find? (eligible s k)).bind (headOf s k)) s

/-- EGRESS_FRAME_START (R398). -/
def execEgressFrameStart (link : Nat) (s : State) :=
  if link = 9 ∨ link = 11 then .fault .noSuchUnit else onUnit link 12 s (egressStart link s)

/-- A transmit timestamp enters its port's queue of 32 (R361). -/
def pushTxts (port : Nat) (x : TxTs) (s : State) : State :=
  let q := tget [] s.time.txts port
  if q.length < 32 then { s with time := { s.time with txts := tset [] s.time.txts port (q ++ [x]) } }
  else raiseCond (325 + port) 0 {} { s with time := { s.time with txtsOvf := insertAsc port s.time.txtsOvf } }

/-- The follow-up of a two-step event message that the firmware sent (R358): the message itself, with its type, flags and
timestamp changed. -/
def followUp (d : Bytes) (o : Nat) (t : NetTime) : Bytes :=
  let ty := fld d o 1
  let d := d.take o ++ le 1 (if ty % 16 = 3 then ty + 7 else ty + 8) ++ d.drop (o + 1)
  let d := d.take (o + 6) ++ le 1 (fld d (o + 6) 1 &&& 0xFD) ++ d.drop (o + 7)
  let d := d.take (o + 34) ++ be 6 (t / oneSecond) ++ be 4 (t / 65536 % 1000000000) ++ d.drop (o + 44)
  if etype d = 0x0800 then d.take (o - 6) ++ be 2 320 ++ d.drop (o - 4) else d

/-- An event message of the active stack has left (R358, R361). The firmware drains the queue itself. -/
def stackSent (k : Nat) (t : NetTime) (f : RFrame) (s : State) : State :=
  match ptpOfs f.data with
  | none => s
  | some o =>
    let ty := fld f.data o 1 % 16
    if !f.stack ∨ 3 < ty then s
    else if f.ing ≠ 12 then
      pushTxts (k / 2) { seq := fldBe f.data (o + 30) 2, type := ty, domain := fld f.data (o + 4) 1, time := t } s
    else if ty = 1 ∨ ty = 2 then
      { s with time := { s.time with ptp := { s.time.ptp with
          req := match s.time.ptp.req with
            | some (q, _, _) => if q = fldBe f.data (o + 30) 2 then some (q, t, true) else s.time.ptp.req
            | none => none } } }
    else inject 12 s.relay.ptpClass [k] (followUp f.data o t) false s

/-- A pause quantum of 512 bit times, as a time. -/
def quantum (s : State) (k : Nat) : NetTime := ns (512 * 1000) / max 1 (linkRate s k)

/-- A frame as it leaves: on an Ethernet link as bytes, on a clasp link in cells (R397, R438). -/
def leaveFrame (k : Nat) (d : Bytes) (f : RFrame) (s : State) : State :=
  if k < 8 then s.emit (.eth k d f.bad)
  else s.emit (.cells (k == 10) (cellsOf f.cls f.msg (!f.bad) (if f.msg || f.bad then d else d ++ le 4 (fcsOf d))))

/-- PFC_REFRESH (R404): XOFF is repeated every 0x7FFF quanta while its condition holds, at a frame boundary. -/
def pfcRefresh (k : Nat) (s : State) : State :=
  let l := s.rlink k
  let due := (List.range 8).filter (fun c => bit l.xoff c && decide (tget 0 l.xoffAt c + 0x7FFF * quantum s k ≤ s.time.mono))
  if !l.up || l.tx.isSome || due.isEmpty then s
  else (relayCount k 9 1 (s.emit (.pfc k (due.foldl (fun a c => a + 2 ^ c) 0) true))).updRlink k
    (fun l => { l with xoffAt := due.foldl (fun t c => tset 0 t c s.time.mono) l.xoffAt })

/-- The end of a frame's transmission (R395): it leaves, is counted and timestamped, and its references return; PFC frames that waited for
it leave next, ahead of queued frames (R404). -/
def egressDone (k : Nat) (s : State) : State :=
  match (s.rlink k).tx with
  | none => s
  | some (id, t) =>
    match frameOf s id with
    | none => s.updRlink k (fun l => { l with tx := none })
    | some f =>
      if f.len.isNone || (cellsLeft f k != 0 && !f.bad) then s else
      let p := tcLeave k t f s
      let s := leaveFrame k p.1 f p.2
      let s := relayCount k 3 1 (relayCount k 1 f.length s)
      let s := if f.bad then relayCount k 11 1 s else s
      let s := if f.cut then mirror true k (mirrorLink k) t f s else s
      let s := if f.cut ∧ 8 ≤ k then setCredit (k == 10) f.cls (creditOf s (k == 10) f.cls + 36 - claspNeed f) s else s
      let s := spendShaper k f.cls f.length (shapeLink k s)
      let s := newSlopes k (s.updRlink k (fun l => { l with tx := none }))
      let s := served id k s
      stackSent k t f (if k < 8 then pfcRefresh k s else s)

/-- EGRESS_FRAME_DONE (R395). -/
def execEgressFrameDone (link : Nat) (s : State) :=
  if link = 9 ∨ link = 11 then .fault .noSuchUnit else onUnit link 12 s (egressDone link s)

/-! ### Flow control and links (R403 to R405) -/

/-- PFC_RECEIVE (R404): named classes pause for their quanta; a time of 0 ends a pause. -/
def execPfcReceive (link classes : Nat) (quanta : List Nat) (s : State) :=
  onUnit link 8 s (
    if !linkUp s link then s else
    let one : RLink → Nat → RLink := fun l c =>
      if !(bit classes c && bit l.pfc c) then l
      else if quanta.getD c 0 = 0 then
        { l with paused := l.paused &&& (255 - 2 ^ c), pauseTo := tdel l.pauseTo c }
      else { l with paused := l.paused ||| 2 ^ c
                    pauseTo := tput l.pauseTo c (s.time.mono + quanta.getD c 0 % 65536 * quantum s link) }
    (relayCount link 8 1 s).updRlink link (fun l => (List.range 8).foldl one l))

/-- PAUSE_EXPIRY (R404): the pause time of a class has run out. -/
def execPauseExpiry (link cls : Nat) (s : State) :=
  if 8 ≤ cls then .fault .noSuchUnit else
  onUnit link 8 s (match tfind (s.rlink link).pauseTo cls with
    | none => s
    | some t => if t ≤ s.time.mono then s.updRlink link (fun l =>
        { l with paused := l.paused &&& (255 - 2 ^ cls), pauseTo := tdel l.pauseTo cls }) else s)

/-- Meaning of PFC_REFRESH. -/
def execPfcRefresh (link : Nat) (s : State) := onUnit link 8 s (pfcRefresh link s)

/-- A link of the relay goes down: what it was receiving and sending ends, what waits for it is discarded (R403). -/
def relayLinkDown (k : Nat) (s : State) : State :=
  let s := s.updRlink k (fun l => { l with up := false, tx := none, paused := 0, pauseTo := [], xoff := 0 })
  let s := each (if k < 8 then [0] else List.range 8) s (breakOff k)
  discardQueued k s

/-- An external link goes down, raising RELAY_LINK_DOWN (R403). -/
def ethDown (k : Nat) (s : State) : State :=
  if (s.rlink k).up then raiseCond (331 + k) 0 {} (relayLinkDown k s) else s

/-- ETH_LINK_DOWN (R403). -/
def execEthLinkDown (link : Nat) (s : State) := onUnit link 8 s (ethDown link s)

/-- SerDes lanes of an Ethernet link, numbered as in R590 (R381). -/
def ethLanes (s : State) (k : Nat) : List Nat := if portMode s (k / 2) = 1 then [40 + k / 2 * 2, 41 + k / 2 * 2] else [40 + k]

/-- ETH_LINK_UP (R403): a link of the port's mode comes up, unless a lane test holds it down (R594). -/
def execEthLinkUp (link : Nat) (s : State) :=
  onUnit link 8 s (
    if (s.rlink link).up ∨ ¬ (portLinks s (link / 2)).contains link ∨ (ethLanes s link).any (fun n => (s.lane n).test) then s
    else raiseEvent (365 + link) {} (flow (endCond (331 + link) 0
      (s.updRlink link (fun l => { l with up := true, creditAt := s.time.mono })))))

/-- CLASP_CREDIT_RECEIVE (R405, R437, R439): RETURN[8] of a CREDIT unit adds credits. -/
def claspCredit (west : Bool) (unit : Bytes) (s : State) : State :=
  if !(s.clasp west).up then s
  else match ctrlBody 4 unit with
    | none => s
    | some b => each (List.range 8) s (fun c s => setCredit west c (creditOf s west c + fld b (2 * c) 2) s)

/-- Meaning of CLASP_CREDIT_RECEIVE. -/
def execClaspCreditReceive (west : Bool) (unit : Bytes) (s : State) := live s (claspCredit west unit s)

/-! ### The host frame path (R487 to R489) -/

/-- The link that a DIRECT descriptor names (R488); a port above 5 names none.
Log entry 147 (DEDUCED). -/
def directDests (p : Nat) : List Nat := if p % 16 < 6 then [p % 16 * 2 + b1 (bit p 4)] else []

/-- Destinations of a transmit descriptor: DIRECT, or by the table (R488); the refusal of R383 takes a link B. -/
def hostDests (s : State) (desc data : Bytes) : List Nat × Bool :=
  let p := fld desc 11 1
  let r := if bit p 7 then (directDests p, false) else tableDests s 18 data
  if s.time.source = 2 ∧ ptpEvent data then (r.1.filter (fun k => !(decide (k < 8) && k % 2 == 1)), r.2) else r

/-- Links on which R383 refuses an event message of the host's stack.
Log entries 144 (DEDUCED), 147 (DEDUCED). -/
def hostRefused (s : State) (desc data : Bytes) : List Nat :=
  let p := fld desc 11 1
  let r := if bit p 7 then directDests p else (tableDests s 18 data).1
  if s.time.source = 2 ∧ ptpEvent data then r.filter (fun k => decide (k < 8) && k % 2 == 1 && decide (2 ≤ portMode s (k / 2))) else []

/-- A transmit descriptor is done: FLAGS, TX_HEAD and vector 17 (R480, R487 to R489). -/
def txDone (s : State) : State :=
  let s := dmaWrite (s.hi.txBase + 32 * s.hi.txHead + 12) (le 2 1) s
  sendVector 17 { s with hi := { s.hi with txHead := (s.hi.txHead + 1) % max 1 s.hi.txSize }
                         relay := { s.relay with txWait := false } }

/-- Take the frame of the next transmit descriptor (R406, R487 to R489).
Log entry 147 (DEDUCED). -/
def hostTx (desc data : Bytes) (s : State) : State :=
  if !s.hi.txEn || !s.hi.busMaster || s.hi.txHead == s.hi.txTail then s
  else
    let d := slice data 0 (fld desc 8 2)
    let len := d.length + 4
    if len < 64 ∨ 9216 < len then txDone (relayCount 18 6 1 s)
    else
      let refused := hostRefused s desc d
      let dests := hostDests s desc d
      let count := fun s => relayCount 18 2 1 (relayCount 18 0 len
        (each refused (if dests.2 then relayCount 18 12 1 s else s) (fun k => relayCount k 18 1)))
      let f : RFrame := { ing := 18, cls := fld desc 10 1 % 8, dests := dests.1, data := d, len := some len, rx := s.time.now
                          mc := !bit (fld desc 11 1) 7 && toGroup s d, stack := s.time.source == 2 && ptpEvent d }
      if dests.1 = [] then txDone (mirror false 18 0xFF s.time.now f (count s))
      else match allocBufs 0 9 dests.1.length (ceilDiv len 256) s with
        | (none, t) => { t with relay := { t.relay with txWait := true } }
        | (some l, t) =>
          let f := { f with bufs := l }
          txDone (flow (mirror false 18 (mirrorEgress f) s.time.now f (pushFrame f (ceilDiv len 64) (count t))))

/-- HOST_TX_FRAME (R489). -/
def execHostTxFrame (desc data : Bytes) (s : State) := live s (hostTx desc data s)

/-- The frame that port 9 delivers next: highest class, oldest first. -/
def hostFrame (s : State) : Option RFrame :=
  (List.range 8).reverse.findSome? (fun c =>
    s.relay.frames.find? (fun f => f.cls == c && f.dests.contains 18 && f.len.isSome && cellsLeft f 18 == 0))

/-- Deliver a frame into the next posted receive buffer (R487 to R489). -/
def hostRx (desc : Bytes) (s : State) : State :=
  if !s.hi.rxEn || !s.hi.busMaster || s.hi.rxHead == s.hi.rxTail then s
  else match hostFrame s with
    | none => s
    | some f =>
      let ev := decide (f.ing < 8) && ptpEvent f.data
      let s := dmaWrite (fld desc 0 8) f.data s
      let s := dmaWrite (s.hi.rxBase + 32 * s.hi.rxHead + 8)
        (le 2 f.data.length ++ le 1 f.cls ++ le 1 (mirrorLink f.ing) ++ le 2 (1 + 2 * b1 ev) ++ le 2 0
          ++ (if ev then timeLe f.rx else le 12 0) ++ le 4 0) s
      let s := { s with hi := { s.hi with rxHead := (s.hi.rxHead + 1) % max 1 s.hi.rxSize } }
      let s := mirror true 18 (mirrorLink 18) s.time.now f s
      sendVector 16 (served f.id 18 (relayCount 18 3 1 (relayCount 18 1 f.length s)))

/-- HOST_RX_DELIVER (R489). -/
def execHostRxDeliver (desc : Bytes) (s : State) := live s (hostRx desc s)

end Sys2Proof.Machine
end

