-- ==== Sys2Proof/Machine/RelayCmd.lean ====
section
/-! DEFINITION. Relay commands (R415 to R425) and fences (R390). -/

namespace Sys2Proof.Machine

/-- Change the relay's own settings. -/
def updRelay (f : Relay → Relay) (s : State) : State := { s with relay := f s.relay }

/-- `relay.config` (R415). RELAY_MAC stands in wire order, its first octet at the lowest offset, as do GROUP_MAC, the MAC of endpoint.admit
and endpoint.read (log entry 169, DEDUCED). -/
def cmdRelayConfig : Cmd where
  op := 0x0D01
  checks p _ := layout [6, 1, 1, 2, 1, 1, 2, 1, 1, 1, 1, 1, 1, 1, 1] p ++
    [range p 6 1 0 2, range p 7 1 0 7, range p 8 2 0 4095, range p 10 1 0 7, range p 11 1 0 7, resv p 12 2]
    ++ (List.range 8).map (fun i => range p (14 + i) 1 0 7)
  run r s :=
    let p := r.pay
    let pcp := (List.range 8).foldl (fun (t : Tab Nat) i => tset (i + 1) t i (fld p (14 + i) 1 + 1)) []
    ok (updRelay (fun x => { x with
      mac := fldBe p 0 6, miss := fld p 6 1, defClass := fld p 7 1, missGroup := fld p 8 2, epClass := fld p 10 1
      ptpClass := fld p 11 1, pcp := pcp }) s)

/-- Meaning of `relay.config`. -/
def execRelayConfig (req : Req) (s : State) := command cmdRelayConfig req s

/-- A port and link that exist in the port's mode. -/
def relayLinkBad (s : State) (port link : Nat) : Bool :=
  if port < 4 then link == 1 && decide (portMode s port < 2) else link != 0

/-- MODE of a port after a `relay.port_config`. -/
def newMode (s : State) (p : Bytes) : Nat := if fld p 2 1 = 0xFF then portMode s (fld p 0 1) else fld p 2 1

/-- A change of MODE, IFACE or FEC (R416). -/
def portChanges (s : State) (p : Bytes) : Bool :=
  let n := fld p 0 1
  decide (n < 4) && (newMode s p != portMode s n || fld p 3 1 != tget 0 s.relay.iface n || fld p 4 1 != tget 0 s.relay.fec n)

/-- The firmware PTP stack or the transparent clock uses a port (R416). -/
def portTimed (s : State) (n : Nat) : Bool :=
  (s.time.source == 1 && s.time.ptp.on && s.time.ptp.port == n) || (s.time.tcOn && bit s.time.tcMask n)

/-- `relay.port_config` (R416).
Log entry 148 (DEDUCED). -/
def cmdRelayPortConfig : Cmd where
  op := 0x0D02
  checks p s :=
    let n := fld p 0 1
    let ext := decide (n < 4)
    let m := newMode s p
    layout [1, 1, 1, 1, 1, 1, 1, 1] p ++
    [range p 0 1 0 9, (decide (1 < fld p 1 1) || (fld p 1 1 == 1 && !(ext && decide (2 ≤ m))), bad 1),
     (fld p 2 1 != 0xFF && (!ext || decide (3 < fld p 2 1)), bad 2),
     (if ext then decide (3 < fld p 3 1) else fld p 3 1 != 0, bad 3),
     (decide (1 < fld p 4 1) || (fld p 4 1 == 1 && !(ext && m == 3)), bad 4),
     (decide (3 < fld p 5 1) || (bit (fld p 5 1) 1 && (if ext then decide (1 < fld p 3 1) else decide (6 ≤ n))), bad 5),
     (!ext && fld p 6 1 != 0, bad 6), (if ext then decide (64 < fld p 7 1) else fld p 7 1 != 0, bad 7)]
  run r s :=
    let p := r.pay
    let n := fld p 0 1
    let k := 2 * n + fld p 1 1
    let ch := portChanges s p
    guarded [(ch && portTimed s n, conflict 6)] (
      let t := if ch then each [2 * n, 2 * n + 1] s ethDown else s
      let t := if n < 4 then updRelay (fun x => { x with
          mode := tset 0 x.mode n (newMode s p), iface := tset 0 x.iface n (fld p 3 1)
          fec := tset 0 x.fec n (fld p 4 1) }) t else t
      ok (flow (t.updRlink k (fun l =>
        let l := { l with cut := bit (fld p 5 1) 0, train := bit (fld p 5 1) 1 }
        if n < 4 then { l with pfc := fld p 6 1, overhead := fld p 7 1 } else l))))

/-- Meaning of `relay.port_config`. -/
def execRelayPortConfig (req : Req) (s : State) := command cmdRelayPortConfig req s

/-- Checks of a PORT and LINK pair at offsets 0 and 1. -/
def portLinkChecks (s : State) (p : Bytes) (ports : Nat) : List (Bool × Refuse) :=
  [range p 0 1 0 (ports - 1), (decide (1 < fld p 1 1) || relayLinkBad s (fld p 0 1) (fld p 1 1), bad 1)]

/-- A counter of a relay link.
Log entry 145 (DEDUCED). -/
def relayCounter (s : State) (k i : Nat) : Nat := tget 0 (s.rlink k).counters i

/-- What the FEC of a link has corrected and not corrected since its last reading: codewords of the medium, which are free values.
Log entry 145 (DEDUCED). -/
def fecSeen (n k : Nat) (s : State) : State :=
  if linkUp s k ∧ (n = 4 ∨ n = 5 ∨ portMode s n = 1 ∨ portMode s n = 2 ∨ (portMode s n = 3 ∧ tget 0 s.relay.fec n = 1)) then
    let a := s.draw
    let b := a.2.draw
    let s := relayCount k 20 a.1 (relayCount k 21 b.1 b.2)
    if n < 4 ∧ b.1 % 2 ^ 32 ≠ 0 then raiseFault (347 + k) {} s else s
  else s

/-- `relay.port_status` (R417). Internal ports are always up; a clasp port shows the classes it withholds in XOFF (R405). -/
def cmdRelayPortStatus : Cmd where
  op := 0x0D03
  checks p s := layout [1, 1, 2] p ++ portLinkChecks s p 10 ++ [resv p 2 2]
  run r s :=
    let n := fld r.pay 0 1
    let k := 2 * n + fld r.pay 1 1
    let l := s.rlink k
    let xoff := if n = 4 ∨ n = 5 then withheld s n else l.xoff
    let t := fecSeen n k s
    ok t (le 1 (b1 (linkUp s k || decide (12 ≤ k))) ++ le 1 (if n < 4 then portMode s n else 0) ++ le 1 (tget 0 s.relay.fec n)
      ++ le 1 l.paused ++ le 1 xoff ++ le 3 0 ++ le 4 (relayCounter t k 20) ++ le 4 (relayCounter t k 21))

/-- Meaning of `relay.port_status`. -/
def execRelayPortStatus (req : Req) (s : State) := command cmdRelayPortStatus req s

/-! ### Forwarding table -/

/-- Field checks of the entry at offset `o` (R386). -/
def fdbChecks (s : State) (p : Bytes) (o : Nat) : List (Bool × Refuse) :=
  let kind := fld p (o + 8) 1
  [(decide (4095 < fld p (o + 6) 2), bad (o + 6)), range p (o + 8) 1 0 2,
   (kind == 0 && decide (9 < fld p (o + 9) 1), bad (o + 9)),
   (kind == 0 && (decide (1 < fld p (o + 10) 1) || relayLinkBad s (fld p (o + 9) 1) (fld p (o + 10) 1)), bad (o + 10)),
   (bits (fld p (o + 11) 1) 6 3 != 0, bad (o + 11)), (kind == 1 && decide (4095 < fld p (o + 12) 2), bad (o + 12)),
   range p (o + 14) 1 0 1, resv p (o + 15) 1]

/-- Key of the entry at offset `o`. -/
def fdbKey (p : Bytes) (o : Nat) : Nat := fldBe p o 6 * 4096 + fld p (o + 6) 2 % 4096

/-- The entry at offset `o`. -/
def fdbAt (p : Bytes) (o : Nat) : Fdb :=
  { kind := fld p (o + 8) 1 + 1, port := fld p (o + 9) 1, link := fld p (o + 10) 1, ovr := fld p (o + 11) 1
    group := fld p (o + 12) 2 }

/-- Apply the entry at offset `o`, counting deletes of absent keys (R418). -/
def fdbApply (p : Bytes) (a : Tab Fdb × Nat) (o : Nat) : Tab Fdb × Nat :=
  if fld p (o + 14) 1 = 1 then
    (tdel a.1 (fdbKey p o), if (tfind a.1 (fdbKey p o)).isNone then a.2 + 1 else a.2)
  else (tset {} a.1 (fdbKey p o) (fdbAt p o), a.2)

/-- `relay.fdb_write` (R389, R418). -/
def cmdRelayFdbWrite : Cmd where
  op := 0x0D04
  checks p s :=
    let n := fld p 0 2
    [sel p 0 2 1 250] ++ layout ([2, 2] ++ entries n [6, 2, 1, 1, 1, 1, 2, 1, 1]) p ++ [resv p 2 2]
      ++ (List.range n).flatMap (fun i => fdbChecks s p (4 + 16 * i))
  run r s :=
    let p := r.pay
    let t := ((List.range (fld p 0 2)).map (fun i => 4 + 16 * i)).foldl (fdbApply p) (s.relay.fdb, 0)
    let v := (s.relay.version + 1) % 2 ^ 32
    guarded [(decide (65536 < t.1.length), quota)]
      (ok (updRelay (fun x => { x with fdb := t.1, version := v }) s) (le 4 v ++ le 2 t.2 ++ le 2 0))

/-- Meaning of `relay.fdb_write`. -/
def execRelayFdbWrite (req : Req) (s : State) := command cmdRelayFdbWrite req s

/-- An entry as it is read (R386): OP reads 0.
Log entry 148 (DEDUCED). -/
def fdbBytes (key : Nat) (e : Fdb) : Bytes :=
  be 6 (key / 4096) ++ le 2 (key % 4096) ++ le 1 (e.kind - 1) ++ le 1 e.port ++ le 1 e.link ++ le 1 e.ovr ++ le 2 e.group
    ++ le 2 0

/-- `relay.fdb_read` (R419). -/
def cmdRelayFdbRead : Cmd where
  op := 0x0D05
  checks p _ := [sel p 0 1 0 1, sel p 2 2 1 250] ++ layout [1, 1, 2, 4, 6, 2] p ++
    [resv p 1 1, (decide (4095 < fld p 14 2), bad 14)]
  run r s :=
    let p := r.pay
    if fld p 0 1 = 0 then
      match tfind s.relay.fdb (fdbKey p 8) with
      | none => .error empty
      | some e => ok s (fdbBytes (fdbKey p 8) e)
    else
      let l := (s.relay.fdb.drop (fld p 4 4)).take (fld p 2 2)
      let next := fld p 4 4 + l.length
      ok s (l.flatMap (fun e => fdbBytes e.1 e.2) ++ le 4 (if next < s.relay.fdb.length then next else 0xFFFFFFFF)
        ++ le 4 s.relay.version)

/-- Meaning of `relay.fdb_read`. -/
def execRelayFdbRead (req : Req) (s : State) := command cmdRelayFdbRead req s

/-- `relay.group_write` (R389, R420). -/
def cmdRelayGroupWrite : Cmd where
  op := 0x0D06
  checks p _ :=
    let n := fld p 2 2
    [sel p 2 2 1 1024] ++ layout ([2, 2] ++ entries n [2]) p ++
    [(decide (4096 < fld p 0 2 + n), bad 0)]
      ++ (List.range n).map (fun i => (decide (0x3FFF < fld p (4 + 2 * i) 2), bad (4 + 2 * i)))
  run r s :=
    let p := r.pay
    let v := (s.relay.version + 1) % 2 ^ 32
    let g := (List.range (fld p 2 2)).foldl (fun (t : Tab Nat) i => tset 0 t (fld p 0 2 + i) (fld p (4 + 2 * i) 2)) s.relay.groups
    ok (updRelay (fun x => { x with groups := g, version := v }) s) (le 4 v)

/-- Meaning of `relay.group_write`. -/
def execRelayGroupWrite (req : Req) (s : State) := command cmdRelayGroupWrite req s

/-! ### Fences (R390, R421) -/

/-- Frames bound to versions earlier than `v` that remain in the relay. -/
def earlier (s : State) (v : Nat) : Nat := (s.relay.frames.filter (fun f => !f.msg && f.dests != [] && decide (f.ver < v))).length

/-- `relay.fence` (R421): it answers when R390 holds. -/
def cmdRelayFence : Cmd where
  op := 0x0D07
  checks p s := layout [4, 4] p ++ [(decide (s.relay.version < fld p 0 4), bad 0), range p 4 4 1 1000000]
  run r s :=
    let p := r.pay
    if earlier s (fld p 0 4) = 0 then ok s
    else later (updRelay (fun x => { x with fences := x.fences ++
      [{ ver := fld p 0 4, due := s.time.mono + us (fld p 4 4), req := r }] }) s)

/-- Meaning of `relay.fence`. -/
def execRelayFence (req : Req) (s : State) := command cmdRelayFence req s

/-- Take some fences off the list and answer each. -/
def endFences (f : Fence → Bool) (ans : Fence → State → State) (s : State) : State :=
  each (s.relay.fences.filter f) (updRelay (fun x => { x with fences := x.fences.filter (fun e => !f e) }) s) ans

/-- FENCE_COMPLETE (R390): no frame bound to an earlier version remains. -/
def execFenceComplete (s : State) :=
  live s (endFences (fun e => earlier s e.ver == 0) (fun e => answerOk 0x0D07 e.req {}) s)

/-- FENCE_TIMEOUT (R421): BUSY with REMAINING, or OK where R390 holds by then. -/
def execFenceTimeout (s : State) :=
  live s (endFences (fun e => decide (e.due ≤ s.time.mono))
    (fun e s => if earlier s e.ver = 0 then answerOk 0x0D07 e.req {} s
      else answer 0x0D07 e.req 1 0 0 { pay := le 4 (earlier s e.ver) } s) s)

/-! ### Gates, shapers, mirrors, counters -/

/-- The gate list of a `relay.gate_load` (R422). -/
def gateListOf (p : Bytes) (now : NetTime) : GateList :=
  { on := fld p 2 1 == 1, cycle := fld p 8 4, base := timeAt p 12
    at' := if timeAt p 24 = 0 then now + us 10 else timeAt p 24
    maxFrame := (List.range 8).map (fun c => fld p (36 + 2 * c) 2)
    entries := (List.range (fld p 4 2)).map (fun i => (fld p (52 + 8 * i) 4, fld p (56 + 8 * i) 1)) }

/-- `relay.gate_load` (R400 to R402, R422). -/
def cmdRelayGateLoad : Cmd where
  op := 0x0D08
  checks p s :=
    let n := fld p 4 2
    [sel p 4 2 1 256] ++ layout ([1, 1, 1, 1, 2, 2, 4, 12, 12] ++ List.replicate 8 2 ++ entries n [4, 1, 3]) p ++
    portLinkChecks s p 4 ++
    [range p 2 1 0 1, resv p 3 1, resv p 6 2, range p 8 4 1000 1000000000, badTime p 12, badTime p 24]
      ++ (List.range 8).map (fun c => range p (36 + 2 * c) 2 64 9216)
      ++ (List.range n).flatMap (fun i => [(decide (fld p (52 + 8 * i) 4 < 40), bad (52 + 8 * i)), resv p (57 + 8 * i) 3])
      ++ [((List.range n).foldl (fun a i => a + fld p (52 + 8 * i) 4) 0 != fld p 8 4, bad 8)]
  run r s :=
    let p := r.pay
    let g := gateListOf p s.time.now
    guarded [(decide (g.at' < s.time.now + us 10), late)]
      (ok (s.updRlink (2 * fld p 0 1 + fld p 1 1) (fun l => { l with gatesAt := some g })))

/-- Meaning of `relay.gate_load`. -/
def execRelayGateLoad (req : Req) (s : State) := command cmdRelayGateLoad req s

/-- `relay.shaper` (R399, R423): the slope applies from the next frame boundary, at once on a link that sends nothing. -/
def cmdRelayShaper : Cmd where
  op := 0x0D09
  checks p s :=
    let k := 2 * fld p 0 1 + fld p 1 1
    let l := s.rlink k
    let t := tset 0 (l.slopeNext.foldl (fun t e => tset 0 t e.1 (e.2 - 1)) l.slope) (fld p 2 1) (fld p 4 4)
    layout [1, 1, 1, 1, 4] p ++ portLinkChecks s p 4 ++
    [range p 2 1 0 7, resv p 3 1, (decide (linkRate s k * 3 < (t.foldl (fun a e => a + e.2) 0) * 4), bad 4)]
  run r s :=
    let p := r.pay
    let k := 2 * fld p 0 1 + fld p 1 1
    let c := fld p 2 1
    let t := s.updRlink k (fun l => { l with slopeNext := tset 0 l.slopeNext c (fld p 4 4 + 1) })
    ok (if (s.rlink k).tx.isSome then t else newSlopes k t)

/-- Meaning of `relay.shaper`. -/
def execRelayShaper (req : Req) (s : State) := command cmdRelayShaper req s

/-- `relay.mirror` (R408, R424, R580). -/
def cmdRelayMirror : Cmd where
  op := 0x0D0A
  need p _ := some ⟨7, 1, [fld p 0 1]⟩
  checks p _ := layout [1, 1, 1, 1, 2, 2, 2, 2] p ++
    [range p 0 1 0 3, range p 1 1 0 1, range p 2 1 0 1, (fld p 4 2 &&& 0xC400 != 0, bad 4), range p 6 2 1 65535,
     range p 8 2 64 256, resv p 10 2]
  run r s :=
    let p := r.pay
    ok (updMirror (fld p 0 1) (fun x => { x with
      on := fld p 1 1 == 1, egress := fld p 2 1 == 1, classes := fld p 3 1, links := fld p 4 2, n := fld p 6 2
      trunc := fld p 8 2, count := 0 }) s)

/-- Meaning of `relay.mirror`. -/
def execRelayMirror (req : Req) (s : State) := command cmdRelayMirror req s

/-- `relay.counters` (R425). -/
def cmdRelayCounters : Cmd where
  op := 0x0D0B
  checks p s := layout [1, 1, 1, 1] p ++ portLinkChecks s p 10 ++ [range p 2 1 0 1, resv p 3 1]
  run r s :=
    let n := fld r.pay 0 1
    let k := 2 * n + fld r.pay 1 1
    let g := relayCounter s k
    let body := le 8 (g 0) ++ le 8 (g 1) ++ (range' 2 15).flatMap (fun i => le 4 (g i))
      ++ le 4 (if n = 6 then s.relay.skipped else 0) ++ le 4 (g 18) ++ le 4 0
    if fld r.pay 2 1 = 1 then
      ok (updRelay (fun x => if n = 6 then { x with skipped := 0 } else x)
        (s.updRlink k (fun l => { l with counters := l.counters.filter (fun e => decide (20 ≤ e.1)) }))) body
    else ok s body

/-- Meaning of `relay.counters`. -/
def execRelayCounters (req : Req) (s : State) := command cmdRelayCounters req s

end Sys2Proof.Machine
end

