-- ==== Sys2Proof/Machine/Slots.lean ====
section
/-! DEFINITION. The slot grid, domain planes and windows: what the scheduler, the endpoint protocol and the
chains share (R251, R265, R283, R284, R294, R330, R331, R629, R630). -/

namespace Sys2Proof.Machine

/-! ### Domain planes (R265) -/

/-- Change the scheduler. -/
def updSched (f : Sched → Sched) (s : State) : State := { s with sched := f s.sched }

/-- The device runs the scheduler and the endpoint protocol (R430). -/
def schedules (s : State) : Bool := s.sys.role ≤ 1

/-- The local plane of a DPLANE. -/
def localOf (s : State) (d : Nat) : Option Nat :=
  if d / 2 = s.dom.number ∧ s.planeIds.contains (d % 2) then some (d % 2) else none

/-- A worker that is admitted and reachable (R447). -/
def workerHere (s : State) (n : Nat) : Bool :=
  s.sys.role == 1 && decide (1 ≤ n) && decide (n < 16) && (s.member n).admitted && (s.member n).reachable

/-- A DPLANE the manager can act on. -/
def dplaneHere (s : State) (d : Nat) : Bool := (localOf s d).isSome || workerHere s (d / 2)

/-- Every DPLANE the manager can act on, ascending. -/
def dplanes (s : State) : List Nat := (List.range 32).filter (dplaneHere s)

/-- Port count of a DPLANE; of a worker's plane a free value, as no message carries it (log entry 60, DESIGN CHOICE). -/
def dports (s : State) (d : Nat) : Nat :=
  match localOf s d with
  | some p => s.ports p
  | none => if Config.workerWide d (s.dplane d).joins then 512 else 256

/-- Update tick of a DPLANE in ns; of a worker's plane the one a command that the manager passed on has set, or a free value of R97
(log entry 60, DESIGN CHOICE). -/
def dtick (s : State) (d : Nat) : Nat :=
  match localOf s d with
  | some p => (s.plane p).tickUs * 1000
  | none =>
    if (s.dplane d).tickUs = 0 then tickValues.getD (Config.workerTick d (s.dplane d).joins % tickValues.length) 1 * 1000 else (s.dplane d).tickUs * 1000

/-- Regime of a DPLANE, as the device knows it.
Log entry 21 (DEDUCED). -/
def dregime (s : State) (d : Nat) : Nat :=
  match localOf s d with | some p => (s.plane p).regime | none => (s.dplane d).regime

/-- Endpoint of an input port (R286); 0xFFFF for none. -/
def inEp (s : State) (d i : Nat) : Nat := (match tget 0 (s.dplane d).inEp i with | 0 => min i 0xFFFF | v + 1 => v)
/-- Endpoint of an output port (R286). -/
def outEp (s : State) (d j : Nat) : Nat := (match tget 0 (s.dplane d).outEp j with | 0 => min j 0xFFFF | v + 1 => v)

/-- A DPLANE is in DEMAND or CHAIN_FILL. -/
def demandRegime (r : Nat) : Bool := r == 3 || r == 4

/-- Some plane of the domain is in CHAIN, DEMAND or CHAIN_FILL. -/
def anyScheduling (s : State) : Bool :=
  s.planeIds.any (fun p => scheduling (s.plane p).regime) || (schedules s && (dplanes s).any (fun d => scheduling (dregime s d)))

/-- Some plane of the domain is in DEMAND or CHAIN_FILL. -/
def anyDemand (s : State) : Bool := (dplanes s).any (fun d => demandRegime (dregime s d))

/-! ### Reconfiguration allowance (R251) -/

/-- The least count in [lo, hi] whose power of `q` has fallen to `goal`, by halving. -/
def leastPow (q goal : Int) : Nat → Nat → Nat → Nat
  | 0, _, hi => hi
  | n + 1, lo, hi =>
    if hi ≤ lo then hi
    else if powFix q ((lo + hi) / 2) ≤ goal then leastPow q goal n lo ((lo + hi) / 2)
    else leastPow q goal n ((lo + hi) / 2 + 1) hi

/-- Least measured k of the plane's cells, or K_MIN of its descriptor (log entry 61, DEDUCED). -/
def worstK (s : State) (p : Nat) : Nat :=
  let l := ((List.range (s.cells p)).map (fun c => (cellCal s p c).k)).filter (· != 0)
  l.foldl min (if l = [] then (s.desc p).kMin else 65535)

/-- Default RECONFIG_ALLOW in ns: 1.25 × 1.5 × max(t_min, 1 μs), in steps of 40 ns (R251).
Log entry 61 (DEDUCED). -/
def defaultAllow (s : State) (p : Nat) : Nat :=
  let k := worstK s p
  if k ≤ 100 ∨ (s.desc p).tauNs = 0 then 1000000
  else 40 * leastPow (expNeg 64 (3 * (s.desc p).tauNs)) (fixOne * (k - 100) / (k + 100)) 16 47 25000

/-- RECONFIG_ALLOW of a local plane in ns (R251, R260). -/
def allowNs (s : State) (p : Nat) : Nat :=
  if (s.plane p).cfg.allowNs = 0 then defaultAllow s p else (s.plane p).cfg.allowNs

/-- RECONFIG_ALLOW of a worker's plane after `n` moves of its default: a free value of R260 (log entry 60, DESIGN CHOICE). -/
def workerAllow (s : State) (d n : Nat) : Nat := 400 + 40 * (Config.workerAllow d (s.dplane d).joins n % 24991)

/-- The default RECONFIG_ALLOW of a worker's plane may be another from now on (log entry 60, DESIGN CHOICE). -/
def moveAllow (d : Nat) (s : State) : State := s.updDplane d (fun q => { q with moves := q.moves + 1 })

/-- The worker of a DPLANE is another, or has started again: what commands had set is unknown (log entry 60, DESIGN CHOICE). -/
def joinPlane (d : Nat) (s : State) : State := s.updDplane d (fun q => { q with joins := q.joins + 1, tickUs := 0, allow := 0 })

/-- RECONFIG_ALLOW of a DPLANE; of a worker's plane the one a command that the manager passed on has set, or a free value of R260
(log entry 60, DESIGN CHOICE). -/
def dallow (s : State) (d : Nat) : Nat :=
  match localOf s d with
  | some p => allowNs s p
  | none => if (s.dplane d).allow = 0 then workerAllow s d (s.dplane d).moves else (s.dplane d).allow

/-! ### The grid (R283, R284) -/

/-- Number of the slot in force; 0 before the EPOCH. -/
def slotNow (s : State) : Nat := (s.time.now - s.sched.epoch) / max 1 (ns s.sched.slotNs)

/-- Start of slot `n` on the grid in force. -/
def slotStart (s : State) (n : Nat) : NetTime := s.sched.epoch + n * ns s.sched.slotNs

/-- First slot boundary at or after a time, on the grid that will then be in force (R284). -/
def slotBoundary (s : State) (t : NetTime) : NetTime :=
  let x := ceilGrid t s.sched.epoch (max 1 (ns s.sched.slotNs))
  match s.sched.gridAt with
  | none => x
  | some (len, _, _, _, b) => if x < b then x else ceilGrid t b (max 1 (ns len))

/-- SLOT_NS, CUTOFF_NS, GRANT_MARGIN and ITER of the grids in force at a time or later (R284). -/
def gridsFrom (s : State) (t : NetTime) : List (Nat × Nat × Nat × Nat) :=
  let now := (s.sched.slotNs, s.sched.cutoffNs, s.sched.marginNs, s.sched.iter)
  match s.sched.gridAt with
  | none => [now]
  | some (len, cut, margin, iter, b) => if b ≤ t then [(len, cut, margin, iter)] else [now, (len, cut, margin, iter)]

/-- Slot number, start and length of what is slot `n` of the grid in force, when a grid change waits (R284). -/
def futureSlot (s : State) (n : Nat) : Nat × NetTime × Nat :=
  match s.sched.gridAt with
  | none => (n, slotStart s n, s.sched.slotNs)
  | some (len, _, _, _, b) =>
    if slotStart s n < b then (n, slotStart s n, s.sched.slotNs)
    else
      let k := n - (b - s.sched.epoch) / max 1 (ns s.sched.slotNs)
      (k, b + k * ns len, len)

/-! ### The minimum slot (R290, R294, R446, R629, R630) -/

/-- Matcher times of R629 in 0.1 μs at ITER 3 and ITER 8, by row. -/
def matcherRows : List (Nat × Nat × Nat) :=
  [(950, 25, 59), (900, 27, 63), (850, 29, 67), (800, 31, 74), (750, 35, 83), (700, 40, 95)]

/-- Matcher time in ns at a VCORE; none below 0.70 V. -/
def matcherNs (mv iter : Nat) : Option Nat :=
  (matcherRows.find? (fun r => decide (r.1 ≤ mv))).map (fun r =>
    100 * (if iter ≤ 3 then r.2.1 else r.2.1 + ceilDiv ((iter - 3) * (r.2.2 - r.2.1)) 5))

/-- SLOT_MIN in ns for a matcher time (R294, R446). -/
def slotMinOf (s : State) (tm cutoff margin : Nat) : Nat :=
  let td := if s.dom.ring = 2 then 3200 else 2200
  let tr := if s.dom.ring = 2 then 2000 else 1200
  ceilTo (max (max 10000 tm) (ceilDiv (cutoff + tm + td + 8000 + tr + margin) 2)) 1000

/-- SLOT_MIN_NS at the present VCORE (R313); 0xFFFF_FFFF where no slot is guaranteed. -/
def slotMin (s : State) : Nat :=
  match matcherNs (vcore s) s.sched.iter with
  | some t => slotMinOf s t s.sched.cutoffNs s.sched.marginNs
  | none => 0xFFFFFFFF

/-- The VCORE floor of scheduling with a slot: the lowest row of R629 whose SLOT_MIN fits; 950 when none does.
Log entry 23 (DEDUCED). -/
def slotFloor (s : State) (slot iter cutoff margin : Nat) : Nat :=
  ((matcherRows.reverse.find? (fun r => match matcherNs r.1 iter with
    | some t => decide (slotMinOf s t cutoff margin ≤ slot)
    | none => false)).map (·.1)).getD 950

/-- A slot length that no VCORE makes possible. -/
def slotNever (s : State) (slot iter cutoff margin : Nat) : Bool :=
  match matcherNs 950 iter with | some t => decide (slot < slotMinOf s t cutoff margin) | none => true

/-- The VCORE floor of scheduling from a time on (R295). -/
def floorFrom (s : State) (t : NetTime) : Nat := ((gridsFrom s t).map (fun g => slotFloor s g.1 g.2.2.2 g.2.1 g.2.2.1)).foldl max 0

/-- A slot length in force from a time on that no VCORE makes possible. -/
def neverFrom (s : State) (t : NetTime) : Bool := (gridsFrom s t).any (fun g => slotNever s g.1 g.2.2.2 g.2.1 g.2.2.1)

/-- The refusal of a slot below SLOT_MIN that no raise of VCORE mends (R295): REFUSED_CONFLICT in ECO, NOT_READY otherwise. -/
def shortSlot (s : State) : Refuse := if s.pwr.avs = 2 then ⟨2, 0, 0⟩ else notReady

/-! ### Windows (R330 to R332) -/

/-- OPEN_NS and CLOSE_NS of a DPLANE's windows in a slot of this length. -/
def window (s : State) (d slot : Nat) : Nat × Nat := (dallow s d, slot - s.eps.cfg.guardNs)

/-- The windows of R332 are long enough. -/
def windowOk (allow slot guard : Nat) : Bool := decide (allow + 1000 + guard ≤ slot)

/-- A DPLANE's tick and windows fit the slots from a time on (R283, R332). -/
def slotsFit (s : State) (d : Nat) (t : NetTime) : Bool :=
  (gridsFrom s t).all (fun g => g.1 % dtick s d == 0 && windowOk (dallow s d) g.1 s.eps.cfg.guardNs)

/-- Budget of a pair (R331); an endpoint that is not registered has the rate 0 (log entry 168, DESIGN CHOICE). -/
def budget (s : State) (d slot a b : Nat) : Nat :=
  let w := window s d slot
  min 0xFFFFFFFF ((w.2 - w.1) * min (s.ep a).rate (s.ep b).rate / 8000)

end Sys2Proof.Machine
end

