-- ==== Sys2Proof/Machine/Ep.lean ====
section
/-! DEFINITION. The endpoint protocol of the manager (chapter 8): messages and their carriers, registration, demand reports,
revocation, announcements, and the endpoint commands. -/

namespace Sys2Proof.Machine

/-! ### Carriers (R314 to R316) -/

/-- The sum of a byte list as 16-bit big-endian words. -/
def sum16 : Bytes → Nat
  | [] => 0
  | [a] => a.toNat * 256
  | a :: b :: t => a.toNat * 256 + b.toNat + sum16 t

/-- The Internet checksum of a byte list (IETF RFC 1071). -/
def inetSum (p : Bytes) : Nat :=
  let f := fun (n : Nat) => n % 65536 + n / 65536
  65535 - f (f (f (sum16 p)))

/-- An Ethernet frame without its FCS. -/
def l2 (dst src : Nat) (tag : Option Nat) (ety : Nat) (pay : Bytes) : Bytes :=
  be 6 dst ++ be 6 src ++ (match tag with | some t => be 2 0x8100 ++ be 2 t | none => []) ++ be 2 ety ++ pay

/-- A UDP datagram in IPv4 with DF set, DSCP 0, no options, and a computed checksum (R315, R316). -/
def ipUdp (src dst sport dport ttl ident : Nat) (pay : Bytes) : Bytes :=
  let n := 8 + pay.length
  let h := be 1 0x45 ++ be 1 0 ++ be 2 (20 + n) ++ be 2 ident ++ be 2 0x4000 ++ be 1 ttl ++ be 1 17
  let a := be 4 src ++ be 4 dst
  let u := be 2 sport ++ be 2 dport ++ be 2 n
  let c := inetSum (a ++ be 2 17 ++ be 2 n ++ u ++ be 2 0 ++ pay)
  h ++ be 2 (inetSum (h ++ be 2 0 ++ a)) ++ a ++ u ++ be 2 (if c = 0 then 65535 else c) ++ pay

/-- A message with its common header (R318).
Log entry 107 (DESIGN CHOICE). -/
def epMsg (s : State) (type ep seq : Nat) (body : Bytes) : Bytes :=
  be 1 1 ++ be 1 type ++ be 2 (16 + body.length) ++ be 1 s.eps.cfg.domain ++ be 1 0 ++ be 2 ep ++ be 4 seq ++ be 4 0 ++ body

/-- Send a message to an address, by the link and tag of its HELLO (R315, R316).
Log entry 107 (DESIGN CHOICE). -/
def sendTo (a : Endpoint) (msg : Bytes) (s : State) : State :=
  let c := s.eps.cfg
  if a.udp then
    inject 14 s.relay.epClass [a.link] (l2 a.mac s.relay.mac a.tag 0x0800
      (ipUdp c.ipv4 a.ip c.udpPort a.udpPort 64 (s.draw.1 % 65536) msg)) false s.draw.2
  else inject 14 s.relay.epClass [a.link] (l2 a.mac s.relay.mac a.tag c.ethertype msg) false s

/-- Send a message to a registered endpoint, with its next SEQ (R328). -/
def sendEp (e type : Nat) (body : Bytes) (s : State) : State :=
  let q := (s.ep e).seq
  sendTo (s.ep e) (epMsg s type e q body) (s.updEp e (fun x => { x with seq := (q + 1) % 2 ^ 32 }))

/-- Count in an endpoint's counters and in the totals (R345).
Log entry 106 (DEDUCED). -/
def epCount (e i n : Nat) (s : State) : State :=
  let add := fun (t : Tab Nat) => tset 0 t i ((tget 0 t i + n) % 2 ^ 32)
  let s := { s with eps := { s.eps with counters := add s.eps.counters } }
  if e < 512 then s.updEp e (fun x => { x with counters := add x.counters }) else s

/-! ### Announcements (R334, R335) -/

/-- The period of a loaded chain in ns (R272). -/
def chainPeriod (s : State) (n : Nat) : Nat := ((tget {} s.sched.chains n).steps.map (·.2)).foldl (· + ·) 0

/-- The plane record of a SLOT_ANNOUNCE (R334); a pending start stands before the running chain; a worker's chain by its own number.
Log entry 108 (DEDUCED). -/
def announcePlane (s : State) (d : Nat) : Bytes :=
  let c := s.chainPlane d
  let r := if c.pend.isSome then c.pend else c.run
  le 1 d ++ le 1 (dregime s d) ++ le 1 ((r.map (fun x => x.chain % 256)).getD 0xFF) ++ le 1 (b1 c.late + 2 * b1 c.pend.isSome)
    ++ be 4 (dallow s d) ++ timeBe ((r.map (·.start)).getD 0) ++ be 8 ((r.map (fun x => chainPeriod s x.chain)).getD 0) ++ be 4 0

/-- The body of a SLOT_ANNOUNCE (R334). -/
def announceBody (s : State) : Bytes :=
  let g := s.sched.gridAt
  let l := dplanes s
  be 8 (slotNow s) ++ timeBe s.sched.epoch ++ be 4 s.sched.slotNs ++ be 4 s.sched.cutoffNs ++ be 4 s.eps.cfg.guardNs
    ++ timeBe ((g.map (·.2.2.2.2)).getD 0) ++ be 4 ((g.map (·.1)).getD 0) ++ be 2 l.length ++ be 2 0 ++ l.flatMap (announcePlane s)

/-- Registered endpoints, ascending. -/
def registered (s : State) : List Nat := (s.eps.tab.filter (fun e => e.2.st != 0)).map (·.1)

/-- One endpoint of each external link and VLAN among those of an encapsulation.
Log entry 108 (DEDUCED). -/
def announceSpots (s : State) (udp : Bool) : List Endpoint :=
  (registered s).foldl (fun (a : List Endpoint) e =>
    let x := s.ep e
    if x.udp == udp && !a.any (fun y => y.link == x.link && y.tag.map (· % 4096) == x.tag.map (· % 4096)) then a ++ [x] else a) []

/-- A group copy for the link and VLAN of one endpoint (R316).
Log entries 107 (DESIGN CHOICE), 108 (DEDUCED). -/
def announceGroup (a : Endpoint) (s : State) : State :=
  let c := s.eps.cfg
  let q := s.eps.groupSeq
  let m := epMsg s 5 0xFFFF q (announceBody s)
  let s := { s with eps := { s.eps with groupSeq := (q + 1) % 2 ^ 32 } }
  if a.udp then
    inject 14 s.relay.epClass [a.link] (l2 (0x01005E000000 + c.groupIp % 2 ^ 23) s.relay.mac a.tag 0x0800
      (ipUdp c.ipv4 c.groupIp c.udpPort c.udpPort 1 (s.draw.1 % 65536) m)) false s.draw.2
  else inject 14 s.relay.epClass [a.link] (l2 c.groupMac s.relay.mac a.tag c.ethertype m) false s

/-- Send a SLOT_ANNOUNCE to every endpoint of an encapsulation: to the group, or one unicast copy each (R335). -/
def announceTo (udp : Bool) (s : State) : State :=
  if (if udp then s.eps.cfg.groupIp else s.eps.cfg.groupMac) ≠ 0 then each (announceSpots s udp) s announceGroup
  else each ((registered s).filter (fun e => (s.ep e).udp == udp)) s (fun e s => sendEp e 5 (announceBody s) s)

/-- Send SLOT_ANNOUNCE (R335). -/
def announce (s : State) : State := if schedules s then announceTo true (announceTo false s) else s

/-- ANNOUNCE_TIMER (R335). -/
def execAnnounceTimer (s : State) :=
  live s (if s.eps.announceAt + us s.eps.cfg.announceUs ≤ s.time.mono then
    { announce s with eps := { (announce s).eps with announceAt := s.time.mono } } else s)

/-! ### Revocation (R336, R337) -/

/-- A grant an endpoint holds: (DPLANE, peer, slot, GRANT SEQ, receive entry). -/
abbrev Held := Nat × Nat × Nat × Nat × Bool

/-- The newest of two sequence numbers. -/
def newerSeq (a b : Nat) : Nat := if serialLater 32 b a then b else a

/-- The entry that revokes a list of grants (R336), effective from the time of its cause. -/
def revokeEntry (t : NetTime) (d reason peer : Nat) (l : List Held) : Bytes :=
  let q := l.foldl (fun (a : Option Nat) g => match a with | none => some g.2.2.2.1 | some x => some (newerSeq x g.2.2.2.1)) none
  let f := l.foldl (fun (a : Option Nat) g => match a with | none => some g.2.2.1 | some x => some (min x g.2.2.1)) none
  be 1 d ++ be 1 reason ++ be 2 peer ++ be 4 (q.getD 0) ++ be 8 (f.getD 0) ++ timeBe t ++ be 4 0

/-- Revoke an endpoint's grants that match, one entry a DPLANE and peer, or a DPLANE for every peer (R337). -/
def revokeOf (t : NetTime) (hit : Held → Bool) (all : Bool) (reason e : Nat) (s : State) : State :=
  let l := (s.ep e).grants.filter hit
  let key := fun (g : Held) => (g.1, if all then 0xFFFF else g.2.1)
  let keys := (l.map key).eraseDups.take 40
  if l = [] then s else
    let body := be 2 keys.length ++ be 2 0 ++ keys.flatMap (fun k => revokeEntry t k.1 reason k.2 (l.filter (fun g => key g == k)))
    let s := s.updEp e (fun x => { x with grants := x.grants.filter (fun g => !hit g) })
    epCount e 7 keys.length (sendEp e 6 body s)

/-- Revoke a circuit of a DPLANE: source, and destination if it takes receive entries (R337). -/
def revokeCircuit (d i o reason : Nat) (t : NetTime) (s : State) : State :=
  let a := inEp s d i
  let b := outEp s d o
  let s := if a < 512 then revokeOf t (fun g => g.1 == d && g.2.1 == b && !g.2.2.2.2) false reason a s else s
  if b < 512 ∧ (s.ep b).rx then revokeOf t (fun g => g.1 == d && g.2.1 == a && g.2.2.2.2) false reason b s else s

/-- Revoke every grant on a DPLANE (R337). -/
def revokePlane (d : Nat) (t : NetTime) (s : State) : State :=
  each (registered s) s (revokeOf t (fun g => g.1 == d) true 2)

/-- Revoke every source's grants toward an endpoint (R337). -/
def revokePeer (x : Nat) (s : State) : State :=
  each (registered s) s (revokeOf s.time.now (fun g => g.2.1 == x && !g.2.2.2.2) false 3)

/-! ### Registration (R321 to R324) -/

/-- Reset every context in which an endpoint is source or destination, WEIGHT and HELD apart (R280). -/
def resetDemand (e : Nat) (s : State) : State :=
  updSched (fun c => { c with demand := tmap {} (fun i (x : Demand) =>
    if i / 2048 = e ∨ i / 4 % 512 = e then { weight := x.weight, held := x.held } else x) c.demand }) s

/-- JOIN (R322). -/
def joinBody (status overhead liveUs rate depth : Nat) : Bytes :=
  be 1 status ++ be 1 overhead ++ be 2 0 ++ be 4 liveUs ++ be 4 rate ++ be 2 depth ++ be 2 0

/-- JOIN to a registered endpoint. -/
def joinEp (e status : Nat) (s : State) : State :=
  let x := s.ep e
  sendEp e 2 (joinBody status x.overhead x.liveUs x.bRate x.bDepth) s

/-- JOIN to a sender that does not hold the ID: it has no sequence of its own (log entry 2, DESIGN CHOICE).
Log entry 107 (DESIGN CHOICE). -/
def joinOther (a : Endpoint) (e status overhead : Nat) (s : State) : State :=
  let c := s.eps.cfg
  sendTo a (epMsg s 2 e (s.draw.1 % 2 ^ 32) (joinBody status overhead c.liveUs c.rate c.depth)) s.draw.2

/-- The endpoint leaves or is lost (R323, R324, R344): JOIN with a status if there is one, its contexts, REVOKE, the event.
Log entry 105 (DEDUCED). -/
def leaveEp (e : Nat) (status : Option Nat) (s : State) : State :=
  let s := match status with | some v => joinEp e v s | none => s
  let s := revokePeer e (resetDemand e s)
  let s := endCond 296 e (s.updEp e (fun x => { seq := x.seq, counters := x.counters }))
  if status.isSome then raiseEvent 304 { ep := e } s else raiseFault 297 { ep := e } s

/-- The source address of a message is the one that registered the ID.
Log entry 104 (DEDUCED). -/
def sameAddr (x a : Endpoint) : Bool := x.udp == a.udp && (if a.udp then x.ip == a.ip else x.mac == a.mac)

/-- The source address matches the ID's admission binding, where one is asked for (R323, R342).
Log entry 104 (DEDUCED). -/
def admitsEp (s : State) (e : Nat) (a : Endpoint) : Bool :=
  let b : Bind := tget {} s.eps.binds e
  if b.on then (if a.udp then b.ip == a.ip else b.mac == a.mac) else !s.eps.cfg.strict

/-- Bring a token bucket up to date (R327). -/
def refill (now : NetTime) (x : Endpoint) : Endpoint :=
  { x with tokens := min (x.bDepth * oneSecond) (x.tokens + (now - x.tokensAt) * x.bRate), tokensAt := now }

/-- What a registration and a refresh both set (R323, R341); the HELLO arrived at the elapsed time `t`.
Log entry 104 (DEDUCED). -/
def refreshEp (p : Bytes) (t : NetTime) (s : State) (x : Endpoint) : Endpoint :=
  let c := s.eps.cfg
  { x with st := 1, rate := fldBe p 16 4, overhead := if c.ovr then c.overhead else fld p 20 1, rx := bit (fld p 21 1) 0
           unacked := if x.st = 2 then 0 else x.unacked
           bRate := c.rate, bDepth := c.depth, liveUs := c.liveUs, tokens := min x.tokens (c.depth * oneSecond)
           heard := s.time.now, heardAt := t }

/-- Register an endpoint (R323, R335). -/
def registerEp (e : Nat) (a : Endpoint) (p : Bytes) (t : NetTime) (s : State) : State :=
  let x := { a with seq := (s.ep e).seq, counters := (s.ep e).counters, joined := s.time.now
                    tokens := s.eps.cfg.depth * oneSecond, tokensAt := t }
  let s := (resetDemand e s).updEp e (fun _ => refreshEp p t s x)
  let s := joinEp e 0 (raiseEvent 303 { ep := e } s)
  sendEp e 5 (announceBody s) s

/-- HELLO that arrived at an elapsed time, once its format and rate are in order (R323). -/
def helloEp (e : Nat) (a : Endpoint) (p : Bytes) (t : NetTime) (s : State) : State :=
  let x := s.ep e
  let ovh := if s.eps.cfg.ovr then s.eps.cfg.overhead else fld p 20 1
  let mine := x.st != 0 && sameAddr x a
  let s := if mine then s.updEp e (fun y => { y with heardAt := t }) else s
  let reply := fun (status : Nat) (s : State) => if mine then joinEp e status s else joinOther a e status ovh s
  if x.st ≠ 0 ∧ !mine then reply 1 s
  else if bit (fld p 21 1) 1 then (if mine then leaveEp e (some 4) s else reply 4 s)
  else if !admitsEp s e a then reply 2 (raiseFault 298 { ep := e } s)
  else if fldBe p 16 4 < 10000 ∨ 800000 < fldBe p 16 4 ∨ 64 < fld p 20 1 then reply 3 s
  else if mine then joinEp e 0 (endCond 296 e (s.updEp e (fun x => refreshEp p t s (refill t x))))
  else registerEp e a p t s

/-! ### Demand (R281, R325 to R327) -/

/-- One entry of an accepted DEMAND (R281, R326). -/
def demandEntry (e ack : Nat) (v : Nat) (s : State) : State :=
  let d := v / 2 ^ 55 % 512
  if (s.ep d).st = 0 then epCount e 4 1 s
  else s.updDemand ((e * 512 + d) * 4 + v / 2 ^ 53 % 4) (fun x => { x with
    valid := true
    depth := if serialLater 16 x.grantSlot ack then v % 2 ^ 40 - x.granted * 64 else v % 2 ^ 40 })

/-- Grants up to a slot are acknowledged (R333). -/
def ackGrants (e ack : Nat) (s : State) : State :=
  let covered := fun (q : Pipe) => serialNotEarlier 16 ack q.slot
  let some' := s.sched.pipes.any (fun q => covered q && q.unacked.any (fun u => u.1 == e))
  let s := updSched (fun c => { c with pipes := c.pipes.map (fun q =>
    if covered q then { q with unacked := q.unacked.filter (fun u => u.1 != e) } else q) }) s
  if some' then s.updEp e (fun x => { x with unacked := 0 }) else s

/-- A DEMAND that arrived at an elapsed time finds no token (R327). -/
def policed (e : Nat) (t' : NetTime) (s : State) : State :=
  let first := match (s.ep e).policedAt with | some t => decide (t + ms 1 ≤ t') | none => true
  let s := epCount e 1 1 (s.updEp e (fun x => { x with policedAt := some t' }))
  if first then raiseFault 295 { ep := e } s else s

/-- DEMAND that arrived at an elapsed time, once its format is in order (R326, R327). -/
def demandEp (e : Nat) (a : Endpoint) (p : Bytes) (t : NetTime) (s : State) : State :=
  if (s.ep e).st = 0 ∨ !sameAddr (s.ep e) a then epCount e 3 1 s
  else
    let s := s.updEp e (refill t)
    if (s.ep e).tokens < oneSecond then policed e t s
    else
      let s := s.updEp e (fun x => { x with tokens := x.tokens - oneSecond })
      let q := fldBe p 8 4
      if (match (s.ep e).lastSeq with | some l => !serialLater 32 q l | none => false) then epCount e 2 1 s
      else
        let ack := fldBe p 16 2
        let s := epCount e 0 1 (s.updEp e (fun x => { x with
          lastSeq := some q, ackSlot := ack, heard := s.time.now, heardAt := t }))
        let s := each (List.range (fldBe p 18 2)) s (fun i => demandEntry e ack (fldBe p (20 + 8 * i) 8))
        ackGrants e ack s

/-! ### Reception (R314, R320, R323) -/

/-- The message of a frame, with the address it came from (R314); none when the frame carries none in an enabled form.
Log entry 106 (DEDUCED). -/
def epParse (s : State) (link : Nat) (d : Bytes) : Option (Endpoint × Bytes) :=
  let c := s.eps.cfg
  let o := payOfs d
  let a : Endpoint := { mac := fldBe d 6 6, link := link, tag := if tagged d then some (fldBe d 14 2) else none }
  if bit c.encap 0 ∧ fldBe d 0 6 = s.relay.mac ∧ etype d = c.ethertype then some (a, d.drop o)
  else if bit c.encap 1 ∧ etype d = 0x0800 ∧ fld d o 1 = 0x45 ∧ fld d (o + 9) 1 = 17 ∧ fldBe d (o + 6) 2 % 16384 = 0
      ∧ fldBe d (o + 16) 4 = c.ipv4 ∧ fldBe d (o + 22) 2 = c.udpPort then
    let n := fldBe d (o + 24) 2
    let u := (d.drop (o + 20)).take n
    let ok := fldBe d (o + 26) 2 == 0 || inetSum ((d.drop (o + 12)).take 8 ++ be 2 17 ++ be 2 n ++ u) == 0
    some ({ a with udp := true, ip := fldBe d (o + 12) 4, udpPort := fldBe d (o + 20) 2 }, if ok then u.drop 8 else [])
  else none

/-- A message that R320 discards.
Log entry 106 (DEDUCED). -/
def epBad (s : State) (p : Bytes) : Bool :=
  decide (p.length < 16) || fld p 0 1 != 1 || (fld p 1 1 != 1 && fld p 1 1 != 3) || fld p 4 1 != s.eps.cfg.domain
    || decide (p.length < fldBe p 2 2) || (decide (fldBe p 2 2 < if fld p 1 1 = 1 then 24 else 20))
    || (fld p 1 1 == 3 && fldBe p 2 2 != 20 + 8 * fldBe p 18 2) || (fld p 1 1 == 3 && decide (180 < fldBe p 18 2)) || decide (511 < fldBe p 6 2)

/-- The key under which HELLO messages of a source address are spaced.
Log entry 105 (DEDUCED). -/
def helloKey (a : Endpoint) : Nat := if a.udp then 2 ^ 48 + a.ip else a.mac

/-- What has come from endpoints is applied (R323 to R327, R344).
Log entry 105 (DEDUCED). -/
def epApply (h : HeldEp) (s : State) : State :=
  match h with
  | .msg a p t => if fld p 1 1 = 1 then helloEp (fldBe p 6 2) a p t s else demandEp (fldBe p 6 2) a p t s
  | .evict r =>
    let e := fld r.pay 0 2
    if (s.ep e).st = 0 then refuseReq 0x0B04 r empty s else answerOk 0x0B04 r {} (leaveEp e (some 5) s)
  | .lost e t => if (s.ep e).st ≠ 0 ∧ (s.ep e).heardAt + us (s.ep e).liveUs ≤ t then leaveEp e none s else s

/-- A registration, refresh, leave or demand is applied between two matchings, in order of arrival (R282, R323).
Log entry 105 (DEDUCED). -/
def epLater (h : HeldEp) (s : State) : State :=
  if s.sched.matching.isSome then { s with eps := { s.eps with held := s.eps.held ++ [h] } } else epApply h s

/-- An endpoint message arrives (R320 to R327); a HELLO that comes within 1 ms of the one before is discarded, but it has arrived (R324).
Log entry 105 (DEDUCED). -/
def epTake (link : Nat) (frame : Bytes) (s : State) : State :=
  match epParse s link frame with
  | none => s
  | some (a, p) =>
    let e := fldBe p 6 2
    if epBad s p then epCount (if p.length < 16 then 0xFFFF else e) 3 1 s
    else if fld p 1 1 = 1 then
      let k := helloKey a
      let soon := match tfind s.eps.hello k with | some t => decide (s.time.mono < t + ms 1) | none => false
      let s := { s with eps := { s.eps with hello := tput s.eps.hello k s.time.mono } }
      if !soon then epLater (.msg a p s.time.mono) s
      else epCount e 3 1 (if (s.ep e).st ≠ 0 ∧ sameAddr (s.ep e) a then s.updEp e (fun x => { x with heardAt := s.time.mono }) else s)
    else epLater (.msg a p s.time.mono) s

/-- An endpoint message arrives at a device that runs the protocol (R430).
Log entry 105 (DEDUCED). -/
def epReceive (link : Nat) (frame : Bytes) (s : State) : State := if schedules s then epTake link frame s else s

/-- HELLO_RECEIVE (R323). -/
def execHelloReceive (link : Nat) (frame : Bytes) (s : State) := onUnit link 8 s (epReceive link frame s)

/-- DEMAND_RECEIVE (R326, R327). -/
def execDemandReceive (link : Nat) (frame : Bytes) (s : State) := onUnit link 8 s (epReceive link frame s)

/-- ENDPOINT_LIVE_TIMEOUT (R324). -/
def execEndpointLiveTimeout (ep : Nat) (s : State) :=
  onUnit ep 512 s (if (s.ep ep).st ≠ 0 ∧ (s.ep ep).heardAt + us (s.ep ep).liveUs ≤ s.time.mono then epLater (.lost ep s.time.mono) s else s)

/-- ARP_REQUEST_RECEIVE (R316): a request for MGR_IPV4 is answered with RELAY_MAC, on its link and with its tag. -/
def arpReply (link : Nat) (d : Bytes) (s : State) : State :=
  let o := payOfs d
  if etype d = 0x0806 ∧ fldBe d o 2 = 1 ∧ fldBe d (o + 2) 2 = 0x0800 ∧ fldBe d (o + 4) 2 = 0x0604 ∧ fldBe d (o + 6) 2 = 1
      ∧ fldBe d (o + 24) 4 = s.eps.cfg.ipv4 ∧ schedules s then
    inject 14 s.relay.epClass [link] (l2 (fldBe d (o + 8) 6) s.relay.mac (if tagged d then some (fldBe d 14 2) else none) 0x0806
      (be 2 1 ++ be 2 0x0800 ++ be 2 0x0604 ++ be 2 2 ++ be 6 s.relay.mac ++ be 4 s.eps.cfg.ipv4 ++ slice d (o + 8) 10)) false s
  else s

/-- Meaning of ARP_REQUEST_RECEIVE. -/
def execArpRequestReceive (link : Nat) (frame : Bytes) (s : State) := onUnit link 8 s (arpReply link frame s)

/-! ### Endpoint commands (R340 to R345) -/

/-- The settings a payload of R341 spells. -/
def epCfgAt (p : Bytes) : EpCfg :=
  { encap := fld p 0 1, domain := fld p 1 1, ethertype := fld p 2 2, udpPort := fld p 4 2, guardNs := fld p 6 2
    ipv4 := fld p 8 4, liveUs := fld p 12 4, rate := fld p 16 4, depth := fld p 20 2, strict := bit (fld p 22 1) 0
    ovr := bit (fld p 22 1) 1, overhead := fld p 23 1, announceUs := fld p 24 4, staleLimit := fld p 28 2
    groupMac := fldBe p 32 6, groupIp := fld p 40 4 }

/-- The settings that R341 keeps while a plane is in DEMAND or CHAIN_FILL differ. -/
def epCfgMoves (a b : EpCfg) : Bool :=
  a.encap != b.encap || a.domain != b.domain || a.ethertype != b.ethertype || a.udpPort != b.udpPort || a.guardNs != b.guardNs

/-- `endpoint.admit` (R342).
Log entries 104 (DEDUCED), 169 (DEDUCED). -/
def cmdEndpointAdmit : Cmd where
  op := 0x0B02
  checks p _ := layout [2, 1, 1, 6, 2, 4] p ++ [range p 0 2 0 511, range p 2 1 0 1, resv p 3 1, resv p 10 2]
  run r s :=
    let e := fld r.pay 0 2
    let b : Bind := if fld r.pay 2 1 = 0 then {} else { mac := fldBe r.pay 4 6, ip := fld r.pay 12 4, on := true }
    guarded [(fld r.pay 2 1 == 0 && !(tget ({} : Bind) s.eps.binds e).on, empty)]
      (ok { s with eps := { s.eps with binds := tset {} s.eps.binds e b } })

/-- Meaning of `endpoint.admit`. -/
def execEndpointAdmit (req : Req) (s : State) := command cmdEndpointAdmit req s

/-- The 56 bytes of R343. -/
def epBytes (s : State) (e : Nat) : Bytes :=
  let x := s.ep e
  le 1 x.st ++ le 1 (b1 x.udp) ++ le 1 x.overhead ++ le 1 (b1 x.rx + 2 * b1 (tget ({} : Bind) s.eps.binds e).on) ++ le 4 x.rate
    ++ be 6 x.mac ++ le 2 0 ++ le 4 (if x.udp then x.ip else 0) ++ le 4 (x.lastSeq.getD 0) ++ timeLe x.joined ++ timeLe x.heard
    ++ le 2 x.ackSlot ++ le 2 x.unacked ++ le 4 0

/-- `endpoint.read` (R343).
Log entry 169 (DEDUCED). -/
def cmdEndpointRead : Cmd where
  op := 0x0B03
  checks p _ := layout [2, 2] p ++ [range p 0 2 0 511, resv p 2 2]
  run r s := ok s (epBytes s (fld r.pay 0 2))

/-- Meaning of `endpoint.read`. -/
def execEndpointRead (req : Req) (s : State) := command cmdEndpointRead req s

/-- `endpoint.evict` (R323, R344): during a matching it waits for the end of it. -/
def cmdEndpointEvict : Cmd where
  op := 0x0B04
  checks p _ := layout [2, 2] p ++ [range p 0 2 0 511, resv p 2 2]
  run r s :=
    let e := fld r.pay 0 2
    if s.sched.matching.isSome then later (epLater (.evict r) s)
    else guarded [((s.ep e).st == 0, empty)] (ok (leaveEp e (some 5) s))

/-- Meaning of `endpoint.evict`. -/
def execEndpointEvict (req : Req) (s : State) := command cmdEndpointEvict req s

/-- `endpoint.counters` (R345): ID 0xFFFF reads the totals. -/
def cmdEndpointCounters : Cmd where
  op := 0x0B05
  checks p _ :=
    layout [2, 1, 1] p ++ [(decide (511 < fld p 0 2) && fld p 0 2 != 0xFFFF, bad 0), range p 2 1 0 1, resv p 3 1]
  run r s :=
    let e := fld r.pay 0 2
    let c := if e < 512 then (s.ep e).counters else s.eps.counters
    let t := if fld r.pay 2 1 = 0 then s
      else if e < 512 then s.updEp e (fun x => { x with counters := [] })
      else { s with eps := { s.eps with counters := [] } }
    ok t ((List.range 8).flatMap (fun i => le 4 (tget 0 c i)))

/-- Meaning of `endpoint.counters`. -/
def execEndpointCounters (req : Req) (s : State) := command cmdEndpointCounters req s

end Sys2Proof.Machine
end

