-- ==== Sys2Proof/Machine/Plane.lean ====
section
/-! DEFINITION. Regimes of a plane (R264 to R267), pins and withdrawn pairs (R268 to R271), scheduler commands to a worker's plane
(R447), and the firmware part of fault reactions (R546 to R549). -/

namespace Sys2Proof.Machine

/-! ### Orders and reports between manager and worker (R441, R447) -/

/-- A SCHED_CMD for a DPLANE. -/
def schedCmd (d action regime flags i o : Nat) (t : NetTime) (e : Nat) (s : State) : State :=
  claspSend 0x23 (d / 2) (schedBody action d regime flags i o t e 0) s

/-- Change the local plane's or the manager's own view of a DPLANE's regime. A change that waits stays, but for entry into IDLE, which
leaves none that could follow (R266). -/
def setDregime (d r : Nat) (s : State) : State :=
  match localOf s d with
  | some p => s.updPlane p (fun q => { q with regime := r, regimeAt := if r = 0 then none else q.regimeAt })
  | none => s.updDplane d (fun q => { q with regime := r, regimeAt := if r = 0 then none else q.regimeAt })

/-- A regime change of a DPLANE that waits. -/
def dregimeAt (s : State) (d : Nat) : Option RegimeAt :=
  match localOf s d with | some p => (s.plane p).regimeAt | none => (s.dplane d).regimeAt

/-- Set the change that waits. -/
def setDregimeAt (d : Nat) (r : Option RegimeAt) (s : State) : State :=
  match localOf s d with
  | some p => s.updPlane p (fun q => { q with regimeAt := r })
  | none => s.updDplane d (fun q => { q with regimeAt := r })

/-- A loaded chain. -/
def chainOf (s : State) (n : Nat) : Chain := tget {} s.sched.chains n

/-- The end of the last period of a chain with REPEAT (R276); none for a chain that another start replaces first (R278).
Log entry 110 (DEDUCED). -/
def chainLast (s : State) (c : ChainPlane) (r : ChainRun) : Option NetTime :=
  let x := chainOf s r.chain
  let t := r.start + x.rep * ns (chainPeriod s r.chain)
  if x.rep = 0 ∨ (c.pend.map (fun q => decide (q.start ≤ t))).getD false then none else some t

/-- When END applies to the running chain of a DPLANE, and the regime it leads to (R276, R279); a change of regime at the chain's stop
stands in its place. -/
def chainEnding (s : State) (d : Nat) : List (NetTime × Nat) :=
  let c := s.chainPlane d
  match c.run with
  | none => []
  | some r =>
    let stop := r.stopAt.toList.filter (fun t => match dregimeAt s d with | some x => decide (t < x.at') | none => true)
    (stop ++ (chainLast s c r).toList).map (fun t => (t, if (chainOf s r.chain).endIdle then 0 else 1))

/-- The changes of regime that wait on a DPLANE, with their times (R266, R276, R277, R279); a chain that ends in IDLE drops a later start.
Log entry 23 (DEDUCED). -/
def comingRegimes (s : State) (d : Nat) : List (NetTime × Nat) :=
  let ends := chainEnding s d
  (match (s.chainPlane d).pend with
   | some r => if ends.any (fun e => e.2 == 0 && decide (e.1 < r.start)) then [] else [(r.start, if (chainOf s r.chain).fill then 4 else 2)]
   | none => []) ++ ends ++
  (match dregimeAt s d with | some r => [(r.at', r.regime)] | none => [])

/-- The regime that a DPLANE will have at a time: of the changes due by then, the latest; the later named on a tie. -/
def regimeThen (s : State) (d : Nat) (t : NetTime) : Nat :=
  (((comingRegimes s d).filter (fun c => decide (c.1 ≤ t))).foldl (fun (a : Option (NetTime × Nat)) c =>
    match a with | some b => if c.1 < b.1 then some b else some c | none => some c) none |>.map (·.2)).getD (dregime s d)

/-! ### Entering a regime (R264 to R267) -/

/-- The tick boundary at which a plane that enters IDLE now closes its shutters (R267 step 2). -/
def closeTime (p : Nat) (s : State) : NetTime := ceilTo (s.time.now + us 1) (us (s.plane p).tickUs)

/-- The shutters of a plane are written to code 0, leaving at a tick boundary at least 1 us later (R267 step 2).
Log entry 109 (DEDUCED). -/
def closeShutters (p : Nat) (s : State) : State :=
  let t := closeTime p s
  each (List.range (s.ports p)) s (fun i s =>
    match s.shutterCh p i with
    | some ch => loadEntry t {} 0 true false ch s
    | none => s)

/-- A plane enters IDLE (R267); its circuits are dark from a time (R336).
Log entry 109 (DEDUCED). -/
def enterIdleAt (p : Nat) (t : NetTime) (s : State) : State :=
  let d := s.dplaneOf p
  let s := each (s.plane p).accepted s (withdrawLaunch p)
  let s := match (s.plane p).cur with
    | some l => if l.done then s else fileReport p { l with cancelled := true } (releaseLaunch p l s)
    | none => s
  let s := closeShutters p s
  let s := if schedules s then revokePlane d t s else s
  let s := each (s.planeChs p true) s goOpen
  let s := s.updPlane p (fun q => { q with
    regime := 0, regimeAt := none, force := none, forceSlot := 0xFFFF, cur := none, showing := none, builds := [] })
  let s := s.updChainPlane d (fun c => { c with run := none, pend := none })
  reState (announce s)

/-- A plane enters IDLE by command: its circuits go dark when its shutters close (R267, R336).
Log entry 109 (DEDUCED). -/
def enterIdle (p : Nat) (s : State) : State := enterIdleAt p (closeTime p s) s

/-- A plane enters STATIC, CHAIN, DEMAND or CHAIN_FILL: a chain that no longer runs is dropped, and the pointers of the matcher
start at 0 (R266, R287). -/
def enterRegime (d r : Nat) (s : State) : State :=
  let s := (setDregime d r s).updDplane d (fun q => { q with lost := false })
  let s := if r = 1 ∨ r = 3 then s.updChainPlane d (fun c => { c with run := none }) else s
  let s := if r = 3 ∨ r = 4 then s.updDplane d (fun q => { q with gptr := [], aptr := [] }) else s
  reState (announce s)

/-- A local or remote DPLANE takes a regime now; `t` is when a worker's plane went dark (R336). -/
def takeRegimeAt (d r : Nat) (t : NetTime) (s : State) : State :=
  if r ≠ 0 then enterRegime d r s
  else match localOf s d with
    | some p => enterIdle p s
    | none =>
      let s := (setDregime d 0 (revokePlane d t s)).updChainPlane d (fun c => { c with run := none, pend := none })
      announce s

/-- When the shutters of a worker's plane that enters IDLE at a time have closed: a tick boundary at least 1 us later (R267, R336).
Log entry 109 (DEDUCED). -/
def darkFrom (s : State) (d : Nat) (t : NetTime) : NetTime := ceilTo (t + us 1) (max 1 (ns (dtick s d)))

/-- A local or remote DPLANE takes a regime now. -/
def takeRegime (d r : Nat) (s : State) : State := takeRegimeAt d r (darkFrom s d s.time.now) s

/-- The manager's view of a worker's plane that it has ordered dark: out of matching at once, its grants revoked when the worker says
from when on it is dark (R336, R447). -/
def viewIdle (d : Nat) (s : State) : State :=
  announce ((setDregime d 0 s).updChainPlane d (fun c => { c with run := none, pend := none }))

/-- Why a plane cannot leave IDLE (R41, R266, R429, R444, R476, R513, R548, R574, R687). -/
def leaveIdle (s : State) (p : Nat) : Option Refuse :=
  firstOf [((s.cal.run.map (·.plane)) == some p, busy),
    (s.sys.map.isNone || s.sys.role == 3 || (s.sys.role == 2 && s.dom.number == 0xFF) || s.em.hostDark
      || darkCovered s p || (s.plane p).warmHeld || !(s.plane p).parked || !commissioned s p
      || (s.linksOf p).any (refMissing s), notReady)]

/-- A host lease holds CONTROL on a context of the plane (R581). -/
def controlHeld (s : State) (p : Nat) : Option Refuse :=
  ((s.leases ++ s.implicits).find? (fun l => l.cls == 5 && l.use == 4 && (s.planeChs p true).any l.covers)).map (fun l => ⟨2, l.id, 0⟩)

/-- First boundary of the running chain of a DPLANE at or after a time (R266, R279). -/
def chainBoundary (s : State) (r : ChainRun) (t : NetTime) : NetTime :=
  let steps := (chainOf s r.chain).steps
  let p := ns (chainPeriod s r.chain)
  if t ≤ r.start then r.start
  else if p = 0 then t
  else
    let base := r.start + (t - r.start) / p * p
    let ends := steps.foldl (fun (a : List NetTime × NetTime) e => (a.1 ++ [a.2 + ns e.2], a.2 + ns e.2)) ([base], base)
    ((ends.1.find? (fun x => decide (t ≤ x))).getD t)

/-- First step boundary at or after a time on a DPLANE whose chain runs (R266, R279): of the running chain until the start that waits,
which is a boundary itself, and of that chain from then on (R278).
Log entry 110 (DEDUCED). -/
def runBoundary (s : State) (c : ChainPlane) (r : ChainRun) (t : NetTime) : NetTime :=
  let b := chainBoundary s r t
  match c.pend with
  | some q => if q.start < b then chainBoundary s q t else b
  | none => b

/-- The running chain of a DPLANE stops at a boundary: a start that would fall on it is dropped with it (R279).
Log entry 110 (DEDUCED). -/
def stopRun (b : NetTime) (c : ChainPlane) : ChainPlane :=
  { c with run := c.run.map (fun x => { x with stopAt := some b })
           pend := if c.run.isSome then c.pend.filter (fun q => decide (q.start ≠ b)) else c.pend }

/-- Start of the first slot that no matching has taken (R267).
Log entry 110 (DEDUCED). -/
def firstFree (s : State) : NetTime :=
  (s.sched.pipes ++ s.sched.matching.toList).foldl (fun t q => max t (q.at' + ns q.slotNs)) 0

/-- MIN_LEAD as a time.
Log entry 110 (DEDUCED). -/
def minLead (s : State) : NetTime := us s.sched.minLeadUs

/-- The boundary at which a DPLANE leaves its regime for STATIC (R266): of the chain in CHAIN, of the grid otherwise.
Log entry 110 (DEDUCED). -/
def staticBoundary (s : State) (d : Nat) (t : NetTime) : NetTime :=
  let now := s.time.now
  match dregime s d, (s.chainPlane d).run with
  | 2, some r => runBoundary s (s.chainPlane d) r (max t now)
  | 2, none => max t now
  | _, _ => if schedules s then max (slotBoundary s (max t now)) (firstFree s) else max t now

/-- The earliest AT for DEMAND (R266).
Log entry 109 (DEDUCED). -/
def demandLead (s : State) : NetTime := s.time.now + 2 * ns s.sched.slotNs + minLead s

/-- The refusals of DEMAND and CHAIN_FILL on a local plane (R574, R581). -/
def scheduleRefusal (s : State) (p : Nat) : Option Refuse :=
  if s.pwr.avs = 2 then some ⟨2, 0, 7⟩ else if s.time.st = 4 then some notReady else controlHeld s p

/-- R266 on a local plane: refusal, or the effective time and the new state. A time of 0 asks for the earliest the table allows. A plane
that a SCHED_CMD of the manager darkened has no record here: its FORCE_ZERO ends as it leaves IDLE.
Log entries 110 (DEDUCED), 112 (DEDUCED). -/
def changeRegime (p r : Nat) (t : NetTime) (s : State) : Except Refuse (NetTime × State) :=
  let cur := (s.plane p).regime
  let d := s.dplaneOf p
  let now := s.time.now
  if r ≠ 0 ∧ s.em.hostDark then .error notReady
  else if r = 0 then
    if cur = 0 then .ok (now, setDregimeAt d none s)
    else if t ≤ now then .ok (now, enterIdle p s)
    else .ok (t, announce (setDregimeAt d (some { regime := 0, at' := t }) s))
  else if cur = 0 then
    if r ≠ 1 then .error notReady
    else match leaveIdle s p with
      | some e => .error e
      | none => .ok (now, enterRegime d 1 (releaseDark s))
  else if r = 1 then
    if cur = 1 then .error ⟨2, 0, 0⟩
    else
      let b := staticBoundary s d t
      let s := if cur = 2 then each ((s.plane p).accepted.filter (fun l => decide (b ≤ l.at'))) s (withdrawLaunch p) else s
      let s := setDregimeAt d (some { regime := 1, at' := b }) s
      .ok (b, announce (s.updChainPlane d (stopRun b)))
  else if r = 3 ∧ cur = 3 then .error ⟨2, 0, 7⟩
  else match scheduleRefusal s p with
    | some e => .error e
    | none =>
      let s := setDregimeAt d (some { regime := r, at' := t }) s
      .ok (t, announce (s.updChainPlane d (fun c => { c with run := c.run.map (fun x => { x with stopAt := some t }) })))

/-- SCHED_REGIME_AT (R266): the change that waits takes effect. -/
def regimeDue (d : Nat) (s : State) : State :=
  match dregimeAt s d with
  | none => s
  | some r => if s.time.now < r.at' then s else takeRegime d r.regime (setDregimeAt d none s)

/-- Meaning of SCHED_REGIME_AT. -/
def execSchedRegimeAt (dplane : Nat) (s : State) := onUnit dplane 32 s (regimeDue dplane s)

/-! ### Withdrawal (R271, R309) -/

/-- A circuit is withdrawn: its pin is marked, or its pair is entered; past 1,024 pairs the plane is full (R271). The pairs past the
list's end stay in the same field, as the circuits that are not lit again.
Log entry 111 (DEDUCED). -/
def withdrawPair (d i o : Nat) (s : State) : State :=
  let q := s.dplane d
  if q.pins.any (fun x => x.1 == i && x.2.1 == o && x.2.2) || q.withdrawn.contains (i, o) then s
  else
    let s := if q.pins.any (fun x => x.1 == i && x.2.1 == o) then
        s.updDplane d (fun q => { q with pins := q.pins.map (fun x => if x.1 = i ∧ x.2.1 = o then (i, o, true) else x) })
      else
        let s := s.updDplane d (fun q => { q with withdrawn := q.withdrawn ++ [(i, o)] })
        if 1024 ≤ q.withdrawn.length then raiseCond 290 d { plane := d, inp := i, out := o } s else s
    raiseEvent 301 { plane := d, inp := i, out := o } s

/-- A shutter stays dark no more for a pair of a local plane. -/
def restorePair (p i o : Nat) (s : State) : State :=
  let s := s.updPlane p (fun q => { q with dark := q.dark.filter (· ≠ (i, o)) })
  match s.shutterCh p i with
  | some ch => if (s.plane p).dark.any (fun c => c.1 == i) then s else s.updDrive ch (fun x => { x with fzWithdrawn := false })
  | none => s

/-- Restore one pair, or every pair, of a local plane (R309). -/
def restoreLocal (p : Nat) (all : Bool) (i o : Nat) (s : State) : State :=
  fzRestart s (each ((s.plane p).dark.filter (fun c => all || c == (i, o))) s (fun c s => restorePair p c.1 c.2 s))

/-! ### Firmware part of reactions (R547 to R549) -/

/-- The cells of a withdrawn circuit that carry no other lit circuit go to OPEN and ramp to park (R547 step 3). -/
def parkCells (p inp : Nat) (s : State) : State :=
  match (s.plane p).force with
  | none => s
  | some f =>
    each (pathCells (s.ports p) f inp) s (fun c s =>
      match s.armCh p c false with
      | none => s
      | some a =>
        if (s.throughCell p c).isEmpty then
          let s := goOpen a s
          if s.sys.park.isNone then s else
            each [a, a + 1] s (fun ch s => loadEntry s.time.now {} (parkCode s ch) false false ch s)
        else s)

/-- Steps 2 to 4 of a containment that began at a time (R547). -/
def containTask (p i o e : Nat) (t : NetTime) (s : State) : State :=
  let d := s.dplaneOf p
  let susp := e == 216 || e == 217
  let s := parkCells p i s
  if schedules s then revokeCircuit d i o (if susp then 0 else 1) t (withdrawPair d i o s)
  else if susp then s else notice 1 p e i o t 0 s

/-- Step 2 of a plane dark reaction that began at a time (R548), with the worker's NOTICE. -/
def darkTask (p e : Nat) (t : NetTime) (s : State) : State := notice 2 p e 0xFFFF 0xFFFF t 0 (enterIdleAt p t s)

/-- The order of a regime to a worker's plane, whose reply is awaited (R265, R447): for a request, or for the manager itself. -/
def orderRegime (d g : Nat) (t : NetTime) (r : Option Req) (s : State) : State :=
  schedCmd d 0 g 0 0xFFFF 0xFFFF t 0 (updSched (fun x => { x with asked := x.asked ++ [(d, g, t, s.time.now, r)] }) s)

/-- The manager's part of a device dark reaction (R549): every plane, and every scheduled DPLANE elsewhere. -/
def deviceTask (e : Nat) (t : NetTime) (s : State) : State :=
  let s := each s.planeIds s (fun p s => darkTask p e t s)
  if s.sys.role ≠ 1 then s else
    each ((dplanes s).filter (fun d => (localOf s d).isNone && demandRegime (dregime s d))) s (fun d s =>
      viewIdle d (orderRegime d 0 0 none s))

/-- Circuits of a plane that a pair names, 0xFFFF standing for any port.
Log entry 112 (DEDUCED). -/
def namedCircuits (s : State) (p i o : Nat) : List (Nat × Nat) :=
  (s.litCircuits p).filter (fun c => (i == 0xFFFF || c.1 == i) && (o == 0xFFFF || c.2 == o))

/-- Contain named circuits of a local plane, firmware part included. -/
def containNamed (p i o e : Nat) (s : State) : State :=
  each (namedCircuits s p i o) s (fun c s => contain p c.1 c.2 e s)

/-- S3 on a local plane: hardware part at once, firmware part queued. -/
def darkLocal (p e : Nat) (s : State) : State := addTask (.planeDark p e) (calAbort p e (hwDarkPlane p s))

/-- Contain the circuits of a DPLANE between two ports, here or on its worker (R546). -/
def containDplane (d i o e : Nat) (s : State) : State :=
  match localOf s d with
  | some p => containNamed p i o e s
  | none => if workerHere s (d / 2) then schedCmd d 1 0 0 i o 0 e s else s

/-- Darken a DPLANE, here or on its worker (R546). -/
def darkDplane (d e : Nat) (s : State) : State :=
  match localOf s d with
  | some p => darkLocal p e s
  | none => if workerHere s (d / 2) then viewIdle d (schedCmd d 3 0 0 0xFFFF 0xFFFF 0 e s) else s

/-- Ports of a DPLANE that an endpoint is mapped to: as input, or as output. -/
def portsOfEp (s : State) (d e : Nat) (out : Bool) : List Nat :=
  (List.range (dports s d)).filter (fun i => (if out then outEp s d i else inEp s d i) == e)

/-- A DPLANE carries a lit circuit from or to an endpoint, as far as this device can tell.
Log entry 112 (DEDUCED). -/
def carriesEp (s : State) (d e : Nat) : Bool :=
  match localOf s d with
  | some p => (s.litCircuits p).any (fun c => inEp s d c.1 == e || outEp s d c.2 == e)
  | none => dregime s d != 0 && (!(portsOfEp s d e false).isEmpty || !(portsOfEp s d e true).isEmpty)

/-- A plane of this device that an S3 of scope E darkens joins the record's scope, so that the record covers it (R546, R548).
Log entry 112 (DEDUCED). -/
def coverPlane (e ep d : Nat) (s : State) : State :=
  if scopeOf e ≠ 5 ∨ (localOf s d).isNone then s
  else match recordOf s e with
    | none => s
    | some r =>
      let x : EvData := { plane := d, ep := ep }
      if r.scope.contains x then s
      else { s with flt := { s.flt with records := putRecord { r with scope := r.scope ++ [x] } s.flt.records } }

/-- The manager's part of an S2 or S3 reaction of scope Q, E or W (R546).
Log entry 112 (DEDUCED). -/
def dplaneTask (sev d ep e : Nat) (s : State) : State :=
  let ds : List Nat := match scopeOf e with
    | 4 => [d]
    | 5 => (dplanes s).filter (fun x => carriesEp s x ep)
    | _ => [2 * (e - 388), 2 * (e - 388) + 1]
  each ds s (fun d s =>
    if 3 ≤ sev then coverPlane e ep d (darkDplane d e s)
    else if scopeOf e = 5 then
      let s := each (portsOfEp s d ep false) s (fun i s => containDplane d i 0xFFFF e s)
      each (portsOfEp s d ep true) s (fun o s => containDplane d 0xFFFF o e s)
    else containDplane d 0xFFFF 0xFFFF e s)

/-- One firmware part of a reaction, with the time of its cause. -/
def runTask (t : FwTask × NetTime) (s : State) : State :=
  match t.1 with
  | .contain p i o e => containTask p i o e t.2 s
  | .planeDark p e => darkTask p e t.2 s
  | .deviceDark e => deviceTask e t.2 s
  | .dplane sev d _ ep e => dplaneTask sev d ep e s

/-- Run what is queued, then what that queued in its turn. -/
def runTasks (s : State) : State :=
  let s := each s.flt.tasks { s with flt := { s.flt with tasks := [] } } runTask
  each s.flt.tasks { s with flt := { s.flt with tasks := [] } } runTask

/-- FAULT_FIRMWARE_REACTION (R547 to R549). -/
def execFaultFirmwareReaction (s : State) := live s (runTasks s)

end Sys2Proof.Machine
end

