-- ==== Sys2Proof/Machine/Chain.lean ====
section
/-! DEFINITION. Chains (R272 to R279, R298 to R303). -/

namespace Sys2Proof.Machine

/-! ### Loading (R272 to R274, R298) -/

/-- The steps that host memory spells: (slot, dwell). -/
def stepsAt (data : Bytes) (n : Nat) : List (Nat × Nat) := (List.range n).map (fun i => (fld data (8 * i) 2, fld data (8 * i + 4) 4))

/-- A chain number runs or waits to start (R279, R298). -/
def chainBusy (s : State) (n : Nat) : Bool :=
  s.sched.chainPlanes.any (fun c => (c.2.run.map (·.chain)) == some n || (c.2.pend.map (·.chain)) == some n)

/-- The steps of R273 for a DPLANE: slots are checked here for a local plane.
Log entry 116 (DEDUCED). -/
def stepsOk (s : State) (d : Nat) (fill : Bool) (data : Bytes) (steps : List (Nat × Nat)) : Bool :=
  (List.range steps.length).all (fun i => fld data (8 * i + 2) 2 == 0) &&
  steps.all (fun e => decide (10000 ≤ e.2) && e.2 % dtick s d == 0 && (!fill || e.2 % s.sched.slotNs == 0)
    && (match localOf s d with | some p => slotValid s p e.1 | none => true))

/-- The permutation record of a local slot. -/
def localPerm (s : State) (d slot : Nat) : List Nat := match localOf s d with | some p => (s.slot p slot).facet.perm | none => []

/-- A tunnelled request of the manager's own (R274, R356), due by a time at the latest.
Log entry 19 (DEDUCED). -/
def ownTunnel (op dev : Nat) (by' : NetTime) (pay : Bytes) (s : State) : State :=
  let tag := s.dom.tunnelTag
  let r : Req := { target := dev, len := pay.length, payload := pay, resv := op }
  let s := { s with dom := { s.dom with
    tunnelTag := (tag + 1) % 2 ^ 32
    tunnels := s.dom.tunnels ++ [{ tag := tag, dev := dev, req := r,
                                     due := min by' (s.time.mono + ms s.dom.tunnelMs), own := true }] } }
  each (tunnelSegs tag (tunnelWhole op none { r with resv := 0 })) s (fun b => claspSend 0x40 dev b)

/-- Ask a worker for the permutation record of the next step of the chain being loaded (R274), within 1.1 s of the load's start (R486).
Log entry 19 (DEDUCED). -/
def askPerm (s : State) : State :=
  match s.sched.loading with
  | [] => s
  | (_, c, _) :: _ =>
    ownTunnel 0x0803 (c.dplane / 2) (s.sched.loadAt + ms 1100)
      (le 1 (c.dplane % 2) ++ le 1 0 ++ le 2 ((c.steps.getD c.perms.length (0, 0)).1) ++ le 1 2 ++ le 1 0 ++ le 2 0 ++ le 2 0) s

/-- `chain.load` (R298).
Log entry 116 (DEDUCED). -/
def cmdChainLoad : Cmd where
  op := 0x0901
  host := some 8
  checks p s :=
    [sel p 4 2 1 4096] ++ layout [1, 1, 1, 1, 2, 2, 8] p ++
    [(decide (32 ≤ fld p 1 1) || (fld p 2 1 == 0 && (localOf s (fld p 1 1)).isNone)
        || (decide (fld p 1 1 / 2 = s.dom.number) && (localOf s (fld p 1 1)).isNone), bad 1),
     (decide (1 < fld p 2 1) || (fld p 2 1 == 1 && !schedules s), bad 2), range p 3 1 0 1]
  run r s :=
    let p := r.pay
    let d := fld p 1 1
    let n := fld p 0 1
    let fill := fld p 2 1 == 1
    let data := hostRead r (8 * fld p 4 2)
    let steps := stepsAt data (fld p 4 2)
    let c : Chain := { dplane := d, fill := fill, endIdle := bit (fld p 3 1) 0, rep := fld p 6 2, addr := fld p 8 8, steps := steps }
    guarded [(chainBusy s n, busy), (!dplaneHere s d, unreachableT r.target),
        (!stepsOk s d fill data steps, bad 8)]
      (if fill ∧ (localOf s d).isNone then
         later (askPerm (updSched (fun x => { x with loading := [(n, c, r)], loadAt := s.time.mono }) s))
       else
         let c := if fill then { c with perms := steps.map (fun e => localPerm s d e.1) } else c
         ok (updSched (fun x => { x with chains := tset {} x.chains n c }) s))

/-- Meaning of `chain.load`. -/
def execChainLoad (req : Req) (s : State) := command cmdChainLoad req s

/-- A permutation record of the chain being loaded has come, or its reading was refused (R273, R274, R496).
Log entry 19 (DEDUCED). -/
def permCame (rsp : Except Refuse (List Nat)) (s : State) : State :=
  match s.sched.loading with
  | [] => s
  | (n, c, r) :: l =>
    match rsp with
    | .error e => askPerm (refuseReq 0x0901 r (if e.st = 11 then unreachableT r.target else e) (updSched (fun x => { x with loading := l }) s))
    | .ok perm =>
      let c := { c with perms := c.perms ++ [perm] }
      if c.perms.length < c.steps.length then askPerm (updSched (fun x => { x with loading := (n, c, r) :: l }) s)
      else if chainBusy s n then askPerm (refuseReq 0x0901 r busy (updSched (fun x => { x with loading := l }) s))
      else askPerm (answerOk 0x0901 r {} (updSched (fun x => { x with loading := l, chains := tset {} x.chains n c }) s))

/-! ### Starting (R277, R278, R299) -/

/-- Start, rolled periods by R277: none when more than 65,535 periods late. -/
def chainStartAt (now s0 lead period : NetTime) : Option (NetTime × Nat) :=
  if now + lead ≤ s0 then some (s0, 0)
  else
    let m := ceilDiv (now + lead - s0) (max 1 period)
    if 65535 < m then none else some (s0 + m * period, m)

/-- The boundary at or after START from which R277 counts. -/
def startBoundary (s : State) (c : Chain) (t : NetTime) : NetTime :=
  if c.fill then slotBoundary s t else ceilTo t (ns (dtick s c.dplane))

/-- A pin uses an input or output of one of the chain's steps (R269, R299). -/
def pinClash (s : State) (c : Chain) : Bool :=
  (s.dplane c.dplane).pins.any (fun x => c.perms.any (fun f => permAt f x.1 != 0xFFFF || f.contains x.2.1))

/-- The answer of `chain.start` (R299). -/
def startReply (start now : NetTime) (m : Nat) : Bytes := timeLe start ++ timeLe now ++ le 2 m ++ le 1 (b1 (decide (0 < m))) ++ le 1 0

/-- A start is accepted (R277, R278). -/
def acceptStart (n : Nat) (start : NetTime) (m : Nat) (s : State) : State :=
  let d := (chainOf s n).dplane
  let s := s.updChainPlane d (fun c => { c with pend := some { chain := n, start := start, rolled := m }, late := decide (0 < m) })
  let s := if 0 < m then raiseFault (293 + d % 2) { plane := d % 2 } s else s
  announce s

/-- `chain.start` (R299). -/
def cmdChainStart : Cmd where
  op := 0x0902
  checks p _ := layout [1, 3, 12] p ++ [resv p 1 3, badTime p 4]
  floor p s := if (chainOf s (fld p 0 1)).fill then floorFrom s (startBoundary s (chainOf s (fld p 0 1)) (timeAt p 4)) else 700
  run r s :=
    let n := fld r.pay 0 1
    let c := chainOf s n
    let d := c.dplane
    let g := s.sched
    let lead := minLead s + (if c.fill then 2 * ns g.slotNs else 0)
    let s0 := startBoundary s c (timeAt r.pay 4)
    let held := (localOf s d).bind (fun p => scheduleRefusal s p)
    guarded [(c.steps.isEmpty, empty), (if c.fill then !schedules s else (localOf s d).isNone, bad 0), (s.em.hostDark || s.time.st == 4, notReady), (!dplaneHere s d, unreachableT r.target), (dregime s d == 0, notReady),
        ((s.chainPlane d).pend.isSome || g.asked.any (fun a => a.1 == d && a.2.1 == 4), busy), (s.pwr.avs == 2, ⟨2, 0, 7⟩),
        (held.isSome, held.getD busy),
        (c.fill && !slotsFit s d s0, bad 0), (c.fill && pinClash s c, conflict 7), (c.fill && neverFrom s s0, shortSlot s)]
      (match chainStartAt s.time.now s0 lead (ns (chainPeriod s n)) with
       | none => .error timeRefused
       | some (start, m) =>
         if (localOf s d).isSome then ok (acceptStart n start m s) (startReply start s.time.now m)
         else later (orderRegime d 4 start (some r) s))

/-- Meaning of `chain.start`. -/
def execChainStart (req : Req) (s : State) := command cmdChainStart req s

/-! ### Stopping and reading (R279, R300 to R303) -/

/-- The chain of this device's own store that runs on a DPLANE; a worker's chain is the worker's (R274). -/
def ownRun (s : State) (d : Nat) : Option ChainRun := (s.chainPlane d).run.filter (fun x => decide (x.chain < 256))

/-- The start of a chain of this device's own store that is pending on a DPLANE. -/
def ownPend (s : State) (d : Nat) : Option ChainRun := (s.chainPlane d).pend.filter (fun x => decide (x.chain < 256))

/-- `chain.stop` (R300). -/
def cmdChainStop : Cmd where
  op := 0x0903
  checks p _ := layout [1, 3, 12] p ++ [range p 0 1 0 31, resv p 1 3, badTime p 4]
  run r s :=
    let d := fld r.pay 0 1
    if !dplaneHere s d then .error (unreachableT r.target)
    else match ownRun s d with
    | none => .error empty
    | some x =>
      let c := chainOf s x.chain
      let t := max (timeAt r.pay 4) (s.time.now + minLead s)
      let b := runBoundary s (s.chainPlane d) x (if c.fill then max t (firstFree s) else t)
      let s := s.updChainPlane d (stopRun b)
      let s := if (localOf s d).isNone then orderRegime d (if c.endIdle then 0 else 1) b none s else s
      ok (announce s) (timeLe b)

/-- Meaning of `chain.stop`. -/
def execChainStop (req : Req) (s : State) := command cmdChainStop req s

/-- `chain.unload` (R300). -/
def cmdChainUnload : Cmd where
  op := 0x0904
  checks p _ := layout [1, 3] p ++ [resv p 1 3]
  run r s :=
    let n := fld r.pay 0 1
    guarded [((chainOf s n).steps.isEmpty, empty), (chainBusy s n, busy)]
      (ok (updSched (fun x => { x with chains := tdel x.chains n }) s))

/-- Meaning of `chain.unload`. -/
def execChainUnload (req : Req) (s : State) := command cmdChainUnload req s

/-- `chain.read` (R301). -/
def cmdChainRead : Cmd where
  op := 0x0905
  checks p _ := [sel p 4 2 1 500] ++ layout [1, 1, 2, 2] p ++ [resv p 1 1]
  run r s :=
    let n := fld r.pay 0 1
    let c := chainOf s n
    let l := (c.steps.drop (fld r.pay 2 2)).take (fld r.pay 4 2)
    guarded [(c.steps.isEmpty, empty), (decide (c.steps.length ≤ fld r.pay 2 2), bad 2),
        (decide (c.steps.length < fld r.pay 2 2 + fld r.pay 4 2), bad 4)]
      (ok s (le 1 n ++ le 1 c.dplane ++ le 1 (b1 c.fill) ++ le 1 (b1 c.endIdle) ++ le 2 c.steps.length ++ le 2 c.rep ++ le 8 c.addr
        ++ l.flatMap (fun e => le 2 e.1 ++ le 2 0 ++ le 4 e.2)))

/-- Meaning of `chain.read`. -/
def execChainRead (req : Req) (s : State) := command cmdChainRead req s

/-- Index of the step in force after `t` ns of a period. -/
def stepIn : List (Nat × Nat) → Nat → Nat → Nat
  | [], _, j => j - 1
  | e :: l, t, j => if t < e.2 then j else stepIn l (t - e.2) (j + 1)

/-- Periods completed and step in force of a run at a time: the last of REPEAT periods leaves its last step in force (R276). -/
def chainPos (s : State) (r : ChainRun) (t : NetTime) : Nat × Nat :=
  let c := chainOf s r.chain
  let p := max 1 (ns (chainPeriod s r.chain))
  let dt := t - r.start
  if c.rep ≠ 0 ∧ c.rep * p ≤ dt then (c.rep, c.steps.length - 1) else (dt / p, stepIn c.steps (dt % p / 65536) 0)

/-- As `chainPos`, on a DPLANE: no step counts that its stop or the start that waits keeps from launching (R278, R279). -/
def chainPosAt (s : State) (d : Nat) (r : ChainRun) (t : NetTime) : Nat × Nat :=
  let lim := (ownPend s d).toList.map (fun q => q.start - us 10) ++ r.stopAt.toList.map (· - 1)
  chainPos s r (lim.foldl min t)

/-- `chain.status` (R302). -/
def cmdChainStatus : Cmd where
  op := 0x0906
  checks p _ := layout [1, 3] p ++ [range p 0 1 0 31, resv p 1 3]
  run r s :=
    let d := fld r.pay 0 1
    let c := s.chainPlane d
    let run := ownRun s d
    let pos := match run with | some x => chainPosAt s d x s.time.now | none => (0, 0)
    ok s (le 1 ((run.map (·.chain)).getD 0xFF) ++ le 1 (b1 run.isSome + 2 * b1 (ownPend s d).isSome + 4 * b1 c.late) ++ le 2 pos.2
      ++ le 4 (sat 32 pos.1) ++ timeLe ((run.map (·.start)).getD 0) ++ le 4 c.skipped)

/-- Meaning of `chain.status`. -/
def execChainStatus (req : Req) (s : State) := command cmdChainStatus req s

/-- `chain.config` (R303). -/
def cmdChainConfig : Cmd where
  op := 0x0907
  checks p _ := layout [4, 4] p ++ [range p 0 4 10 300, range p 4 4 (fld p 0 4 + 10) 1000000]
  run r s :=
    guarded [(s.sched.chainPlanes.any (fun c => (ownPend s c.1).isSome), busy)]
      (ok (updSched (fun x => { x with stageUs := fld r.pay 0 4, minLeadUs := fld r.pay 4 4 }) s))

/-- Meaning of `chain.config`. -/
def execChainConfig (req : Req) (s : State) := command cmdChainConfig req s

/-! ### Running (R275 to R279) -/

/-- Launch time of the step that a run stages next (R275). -/
def stepTime (s : State) (r : ChainRun) : NetTime :=
  r.start + r.nextPeriod * ns (chainPeriod s r.chain)
    + ns ((((chainOf s r.chain).steps.take r.nextStep).map (·.2)).foldl (· + ·) 0)

/-- The run with its next step moved on by one. -/
def nextStepOf (s : State) (r : ChainRun) : ChainRun :=
  if r.nextStep + 1 < (chainOf s r.chain).steps.length then { r with nextStep := r.nextStep + 1 }
  else { r with nextStep := 0, nextPeriod := r.nextPeriod + 1 }

/-- The step that a run stages next is due and not left out (R275, R276, R278, R279): `limit` is the start that waits. -/
def stageDue (s : State) (r : ChainRun) (limit : Option NetTime) : Bool :=
  let c := chainOf s r.chain
  let t := stepTime s r
  !c.fill && decide (t ≤ s.time.now + us s.sched.stageUs) && (c.rep == 0 || decide (r.nextPeriod < c.rep))
    && (match r.stopAt with | some b => decide (t < b) | none => true)
    && (match limit with | some b => decide (t + us 10 ≤ b) | none => true)

/-- A step is skipped (R275). -/
def skipStep (d p : Nat) (s : State) : State :=
  raiseFault (291 + p) { plane := p } (s.updChainPlane d (fun c => { c with skipped := (c.skipped + 1) % 2 ^ 32 }))

/-- Stage one step on a local plane (R275, R456). -/
def stageStep (d p : Nat) (r : ChainRun) (s : State) : State :=
  let n := ((chainOf s r.chain).steps.getD r.nextStep (0, 0)).1
  if s.dom.holdover.isSome ∨ !slotValid s p n then skipStep d p s
  else match acceptLaunch p n (stepTime s r) (us 10) true none s with
    | .error _ => skipStep d p s
    | .ok (t, _) => t

/-- A stop of the running chain that lies after the start that waits is the new chain's (R279). -/
def heldStop (r q : ChainRun) : ChainRun := { q with stopAt := r.stopAt.filter (fun b => decide (q.start < b)) }

/-- CHAIN_STEP_STAGE (R275): the next step of the running chain, or else of the one that waits to start. -/
def chainStage (d : Nat) (s : State) : State :=
  match localOf s d with
  | none => s
  | some p =>
    let c := s.chainPlane d
    match c.run, c.pend with
    | some r, _ =>
      if stageDue s r (c.pend.map (·.start)) then
        stageStep d p r (s.updChainPlane d (fun c => { c with run := some (nextStepOf s r) }))
      else match c.pend with
        | some q => if stageDue s (heldStop r q) none then
            stageStep d p q (s.updChainPlane d (fun c => { c with pend := some (nextStepOf s q) })) else s
        | none => s
    | none, some q =>
      if stageDue s q none then stageStep d p q (s.updChainPlane d (fun c => { c with pend := some (nextStepOf s q) })) else s
    | none, none => s

/-- Meaning of CHAIN_STEP_STAGE. -/
def execChainStepStage (dplane : Nat) (s : State) := onUnit dplane 32 s (chainStage dplane s)

/-- CHAIN_START_TIME (R278): at S the waiting chain becomes the running one, and the plane enters its regime. -/
def chainBegins (d : Nat) (s : State) : State :=
  let c := s.chainPlane d
  match c.pend with
  | none => s
  | some q =>
    if s.time.now < q.start then s
    else enterRegime d (if (chainOf s q.chain).fill then 4 else 2) (s.updChainPlane d (fun c => { c with
      run := some (match c.run with | some r => heldStop r q | none => q), pend := none }))

/-- Meaning of CHAIN_START_TIME. -/
def execChainStartTime (dplane : Nat) (s : State) := onUnit dplane 32 s (chainBegins dplane s)

/-- CHAIN_STOP_BOUNDARY (R279): END applies, unless a change of regime waits for the same boundary.
Log entry 110 (DEDUCED). -/
def chainStops (d : Nat) (s : State) : State :=
  match (s.chainPlane d).run with
  | none => s
  | some r =>
    match r.stopAt with
    | none => s
    | some b =>
      if s.time.now < b then s
      else match dregimeAt s d with
        | some x => if x.at' ≤ b then regimeDue d (s.updChainPlane d (fun c => { c with run := none }))
          else takeRegime d (if (chainOf s r.chain).endIdle then 0 else 1) (s.updChainPlane d (fun c => { c with run := none }))
        | none => takeRegime d (if (chainOf s r.chain).endIdle then 0 else 1) (s.updChainPlane d (fun c => { c with run := none }))

/-- Meaning of CHAIN_STOP_BOUNDARY. -/
def execChainStopBoundary (dplane : Nat) (s : State) := onUnit dplane 32 s (chainStops dplane s)

/-- CHAIN_END (R276): the last of REPEAT periods ends; a chain that another start replaces by then keeps its plane until S (R278). The end
of a worker's own chain is the worker's.
Log entry 110 (DEDUCED). -/
def chainEnds (d : Nat) (s : State) : State :=
  let c := s.chainPlane d
  match c.run with
  | none => s
  | some r =>
    let ch := chainOf s r.chain
    match chainLast s c r with
    | none => s
    | some t =>
      if s.time.now < t then s
      else
        let g := if ch.endIdle then 0 else 1
        let s := s.updChainPlane d (fun c => { c with run := none })
        if 256 ≤ r.chain then takeRegime d g s
        else takeRegime d g (raiseEvent (299 + d % 2) { plane := d % 2 } (if (localOf s d).isNone then orderRegime d g 0 none s else s))

/-- Meaning of CHAIN_END. -/
def execChainEnd (dplane : Nat) (s : State) := onUnit dplane 32 s (chainEnds dplane s)

end Sys2Proof.Machine
end

