-- ==== Sys2Proof/Machine/Match.lean ====
section
/-! DEFINITION. The matcher (R285 to R290) and the pipeline from demand to light (R291 to R293, R328, R329, R333, R445). -/

namespace Sys2Proof.Machine

/-! ### Requests and keys (R285, R286) -/

/-- Parameters of a class (R285). -/
def classCfg (s : State) (c : Nat) : ClassCfg := tget {} s.sched.classes c

/-- A context requests: weight, not held, enough depth, and an endpoint that is not STALE (R285, R333). -/
def requests (s : State) (i : Nat) (x : Demand) : Bool :=
  x.weight != 0 && !x.held && decide (max 1 (classCfg s (i % 4)).minReq ≤ x.depth) && (s.ep (i / 2048)).st == 1

/-- The weight of a requesting context (R285). -/
def weightOf (c : ClassCfg) (x : Demand) : Nat :=
  x.weight * (if 64 ≤ x.depth then Nat.log2 (x.depth / 64) + 1 else 1) + c.ageGain * min x.age 255

/-- The requesting classes of an endpoint pair. -/
def pairClasses (s : State) (dem : Tab Demand) (a b : Nat) : List Nat :=
  (List.range 4).filter (fun c => requests s ((a * 512 + b) * 4 + c) (tget {} dem ((a * 512 + b) * 4 + c)))

/-- The key of an endpoint pair (R286). -/
def pairKey (s : State) (dem : Tab Demand) (a b : Nat) : Nat :=
  let l := pairClasses s dem a b
  let top := l.foldl (fun t c => max t (classCfg s c).tier) 0
  let sum := (l.filter (fun c => (classCfg s c).tier == top)).foldl (fun t c =>
    t + weightOf (classCfg s c) (tget {} dem ((a * 512 + b) * 4 + c)) * (classCfg s c).weight) 0
  if l = [] then 0 else top * 65536 + min 65535 (sum / 16)

/-- The endpoint pairs that have a context with depth, each once. -/
def activePairs (dem : Tab Demand) : List (Nat × Nat) :=
  dem.foldr (fun e (a : List (Nat × Nat)) =>
    let k := (e.1 / 2048, e.1 / 4 % 512)
    if e.2.depth = 0 ∨ a.head? = some k then a else k :: a) []

/-- Withdrawn pairs of a DPLANE: of its list, or kept dark by containment on a local plane. -/
def pairDark (s : State) (d i o : Nat) : Bool :=
  (s.dplane d).withdrawn.contains (i, o) || (match localOf s d with | some p => (s.plane p).dark.contains (i, o) | none => false)

/-- The requests of a DPLANE: (input, output, key), key above 0, on free ports (R286, R287). -/
def requestsOf (s : State) (d : Nat) (dem : Tab Demand) (freeI freeO : Nat → Bool) : List (Nat × Nat × Nat) :=
  (activePairs dem).flatMap (fun e =>
    let k := pairKey s dem e.1 e.2
    if k = 0 then [] else
      ((portsOfEp s d e.1 false).filter freeI).flatMap (fun i =>
        (((portsOfEp s d e.2 true).filter freeO).filter (fun o => !pairDark s d i o)).map (fun o => (i, o, k))))

/-! ### Matching one plane (R287) -/

/-- Distance from a pointer, going up and around `n`. -/
def fromPtr (n ptr i : Nat) : Nat := (i + n - ptr % max 1 n) % max 1 n

/-- The better of two candidates (port, key) from a pointer: the larger key, then the first at or after the pointer. -/
def betterOf (n ptr : Nat) (a b : Nat × Nat) : Nat × Nat :=
  if b.2 < a.2 ∨ (a.2 = b.2 ∧ fromPtr n ptr a.1 ≤ fromPtr n ptr b.1) then a else b

/-- Put a candidate for port `k`, keeping the better. -/
def putBest (n ptr k : Nat) (c : Nat × Nat) (t : Tab (Nat × Nat)) : Tab (Nat × Nat) :=
  tput t k (match tfind t k with | some a => betterOf n ptr a c | none => c)

/-- The matching of a plane so far: mates of inputs and outputs, and the pointers. -/
structure PlaneMatch where
  /-- output matched to each input -/
  mi : Tab Nat := []
  /-- input matched to each output -/
  mo : Tab Nat := []
  /-- gptr -/
  g : Tab Nat := []
  /-- aptr -/
  a : Tab Nat := []
  deriving DecidableEq, Repr

/-- One iteration of request, grant and accept (R287); pointers move only in the first. -/
def matchIter (n : Nat) (reqs : List (Nat × Nat × Nat)) (first : Bool) (m : PlaneMatch) : PlaneMatch :=
  let open' := reqs.filter (fun r => (tfind m.mi r.1).isNone && (tfind m.mo r.2.1).isNone)
  let grants := open'.foldl (fun t r => putBest n (tget 0 m.g r.2.1) r.2.1 (r.1, r.2.2) t) []
  let accepts := grants.foldl (fun t e => putBest n (tget 0 m.a e.2.1) e.2.1 (e.1, e.2.2) t) ([] : Tab (Nat × Nat))
  accepts.foldl (fun m e =>
    let m := { m with mi := tput m.mi e.1 e.2.1, mo := tput m.mo e.2.1 e.1 }
    if first then { m with g := tset 0 m.g e.2.1 ((e.1 + 1) % max 1 n), a := tset 0 m.a e.1 ((e.2.1 + 1) % max 1 n) } else m) m

/-- ITER iterations. -/
def matchIters (n : Nat) (reqs : List (Nat × Nat × Nat)) (first : Bool) : Nat → PlaneMatch → PlaneMatch
  | 0, m => m
  | k + 1, m => matchIters n reqs false k (matchIter n reqs first m)

/-! ### Splitting a budget (R288) -/

/-- Split a budget over the classes of one tier in proportion to their weights: classes that need less than their share take
their need, and the rest is shared again. Shares round down (log entry 62, DEDUCED). -/
def splitTier : Nat → Nat → List (Nat × Nat × Nat) → Tab Nat
  | 0, _, _ => []
  | n + 1, rem, l =>
    let w := max 1 (l.foldl (fun t c => t + c.2.1) 0)
    let done := l.filter (fun c => decide (c.2.2 * w ≤ rem * c.2.1))
    if done = [] then l.map (fun c => (c.1, rem * c.2.1 / w))
    else
      done.map (fun c => (c.1, c.2.2)) ++
        splitTier n (rem - done.foldl (fun t c => t + c.2.2) 0) (l.filter (fun c => !decide (c.2.2 * w ≤ rem * c.2.1)))

/-- Split a pair's budget over its classes, tier by tier from the top.
Log entry 62 (DEDUCED). -/
def splitBudget (s : State) (dem : Tab Demand) (a b budget : Nat) : Tab Nat :=
  let l := pairClasses s dem a b
  ([3, 2, 1, 0].foldl (fun (r : Tab Nat × Nat) t =>
    let mine := (l.filter (fun c => (classCfg s c).tier == t)).map (fun c =>
      (c, (classCfg s c).weight, (tget ({} : Demand) dem ((a * 512 + b) * 4 + c)).depth))
    let parts := splitTier 5 r.2 mine
    (parts.foldl (fun x e => tset 0 x e.1 e.2) r.1, r.2 - parts.foldl (fun x e => x + e.2) 0)) ([], budget)).1

/-- Reduce the contexts of a pair by its parts. -/
def reduceBy (a b : Nat) (parts : Tab Nat) (dem : Tab Demand) : Tab Demand :=
  parts.foldl (fun t e =>
    let k := (a * 512 + b) * 4 + e.1
    tset {} t k { tget ({} : Demand) t k with depth := (tget ({} : Demand) t k).depth - e.2 }) dem

/-! ### Matching a slot (R282, R287) -/

/-- The chain step's permutation record that will be in force on a DPLANE at a time (R268, R287). -/
def chainPermAt (s : State) (d : Nat) (t : NetTime) : List Nat :=
  let c := s.chainPlane d
  let step := fun (x : ChainRun) (j : Nat) => if (chainOf s x.chain).fill then (chainOf s x.chain).perms.getD j [] else []
  match c.pend.filter (fun q => decide (q.start ≤ t)), c.run with
  | some q, _ => step q (chainPos s q t).2
  | none, some x => step x (chainPosAt s d x t).2
  | none, none => []

/-- Match one plane for a slot that starts at `t` (R287): its record and circuits, the contexts left, and the state with new pointers. -/
def matchPlane (d : Nat) (t : NetTime) (slotNs : Nat) (w : List PipePlane × Tab Demand × State) : List PipePlane × Tab Demand × State :=
  let s := w.2.2
  let n := dports s d
  let q := s.dplane d
  let chain := if regimeThen s d t = 4 then chainPermAt s d t else []
  let pins := q.pins.filter (fun x => !x.2.2)
  let freeI := fun i => !q.pins.any (fun x => x.1 == i) && permAt chain i == 0xFFFF
  let freeO := fun o => !q.pins.any (fun x => x.2.1 == o) && !chain.contains o
  let reqs := requestsOf s d w.2.1 freeI freeO
  let m := matchIters n reqs true s.sched.iter { g := q.gptr, a := q.aptr }
  let one := fun (a : List Matched × Tab Demand) (e : Nat × Nat) =>
    let x := inEp s d e.1
    let y := outEp s d e.2
    let b := budget s d slotNs x y
    let parts := splitBudget s a.2 x y b
    (a.1 ++ [({ inp := e.1, out := e.2, budget := b, parts := parts } : Matched)], reduceBy x y parts a.2)
  let r := m.mi.foldl one ([], w.2.1)
  let fixed := fun (src : Nat) (i o : Nat) => ({ inp := i, out := o, source := src, budget := budget s d slotNs (inEp s d i) (outEp s d o) } : Matched)
  let chained := (circuitsOf chain).filter (fun c => !pairDark s d c.1 c.2)
  let circuits := r.1 ++ pins.map (fun x => fixed 1 x.1 x.2.1) ++ chained.map (fun c => fixed 2 c.1 c.2)
  let perm := (List.range n).map (fun i =>
    match (r.1.find? (fun c => c.inp == i)) with
    | some c => c.out
    | none => match pins.find? (fun x => x.1 == i) with | some x => x.2.1 | none => permAt chain i)
  (w.1 ++ [{ dplane := d, perm := perm, circuits := circuits }], r.2,
   s.updDplane d (fun q => { q with gptr := m.g, aptr := m.a }))

/-- A list turned to begin at its nth entry. -/
def turnTo {α : Type} (n : Nat) (l : List α) : List α := l.drop (n % max 1 l.length) ++ l.take (n % max 1 l.length)

/-- The planes of a matching for a slot that starts at `t`, ascending (R267, R287, R455). -/
def matchPlanes (s : State) (t : NetTime) : List Nat :=
  (dplanes s).filter (fun d => demandRegime (regimeThen s d t) && !(s.dplane d).lost)

/-- Begin the matching of slot `k` (R287).
Log entry 156 (DESIGN CHOICE). -/
def beginMatch (k : Nat) (s : State) : State :=
  let f := futureSlot s (k + 2)
  let ps := matchPlanes s f.2.1
  let s := updSched (fun c => { c with lastCut := k + 1 }) s
  if ps = [] then s else
    let dem := s.sched.demand
    let req := (dem.filter (fun e => requests s e.1 e.2)).map (·.1)
    let w := (turnTo s.sched.first ps).foldl (fun w d => matchPlane d f.2.1 f.2.2 w) ([], dem, s)
    updSched (fun c => { c with
      matching := some { slot := f.1, at' := f.2.1, slotNs := f.2.2, planes := w.1 }
      requested := req, matchAt := s.time.mono, first := (c.first + 1) % ps.length }) w.2.2

/-- Count in a scheduler counter of R313: 0 MATCHINGS, 1 CIRCUITS, 2 MATCH_OVERRUN, 3 PIPE_LATE, 4 GRANT_LATE. -/
def schedCount (i n : Nat) (s : State) : State :=
  updSched (fun c => { c with counters := tset 0 c.counters i ((tget 0 c.counters i + n) % 2 ^ 32) }) s

/-! ### Acceptance and grants (R291, R292, R328, R329) -/

/-- The pipeline of a slot. -/
def pipeOf (s : State) (slot : Nat) : Option Pipe := s.sched.pipes.find? (fun q => q.slot == slot)
/-- Change the pipeline of a slot. -/
def updPipe (slot : Nat) (f : Pipe → Pipe) (s : State) : State :=
  updSched (fun c => { c with pipes := c.pipes.map (fun q => if q.slot = slot then f q else q) }) s
/-- Change a plane of the pipeline of a slot. -/
def updPipePlane (slot d : Nat) (f : PipePlane → PipePlane) (s : State) : State :=
  updPipe slot (fun q => { q with planes := q.planes.map (fun x => if x.dplane = d then f x else x) }) s

/-- The reductions of a plane go back to its contexts (R292). -/
def addBack (d : Nat) (x : PipePlane) (s : State) : State :=
  each x.circuits s (fun c s => each c.parts s (fun e s =>
    s.updDemand ((inEp s d c.inp * 512 + outEp s d c.out) * 4 + e.1) (fun y =>
      if y.valid then { y with depth := min (2 ^ 40 - 1) (y.depth + e.2) } else y)))

/-- A grant entry for an endpoint: (endpoint, DPLANE, peer, source, receive entry, budget). -/
abbrev GrantEntry := Nat × Nat × Nat × Nat × Bool × Nat

/-- The entries that the circuits of a slot give (R329), of accepted planes that still schedule: a transmit entry for the source when it is
registered, a receive entry for the destination when it is and asked for one.
Log entry 168 (DESIGN CHOICE). -/
def grantEntries (s : State) (q : Pipe) : List GrantEntry :=
  (q.planes.filter (fun x => x.status == 1 && demandRegime (regimeThen s x.dplane q.at'))).flatMap (fun x =>
    x.circuits.flatMap (fun c =>
      let a := inEp s x.dplane c.inp
      let b := outEp s x.dplane c.out
      if 512 ≤ a ∨ 512 ≤ b ∨ pairDark s x.dplane c.inp c.out
          ∨ (s.dplane x.dplane).pins.any (fun p => p.1 == c.inp && p.2.1 == c.out && p.2.2) then []
      else (if (s.ep a).st = 0 then [] else [(a, x.dplane, b, c.source, false, c.budget)]) ++
        (if (s.ep b).st ≠ 0 ∧ (s.ep b).rx then [(b, x.dplane, a, c.source, true, 0)] else [])))

/-- The bytes of one entry of a GRANT (R328). -/
def grantBytes (s : State) (slotNs : Nat) (g : GrantEntry) : Bytes :=
  let w := window s g.2.1 slotNs
  be 1 g.2.1 ++ be 1 (g.2.2.2.1 + 4 * b1 g.2.2.2.2.1) ++ be 2 g.2.2.1 ++ be 4 w.1 ++ be 4 w.2 ++ be 4 g.2.2.2.2.2

/-- Send one endpoint its GRANT of a slot (R328, R329). -/
def sendGrant (q : Pipe) (e : Nat) (l : List GrantEntry) (s : State) : State :=
  let l := l.take 64
  let seq := (s.ep e).seq
  let tx := l.filter (fun g => !g.2.2.2.2.1)
  let body := be 8 q.slot ++ timeBe q.at' ++ be 4 q.slotNs ++ be 2 l.length ++ be 2 0 ++ l.flatMap (grantBytes s q.slotNs)
  let s := epCount e 5 tx.length (sendEp e 4 body s)
  let s := s.updEp e (fun x => { x with
    grantSeq := seq, grants := x.grants ++ l.map (fun g => (g.2.1, g.2.2.1, q.slot, seq, g.2.2.2.2.1)) })
  schedCount 1 tx.length (updPipe q.slot (fun p => { p with unacked := p.unacked ++ tx.map (fun g => (e, g.2.2.1, g.2.1)) }) s)

/-- The GRANT messages of a slot leave together (R291, R329). -/
def sendGrants (slot : Nat) (s : State) : State :=
  match pipeOf s slot with
  | none => s
  | some q =>
    let l := grantEntries s q
    let s := updPipe slot (fun p => { p with sent := true, planes := p.planes.map (fun x => { x with granted := x.status == 1 }) }) s
    each (l.foldl (fun a g => insertAsc g.1 a) []) s (fun e s => sendGrant q e (l.filter (fun g => g.1 == e)) s)

/-- The answer of a plane's device for a slot (R291, R292): accepted, or not. A refusal waits for its deadline. -/
def pipeAnswer (d slot : Nat) (ok : Bool) (s : State) : State :=
  match pipeOf s slot with
  | none => s
  | some q =>
    match q.planes.find? (fun x => x.dplane == d) with
    | none => s
    | some x =>
      if !ok ∨ x.status = 1 then s
      else if q.sent then
        let s := updPipePlane slot d (fun y => { y with status := 1 }) s
        let s := if x.status = 0 then addBack d x s else s
        raiseFault 289 { plane := d } (if mergesNow s 289 then s else schedCount 4 1 s)
      else
        let s := updPipePlane slot d (fun y => { y with status := 1 }) s
        if q.planes.all (fun y => y.dplane == d || y.status == 1) then sendGrants slot s else s

/-- Report an acceptance or refusal to the manager: here, or by FACET_ACK (R291, R441, R445). -/
def pipeReport (d slot status : Nat) (flags id n : Nat) (s : State) : State :=
  if schedules s then pipeAnswer d slot (status == 0) s
  else claspSend 0x21 0 (le 1 d ++ le 1 flags ++ le 2 status ++ le 4 id ++ le 8 slot ++ le 2 n ++ le 6 0) s

/-- The answer to a launch of the pipeline: its acceptance, or its refusal (R445). -/
def pipeReply (p slot n : Nat) (hit : Bool) (s : State) (x : Except Refuse (State × Launch)) : State :=
  match x with
  | .error e => pipeReport (s.dplaneOf p) slot e.st 0 0 0 s
  | .ok (s, l) => pipeReport (s.dplaneOf p) slot 0 (b1 hit + 2 * b1 l.rounded) l.id n s

/-- Accept a pipeline launch (R291 step 3, R292). -/
def pipeAccept (p n : Nat) (hit : Bool) (t : NetTime) (slot : Nat) (s : State) : State :=
  pipeReply p slot n hit s (acceptLaunch p n t (us 3) hit (some slot) s)

/-- A plane's permutation record for a slot: looked up at once, or put down for building (R235, R291, R445). -/
def pipeRecord (p : Nat) (perm : List Nat) (t : NetTime) (slot : Nat) (s : State) : State :=
  if !demandRegime (regimeThen s (s.dplaneOf p) t) then pipeReport (s.dplaneOf p) slot 4 0 0 0 s
  else match lookup p perm false s with
    | .ok (n, _, s) => pipeAccept p n true t slot s
    | .error _ => s.updPlane p (fun q => { q with builds := q.builds ++ [{ perm := perm, at' := t, pipe := slot }] })

/-- FACET_BUILD_DONE (R235, R291): the oldest facet being built is ready, and its launch is asked for. -/
def buildDone (p : Nat) (s : State) : State :=
  match (s.plane p).builds with
  | [] => s
  | b :: t =>
    let s := s.updPlane p (fun q => { q with builds := t })
    match lookup p b.perm true s with
    | .error e => pipeReport (s.dplaneOf p) b.pipe e.st 0 0 0 s
    | .ok (n, hit, s) => pipeAccept p n hit b.at' b.pipe s

/-- Meaning of FACET_BUILD_DONE. -/
def execFacetBuildDone (plane : Nat) (s : State) := onUnit plane 2 s (buildDone plane s)

/-! ### The end of a matching (R289, R291) -/

/-- The 16 bytes of a context (R280). -/
def demandBytes (x : Demand) : Bytes :=
  le 1 x.grants ++ le 1 (128 * b1 x.valid + 64 * b1 x.held) ++ le 2 x.grantSlot ++ le 4 x.granted ++ le 1 x.weight ++ le 2 x.age
    ++ le 5 x.depth

/-- What `sched.demand_read` with a payload reads (R311). -/
def demandRange (s : State) (p : Bytes) : Bytes := (range' (fld p 0 4) (fld p 4 2)).flatMap (fun i => demandBytes (s.demand i))

/-- Bytes that a matching serves to each context, all planes together (R289). -/
def servedOf (s : State) (q : Pipe) : Tab Nat :=
  q.planes.foldl (fun t x => x.circuits.foldl (fun t c => c.parts.foldl (fun t e =>
    let k := (inEp s x.dplane c.inp * 512 + outEp s x.dplane c.out) * 4 + e.1
    tset 0 t k (tget 0 t k + e.2)) t) t) []

/-- R289 for one context. -/
def writeContext (served : Tab Nat) (req : List Nat) (slot : Nat) (k : Nat) (x : Demand) : Demand :=
  let g := tget 0 served k
  if 0 < g then
    (if x.valid then { x with depth := x.depth - min g x.depth, granted := ceilDiv g 64 % 2 ^ 32, grantSlot := slot % 65536
                              grants := (x.grants + 1) % 256, age := 0 } else x)
  else if req.contains k then { x with age := sat 16 (x.age + 1) }
  else { x with age := 0 }

/-- Send a plane's record to its device (R291 step 1, R445). -/
def sendRecord (q : Pipe) (x : PipePlane) (s : State) : State :=
  match localOf s x.dplane with
  | some p => pipeRecord p x.perm q.at' q.slot s
  | none => claspSend 0x20 (x.dplane / 2)
      (le 1 x.dplane ++ le 1 0 ++ le 2 x.perm.length ++ le 4 0 ++ le 8 q.slot ++ timeLe q.at' ++ le 4 0 ++ x.perm.flatMap (le 2)) s

/-- The commands and messages that waited for the end of a matching: the contexts are read first (R311), then the messages are taken in
(R282, R323). -/
def betweenMatchings (s : State) : State :=
  let reads := s.sched.reads
  let held := s.eps.held
  let s := updSched (fun c => { c with reads := [] }) { s with eps := { s.eps with held := [] } }
  let s := each reads s (fun r s => answerFit 0x0A08 r { pay := demandRange s r.pay } s)
  each held s epApply

/-- The matching completes (R289, R291). -/
def completeMatch (s : State) : State :=
  match s.sched.matching with
  | none => s
  | some q =>
    let took := (s.time.mono - s.sched.matchAt) / 65536
    let served := servedOf s q
    let req := s.sched.requested
    let s := updSched (fun c => { c with
      demand := tmap {} (writeContext served req q.slot) c.demand
      matching := none, requested := [], pipes := c.pipes ++ [q]
      counters := tset 0 (tinc c.counters 0) 5 (max (tget 0 c.counters 5) (sat 16 took)) }) s
    betweenMatchings (each q.planes s (sendRecord q))

/-- MATCHING_COMPLETE (R289). -/
def execMatchingComplete (s : State) := live s (completeMatch s)

/-- The planes of a matching that have not completed by the next cutoff keep only their pinned and chain circuits (R290). The planes are
matched one after another (R287); how many have completed is a free value.
Log entry 156 (DESIGN CHOICE). -/
def overrunMatch (s : State) : State :=
  match s.sched.matching with
  | none => s
  | some q =>
    let dr := s.draw
    let done := dr.1 % max 1 q.planes.length
    let s := dr.2
    let strip := fun (x : PipePlane) =>
      let gone := x.circuits.filter (fun c => c.source == 0)
      { x with
        circuits := x.circuits.filter (fun c => c.source != 0)
        perm := (List.range x.perm.length).map (fun i => if gone.any (fun c => c.inp == i) then 0xFFFF else permAt x.perm i) }
    let s := updSched (fun c => { c with matching := some { q with planes := q.planes.take done ++ (q.planes.drop done).map strip } }) s
    let s := each (q.planes.drop done) s (fun x s => raiseFault 288 { plane := x.dplane } s)
    completeMatch (schedCount 2 1 s)

/-- SLOT_CUTOFF (R282, R287, R290). -/
def slotCutoff (s : State) : State :=
  let k := slotNow s
  if !schedules s ∨ s.time.now < s.sched.epoch ∨ k + 1 ≤ s.sched.lastCut ∨ s.time.now < slotStart s k + ns s.sched.cutoffNs then s
  else beginMatch k (overrunMatch s)

/-- Meaning of SLOT_CUTOFF. -/
def execSlotCutoff (s : State) := live s (slotCutoff s)

/-! ### Deadlines (R291, R292, R333) -/

/-- GRANT_MARGIN_EXPIRY (R291): at L - GRANT_MARGIN the slot's grants leave. -/
def execGrantMarginExpiry (slot : Nat) (s : State) :=
  live s (match pipeOf s slot with
    | none => s
    | some q => if q.sent ∨ s.time.now + ns s.sched.marginNs < q.at' then s else sendGrants slot s)

/-- How long after L - 3 us an acceptance may still be on its way: T_R of a worker's plane (R291, R446).
Log entry 113 (DEDUCED). -/
def answerTime (s : State) (d : Nat) : NetTime := if (localOf s d).isSome then 0 else ns (if s.dom.ring = 2 then 2000 else 1200)

/-- PIPE_LATE_DEADLINE (R292): a launch not accepted is not made, and its reductions go back.
Log entry 113 (DEDUCED). -/
def pipeLate (d slot : Nat) (s : State) : State :=
  let s := match localOf s d with
    | some p =>
      let stale := fun (b : Build) => b.pipe == slot && decide (b.at' ≤ s.time.now + us 3)
      let t := s.updPlane p (fun q => { q with builds := q.builds.filter (fun b => !stale b) })
      if schedules s ∨ !(s.plane p).builds.any stale then t else pipeReport d slot 5 0 0 0 t
    | none => s
  match pipeOf s slot with
  | none => s
  | some q =>
    match q.planes.find? (fun x => x.dplane == d) with
    | none => s
    | some x =>
      if x.status ≠ 0 ∨ s.time.now + us 3 < q.at' + answerTime s d then s
      else
        let s := updPipePlane slot d (fun y => { y with status := 2 }) s
        raiseFault (256 + d) { plane := d } (schedCount 3 1 (addBack d x s))

/-- Meaning of PIPE_LATE_DEADLINE. -/
def execPipeLateDeadline (dplane slot : Nat) (s : State) := onUnit dplane 32 s (pipeLate dplane slot s)

/-- One endpoint's GRANT of the slot was never acknowledged (R333).
Log entry 106 (DEDUCED). -/
def grantUnacked (e : Nat) (s : State) : State :=
  let s := epCount e 6 1 (s.updEp e (fun x => { x with unacked := sat 16 (x.unacked + 1) }))
  if (s.ep e).st = 1 ∧ s.eps.cfg.staleLimit ≤ (s.ep e).unacked then
    raiseCond 296 e { ep := e } (s.updEp e (fun x => { x with st := 2 })) else s

/-- GRANT_SLOT_END (R333): contexts whose grant of the slot is unacknowledged, or never left, lose GRANTED.
Log entry 113 (DEDUCED). -/
def grantSlotEnd (slot : Nat) (s : State) : State :=
  match pipeOf s slot with
  | none => s
  | some q =>
    if s.time.now < q.at' + ns q.slotNs then s
    else
      let open' := q.unacked.foldl (fun a u => insertAsc u.1 a) []
      let s := each q.planes s (fun x s => each x.circuits s (fun c s => each c.parts s (fun e s =>
        let a := inEp s x.dplane c.inp
        if open'.contains a || !x.granted then
          s.updDemand ((a * 512 + outEp s x.dplane c.out) * 4 + e.1) (fun y => if y.grantSlot = slot % 65536 then { y with granted := 0 } else y)
        else s)))
      let s := each open' s grantUnacked
      let s := each (registered s) s (fun e s => s.updEp e (fun x => { x with grants := x.grants.filter (fun g => g.2.2.1 != slot) }))
      updSched (fun c => { c with pipes := c.pipes.filter (fun p => p.slot != slot) }) s

/-- Meaning of GRANT_SLOT_END. -/
def execGrantSlotEnd (slot : Nat) (s : State) := live s (grantSlotEnd slot s)

/-- FACET_ACK_RECEIVE (R291, R292, R441).
Log entry 113 (DEDUCED). -/
def facetAck (m : Msg) (s : State) : State :=
  if schedules s then pipeAnswer (fld m.body 0 1) (fld m.body 8 8) (fld m.body 2 2 == 0) s else s

/-- FACET_REC_RECEIVE (R291, R445): a worker takes a record for a plane of its own, and answers each. -/
def facetRec (m : Msg) (s : State) : State :=
  let d := fld m.body 0 1
  let n := fld m.body 2 2
  if schedules s then s
  else match localOf s d with
    | none => pipeReport d (fld m.body 8 8) 3 0 0 0 s
    | some p =>
      if n ≠ s.ports p then pipeReport d (fld m.body 8 8) 3 0 0 0 s
      else
        let s := { s with dom := { s.dom with lastRec := fld m.body 8 8 } }
        pipeRecord p (permOf m.body 32 n) (timeAt m.body 16) (fld m.body 8 8) s

end Sys2Proof.Machine
end

