-- ==== Sys2Proof/Machine/Sched.lean ====
section
/-! DEFINITION. Scheduler commands (R304 to R313), the grid change (R284) and the queue sampler (R297). -/

namespace Sys2Proof.Machine

/-- A DPLANE that cannot exist here (R265). -/
def dplaneBad (s : State) (d : Nat) : Bool :=
  decide (32 ≤ d) || (decide (d / 2 = s.dom.number) && s.sys.map.isSome && (localOf s d).isNone)

/-- A DPLANE of a worker that is not admitted and reachable (R447). -/
def dplaneAway (s : State) (r : Req) (d : Nat) : Bool × Refuse :=
  (decide (d / 2 ≠ s.dom.number) && !workerHere s (d / 2), unreachableT r.target)

/-! ### sched.set_regime (R266, R295, R304) -/

/-- The effective time that the manager gives a change on a worker's plane; 0 leaves it to the worker. -/
def remoteTime (s : State) (d r : Nat) (t : NetTime) : NetTime :=
  if r = 3 then t else if r = 1 ∧ demandRegime (dregime s d) then staticBoundary s d t else t

/-- The boundary that a `sched.set_regime` to DEMAND with an AT comes to (R266); AT 0 asks for the earliest. -/
def demandBoundary (s : State) (t : NetTime) : NetTime := slotBoundary s (if t = 0 then demandLead s else t)

/-- `sched.set_regime` (R304). -/
def cmdSchedSetRegime : Cmd where
  op := 0x0A01
  checks p s :=
    layout [1, 1, 2, 12] p ++
    [(dplaneBad s (fld p 0 1), bad 0), (fld p 1 1 != 0 && fld p 1 1 != 1 && fld p 1 1 != 3, bad 1), resv p 2 2, badTime p 4,
     (fld p 1 1 == 3 && !slotsFit s (fld p 0 1) (demandBoundary s (timeAt p 4)), bad 1)]
  floor p s := if fld p 1 1 = 3 then floorFrom s (demandBoundary s (timeAt p 4)) else 0
  run r s :=
    let d := fld r.pay 0 1
    let g := fld r.pay 1 1
    let asked := timeAt r.pay 4
    let t := if g = 3 then demandBoundary s asked else asked
    guarded [dplaneAway s r d, (s.sys.map.isNone && decide (d / 2 = s.dom.number) && g != 0, notReady),
        (g != 0 && s.em.hostDark, notReady), (g == 3 && (dregime s d == 0 || s.time.st == 4), notReady), (g == 3 && dregime s d == 3, ⟨2, 0, 7⟩),
        (g == 3 && asked != 0 && decide (asked < demandLead s), late), (g == 3 && neverFrom s t, shortSlot s)]
      (match localOf s d with
       | some p => (match changeRegime p g t s with
         | .error e => .error e
         | .ok (b, s) => ok s (timeLe b))
       | none =>
         if d / 2 = s.dom.number then ok s (timeLe s.time.now) else
         let b := remoteTime s d g t
         later (orderRegime d g b (some r) s))

/-- Meaning of `sched.set_regime`. -/
def execSchedSetRegime (req : Req) (s : State) := command cmdSchedSetRegime req s

/-- A worker has answered the oldest order of a regime (R265, R447): the view follows, and the command that waits for it completes. A plane
that has entered IDLE is dark from the closing of its shutters on (R267, R336). -/
def schedAnswered (d st : Nat) (t : NetTime) (s : State) : State :=
  match s.sched.asked.find? (fun a => a.1 == d) with
  | none => s
  | some (_, g, _, _, none) =>
    let s := updSched (fun x => { x with asked := x.asked.eraseP (fun a => a.1 == d) }) s
    if g = 0 ∧ st = 0 ∧ t ≤ s.time.now then takeRegimeAt d 0 (darkFrom s d t) s else s
  | some (_, g, b, now, some r) =>
    let op := if g = 4 then 0x0902 else 0x0A01
    let s := updSched (fun x => { x with asked := x.asked.eraseP (fun a => a.1 == d) }) s
    if st ≠ 0 then refuseReq op r ⟨st, 0, 0⟩ s
    else if g = 4 then
      let n := fld r.pay 0 1
      let m := (b - startBoundary s (chainOf s n) (timeAt r.pay 4)) / max 1 (ns (chainPeriod s n))
      answerOk op r { pay := startReply b now m } (acceptStart n b m s)
    else
      let e := max t b
      let s := if e ≤ s.time.now then takeRegimeAt d g (darkFrom s d e) s
        else
          let s := setDregimeAt d (some { regime := g, at' := e }) s
          announce (s.updChainPlane d (fun c => { c with run := c.run.map (fun x => { x with stopAt := some e }) }))
      answerOk op r { pay := timeLe (if e = 0 then now else e) } s

/-- A DPLANE is in DEMAND or CHAIN_FILL, or an accepted entry into one of them waits (R332). -/
def demands (s : State) (d : Nat) : Bool := demandRegime (dregime s d) || (comingRegimes s d).any (fun c => demandRegime c.2)

/-! ### sched.config and the grid (R283, R284, R295, R305) -/

/-- `sched.config` (R305). A change that keeps SLOT_NS while planes schedule takes effect at once.
Log entry 114 (DEDUCED). -/
def cmdSchedConfig : Cmd where
  op := 0x0A02
  checks p s :=
    let l := (dplanes s).filter (fun d => demandRegime (dregime s d))
    layout [4, 4, 4, 1, 3, 12, 12] p ++
    [range p 0 4 10000 1000000000, (((dplanes s).filter (demands s)).any (fun d => fld p 0 4 % dtick s d != 0 || !windowOk (dallow s d) (fld p 0 4) s.eps.cfg.guardNs), bad 0),
     range p 4 4 0 (fld p 0 4 - 4000), range p 8 4 2000 (fld p 0 4), range p 12 1 1 8, resv p 13 3, badTime p 16,
     (l.isEmpty && (s.planeIds.any (fun q => timeAt p 16 % us (s.plane q).tickUs != 0) || timeAt p 16 % us 1 != 0), bad 16), badTime p 28]
  floor p s := slotFloor s (fld p 0 4) (fld p 12 1) (fld p 4 4) (fld p 8 4)
  run r s :=
    let p := r.pay
    let old := s.sched.slotNs
    let b := ceilGrid (timeAt p 28) s.sched.epoch (max 1 (ns old))
    let slot := fld p 0 4
    let never := (slotNever s slot (fld p 12 1) (fld p 4 4) (fld p 8 4), shortSlot s)
    if !anyDemand s then
        guarded [never] (ok (announce (updSched (fun c => { c with
          slotNs := slot, cutoffNs := fld p 4 4, marginNs := fld p 8 4, iter := fld p 12 1, epoch := timeAt p 16, gridAt := none
          lastCut := 0, samNext := 0 }) s)))
    else if slot = old then
        guarded [never] (ok (announce (updSched (fun c => { c with cutoffNs := fld p 4 4, marginNs := fld p 8 4, iter := fld p 12 1 }) s)))
    else guarded [(decide (timeAt p 28 < s.time.now + 3 * ns old + minLead s), late),
          ((dplanes s).any (fun d => dregime s d == 4), conflict 7), never]
        (ok (announce (updSched (fun c => { c with gridAt := some (slot, fld p 4 4, fld p 8 4, fld p 12 1, b) }) s)))

/-- Meaning of `sched.config`. -/
def execSchedConfig (req : Req) (s : State) := command cmdSchedConfig req s

/-- GRID_CHANGE_AT (R284): B becomes the EPOCH of the new grid. -/
def gridChange (s : State) : State :=
  match s.sched.gridAt with
  | none => s
  | some (slot, cut, margin, iter, b) =>
    if s.time.now < b then s
    else updSched (fun c => { c with
      slotNs := slot, cutoffNs := cut, marginNs := margin, iter := iter, epoch := b, gridAt := none, lastCut := 0, samNext := 0 }) s

/-- Meaning of GRID_CHANGE_AT. -/
def execGridChangeAt (s : State) := live s (gridChange s)

/-! ### Classes and contexts (R306, R307, R311) -/

/-- `sched.class_config` (R306). -/
def cmdSchedClassConfig : Cmd where
  op := 0x0A03
  checks p _ := layout [1, 1, 1, 1, 2, 2] p ++ [range p 0 1 0 3, range p 1 1 0 3, range p 2 1 1 255, range p 4 2 1 65535, resv p 6 2]
  run r s :=
    let p := r.pay
    let x : ClassCfg := { tier := fld p 1 1, weight := fld p 2 1, ageGain := fld p 3 1, minReq := fld p 4 2 }
    ok (updSched (fun c => { c with classes := tset {} c.classes (fld p 0 1) x }) s)

/-- Meaning of `sched.class_config`. -/
def execSchedClassConfig (req : Req) (s : State) := command cmdSchedClassConfig req s

/-- What `sched.queue_config` writes to one context (R307). -/
def queueWrite (p : Bytes) (x : Demand) : Demand :=
  { x with weight := if bit (fld p 8 1) 0 then fld p 9 1 else x.weight, held := if bit (fld p 8 1) 1 then bit (fld p 10 1) 0 else x.held }

/-- `sched.queue_config` (R307). -/
def cmdSchedQueueConfig : Cmd where
  op := 0x0A04
  checks p _ :=
    [sel p 4 4 1 1048576] ++ layout [4, 4, 1, 1, 1, 1] p ++
    [range p 0 4 0 1048575, range p 4 4 1 (1048576 - fld p 0 4), range p 8 1 0 3, range p 10 1 0 1, resv p 11 1]
  run r s := ok (each (range' (fld r.pay 0 4) (fld r.pay 4 4)) s (fun i s => s.updDemand i (queueWrite r.pay)))

/-- Meaning of `sched.queue_config`. -/
def execSchedQueueConfig (req : Req) (s : State) := command cmdSchedQueueConfig req s

/-- `sched.demand_read` (R311): during a matching it waits for the end of it. -/
def cmdSchedDemandRead : Cmd where
  op := 0x0A08
  checks p _ := [sel p 4 2 1 250] ++ layout [4, 2, 2] p ++
    [range p 0 4 0 1048575, (decide (1048576 < fld p 0 4 + fld p 4 2), bad 4), resv p 6 2]
  run r s :=
    if s.sched.matching.isSome then later (updSched (fun c => { c with reads := c.reads ++ [r] }) s) else ok s (demandRange s r.pay)

/-- Meaning of `sched.demand_read`. -/
def execSchedDemandRead (req : Req) (s : State) := command cmdSchedDemandRead req s

/-! ### Pins, withdrawn pairs and port maps (R268, R269, R308 to R310) -/

/-- The running chain of a plane in CHAIN_FILL uses a port of a pin (R269). -/
def pinInChain (s : State) (d i o : Nat) : Bool :=
  dregime s d == 4 && (match (s.chainPlane d).run with
    | some x => (chainOf s x.chain).perms.any (fun f => permAt f i != 0xFFFF || f.contains o)
    | none => false)

/-- `sched.pin` (R308).
Log entry 111 (DEDUCED). -/
def cmdSchedPin : Cmd where
  op := 0x0A05
  checks p s :=
    layout [1, 1, 2, 2, 2] p ++
    [(dplaneBad s (fld p 0 1), bad 0), range p 1 1 0 1, range p 2 2 0 (dports s (fld p 0 1) - 1), range p 4 2 0 (dports s (fld p 0 1) - 1), resv p 6 2]
  run r s :=
    let d := fld r.pay 0 1
    let i := fld r.pay 2 2
    let o := fld r.pay 4 2
    let q := s.dplane d
    if fld r.pay 1 1 = 0 then
      guarded [dplaneAway s r d, (!q.pins.any (fun x => x.1 == i && x.2.1 == o), empty)]
        (ok (s.updDplane d (fun q => { q with pins := q.pins.filter (fun x => !(x.1 == i && x.2.1 == o)) })))
    else
      guarded [dplaneAway s r d, (decide (dports s d ≤ q.pins.length), quota),
          (q.pins.any (fun x => x.1 == i || x.2.1 == o), ⟨2, 0, 7⟩), (pinInChain s d i o, ⟨2, 0, 7⟩),
          (decide (511 < inEp s d i) || decide (511 < outEp s d o), ⟨2, 0, 7⟩)]
        (ok (s.updDplane d (fun q => { q with pins := q.pins ++ [(i, o, false)] })))

/-- Meaning of `sched.pin`. -/
def execSchedPin (req : Req) (s : State) := command cmdSchedPin req s

/-- A pair is withdrawn, in the list or as a pin. -/
def isWithdrawn (s : State) (d i o : Nat) : Bool :=
  ((s.dplane d).withdrawn.take 1024).contains (i, o) || (s.dplane d).pins.contains (i, o, true)

/-- `sched.restore` (R309).
Log entry 111 (DEDUCED). -/
def cmdSchedRestore : Cmd where
  op := 0x0A06
  checks p s :=
    layout [1, 1, 2, 2, 2] p ++
    [(dplaneBad s (fld p 0 1), bad 0), range p 1 1 0 1,
     (fld p 1 1 == 0 && decide (dports s (fld p 0 1) ≤ fld p 2 2), bad 2), (fld p 1 1 == 0 && decide (dports s (fld p 0 1) ≤ fld p 4 2), bad 4),
     resv p 6 2]
  run r s :=
    let d := fld r.pay 0 1
    let all := fld r.pay 1 1 == 1
    let i := fld r.pay 2 2
    let o := fld r.pay 4 2
    let hit := fun (c : Nat × Nat) => all || c == (i, o)
    guarded [dplaneAway s r d, (!all && !isWithdrawn s d i o, empty)]
      (let s := s.updDplane d (fun q => { q with
        withdrawn := q.withdrawn.filter (fun c => !hit c), pins := q.pins.map (fun x => if hit (x.1, x.2.1) then (x.1, x.2.1, false) else x) })
       let s := if (s.dplane d).withdrawn.length < 1024 then endCond 290 d s else s
       ok (match localOf s d with
        | some p => restoreLocal p all i o s
        | none => schedCmd d 2 0 (b1 all) i o 0 0 s))

/-- Meaning of `sched.restore`. -/
def execSchedRestore (req : Req) (s : State) := command cmdSchedRestore req s

/-- A port map entry as it is stored: 0 for the default. -/
def mapEntry (i v : Nat) : Nat := if v = i then 0 else v + 1

/-- The port map of a DPLANE after `sched.plane_ports`: IN_EP and OUT_EP by port. -/
def newPorts (s : State) (p : Bytes) (out : Bool) : List Nat :=
  let d := fld p 0 1
  (List.range (dports s d)).map (fun i =>
    if fld p 2 2 ≤ i ∧ i < fld p 2 2 + fld p 4 2 then fld p (6 + 4 * (i - fld p 2 2) + (if out then 2 else 0)) 2
    else if out then outEp s d i else inEp s d i)

/-- A port map names no endpoint twice (R286). -/
def portsUnique (l : List Nat) : Bool := decide ((l.filter (· != 0xFFFF)).Nodup)

/-- `sched.plane_ports` (R310). -/
def cmdSchedPlanePorts : Cmd where
  op := 0x0A07
  checks p s :=
    [sel p 4 2 1 512] ++ layout ([1, 1, 2, 2] ++ entries (fld p 4 2) [2, 2]) p ++
    [(dplaneBad s (fld p 0 1), bad 0), resv p 1 1, range p 2 2 0 (dports s (fld p 0 1) - 1),
     (decide (dports s (fld p 0 1) < fld p 2 2 + fld p 4 2), bad 4)] ++
    (List.range (2 * fld p 4 2)).map (fun i => (decide (511 < fld p (6 + 2 * i) 2) && fld p (6 + 2 * i) 2 != 0xFFFF, bad (6 + 2 * i))) ++
    [(!portsUnique (newPorts s p false), bad 6), (!portsUnique (newPorts s p true), bad 8)]
  run r s :=
    let p := r.pay
    let d := fld p 0 1
    let put := fun (o : Nat) (t : Tab Nat) => (List.range (fld p 4 2)).foldl (fun t i =>
      tset 0 t (fld p 2 2 + i) (mapEntry (fld p 2 2 + i) (fld p (6 + 4 * i + o) 2))) t
    guarded [dplaneAway s r d, (demandRegime (dregime s d), conflict 7)]
      (ok (s.updDplane d (fun q => { q with inEp := put 0 q.inEp, outEp := put 2 q.outEp })))

/-- Meaning of `sched.plane_ports`. -/
def execSchedPlanePorts (req : Req) (s : State) := command cmdSchedPlanePorts req s

/-! ### Sampler and status (R297, R312, R313) -/

/-- `sched.sampler` (R312). -/
def cmdSchedSampler : Cmd where
  op := 0x0A09
  checks p _ :=
    layout [4, 4, 2, 1, 1] p ++
    [range p 0 4 0 1048575, (fld p 8 2 != 0 && (fld p 4 4 == 0 || decide (1048576 < fld p 0 4 + fld p 4 4)), bad 4), range p 10 1 0 1, resv p 11 1]
  run r s :=
    let p := r.pay
    ok (updSched (fun c => { c with
      samFirst := fld p 0 4, samCount := fld p 4 4, samInterval := fld p 8 2, samNonzero := bit (fld p 10 1) 0
      samNext := slotNow s + 1 }) s)

/-- Meaning of `sched.sampler`. -/
def execSchedSampler (req : Req) (s : State) := command cmdSchedSampler req s

/-- The contexts that a pass reads. -/
def sampled (s : State) : List Nat :=
  let c := s.sched
  if c.samNonzero then (c.demand.filter (fun e => decide (c.samFirst ≤ e.1) && decide (e.1 < c.samFirst + c.samCount) && decide (0 < e.2.depth))).map (·.1)
  else range' c.samFirst c.samCount

/-- SAMPLER_PASS (R297): every INTERVAL slots, the first in the slot after the command, a pass of 64 contexts per microsecond, or none
while the one before still reads.
Log entries 103 (DEDUCED), 115 (DEDUCED). -/
def samplerPass (s : State) : State :=
  let slot := slotNow s
  if s.sched.samInterval = 0 ∨ slot < s.sched.samNext then s
  else
    let s := updSched (fun c => { c with samNext := c.samNext + c.samInterval * ((slot - c.samNext) / c.samInterval + 1) }) s
    if s.time.mono < s.sched.samBusy then
      raiseEvent 302 {} (updSched (fun c => { c with samSkipped := (c.samSkipped + 1) % 2 ^ 32 }) s)
    else
    let l := sampled s
    let s := updSched (fun c => { c with samBusy := s.time.mono + us (ceilDiv l.length 64), samPasses := (c.samPasses + 1) % 2 ^ 32 }) s
    each l s (fun i s => stageRec 6 (s.demand i).age (le 8 slot ++ le 4 i ++ le 4 0 ++ le 8 (s.demand i).depth) s)

/-- Meaning of SAMPLER_PASS. -/
def execSamplerPass (s : State) := live s (samplerPass s)

/-- `sched.status` (R313).
Log entry 111 (DEDUCED). -/
def cmdSchedStatus : Cmd where
  op := 0x0A0A
  checks p _ := layout [1, 3] p ++ [range p 0 1 0 1, resv p 1 3]
  run r s :=
    let c := fun (i : Nat) => tget 0 s.sched.counters i
    let w := (s.sched.dplanes.map (fun d => min 1024 d.2.withdrawn.length)).foldl (· + ·) 0
    ok (if fld r.pay 0 1 = 1 then updSched (fun x => { x with counters := [] }) s else s)
      (le 8 (slotNow s) ++ le 4 (slotMin s) ++ le 4 (c 0) ++ le 4 (c 1) ++ le 4 (c 2) ++ le 4 (c 3) ++ le 4 (c 4) ++ le 2 (c 5) ++ le 2 w)

/-- Meaning of `sched.status`. -/
def execSchedStatus (req : Req) (s : State) := command cmdSchedStatus req s

/-! ### endpoint.config and facet.config, with their windows and announcements -/

/-- `endpoint.config` (R341).
Log entry 169 (DEDUCED). -/
def cmdEndpointConfig : Cmd where
  op := 0x0B01
  checks p s :=
    layout [1, 1, 2, 2, 2, 4, 4, 4, 2, 1, 1, 4, 2, 2, 6, 2, 4, 4] p ++
    [range p 0 1 1 3, range p 1 1 0 7, (decide (fld p 2 2 < 0x0600) || fld p 2 2 == 0x88F7, bad 2),
     (fld p 4 2 == 319 || fld p 4 2 == 320, bad 4), range p 6 2 40 5000,
     ((dplanes s).any (fun d => demands s d && (gridsFrom s s.time.now).any (fun g => !windowOk (dallow s d) g.1 (fld p 6 2))), bad 6),
     range p 12 4 1000 10000000, range p 16 4 1000 1000000, range p 20 2 1 255, range p 22 1 0 3, range p 23 1 0 64,
     range p 24 4 100 1000000, range p 28 2 1 255, resv p 30 2,
     (fldBe p 32 6 != 0 && !bit (fld p 32 1) 0, bad 32), resv p 38 2,
     (fld p 40 4 != 0 && fld p 40 4 / 2 ^ 28 != 14, bad 40), resv p 44 4]
  run r s :=
    let c := epCfgAt r.pay
    let t := { s with eps := { s.eps with cfg := c } }
    guarded [(epCfgMoves c s.eps.cfg && anyDemand s, conflict 7)]
      (ok (if c.guardNs ≠ s.eps.cfg.guardNs then announce t else t))

/-- Meaning of `endpoint.config`. -/
def execEndpointConfig (req : Req) (s : State) := command cmdEndpointConfig req s

/-- `facet.config` (R260, R332, R335); the windows are the manager's, which checks them of a worker's plane before it passes the command on.
Log entry 174 (DEDUCED). -/
def cmdFacetConfig : Cmd where
  op := 0x0808
  checks p s := layout [1, 1, 1, 1, 1, 1, 2, 2, 2, 4, 4, 4, 4, 4, 4] p ++
    [badPlane s p 0, range p 1 1 2 3, range p 2 1 1 16, range p 3 1 0 1, (fld p 3 1 == 1 && fld p 4 1 != 0, bad 4), range p 5 1 1 255,
     range p 8 2 1 100, range p 10 2 1 100, range p 12 4 0 0x7FFFFF, range p 16 4 0 0x7FFFFF, range p 20 4 5 1000, range p 24 4 5 1000,
     range p 28 4 0 1000000,
     (fld p 32 4 != 0 && (decide (fld p 32 4 < 400) || decide (1000000 < fld p 32 4) || fld p 32 4 % 40 != 0), bad 32),
     (schedules s && demands s (s.dplaneOf (fld p 0 1)) && (gridsFrom s s.time.now).any (fun g =>
        !windowOk (if fld p 32 4 = 0 then defaultAllow s (fld p 0 1) else fld p 32 4) g.1 s.eps.cfg.guardNs), bad 32)]
  passing p dev s :=
    let d := 2 * dev + fld p 0 1
    [(fld p 0 1 < 2 && demands s d && (gridsFrom s s.time.now).any (fun g =>
        !windowOk (if fld p 32 4 = 0 then workerAllow s d ((s.dplane d).moves + 1) else fld p 32 4) g.1 s.eps.cfg.guardNs), bad 32)]
  run r s :=
    let p := r.pay
    let q := s.plane (fld p 0 1)
    guarded [(!q.accepted.isEmpty || (q.cur.map (fun l => !l.done)).getD false, ⟨2, 0, 0⟩)]
      (let t := s.updPlane (fld p 0 1) (fun q => { q with cfg := {
        holdRegime := fld p 1 1, verifyN := fld p 2 1, lambda := 256 * fld p 3 1 + fld p 4 1, learnMin := fld p 5 1
        retuneMin := fld p 6 2, verifyLo := fld p 8 2, verifyHi := fld p 10 2, lightMin := fld p 12 4, darkMax := fld p 16 4
        settleUs := fld p 20 4, verifyUs := fld p 24 4, holdMinUs := fld p 28 4, allowNs := fld p 32 4 } })
       ok (if fld p 32 4 ≠ q.cfg.allowNs then announce t else t))

/-- Meaning of `facet.config`. -/
def execFacetConfig (req : Req) (s : State) := command cmdFacetConfig req s

end Sys2Proof.Machine
end

