-- ==== Sys2Proof/Machine/Time.lean ====
section
/-! DEFINITION. The timekeeper (chapter 9): corrections, slews and steps, the firmware PTP stack, pulse outputs and
capture inputs, and the time commands (R346 to R379). -/

namespace Sys2Proof.Machine

/-- Change the timekeeper. -/
def updTime (f : Time → Time) (s : State) : State := { s with time := f s.time }

/-! ### Lock (R350) -/

/-- The largest frequency correction, 1,000 ppm in 2^-16 ppb (R348). -/
def freqMax : Int := 65536000000

/-- A frequency correction from now on, kept in the log of the last second (R351). -/
def setFreq (f : Int) (t : Time) : Time :=
  let old := t.freqLog.filter (fun e => decide (t.mono < e.1 + oneSecond))
  let edge := (t.freqLog.find? (fun e => decide (e.1 + oneSecond ≤ t.mono))).toList
  { t with freq := f, freqLog := (t.mono, f) :: (old ++ edge) }

/-- Average of the logged corrections over the last second of lock (R350). -/
def lockAverage (t : Time) : Int :=
  let lo := t.mono - oneSecond
  let sum := t.freqLog.foldl (fun (a : Int × Int × Nat) e =>
    let from' := max e.1 lo
    if from' < a.2.2 then (a.1 + e.2 * ((a.2.2 - from' : Nat) : Int), a.2.1 + ((a.2.2 - from' : Nat) : Int), from') else a) (0, 0, t.mono)
  if sum.2.1 ≤ 0 then t.freq else divRound sum.1 sum.2.1.toNat

/-- Leave HOLDOVER, FREE_RUN or LOCKED for ACQUIRING, when corrections arrive (R350). -/
def acquiring (s : State) : State :=
  if s.time.st = 4 ∨ s.time.st = 1 ∨ s.time.source = 0 then s
  else endCond 323 0 (updTime (fun t => { t with st := 1 }) s)

/-- A measured offset in the lock criterion (R350).
Log entries 58 (DEDUCED), 70 (DEDUCED). -/
def measure (off : Int) (s : State) : State :=
  let t := s.time
  let good := if off.natAbs ≤ ns t.lockNs then min 16 (t.good + 1) else 0
  let bad' := if 4 * ns t.lockNs < off.natAbs then min 4 (t.bad + 1) else 0
  let s := updTime (fun t => { t with lastOffset := off, good := good, bad := bad' }) s
  let s := if t.st = 2 then s else acquiring s
  if t.st = 4 then s
  else if t.st = 2 then (if bad' = 4 then acquiring s else s)
  else if good = 16 ∧ s.time.st = 1 then
    raiseEvent 362 {} (updTime (fun t => { t with st := 2, freqLog := [(t.mono, t.freq)] }) s)
  else s

/-- Entry into HOLDOVER (R350). -/
def holdover (s : State) : State :=
  raiseCond 323 0 {} (updTime (fun t => { t with st := 3, freq := lockAverage t, good := 0, bad := 0 }) s)

/-! ### Corrections (R351 to R353, R545) -/

/-- Time doubt on the planes of this device that schedule (R545); `rem` when a SCHED_CMD brings it (R563). -/
def timeDoubt (rem : Bool) (s : State) : State :=
  each (s.planeIds.filter (fun p => scheduling (s.plane p).regime)) s (fun p s =>
    raiseCondBy { rem := rem } (321 + p) 0 { plane := p } s)

/-- The cause of TIME_SCHED_DOUBT is gone when neither this device nor its manager shows JUMP_REFUSED (R721). -/
def doubtEnds (s : State) : State :=
  if s.time.jumpRefused ∨ s.dom.mgrJump then s else endCond 322 0 (endCond 321 0 s)

/-- A signed number in 32 bits, saturating (R354, R564).
Log entry 69 (DESIGN CHOICE). -/
def sat32 (v : Int) : Nat := uns 32 (clampI v (-2147483648) 2147483647)

/-- JUMP_REFUSED becomes set for an offset (R353, R545, R564).
Log entry 69 (DESIGN CHOICE). -/
def refuseJump (off : Int) (s : State) : State :=
  if s.time.jumpRefused then s
  else
    let s := raiseCond 320 0 { value := sat32 (divRound off 65536) } (updTime (fun t => { t with jumpRefused := true }) s)
    let s := timeDoubt false s
    each ((List.range 16).filter (workerHere s)) s (fun n s => schedCmd (2 * n) 4 0 0 0xFFFF 0xFFFF 0 320 s)

/-- JUMP_REFUSED clears (R353). -/
def clearJump (s : State) : State := doubtEnds (endCond 320 0 (updTime (fun t => { t with jumpRefused := false }) s))

/-- An offset correction would jump (R353). -/
def jumps (s : State) (off : Int) : Bool := decide (ns s.time.jumpNs * 1000000000 < (s.time.slew + off * 1000000000).natAbs)

/-- TIME_CORRECTION (R350 to R353): a measured offset, as the correction to be added, and a frequency correction.
Log entry 58 (DEDUCED). -/
def correct (off freq : Option Int) (s : State) : State :=
  let s := updTime (fun t => { t with heard := t.mono }) s
  let s := match off with | some o => measure o s | none => if s.time.st = 2 then s else acquiring s
  if (off.map (jumps s)).getD false then refuseJump (off.getD 0) s
  else
    let s := updTime (fun t => { (match freq with | some f => setFreq f t | none => t) with slew := t.slew + off.getD 0 * 1000000000 }) s
    if off.isSome ∧ s.time.jumpRefused then clearJump s else s

/-- A frequency correction that a servo chooses: the manual states none of its law (log entry 2, DESIGN CHOICE).
Log entry 59 (DESIGN CHOICE). -/
def servoFreq (s : State) : Int × State :=
  let d := s.draw
  ((d.1 : Int) % (2 * freqMax + 1) - freqMax, d.2)

/-- A measurement of the firmware servo or of the clasp: slewed, with the servo's frequency correction (R349, R353).
Log entry 59 (DESIGN CHOICE). -/
def servo (off : Int) (s : State) : State :=
  let f := servoFreq s
  correct (some off) (some f.1) f.2

/-- SLEW_DONE (R352): the modulator ticks work the remainder off; the last part, within what one tick removes, is gone.
Log entry 72 (DEDUCED). -/
def slewDone (s : State) : State :=
  if s.time.slew.natAbs ≤ (slewTick s.time).natAbs then updTime (fun t => { t with slew := 0 }) s else s

/-- Meaning of SLEW_DONE. -/
def execSlewDone (s : State) := live s (slewDone s)

/-! ### Steps (R354 to R357) -/

/-- DPLANEs of workers that a step of this manager's time reaches (R354). -/
def farPlanes (s : State) : List Nat := ((List.range 16).filter (workerHere s)).flatMap (fun n => [2 * n, 2 * n + 1])

/-- The update-tick boundary of a step: of every plane's tick at once, of the domain's on a manager, which leaves its workers time to
hear of it (R354).
Log entries 65 (DESIGN CHOICE), 67 (DEDUCED). -/
def stepBoundary (s : State) : NetTime :=
  let far := farPlanes s
  let own := s.planeIds.foldl (fun a p => Nat.lcm a (max 1 (s.plane p).tickUs)) 1
  ceilTo (s.time.now + if far.isEmpty then 0 else us 100) (far.foldl (fun a d => Nat.lcm a (max 1000 (dtick s d) * 65536)) (us own))

/-- A step is set for a boundary: to a time there, or by a difference (R373).
Log entry 66 (DEDUCED). -/
def askStep (b : NetTime) (abs : Option NetTime) (delta : Int) (s : State) : State :=
  updTime (fun t => { t with step := some (b, abs, delta) }) s

/-- Contexts with a pending swap. -/
def swapping (s : State) : List Nat := (s.ctxs.filter (fun c => c.2.swap.isSome)).map (·.1)
/-- Contexts with an injection whose START has not come. -/
def injWaiting (s : State) : List Nat := (s.ctxs.filter (fun c => !c.2.genNext.isEmpty)).map (·.1)
/-- Contexts with a capture whose START has not come. -/
def capWaiting (s : State) : List Nat :=
  (s.ctxs.filter (fun c => c.2.cap.running && decide (s.time.now < c.2.cap.start))).map (·.1)

/-- How many timed actions stand (R355). -/
def timedActions (s : State) : Nat :=
  (s.planeIds.map (fun p => (s.plane p).accepted.length + b1 (s.plane p).regimeAt.isSome)).sum
  + (s.sched.dplanes.map (fun d => b1 d.2.regimeAt.isSome)).sum
  + (s.sched.chainPlanes.map (fun c => b1 c.2.pend.isSome + b1 ((c.2.run.bind (·.stopAt)).isSome))).sum
  + b1 s.sched.gridAt.isSome + (swapping s).length + (injWaiting s).length + (capWaiting s).length
  + (s.snaps.filter (fun b => b.2.st == 1)).length
  + (s.time.tout.map (fun t => b1 t.2.cur.isSome + b1 t.2.next.isSome)).sum
  + (s.relay.links.filter (fun l => l.2.gatesAt.isSome)).length
  + (s.loupe.freezes.filter (fun f => f.trigger == 2 && f.stop.isNone)).length

/-- An output at rest (R355, R367): its schedules gone, at the inactive level of the one that governed it. -/
def toutRest (t : Tout) : Tout :=
  { level := match t.cur, t.next with
      | some c, _ => c.low
      | none, some n => n.low
      | none, none => t.level }

/-- A capture that waits for its START ends without a sample (R355).
Log entry 74 (DEDUCED). -/
def cancelCapture (c : Nat) (s : State) : State :=
  captureEnded c (s.updCtx c (fun x => { x with cap := { x.cap with running := false, flags := x.cap.flags ||| 3 } }))

/-- An armed snapshot is cancelled (R355), on every device when it is of domain scope (R448).
Log entry 74 (DEDUCED). -/
def cancelSnap (b : Nat) (s : State) : State :=
  let x := s.snap b
  if x.st ≠ 1 then s
  else
    let s := s.updSnap b (fun _ => {})
    if x.domain ∧ s.sys.role = 1 then claspSend 0x30 0xFF (le 1 2 ++ le 1 b ++ le 2 0 ++ timeLe x.t) s else s

/-- Cancel every timed action of R355.
Log entry 68 (DEDUCED). -/
def cancelTimed (s : State) : State :=
  let s := each s.planeIds s (fun p s => each (s.plane p).accepted s (withdrawLaunch p))
  let s := each s.planeIds s (fun p s => s.updPlane p (fun q => { q with regimeAt := none }))
  let s := updSched (fun c => { c with
    gridAt := none, dplanes := tmap {} (fun _ d => { d with regimeAt := none }) c.dplanes
    chainPlanes := tmap {} (fun _ x => { x with pend := none, run := x.run.map (fun r => { r with stopAt := none }) }) c.chainPlanes }) s
  let s := each (swapping s) s cancelSwap
  let s := each (injWaiting s) s (fun c s => s.updCtx c (fun x => { x with genNext := [] }))
  let s := each (capWaiting s) s cancelCapture
  let s := each [0, 1] s cancelSnap
  let s := updTime (fun t => { t with tout := tmap {} (fun _ x => toutRest x) t.tout }) s
  let s := updRelay (fun r => { r with links := tmap {} (fun _ l => { l with gatesAt := none }) r.links }) s
  { s with loupe := { s.loupe with freezes := s.loupe.freezes.filter (fun f => !(f.trigger == 2 && f.stop.isNone)) } }

/-- A time of the old timescale carried into the new one. -/
def carry (d : Int) (t : NetTime) : NetTime := ((t : Int) + d).toNat

/-- What R355 does not cancel goes on by elapsed time: times that stand in the machine are carried across the step.
Log entry 68 (DEDUCED). -/
def carryAll (d : Int) (s : State) : State :=
  let cell : Nat → CellRun → CellRun := fun _ c => { c with e := carry d c.e, settled := c.settled.map (carry d) }
  let check : Nat → Check → Check := fun _ c => { c with shutterE := carry d c.shutterE }
  let launch : Launch → Launch := fun l => { l with at' := carry d l.at', cells := tmap {} cell l.cells, checks := tmap {} check l.checks }
  let plane : Nat → Plane → Plane := fun _ q => { q with
    cur := q.cur.map launch, ramp := q.ramp.map (fun r => { r with start := carry d r.start })
    showing := q.showing.map (fun x => (carry d x.1, x.2)), lit := tmap 0 (fun _ t => carry d t) q.lit }
  let ctx : Nat → Ctx → Ctx := fun _ c => { c with
    outs := c.outs.map (fun o => (o.1, carry d o.2)), holdUntil := c.holdUntil.map (carry d), ovrAt := if c.ovrAt = 0 then 0 else carry d c.ovrAt
    gen := if c.gen.on then { c.gen with at' := carry d c.gen.at' } else c.gen
    cap := if c.cap.running ∧ c.cap.n + c.cap.missed ≠ 0 then { c.cap with
      tStart := carry d c.cap.tStart, tEnd := carry d c.cap.tEnd, marks := c.cap.marks.map (fun m => (carry d m.1, m.2)) } else c.cap }
  let drive : Nat → Drive → Drive := fun _ x => { x with queue := x.queue.map (fun e => { e with notBefore := carry d e.notBefore }) }
  { s with planes := tmap {} plane s.planes, ctxs := tmap {} ctx s.ctxs, drives := tmap {} drive s.drives
           mons := tmap {} (fun _ m => { m with askAt := if m.askAt = 0 then 0 else carry d m.askAt }) s.mons }

/-- Half-done time exchanges lie on the old timescale and are dropped. -/
def dropExchanges (s : State) : State :=
  let clear : Nat → Clasp → Clasp := fun _ c => { c with sent := [], exch := none, txPrev := 0, rxPeer := 0 }
  let s := { s with dom := { s.dom with clasps := tmap {} clear s.dom.clasps } }
  updTime (fun t => { t with ptp := { t.ptp with sync := none, t12 := none, req := none, presp := none }
                             tc := [], tcap := [0, 1].foldl (fun c i => tset {} c i { tget {} t.tcap i with stepped := true, last := none }) t.tcap }) s

/-- Time steps by `d` (R354 to R357).
Log entries 68 (DEDUCED), 69 (DESIGN CHOICE). -/
def stepBy (d : Int) (s : State) : State :=
  let n := timedActions s
  let s := raiseEvent 364 { value := n } (cancelTimed s)
  let s := dropExchanges (carryAll d s)
  let s := betweenMatchings (updSched (fun c => { c with pipes := [], matching := none, requested := [], lastCut := 0 }) s)
  let s := updTime (fun t => { t with
    now := carry d t.now, slew := 0, step := none, st := 4, good := 0, bad := 0, phase := (d - divRound d modTick * modTick) * 1000 }) s
  raiseEvent 363 { value := sat32 (divRound d 65536) } (endCond 323 0 (clearJump s))

/-- A manager's step is sent to every worker as a `time.force_set` of its own by the same difference, at the same boundary, which stands
in its TIME (R354).
Log entry 65 (DESIGN CHOICE). -/
def stepWorkers (b : NetTime) (d : Int) (s : State) : State :=
  each ((List.range 16).filter (workerHere s)) s (fun n s =>
    ownTunnel 0x0C04 n (s.time.mono + ms s.dom.tunnelMs) (le 1 1 ++ le 1 1 ++ le 2 0 ++ timeLe b ++ le 8 (uns 64 d)) s)

/-- TIME_STEP_APPLY (R354): at its boundary the step that waits takes effect. -/
def stepApply (s : State) : State :=
  match s.time.step with
  | none => s
  | some (b, abs, d) =>
    if s.time.now < b then s
    else match abs with
      | some t => stepBy ((t : Int) - b) s
      | none => stepBy d s

/-- Meaning of TIME_STEP_APPLY. -/
def execTimeStepApply (s : State) := live s (stepApply s)

/-- REALIGN_DONE (R357): the phase has been slewed out.
Log entry 70 (DEDUCED). -/
def realignDone (s : State) : State :=
  if s.time.st = 4 ∧ s.time.phase = 0 then updTime (fun t => { t with st := if t.source = 0 then 0 else 1 }) s else s

/-- Meaning of REALIGN_DONE. -/
def execRealignDone (s : State) := live s (realignDone s)

/-- Every scheduling plane of the domain enters IDLE (R354 step 2). -/
def suspendAll (s : State) : State :=
  let s := each s.planeIds s (fun p s => if scheduling (s.plane p).regime then enterIdle p s else s)
  if s.sys.role ≠ 1 then s
  else each ((dplanes s).filter (fun d => (localOf s d).isNone && scheduling (dregime s d))) s
    (fun d s => takeRegime d 0 (orderRegime d 0 0 none s))

/-! ### The firmware PTP stack (R358, R374, R375; the standard's own rules: log entry 63) -/

/-- Change the stack. -/
def updPtp (f : Ptp → Ptp) (s : State) : State := updTime (fun t => { t with ptp := f t.ptp }) s

/-- Clock identity made of RELAY_MAC, as an EUI-64. -/
def clockId (s : State) : Nat := s.relay.mac / 2 ^ 24 * 2 ^ 40 + 0xFFFE * 2 ^ 24 + s.relay.mac % 2 ^ 24

/-- Own port identity: clock identity and port number 1. -/
def portId (s : State) : Nat := clockId s * 65536 + 1

/-- Two to a signed power of seconds. -/
def interval (l : Int) : NetTime := if 0 ≤ l then oneSecond * 2 ^ l.toNat else oneSecond / 2 ^ (-l).toNat

/-- A PTP message: header and body (R358).
Log entry 63 (PRESUMED). -/
def ptpMsg (s : State) (type flags seq : Nat) (corr : Int) (log : Int) (body : Bytes) : Bytes :=
  be 1 type ++ be 1 0x12 ++ be 2 (34 + body.length) ++ be 1 s.time.ptp.domain ++ be 1 0 ++ be 2 flags ++ be 8 (uns 64 corr) ++ be 4 0
    ++ be 10 (portId s) ++ be 2 seq ++ be 1 0 ++ be 1 (uns 8 log) ++ body

/-- Send a PTP message of the firmware on its port (R358): peer messages go to the address that no bridge forwards. -/
def ptpSend (event peer : Bool) (msg : Bytes) (s : State) : State :=
  let p := s.time.ptp
  let port := if event then 319 else 320
  let ip := if peer then 0xE000006B else 0xE0000181
  let udp := be 2 port ++ be 2 port ++ be 2 (8 + msg.length) ++ be 2 0 ++ msg
  let h := be 2 0x4500 ++ be 2 (20 + udp.length) ++ be 2 0 ++ be 2 0x4000 ++ be 1 (if peer then 1 else 64) ++ be 1 17
  let a := be 4 s.eps.cfg.ipv4 ++ be 4 ip
  let frame := if p.udp then
      l2 (if peer then 0x01005E00006B else 0x01005E000181) s.relay.mac none 0x0800 (h ++ be 2 (inetSum (h ++ be 2 0 ++ a)) ++ a ++ udp)
    else l2 (if peer then 0x0180C200000E else 0x011B19000000) s.relay.mac none 0x88F7 msg
  inject 12 s.relay.ptpClass [p.port * 2] frame event s

/-- The seconds and nanoseconds of a time, as PTP carries them. -/
def ptpStamp (t : NetTime) : Bytes := be 6 (t / oneSecond) ++ be 4 (t / 65536 % 1000000000)

/-- The time that a PTP message carries at an offset. -/
def ptpTime (d : Bytes) (o : Nat) : NetTime := timeOf (fldBe d o 6) (fldBe d (o + 6) 4) 0

/-- Own data set as a comparison key, lower wins (default BMCA).
Log entry 63 (PRESUMED). -/
def ownKey (s : State) : Nat :=
  let p := s.time.ptp
  unle ((be 1 p.prio1 ++ be 1 p.clkClass ++ be 1 0xFE ++ be 2 0xFFFF ++ be 1 p.prio2 ++ be 8 (clockId s) ++ be 2 0 ++ be 10 (portId s)).reverse)

/-- Data set of an Announce whose header stands at offset `o`.
Log entry 63 (PRESUMED). -/
def announceKey (d : Bytes) (o : Nat) : Nat :=
  unle ((slice d (o + 47) 5 ++ slice d (o + 52) 9 ++ slice d (o + 61) 2 ++ slice d (o + 20) 10).reverse)

/-- A foreign master is qualified: two of its Announces lie in the last four intervals, and it is fewer than 255 steps away.
Log entry 63 (PRESUMED). -/
def qualified (s : State) (f : Foreign) : Bool :=
  (f.prev.map (fun t => decide (s.time.mono ≤ t + 4 * interval s.time.ptp.logAnn))).getD false && decide (f.steps < 255)

/-- The best qualified foreign master.
Log entry 63 (PRESUMED). -/
def bestForeign (s : State) : Option Foreign :=
  (s.time.ptp.foreign.filter (qualified s)).foldl (fun b f => match b with
    | some x => if f.key < x.key then some f else b
    | none => some f) none

/-- The port follows a foreign master, or goes on to follow its parent.
Log entry 63 (PRESUMED). -/
def followMaster (f : Foreign) (s : State) : State :=
  let p := s.time.ptp
  let stays := (p.portState == 8 || p.portState == 9) && f.src == p.parent
  let s := updTime (fun t => { t with utc := f.utc }) s
  if stays then updPtp (fun p => { p with steps := sat 16 (f.steps + 1) }) s
  else updPtp (fun p => { p with
    portState := 8, parent := f.src, steps := sat 16 (f.steps + 1), annAt := s.time.mono
    syncAt := s.time.mono, sync := none, t12 := none, req := none, presp := none, delay := 0 }) s

/-- The port is no slave: master, which the standard lets it be at once (its qualification time is of no interval here), or passive.
Log entry 63 (PRESUMED). -/
def notSlave (st : Nat) (s : State) : State :=
  updPtp (fun p => if p.portState = st then p else { p with
    portState := st, parent := portId s, steps := 0, annAt := s.time.mono, sync := none, t12 := none, req := none, presp := none }) s

/-- The state decision of the default BMCA.
Log entry 63 (PRESUMED). -/
def ptpDecide (s : State) : State :=
  let p := s.time.ptp
  match bestForeign s with
  | none => s
  | some f =>
    if p.slaveOnly ∨ (f.key < ownKey s ∧ 127 < p.clkClass) then followMaster f s
    else notSlave (if f.key < ownKey s then 7 else 6) s

/-- An Announce arrives: its sender's record is renewed, and the state decision is made anew (default BMCA).
Log entry 63 (PRESUMED). -/
def ptpAnnounce (d : Bytes) (o : Nat) (s : State) : State :=
  let p := s.time.ptp
  let src := fldBe d (o + 20) 10
  let old := p.foreign.find? (fun f => f.src == src)
  let f : Foreign := {
    src := src, key := announceKey d o, steps := fldBe d (o + 61) 2, utc := if bit (fld d (o + 7) 1) 2 then fldBe d (o + 44) 2 else 0
    last := s.time.mono, prev := old.map (·.last) }
  if src = portId s then s
  else
    let best := bestForeign s
    let s := updPtp (fun p => { p with foreign := (f :: p.foreign.filter (fun f => f.src != src)).take 5 }) s
    let s := if (if p.portState = 7 then (best.map (·.src)) == some src else p.parent == src) then updPtp (fun p => { p with annAt := s.time.mono }) s
      else s
    ptpDecide s

/-- delayAsymmetry in 2^-16 ns. -/
def asymOf (ps : Int) : Int := divRound (ps * 65536) 1000

/-- A complete Sync: t1 and t2 are known, the offset is measured and disciplined (R352, R353).
Log entry 58 (DEDUCED). -/
def ptpSynced (t1 t2 : Int) (s : State) : State :=
  let p := s.time.ptp
  let off := t2 - t1 - p.delay - asymOf p.asymPs
  let s := updPtp (fun p => { p with t12 := some (t1, t2), sync := none, syncAt := s.time.mono, offset := off }) s
  let s := servo (-off) s
  updPtp (fun p => { p with portState := if s.time.st = 2 then 9 else p.portState }) s

/-- The mean path delay is measured. -/
def ptpDelay (v : Int) (s : State) : State := updPtp (fun p => { p with delay := max 0 v, req := none, presp := none }) s

/-- correctionField of a message, 2^-16 ns. -/
def corrOf (d : Bytes) (o : Nat) : Int := sgn 64 (fldBe d (o + 8) 8)

/-- The firmware stack takes a PTP message (R358, R360).
Log entry 63 (PRESUMED). -/
def ptpTake (d : Bytes) (o : Nat) (rx : NetTime) (s : State) : State :=
  let p := s.time.ptp
  let ty := fld d o 1 % 16
  let seq := fldBe d (o + 30) 2
  let src := fldBe d (o + 20) 10
  let two := bit (fld d (o + 6) 1) 1
  let mine := fldBe d (o + 44) 10 == portId s
  let fromParent := (p.portState == 8 || p.portState == 9) && src == p.parent
  if fld d (o + 1) 1 % 16 ≠ 2 ∨ fld d (o + 4) 1 ≠ p.domain then s
  else match ty with
    | 0 => if !fromParent then s
        else if two then updPtp (fun p => { p with sync := some (seq, rx, corrOf d o), syncAt := s.time.mono }) s
        else ptpSynced (ptpTime d (o + 34) + corrOf d o) rx s
    | 8 => match p.sync with
        | some (q, t2, c) => if fromParent ∧ q = seq then ptpSynced (ptpTime d (o + 34) + c + corrOf d o) t2 s else s
        | none => s
    | 1 => if p.portState ≠ 6 ∨ p.peer then s
        else ptpSend false false (ptpMsg s 9 0 seq (corrOf d o) p.logReq (ptpStamp rx ++ be 10 src)) s
    | 9 => match p.req, p.t12 with
        | some (q, t3, true), some (t1, t2) =>
          if fromParent && mine && q == seq && !p.peer then
            ptpDelay (((t2 - t3) + ((ptpTime d (o + 34) : Int) - corrOf d o - t1)) / 2) s else s
        | _, _ => s
    | 2 => if !p.peer then s
        else ptpSend true true (ptpMsg s 3 0x0200 seq (corrOf d o) 0x7F (ptpStamp rx ++ be 10 src)) s
    | 3 => match p.req with
        | some (q, t1, true) =>
          if !(mine && q == seq && p.peer) then s
          else if two then updPtp (fun p => { p with presp := some (seq, (ptpTime d (o + 34) : Int), rx, corrOf d o) }) s
          else ptpDelay (((rx : Int) - t1 - corrOf d o) / 2) s
        | _ => s
    | 10 => match p.req, p.presp with
        | some (q, t1, true), some (k, t2, t4, c) =>
          if mine && q == seq && k == seq then
            ptpDelay (((t4 - t1) - ((ptpTime d (o + 34) : Int) - t2) - c - corrOf d o) / 2) s else s
        | _, _ => s
    | 11 => ptpAnnounce d o s
    | _ => s

/-- PTP_MESSAGE_RECEIVE (R360): terminated by the firmware stack on its port, otherwise taken by the relay, which steers it to the
host or forwards it.
Log entry 144 (DEDUCED). -/
def ptpReceive (link : Nat) (frame : Bytes) (rx : NetTime) (s : State) : State :=
  match ptpOfs frame with
  | none => s
  | some o =>
    if s.time.source = 1 ∧ s.time.ptp.on ∧ s.time.ptp.port = link / 2 then ptpTake frame o rx s
    else receiveEnd link [frame] (fcsOf frame) (headArrive link (frame.take 64) rx s)

/-- Meaning of PTP_MESSAGE_RECEIVE. -/
def execPtpMessageReceive (link : Nat) (frame : Bytes) (rx : NetTime) (s : State) := onUnit link 8 s (ptpReceive link frame rx s)

/-- Next sequenceId of a kind of message, and its advance. -/
def ptpSeq (kind : Nat) (s : State) : Nat × State :=
  let q := tget 0 s.time.ptp.seqs kind
  (q, updPtp (fun p => { p with seqs := tset 0 p.seqs kind ((q + 1) % 65536), sentAt := tset 0 p.sentAt kind (s.time.mono + 1) }) s)

/-- A kind's interval has passed since it was last sent. -/
def ptpDue (s : State) (kind : Nat) (l : Int) : Bool :=
  match tget 0 s.time.ptp.sentAt kind with | 0 => true | t + 1 => decide (t + interval l ≤ s.time.mono)

/-- PTP_INTERVAL_TIMER (R358): 0 Sync and 1 Announce of a master, 2 the delay request.
Log entry 63 (PRESUMED). -/
def ptpTimer (kind : Nat) (s : State) : State :=
  let p := s.time.ptp
  if s.time.source ≠ 1 ∨ !p.on then s
  else if kind = 0 ∧ p.portState = 6 ∧ ptpDue s 0 p.logSync then
    let q := ptpSeq 0 s
    ptpSend true false (ptpMsg s 0 0x0200 q.1 0 p.logSync (List.replicate 10 0)) q.2
  else if kind = 1 ∧ p.portState = 6 ∧ ptpDue s 1 p.logAnn then
    let q := ptpSeq 1 s
    ptpSend false false (ptpMsg s 11 8 q.1 0 p.logAnn
      (List.replicate 10 0 ++ be 2 0 ++ be 1 0 ++ be 1 p.prio1 ++ be 1 p.clkClass ++ be 1 0xFE ++ be 2 0xFFFF ++ be 1 p.prio2 ++ be 8 (clockId s)
        ++ be 2 0 ++ be 1 0xA0)) q.2
  else if kind = 2 ∧ ptpDue s 2 p.logReq ∧ (p.peer ∨ p.portState = 8 ∨ p.portState = 9) then
    let q := ptpSeq 2 s
    let t := updPtp (fun x => { x with req := some (q.1, 0, false), presp := none }) q.2
    ptpSend true p.peer (ptpMsg s (if p.peer then 2 else 1) 0 q.1 (if p.peer then 0 else -asymOf p.asymPs) 0x7F
      (List.replicate (if p.peer then 20 else 10) 0)) t
  else s

/-- Meaning of PTP_INTERVAL_TIMER. -/
def execPtpIntervalTimer (kind : Nat) (s : State) := onUnit kind 3 s (ptpTimer kind s)

/-- The loss time of the source has passed (R350). -/
def sourceSilent (s : State) : Bool :=
  let t := s.time
  let p := t.ptp
  match t.source with
  | 1 => decide (p.annAt + p.annTo * interval p.logAnn ≤ t.mono) || decide (p.syncAt + 4 * interval p.logSync ≤ t.mono)
  | 2 | 4 => decide (t.heard + ms t.lossMs ≤ t.mono)
  | _ => false

/-- The best master's announceReceiptTimeout (R358): the port listens, or becomes master. -/
def ptpTimeout (s : State) : State :=
  let p := s.time.ptp
  if s.time.source = 1 ∧ p.on ∧ p.annAt + p.annTo * interval p.logAnn ≤ s.time.mono ∧ (p.portState ≠ 6) then
    updPtp (fun p => { p with
      portState := if p.slaveOnly then 4 else 6, foreign := [], parent := portId s, steps := 0, sync := none, t12 := none, req := none }) s
  else s

/-- TIME_SOURCE_LOSS (R350). -/
def sourceLoss (s : State) : State :=
  let t := if s.time.st = 2 ∧ sourceSilent s then holdover s else s
  ptpTimeout t

/-- Meaning of TIME_SOURCE_LOSS. -/
def execTimeSourceLoss (s : State) := live s (sourceLoss s)

/-! ### Pulse outputs and capture inputs (R367, R368) -/

/-- A time rounded to the nearest nanosecond (R367). -/
def nearestNs (t : NetTime) : NetTime := (t + 32768) / 65536 * 65536

/-- Time of the next edge of a schedule. -/
def edgeTime (c : ToutSched) : NetTime := nearestNs (c.start + c.edges / 2 * ns c.period + c.edges % 2 * ns c.width)

/-- The schedule ends with its `n`-th edge (R367). -/
def toutEnds (c : ToutSched) (n : Nat) : Bool :=
  (c.mode == 1 && n == 2) || (c.mode == 2 && c.count != 0 && n == 2 * c.count)

/-- TOUT_EDGE (R367): a new schedule takes over at its START, and the next edge whose time has come is made. -/
def toutEdge (now : NetTime) (t : Tout) : Tout :=
  let t := match t.next with
    | some n => if nearestNs n.start ≤ now then { t with cur := some n, next := none } else t
    | none => t
  match t.cur with
  | none => t
  | some c =>
    if now < edgeTime c then t
    else
      let n := c.edges + 1
      { t with level := (c.edges % 2 == 0) != c.low, cur := if toutEnds c n then none else some { c with edges := n } }

/-- Meaning of TOUT_EDGE. -/
def execToutEdge (pin : Nat) (s : State) :=
  onUnit pin 4 s (updTime (fun t => { t with tout := tset {} t.tout pin (toutEdge t.now (tget {} t.tout pin)) }) s)

/-- TCAP_EDGE (R368). -/
def tcapEdge (i : Nat) (fall : Bool) (t : NetTime) (s : State) : State :=
  let x := tget {} s.time.tcap i
  let put := fun (x : TcapIn) (s : State) => updTime (fun k => { k with tcap := tset {} k.tcap i x }) s
  if !(if fall then x.edge == 2 || x.edge == 3 else x.edge == 1 || x.edge == 3) then s
  else if (x.last.map (fun l => decide (t < l + ns 80))).getD false then put { x with lost := true } s
  else if 16 ≤ x.queue.length then raiseFault (329 + i) {} (put { x with lost := true, last := some t } s)
  else put { x with queue := x.queue ++ [{ time := t, fall := fall, stepped := x.stepped, lost := x.lost }]
                    lost := false, stepped := false, last := some t } s

/-- Meaning of TCAP_EDGE. -/
def execTcapEdge (input : Nat) (fall : Bool) (time : NetTime) (s : State) := onUnit input 2 s (tcapEdge input fall time s)

/-! ### Time commands (R370 to R379) -/

/-- Sources that a role allows (R349). -/
def sourceOk (s : State) (v : Nat) : Bool := if s.sys.role = 2 then v == 3 else v != 3

/-- The firmware takes over the transmit timestamp queues (R361): it drains them, which clears what their overflow had set. -/
def drainTxts (s : State) : State :=
  each [0, 1, 2, 3] (updTime (fun t => { t with txts := [], txtsOvf := [] }) s) (fun n s => endCond (325 + n) 0 s)

/-- `time.config` (R349, R370).
Log entry 72 (DEDUCED). -/
def cmdTimeConfig : Cmd where
  op := 0x0C01
  checks p _ := layout [1, 1, 2, 4, 4, 4, 2, 2] p ++
    [range p 0 1 0 4, resv p 1 1, range p 2 2 1 500, range p 4 4 100 1000000000, range p 8 4 10 100000, range p 12 4 10 60000]
  run r s :=
    let p := r.pay
    let v := fld p 0 1
    let moves := v != s.time.source
    guarded [(!sourceOk s v, ⟨2, 0, 0⟩), (moves && anyScheduling s, ⟨2, 0, 7⟩)]
      (let s := updTime (fun t => { t with
         slewPpm := fld p 2 2, jumpNs := fld p 4 4, lockNs := fld p 8 4, lossMs := fld p 12 4
         asymE := sgn 16 (fld p 16 2), asymW := sgn 16 (fld p 18 2) }) s
       if !moves then ok s
       else
         let s := endCond 323 0 (updTime (fun t => { t with
           source := v, st := if t.st = 4 then 4 else if v = 0 then 0 else 1, good := 0, bad := 0, heard := t.mono, utc := 0 }) s)
         let s := updPtp (fun p => { p with
           portState := if p.on then 4 else 1, foreign := [], sync := none, t12 := none, req := none, presp := none, annAt := s.time.mono
           syncAt := s.time.mono, steps := 0, parent := portId s, offset := 0, delay := 0 }) s
         ok (if v = 1 then drainTxts s else s))

/-- Meaning of `time.config`. -/
def execTimeConfig (req : Req) (s : State) := command cmdTimeConfig req s

/-- `time.read` (R371). -/
def cmdTimeRead : Cmd where
  op := 0x0C02
  checks p _ := layout [] p
  run _ s :=
    let t := s.time
    let ovf := t.txtsOvf.foldl (fun a i => a + 2 ^ (i + 1)) 0
    ok s (timeLe t.now ++ le 1 t.st ++ le 1 t.source ++ le 1 (b1 t.jumpRefused + ovf) ++ le 1 0 ++ le 8 (uns 64 t.freq)
      ++ le 8 (uns 64 (t.slew.tdiv 1000000000)) ++ le 8 (uns 64 t.lastOffset) ++ le 2 t.utc ++ le 2 0)

/-- Meaning of `time.read`. -/
def execTimeRead (req : Req) (s : State) := command cmdTimeRead req s

/-- `time.adjust` (R351 to R353, R372). -/
def cmdTimeAdjust : Cmd where
  op := 0x0C03
  checks p _ := layout [1, 7, 8, 8] p ++
    [range p 0 1 0 3, resv p 1 7, (bit (fld p 0 1) 0 && decide (freqMax < (sgn 64 (fld p 8 8)).natAbs), bad 8)]
  run r s :=
    let p := r.pay
    let f := if bit (fld p 0 1) 0 then some (sgn 64 (fld p 8 8)) else none
    let o := if bit (fld p 0 1) 1 then some (sgn 64 (fld p 16 8)) else none
    if s.time.source ≠ 2 ∧ s.time.source ≠ 4 then .error ⟨2, 0, 0⟩
    else if (o.map (jumps s)).getD false then later (refuseReq 0x0C03 r timeRefused (correct o f s))
    else ok (correct o f s)

/-- Meaning of `time.adjust`. -/
def execTimeAdjust (req : Req) (s : State) := command cmdTimeAdjust req s

/-- `time.force_set` (R354, R373). A worker takes it from its manager alone, which passes no such command on for the host; a step by a
difference then waits for the boundary of the manager, where it names one.
Log entries 65 (DESIGN CHOICE), 66 (DEDUCED). -/
def cmdTimeForceSet : Cmd where
  op := 0x0C04
  passing _ _ _ := [(true, ⟨2, 0, 0⟩)]
  checks p _ := layout [1, 1, 2, 12, 8] p ++
    [range p 0 1 0 1, range p 1 1 0 1, resv p 2 2, (fld p 0 1 == 0 && (!timeOk p 4 || timeAt p 4 == 0), bad 4)]
  run r s :=
    let p := r.pay
    let delta := sgn 64 (fld p 16 8)
    let susp := bit (fld p 1 1) 0
    let abs := if fld p 0 1 = 0 then some (timeAt p 4) else none
    let fromManager := match r.origin with | .tunnel _ _ => true | _ => false
    guarded [(decide (1 < s.sys.role) && !fromManager, ⟨2, 0, 0⟩), (anyScheduling s && !susp, ⟨2, 0, 7⟩)]
      (let s := if susp then suspendAll s else s
       let b := if fromManager ∧ abs.isNone ∧ timeAt p 4 ≠ 0 then timeAt p 4 else stepBoundary s
       let d := match abs with | some t => (t : Int) - b | none => delta
       ok (stepWorkers b d (askStep b abs delta s)) (timeLe (carry d b)))

/-- Meaning of `time.force_set`. -/
def execTimeForceSet (req : Req) (s : State) := command cmdTimeForceSet req s

/-- A signed byte field out of range. -/
def rangeS (p : Bytes) (o : Nat) (lo hi : Int) : Bool × Refuse :=
  (decide (sgn 8 (fld p o 1) < lo) || decide (hi < sgn 8 (fld p o 1)), bad o)

/-- `time.ptp_config` (R358, R374). -/
def cmdTimePtpConfig : Cmd where
  op := 0x0C05
  checks p _ := layout [1, 1, 1, 1, 1, 1, 1, 1, 1, 1, 1, 1, 4] p ++
    [range p 0 1 0 3, range p 1 1 0 127, range p 2 1 0 1, range p 3 1 0 1, rangeS p 4 (-7) 1, range p 5 1 0 4, rangeS p 6 (-7) 5,
     range p 7 1 2 255, range p 11 1 0 1]
  run r s :=
    let p := r.pay
    guarded [(s.time.source != 1, ⟨2, 0, 0⟩)]
      (ok (updPtp (fun x => { x with
        on := true, port := fld p 0 1, domain := fld p 1 1, udp := fld p 2 1 == 1, peer := fld p 3 1 == 1, logSync := sgn 8 (fld p 4 1)
        logAnn := fld p 5 1, logReq := sgn 8 (fld p 6 1), annTo := fld p 7 1, prio1 := fld p 8 1, prio2 := fld p 9 1
        clkClass := fld p 10 1, slaveOnly := bit (fld p 11 1) 0, asymPs := sgn 32 (fld p 12 4)
        portState := 4, foreign := [], steps := 0, parent := portId s, sync := none, t12 := none, req := none, presp := none
        annAt := s.time.mono, syncAt := s.time.mono, offset := 0, delay := 0, seqs := [], sentAt := [] }) s))

/-- Meaning of `time.ptp_config`. -/
def execTimePtpConfig (req : Req) (s : State) := command cmdTimePtpConfig req s

/-- `time.ptp_status` (R375). -/
def cmdTimePtpStatus : Cmd where
  op := 0x0C06
  checks p _ := layout [] p
  run _ s :=
    let x := s.time.ptp
    guarded [(s.time.source != 1, empty)]
      (ok s (le 1 x.portState ++ le 1 0 ++ le 2 x.steps ++ le 10 x.parent ++ le 2 0 ++ le 8 (uns 64 x.offset) ++ le 8 (uns 64 x.delay)))

/-- Meaning of `time.ptp_status`. -/
def execTimePtpStatus (req : Req) (s : State) := command cmdTimePtpStatus req s

/-- An entry of a transmit timestamp queue (R361). -/
def txtsBytes (port : Nat) (x : TxTs) : Bytes :=
  le 2 x.seq ++ le 1 x.type ++ le 1 x.domain ++ le 1 port ++ le 3 0 ++ timeLe x.time

/-- `time.txts_read` (R361, R376). -/
def cmdTimeTxtsRead : Cmd where
  op := 0x0C07
  checks p _ := [sel p 1 1 1 32] ++ layout [1, 1, 2] p ++ [range p 0 1 0 3, resv p 2 2]
  run r s :=
    let n := fld r.pay 0 1
    let q := tget [] s.time.txts n
    let l := q.take (fld r.pay 1 1)
    guarded [(s.time.source == 1, ⟨2, 0, 0⟩), (q.isEmpty, empty)]
      (ok (endCond (325 + n) 0 (updTime (fun t => { t with
            txts := tset [] t.txts n (q.drop l.length), txtsOvf := t.txtsOvf.filter (· != n) }) s))
        (le 1 l.length ++ le 3 0 ++ l.flatMap (txtsBytes n)))

/-- Meaning of `time.txts_read`. -/
def execTimeTxtsRead (req : Req) (s : State) := command cmdTimeTxtsRead req s

/-- `time.tc_config` (R362, R377). -/
def cmdTimeTcConfig : Cmd where
  op := 0x0C08
  checks p _ := layout [1, 1, 2] p ++ [range p 0 1 0 1, range p 1 1 0 15, resv p 2 2]
  run r s := ok (updTime (fun t => { t with tcOn := fld r.pay 0 1 == 1, tcMask := fld r.pay 1 1 }) s)

/-- Meaning of `time.tc_config`. -/
def execTimeTcConfig (req : Req) (s : State) := command cmdTimeTcConfig req s

/-- Change a pulse output. -/
def updTout (pin : Nat) (f : Tout → Tout) (s : State) : State :=
  updTime (fun t => { t with tout := tset {} t.tout pin (f (tget {} t.tout pin)) }) s

/-- `time.tout` (R367, R378).
Log entry 73 (DEDUCED). -/
def cmdTimeTout : Cmd where
  op := 0x0C09
  need p _ := some ⟨1, 1, [fld p 0 1]⟩
  checks p _ :=
    let per := fld p 16 4
    layout [1, 1, 1, 1, 12, 4, 4, 4] p ++
    [range p 0 1 0 3, range p 1 1 0 2, range p 2 1 0 1, resv p 3 1, (fld p 1 1 != 0 && !timeOk p 4, bad 4),
     (fld p 1 1 == 2 && decide (per < 100), bad 16),
     (fld p 1 1 == 1 && (decide (fld p 20 4 < 10) || decide (1000000000 < fld p 20 4)), bad 20),
     (fld p 1 1 == 2 && (decide (fld p 20 4 < 10) || decide (per < fld p 20 4 + 10)), bad 20)]
  run r s :=
    let p := r.pay
    let pin := fld p 0 1
    let low := fld p 2 1 == 1
    if fld p 1 1 = 0 then ok (updTout pin (fun _ => { level := low }) s)
    else if timeAt p 4 < s.time.now + us 2 then .error late
    else
      let n : ToutSched := { mode := fld p 1 1, low := low, start := timeAt p 4, period := fld p 16 4, width := fld p 20 4, count := fld p 24 4 }
      ok (updTout pin (fun t => { t with next := some n, level := if t.cur.isNone then low else t.level }) s)

/-- Meaning of `time.tout`. -/
def execTimeTout (req : Req) (s : State) := command cmdTimeTout req s

/-- `time.tcap_config` (R368, R379). -/
def cmdTimeTcapConfig : Cmd where
  op := 0x0C0A
  need p _ := some ⟨2, 1, [fld p 0 1]⟩
  checks p _ := layout [1, 1, 2] p ++ [range p 0 1 0 1, range p 1 1 0 3, resv p 2 2]
  run r s :=
    let i := fld r.pay 0 1
    let x := tget {} s.time.tcap i
    let y := if x.edge = fld r.pay 1 1 then x else { x with edge := fld r.pay 1 1, queue := [], lost := false }
    ok (updTime (fun t => { t with tcap := tset {} t.tcap i y }) s)

/-- Meaning of `time.tcap_config`. -/
def execTimeTcapConfig (req : Req) (s : State) := command cmdTimeTcapConfig req s

/-- An entry of a capture queue (R368). -/
def tcapBytes (x : Tcap) : Bytes := timeLe x.time ++ le 1 (b1 x.fall) ++ le 1 (b1 x.stepped + 2 * b1 x.lost) ++ le 2 0

/-- `time.tcap_read` (R379). -/
def cmdTimeTcapRead : Cmd where
  op := 0x0C0B
  need p _ := some ⟨2, 1, [fld p 0 1]⟩
  checks p _ := [sel p 1 1 1 16] ++ layout [1, 1, 2] p ++ [range p 0 1 0 1, resv p 2 2]
  run r s :=
    let i := fld r.pay 0 1
    let x := tget {} s.time.tcap i
    let l := x.queue.take (fld r.pay 1 1)
    guarded [(x.queue.isEmpty, empty)]
      (ok (updTime (fun t => { t with tcap := tset {} t.tcap i { x with queue := x.queue.drop l.length } }) s)
        (le 1 l.length ++ le 3 0 ++ l.flatMap tcapBytes))

/-- Meaning of `time.tcap_read`. -/
def execTimeTcapRead (req : Req) (s : State) := command cmdTimeTcapRead req s

end Sys2Proof.Machine
end

