-- ==== Sys2Proof/Machine/Domain.lean ====
section
/-! DEFINITION. The domain and its ring (chapter 11): clasp links, discovery and numbering, heartbeats, losses and holdover,
time across the clasp, dark propagation, notices, scheduler commands, events and the domain commands. -/

namespace Sys2Proof.Machine

/-- Change the domain. -/
def updDom (f : Dom → Dom) (s : State) : State := { s with dom := f s.dom }

/-- The device has a clasp ring: a manager or a worker with its role resolved (R428, R429). -/
def ringed (s : State) : Bool := s.sys.role == 1 || s.sys.role == 2

/-! ### Messages (R434, R435, R440) -/

/-- A message is acted on: remembered, acknowledged, and passed to its meaning (R435, R440); a DISCOVER is acknowledged on the port it
came by. A duplicate is acknowledged and counted.
Log entry 75 (DESIGN CHOICE). -/
def actOn (west : Bool) (m : Msg) (act : State → State) (s : State) : State :=
  if !sequenced m.code then act s
  else
    let key := (m.src, m.code, m.seq)
    let s := claspOut (if m.code = 0x10 then west else wayTo s m.src) { code := 0x12, src := s.dom.number, dst := m.src, ack := m.seq } s
    if s.dom.seen.contains key then claspCount west 2 s
    else act (updDom (fun d => { d with seen := (key :: d.seen).take 1024 }) s)

/-- Send a received message on by the other port: a frame of the port it came by, in buffers of its requester; its sender's credits return
as they do, or at once where it goes no further (R391, R403, R405, R407).
Log entry 180 (DESIGN CHOICE). -/
def passOn (west : Bool) (w : Nat) (m : Msg) (s : State) : State :=
  let k := claspKey west
  let n := ceilDiv (16 + m.body.length) 256
  if !(s.clasp (!west)).up then relayCount (claspKey (!west)) 15 1 (oweCredits west w n s)
  else match allocBufs 0 (k / 2) 1 n s with
    | (none, u) => oweCredits west w n (overrun k u)
    | (some l, u) => flow (pushFrame { msgFrame k w (!west) m s.time.now with bufs := l } (ceilDiv (16 + m.body.length) 64) u)

/-- Pass a message on to the other port (R434, R440), or return its buffers.
Log entry 180 (DESIGN CHOICE). -/
def forward (west : Bool) (w : Nat) (m : Msg) (s : State) : State :=
  if m.src = s.dom.number ∨ m.hops = 0 ∨ (m.dst = s.dom.number ∧ m.dst ≠ 0xFF) then
    oweCredits west w (ceilDiv (16 + m.body.length) 256) s
  else passOn west w { m with hops := m.hops - 1 } s

/-- A message is for this device (R434). -/
def addressed (m : Msg) (s : State) : Bool := (m.dst == 0xFF && m.src != s.dom.number) || (m.dst == s.dom.number && m.dst != 0xFF)

/-- The cells of a message of a code arrive on a clasp port (R437, R438, R440); `f` gets the class they took and the message. Cells that end
as an aborted frame, and bytes that spell no message, are discarded. -/
def claspIn (code : Nat) (west : Bool) (cells : List Bytes) (f : Nat → Msg → State → State) (s : State) : State :=
  let k := claspKey west
  if !linkUp s k then s
  else match frameOfCells cells with
    | none => cellsAborted k cells s
    | some (false, _) => s
    | some (true, d) =>
      let w := cellsClass cells
      match msgOf d with
      | none => oweCredits west w (ceilDiv d.length 256) (relayCount k 2 1 (relayCount k 0 d.length s))
      | some m => if m.code ≠ code then s else f w m (relayCount k 2 1 (relayCount k 0 d.length s))

/-- A message is forwarded, and acted on when it is for this device (R405, R440). -/
def taken (west : Bool) (w : Nat) (m : Msg) (act : Msg → State → State) (s : State) : State :=
  let t := forward west w m s
  if addressed m s then actOn west m (act m) t else t

/-- A message of a code arrives on a clasp port. -/
def arrive (code : Nat) (west : Bool) (cells : List Bytes) (act : Msg → State → State) (s : State) : State :=
  claspIn code west cells (fun w m s => taken west w m act s) s

/-! ### Ring view (R442, R453, R460) -/

/-- Number of the device east of device `n`, by the manager's view; the manager closes the circle. -/
def eastOf (s : State) (n : Nat) : Nat :=
  let h := if n = 0 then 0 else (s.member n).hopsE
  ((List.range 16).find? (fun k => decide (k ≠ 0) && (s.member k).admitted && (s.member k).hopsE == h + 1)).getD 0

/-- Number of the device west of device `n`. -/
def westOf (s : State) (n : Nat) : Nat :=
  ((List.range 16).find? (fun k => eastOf s k == n && ((s.member k).admitted || k == 0) && decide (k ≠ n))).getD 0

/-- The manager's ring opens at the link between device `w` and its east neighbour `e` (R453).
Log entry 76 (DEDUCED). -/
def ringBreak (w e : Nat) (s : State) : State :=
  let k := if w = 0 then 0 else (s.member w).hopsE
  let s := updDom (fun d => { d with
    ring := 2, brk := w + 256 * e
    members := tmap {} (fun n m => if n = 0 ∨ !m.admitted then m else if m.hopsE ≤ k then { m with hopsW := 255 } else { m with hopsE := 255 })
      d.members }) s
  raiseCond 404 0 { value := w + 256 * e } s

/-- The ring is closed again (R453). -/
def ringClosed (s : State) : State :=
  let again := causePresent s 404
  let s := endCond 404 0 (updDom (fun d => { d with ring := 1, brk := 0xFFFF }) s)
  if again then raiseEvent 421 {} s else s

/-! ### Discovery and numbering (R442 to R444) -/

/-- Own ENTRY in a DISCOVER. -/
def ownEntry (s : State) : Bytes := le 8 Config.identity ++ le 1 s.sys.role ++ le 1 (b1 (s.sys.role != 3)) ++ le 2 0

/-- A DISCOVER of this device, kept until it is acknowledged (R435). -/
def sendDiscover (west : Bool) (ents : Bytes) (s : State) : State :=
  let q := tget 0 s.dom.seqs 0xFF
  let m : Msg := { code := 0x10, src := s.dom.number, dst := 0xFF, seq := q
                   body := le 1 (b1 west) ++ le 1 (ents.length / 12) ++ le 2 0 ++ ents }
  let s := updDom (fun d => { d with seqs := tset 0 d.seqs 0xFF ((q + 1) % 65536) }) s
  let t := claspOut west m s
  if (s.clasp west).up then awaitAck m west [] t else t

/-- The manager starts discovery (R442). -/
def startDiscovery (s : State) : State :=
  if s.sys.role ≠ 1 then s
  else
    let s := updDom (fun d => { d with
      disc := true, discAt := s.time.mono, foundE := [], foundW := [], closed := false, crowded := false
      unacked := d.unacked.filter (fun u => u.msg.code != 0x10) }) s
    sendDiscover true (ownEntry s) (sendDiscover false (ownEntry s) s)

/-- Entries of a DISCOVER: identity, role, ROLE_OK. -/
def discEntries (b : Bytes) : List (Nat × Nat × Bool) :=
  (List.range (fld b 1 1)).map (fun i => (fld b (4 + 12 * i) 8, fld b (12 + 12 * i) 1, bit (fld b (13 + 12 * i) 1) 0))

/-- A second MANAGER or a STANDALONE device is met (R444). -/
def managerConflict (s : State) : State := raiseCond 385 0 {} (updDom (fun d => { d with conflict := true }) s)

/-- DISCOVER on the manager that sent it: its lists are complete on this side, and on the opposite port the ring is closed. One that the end
of an open ring sent back shows by HOPS_LEFT how many devices it met.
Log entries 64 (DEDUCED), 81 (DEDUCED). -/
def discoverBack (west : Bool) (m : Msg) (s : State) : State :=
  let l := (discEntries m.body).drop 1
  let eastward := fld m.body 0 1 == 0
  let s := if eastward then updDom (fun d => { d with foundE := l, closed := d.closed || west }) s
    else updDom (fun d => { d with foundW := l, closed := d.closed || !west }) s
  let s := if m.dst ≠ 0xFF ∧ l.length + m.hops < 16 then updDom (fun d => { d with crowded := true }) s else s
  if l.any (fun e => decide (e.2.1 < 2)) then managerConflict s else s

/-- DISCOVER on a device that did not send it: the own entry is appended and the message goes on, or back to the manager from the end
of an open ring, or where HOPS_LEFT is 0 and no message goes on (R440, R442; log entry 64).
Log entry 81 (DEDUCED). -/
def discoverOn (west : Bool) (m : Msg) (s : State) : State :=
  let ents := (m.body.drop 4).take (12 * fld m.body 1 1)
  let ents := if fld m.body 1 1 < 16 then ents ++ ownEntry s else ents
  let body := le 1 (fld m.body 0 1) ++ le 1 (ents.length / 12) ++ le 2 0 ++ ents
  let s := if s.sys.role = 1 then managerConflict s else s
  if (s.clasp (!west)).up ∧ m.hops ≠ 0 then claspOut (!west) { m with hops := m.hops - 1, body := body } s
  else claspOut west { m with dst := 0, hops := 15, body := body } s

/-- The meaning of a DISCOVER (R440, R442): it carries its device's list on, once per (SRC, CODE, SEQ). -/
def discoverTake (west : Bool) (w : Nat) (m : Msg) (s : State) : State :=
  let own := s.sys.role == 1 && ((discEntries m.body).head?.map (·.1)) == some Config.identity
  let back := oweCredits west w (ceilDiv (16 + m.body.length) 256) s
  if own then (if s.dom.disc then discoverBack west m back else back)
  else if m.dst ≠ 0xFF then forward west w m s
  else actOn west m (discoverOn west m) back

/-- Meaning of DISCOVER_RECEIVE (R442). -/
def execDiscoverReceive (west : Bool) (cells : List Bytes) (s : State) := live s (claspIn 0x10 west cells (discoverTake west) s)

/-- The number of an identity: its own in the table, or the lowest free one (R443).
Log entry 81 (DEDUCED). -/
def numberFor (t : Tab Member) (id : Nat) : Option Nat :=
  match t.find? (fun e => e.1 != 0 && e.2.identity == id) with
  | some e => some e.1
  | none => (List.range 16).find? (fun n => decide (n ≠ 0) && (tget {} t n).identity == 0)

/-- One found device: numbered and admitted, or refused (R443, R444). Hops are given by direction.
Log entry 81 (DEDUCED). -/
def admitOne (fits : Bool) (e : Nat × Nat × Bool) (hE hW : Nat) (s : State) : State :=
  if !fits ∨ e.2.1 ≠ 2 ∨ !e.2.2 then
    updDom (fun d => { d with members := tmap {} (fun _ m => if m.identity = e.1 then { m with admitted := false } else m) d.members }) s
  else match numberFor s.dom.members e.1 with
    | none => raiseFault 409 {} s
    | some n =>
      let s := if (s.member n).admitted then s else joinPlane (2 * n + 1) (joinPlane (2 * n) s)
      let s := s.updMember n (fun m => { m with
        identity := e.1, admitted := true, reachable := true, hopsE := hE, hopsW := hW, heard := s.time.mono })
      endCond (388 + n) n (setCfg (fun c => { c with members := tset 0 c.members n e.1 }) s)

/-- NUMBER body (R441). -/
def numberBody (s : State) (l : List (Nat × Nat × Bool)) : Bytes :=
  let one := fun (id : Nat) =>
    let n := if id = Config.identity then some 0 else
      ((s.dom.members.find? (fun e => e.2.identity == id && e.2.admitted && e.2.reachable)).map (·.1))
    le 8 id ++ le 1 (n.getD 0xFF) ++ le 1 (b1 n.isSome + 2 * b1 s.dom.conflict) ++ le 2 0
  let ids := (Config.identity :: l.map (·.1)).take 16
  le 1 (if s.dom.ring = 1 then 1 else 2) ++ le 1 ids.length ++ le 2 0 ++ ids.flatMap one

/-- Admit every device of the lists, eastward first (R443, R444).
Log entry 81 (DEDUCED). -/
def admitAll (s : State) : State :=
  let d := s.dom
  let e := if d.closed then (if d.foundE = [] then d.foundW.reverse else d.foundE) else d.foundE
  let w := if d.closed then [] else d.foundW
  let fits := !d.conflict && !d.crowded && decide (e.length + w.length ≤ 15)
  let s := updDom (fun d => { d with
    members := tmap {} (fun n m => if n = 0 then m else if m.identity = 0 then {} else { m with reachable := false }) d.members }) s
  let s := each (List.range e.length) s (fun i s =>
    admitOne fits (e.getD i (0, 0, false)) (i + 1) (if d.closed then e.length - i else 255) s)
  each (List.range w.length) s (fun i s => admitOne fits (w.getD i (0, 0, false)) 255 (i + 1) s)

/-- DISCOVERY_COMPLETE (R442 to R444): the ring is closed, or open after 1 ms, and the devices are numbered.
Log entries 76 (DEDUCED), 81 (DEDUCED). -/
def discoveryComplete (s : State) : State :=
  let d := s.dom
  if s.sys.role ≠ 1 ∨ !d.disc ∨ (!d.closed && decide (s.time.mono < d.discAt + ms 1)) then s
  else
    let found := (if d.closed then d.foundE else d.foundE ++ d.foundW)
    let met := (d.foundE ++ d.foundW).any (fun e => decide (e.2.1 < 2))
    let s := updDom (fun d => { d with disc := false, discovered := true, conflict := d.conflict && met }) s
    let s := if met then s else endCond 385 0 s
    let s := admitAll s
    let s := if d.closed then ringClosed s
      else if found = [] then updDom (fun d => { d with ring := 0, brk := 0xFFFF }) s
      else
        let last := fun (l : List (Nat × Nat × Bool)) => (l.getLast?.bind (fun e => numberFor s.dom.members e.1)).getD 0
        ringBreak (last d.foundE) (last d.foundW) s
    reState (claspSend 0x11 0xFF (numberBody s found) s)

/-- Meaning of DISCOVERY_COMPLETE. -/
def execDiscoveryComplete (s : State) := live s (discoveryComplete s)

/-- Events that a worker has kept until its admission leave in their order (R450).
Log entry 179 (DESIGN CHOICE). -/
def flushEvents (s : State) : State :=
  each s.dom.evq (updDom (fun d => { d with evq := [] }) s) (fun x s => claspSend 0x31 0 (eventBody x.event x.time x.data) s)

/-- NUMBER on a device (R443, R444): its own entry gives its number and admission; a newly admitted worker aligns its time (R356), and one
that is not admitted keeps its planes in IDLE.
Log entries 78 (DEDUCED), 81 (DEDUCED). -/
def numberTake (m : Msg) (s : State) : State :=
  let b := m.body
  match (List.range (fld b 1 1)).find? (fun i => fld b (4 + 12 * i) 8 == Config.identity) with
  | none => s
  | some i =>
    let n := fld b (12 + 12 * i) 1
    let fl := fld b (13 + 12 * i) 1
    if s.sys.role ≠ 2 then s
    else
      let old := s.dom.number
      let s := updDom (fun d => { d with
        number := if bit fl 0 then n else 0xFF, ring := fld b 0 1, conflict := bit fl 1, discovered := true
        mgrHeard := if bit fl 0 then s.time.mono else d.mgrHeard }) s
      if !bit fl 0 then reState (each s.planeIds s (fun p s => if (s.plane p).regime = 0 then s else enterIdle p s))
      else
        let s := flushEvents s
        if old = 0xFF ∨ !s.dom.mgrUp then
          reState (raiseEvent 417 { device := n } (updTime (fun t => { t with join := true })
            (updDom (fun d => { d with mgrUp := true }) s)))
        else reState s

/-- Meaning of NUMBER_RECEIVE. -/
def execNumberReceive (west : Bool) (cells : List Bytes) (s : State) := live s (arrive 0x11 west cells numberTake s)

/-! ### Clasp links (R405, R432) -/

/-- CLASP_LINK_UP (R405, R432, R442). -/
def claspLinkUp (west same : Bool) (s : State) : State :=
  if !ringed s ∨ (s.clasp west).up then s
  else if same then
    raiseCond (407 + b1 west) 0 {} (s.updClasp west (fun c => { c with up := false, miswired := true }))
  else if (s.lane (48 + 2 * b1 west)).test ∨ (s.lane (49 + 2 * b1 west)).test then s
  else
    let share := (poolReq (s.pool 0) 0 (4 + b1 west)).min / 8
    let s := s.updClasp west (fun c => { c with
      up := true, miswired := false, peerSeq := 0xFFFF, peerHops := 0xFF, onMgr := false, sent := [], exch := none, txPrev := 0
      rxPeer := 0, peers := [], heard := s.time.mono })
    let s := each (List.range 8) s (fun c s => setCredit west c 0 s)
    let s := updRelay (fun r => { r with owed := r.owed.filter (fun e => e.1 / 8 != b1 west) }) s
    let s := s.updRlink (claspKey west) (fun l => { l with up := true, creditAt := s.time.mono })
    let s := raiseEvent (419 + b1 west) {} (endCond (405 + b1 west) 0 (endCond (407 + b1 west) 0 s))
    startDiscovery (s.emit (.ctrl west (ctrlUnit 4 ((List.replicate 8 share).flatMap (le 2)))))

/-- Meaning of CLASP_LINK_UP. -/
def execClaspLinkUp (west : Bool) (sameName : Bool) (s : State) := live s (claspLinkUp west sameName s)

/-- CLASP_LINK_DOWN (R403, R432, R453). -/
def claspLinkDown (west : Bool) (s : State) : State :=
  if !(s.clasp west).up then s
  else
    let s := s.updClasp west (fun c => { c with up := false, peers := [], exch := none, sent := [], peerHops := 0xFF, onMgr := false })
    let s := each (List.range 8) s (fun c s => setCredit west c 0 s)
    let s := relayLinkDown (claspKey west) s
    let s := claspCount west 0 (raiseCond (405 + b1 west) 0 {} s)
    if s.sys.role = 1 then
      (if s.dom.ring = 1 then (if west then ringBreak (westOf s 0) 0 s else ringBreak 0 (eastOf s 0) s) else s)
    else updDom (fun d => { d with ring := if d.ring = 1 then 2 else d.ring }) s

/-- Meaning of CLASP_LINK_DOWN. -/
def execClaspLinkDown (west : Bool) (s : State) := live s (claspLinkDown west s)

/-! ### Heartbeats and losses (R433, R441, R453 to R457) -/

/-- MEMBERS as the manager sends it: bit 0 for itself, bit n for each admitted device.
Log entry 77 (DEDUCED). -/
def membersMask (s : State) : Nat :=
  (List.range 16).foldl (fun a n => if (n = 0 ∧ s.sys.role = 1) ∨ (s.member n).admitted then a + 2 ^ n else a) 0

/-- HEARTBEAT body (R441). -/
def heartbeatBody (s : State) : Bytes :=
  let fl := b1 (s.time.st == 2) + 2 * b1 s.dom.holdover.isSome + 4 * b1 (s.dom.number != 0xFF) + 8 * b1 s.time.jumpRefused
  le 1 s.sys.role ++ le 1 s.dom.ring ++ le 1 fl ++ le 1 0 ++ le 8 (if s.sys.role = 1 then slotNow s else s.dom.lastRec)
    ++ le 2 (if s.sys.role = 1 then membersMask s else 0) ++ le 2 0

/-- HEARTBEAT_SEND (R433): every 10 us in both directions.
Log entry 81 (DEDUCED). -/
def heartbeatSend (s : State) : State :=
  if !ringed s ∨ s.time.mono < s.dom.hbAt + us 10 then s
  else claspSend 0x03 0xFF (heartbeatBody s) (updDom (fun d => { d with hbAt := s.time.mono }) s)

/-- Meaning of HEARTBEAT_SEND. -/
def execHeartbeatSend (s : State) := live s (heartbeatSend s)

/-- A worker's HEARTBEAT on the manager (R455, R461). One without a number, or from a worker that was lost, shows that a worker stands on
the ring that is not admitted: discovery runs again (R444), for one without a number no more than once a second.
Log entries 79 (DEDUCED), 181 (DESIGN CHOICE). -/
def heardWorker (n fl : Nat) (s : State) : State :=
  if n = 0xFF then (if s.dom.disc ∨ s.time.mono < s.dom.discAt + oneSecond then s else startDiscovery s)
  else if !(s.member n).admitted then (if causePresent s (388 + n) ∧ !s.dom.disc ∧ n ≠ 0 then startDiscovery s else s)
  else s.updMember n (fun m => { m with heard := s.time.mono, reachable := true, locked := bit fl 0 })

/-- The manager's HEARTBEAT on a worker (R456, R457): heard during holdover, it ends the holdover. -/
def heardManager (b : Bytes) (s : State) : State :=
  let back := !s.dom.mgrUp
  let s := updDom (fun d => { d with
    mgrHeard := s.time.mono, mgrUp := true, holdover := none, ring := fld b 1 1, mgrMembers := fld b 12 2, mgrJump := bit (fld b 2 1) 3 }) s
  let s := if back then updTime (fun t => { t with join := true }) s else s
  doubtEnds (endCond 388 0 (endCond 387 0 (endCond 386 0 s)))

/-- HEARTBEAT_RECEIVE (R440, R441): it shows, by its HOPS_LEFT, how far along its port the sender stands. -/
def heartbeatTake (west : Bool) (m : Msg) (s : State) : State :=
  let s := s.updClasp west (fun c => { c with peers := tput c.peers m.src (16 - m.hops, s.time.mono) })
  if s.sys.role = 1 ∧ fld m.body 0 1 = 2 then heardWorker m.src (fld m.body 2 1) s
  else if s.admitted ∧ fld m.body 0 1 = 1 ∧ m.src = 0 then heardManager m.body s
  else s

/-- Meaning of HEARTBEAT_RECEIVE. -/
def execHeartbeatReceive (west : Bool) (cells : List Bytes) (s : State) := live s (arrive 0x03 west cells (heartbeatTake west) s)

/-- A lost worker's DPLANE leaves scheduling, and commands that wait for its answer are refused (R447, R455).
Log entry 79 (DEDUCED). -/
def dropDplane (d : Nat) (s : State) : State :=
  let busy' := scheduling (dregime s d)
  let s := revokePlane d s.time.now s
  let s := s.updDplane d (fun q => { q with lost := true, regime := if busy' then 0 else q.regime, regimeAt := none })
  let waits := s.sched.asked.filter (fun a => a.1 == d)
  let s := updSched (fun x => { x with asked := x.asked.filter (fun a => a.1 != d) }) s
  let s := each waits s (fun a s => match a.2.2.2.2 with
    | some r => refuseReq (if a.2.1 = 4 then 0x0902 else 0x0A01) r (unreachableT r.target) s
    | none => s)
  announce (s.updChainPlane d (fun c => { c with run := none, pend := none }))

/-- WORKER_SILENCE (R455).
Log entry 79 (DEDUCED). -/
def workerSilence (n : Nat) (s : State) : State :=
  let m := s.member n
  if s.sys.role ≠ 1 ∨ n = 0 ∨ !m.admitted ∨ s.time.mono < m.heard + us 100 then s
  else
    let s := s.updMember n (fun m => { m with admitted := false, reachable := false })
    let s := raiseCond (388 + n) n { device := n } s
    dropDplane (2 * n + 1) (dropDplane (2 * n) s)

/-- Meaning of WORKER_SILENCE. -/
def execWorkerSilence (dev : Nat) (s : State) := onUnit dev 16 s (workerSilence dev s)

/-- The manager is lost: DOMAIN_MANAGER_LOST, and holdover starts (R456). -/
def managerLost (s : State) : State :=
  if !s.admitted ∨ !s.dom.mgrUp then s
  else
    let h := us s.dom.holdoverUs
    let s := updDom (fun d => { d with mgrUp := false, ring := 3, holdover := some (s.time.mono + h, s.time.now + h) }) s
    raiseCond 386 0 {} s

/-- MANAGER_SILENCE (R456).
Log entries 6 (DESIGN CHOICE), 79 (DEDUCED). -/
def managerSilence (s : State) : State :=
  if s.time.mono < s.dom.mgrHeard + us s.dom.silenceUs then s else managerLost s

/-- Meaning of MANAGER_SILENCE. -/
def execManagerSilence (s : State) := live s (managerSilence s)

/-- HOLDOVER_END (R456): the scheduling planes go dark through DOMAIN_HOLDOVER_END. -/
def holdoverEnd (s : State) : State :=
  match s.dom.holdover with
  | none => s
  | some (t, _) =>
    if s.time.mono < t then s
    else
      let s := updDom (fun d => { d with holdover := none }) s
      each (s.planeIds.filter (fun p => scheduling (s.plane p).regime)) s (fun p s => raiseCond (387 + p) 0 { plane := p } s)

/-- Meaning of HOLDOVER_END. -/
def execHoldoverEnd (s : State) := live s (holdoverEnd s)

/-! ### Time across the clasp (R356, R363 to R366, R439) -/

/-- The port towards the manager: of the neighbours that show manager time the one with fewer hops, east on a tie. -/
def timeWay (s : State) : Option Bool :=
  let ok := fun w => (s.clasp w).up && (s.clasp w).onMgr && decide ((s.clasp w).peerHops < 255)
  if ok false ∧ (!ok true ∨ (s.clasp false).peerHops ≤ (s.clasp true).peerHops) then some false
  else if ok true then some true else none

/-- HOPS of a TIME unit (R439). -/
def ownHops (s : State) : Nat :=
  if s.sys.role = 1 then 0 else match timeWay s with | some w => min 255 ((s.clasp w).peerHops + 1) | none => 255

/-- TIME body (R439). -/
def timeBody (s : State) (c : Clasp) : Bytes :=
  let mgr := s.sys.role == 1
  let on' := mgr || ((timeWay s).isSome && (s.time.st == 1 || s.time.st == 2))
  le 2 c.seq ++ le 2 c.peerSeq ++ le 1 (ownHops s) ++ le 1 (b1 (s.time.st == 2) + 2 * b1 mgr + 4 * b1 on') ++ le 2 0
    ++ timeLe c.txPrev ++ timeLe c.rxPeer

/-- CLASP_TIME_SEND (R363, R439): every 8 us one TIME unit on each clasp link that is up. -/
def claspTimeSend (s : State) : State :=
  if s.time.mono < s.dom.timeAt then s
  else each [false, true] (updDom (fun d => { d with timeAt := s.time.mono + us 8 }) s) (fun w s =>
    let c := s.clasp w
    if !c.up then s
    else
      let s := s.emit (.ctrl w (ctrlUnit 1 (timeBody s c)))
      s.updClasp w (fun c => { c with
        seq := (c.seq + 1) % 65536, txPrev := s.time.now
        sent := (tput c.sent c.seq s.time.now).filter (fun e => decide ((c.seq + 65536 - e.1) % 65536 < 16)) }))

/-- Meaning of CLASP_TIME_SEND. -/
def execClaspTimeSend (s : State) := live s (claspTimeSend s)

/-- An offset measured against the manager's time (R353, R356, R363).
Log entry 72 (DEDUCED). -/
def claspOffset (off : Int) (s : State) : State :=
  if s.time.join then
    if decide (off.natAbs ≤ ns s.time.jumpNs) then servo off (updTime (fun t => { t with join := false }) s)
    else if s.planeIds.any (fun p => scheduling (s.plane p).regime) then servo off s
    else if s.time.st = 4 ∨ s.time.step.isSome then s
    else askStep (stepBoundary s) none off (updTime (fun t => { t with join := false }) s)
  else servo off s

/-- Finish the exchange that waits for t3 (R439): mean link delay and own offset, as the correction to be added.
Log entry 65 (DESIGN CHOICE). -/
def finishExchange (west : Bool) (t3 : NetTime) (s : State) : Option Int × State :=
  match (s.clasp west).exch with
  | none => (none, s)
  | some (t2, t4, t1) =>
    if t3 = 0 then (none, s)
    else
      let asym := asymOf (if west then s.time.asymW else s.time.asymE)
      let d : Int := (((t4 : Int) - t1) - ((t3 : Int) - t2)) / 2 + asym
      (some (-((t4 : Int) - t3 - d)), s.updClasp west (fun c => { c with delay := d }))

/-- The body of a TIME unit is taken (R363, R439).
Log entry 71 (DEDUCED). -/
def timeTake (west : Bool) (b : Bytes) (rx : NetTime) (s : State) : State :=
  let c := s.clasp west
  if !c.up then s
  else
    let seq := fld b 0 2
    let pseq := fld b 2 2
    let x := if (c.peerSeq + 1) % 65536 = seq then finishExchange west (timeAt b 8) s else (none, s)
    let exch := if timeAt b 20 = 0 then none else (tfind c.sent pseq).map (fun t1 => (timeAt b 20, rx, t1))
    let s := x.2.updClasp west (fun c => { c with
      peerSeq := seq, rxPeer := rx, exch := exch, peerHops := fld b 4 1, onMgr := bit (fld b 5 1) 2, heard := s.time.mono })
    if s.sys.role ≠ 2 ∨ s.time.source ≠ 3 ∨ timeWay s ≠ some west then s
    else
      let s := endCond 324 0 (updTime (fun t => { t with heard := t.mono }) s)
      match x.1 with
      | some off => claspOffset off s
      | none => s

/-- CLASP_TIME_RECEIVE (R363, R437, R439): a unit that is no good TIME unit is discarded.
Log entry 71 (DEDUCED). -/
def claspTimeReceive (west : Bool) (unit : Bytes) (rx : NetTime) (s : State) : State :=
  match ctrlBody 1 unit with
  | some b => timeTake west b rx s
  | none => s

/-- Meaning of CLASP_TIME_RECEIVE. -/
def execClaspTimeReceive (west : Bool) (unit : Bytes) (rx : NetTime) (s : State) := live s (claspTimeReceive west unit rx s)

/-- CLASP_TIME_SILENCE (R366, R456): HOLDOVER, TIME_CLASP_LOST, and the manager counts as lost.
Log entry 71 (DEDUCED). -/
def claspTimeSilence (s : State) : State :=
  if s.sys.role ≠ 2 ∨ s.time.source ≠ 3 ∨ s.time.mono < s.time.heard + us 100 then s
  else
    let s := if s.time.st = 1 ∨ s.time.st = 2 then holdover s else s
    managerLost (raiseCond 324 0 {} s)

/-- Meaning of CLASP_TIME_SILENCE. -/
def execClaspTimeSilence (s : State) := live s (claspTimeSilence s)

/-! ### Acknowledgement and resending (R435) -/

/-- The oldest message that an ACK names is settled: one to its sender, a DISCOVER, or one to every device, which waits on for the others.
Log entry 75 (DESIGN CHOICE). -/
def settle (src ack : Nat) : List Unacked → List Unacked
  | [] => []
  | u :: t =>
    let m := u.msg
    if m.seq = ack ∧ (m.dst = src ∨ (m.dst = 0xFF ∧ (m.code = 0x10 ∨ u.want.contains src))) then
      let left := u.want.filter (· != src)
      if m.dst = 0xFF ∧ m.code ≠ 0x10 ∧ left ≠ [] then { u with want := left } :: t else t
    else u :: settle src ack t

/-- CLASP_ACK_RECEIVE (R435).
Log entry 75 (DESIGN CHOICE). -/
def ackTake (m : Msg) (s : State) : State := updDom (fun d => { d with unacked := settle m.src m.ack d.unacked }) s

/-- Meaning of CLASP_ACK_RECEIVE. -/
def execClaspAckReceive (west : Bool) (cells : List Bytes) (s : State) := live s (arrive 0x12 west cells ackTake s)

/-- The messages that wait for an ACK, with one of them changed. -/
def setUnacked (dst seq : Nat) (f : Unacked → Unacked) (s : State) : State :=
  updDom (fun d => { d with unacked := d.unacked.map (fun x => if x.msg.dst = dst ∧ x.msg.seq = seq then f x else x) }) s

/-- A message waits for an ACK in vain: the devices it waits for have left, or discovery is over.
Log entry 75 (DESIGN CHOICE). -/
def forlorn (s : State) (u : Unacked) : Bool :=
  u.msg.dst == 0xFF && (if u.msg.code = 0x10 then !s.dom.disc else u.want.all (fun n => !(listeners s).contains n))

/-- A message to be sent again by a port: DIRECTION of a DISCOVER is the way it takes. -/
def again (west : Bool) (m : Msg) : Msg :=
  { m with resent := true, body := if m.code = 0x10 then le 1 (b1 west) ++ m.body.drop 1 else m.body }

/-- CLASP_RESEND_TIMEOUT (R435): 20 us without an ACK, the message goes the other way, or the only way that is left; one to every device
goes both ways.
Log entry 75 (DESIGN CHOICE). -/
def resend (dst seq : Nat) (s : State) : State :=
  match s.dom.unacked.find? (fun u => u.msg.dst == dst && u.msg.seq == seq) with
  | none => s
  | some u =>
    if s.time.mono < u.at' + us 20 then s
    else if forlorn s u then updDom (fun d => { d with unacked := d.unacked.filter (fun x => !(x.msg.dst == dst && x.msg.seq == seq)) }) s
    else
      let w := if (s.clasp (!u.west)).up then !u.west else u.west
      let ways := if dst = 0xFF ∧ u.msg.code ≠ 0x10 then [false, true] else [w]
      let s := setUnacked dst seq (fun x => { x with msg := { x.msg with resent := true }, west := w, at' := s.time.mono }) s
      each (ways.filter (fun w => (s.clasp w).up)) s (fun w s => claspCount w 1 (claspOut w (again w u.msg) s))

/-- Meaning of CLASP_RESEND_TIMEOUT. -/
def execClaspResendTimeout (dst : Nat) (seq : Nat) (s : State) := live s (resend dst seq s)

/-! ### Darkness (R449) -/

/-- A DARK pair is remembered.
Log entry 80 (DEDUCED). -/
def darkKnown (s : State) (origin ident : Nat) : Bool := s.dom.darkMem.any (fun x => x.1 == origin && x.2.1 == ident)

/-- A DARK unit is taken (R449).
Log entry 80 (DEDUCED). -/
def claspDark (west : Bool) (origin ident : Nat) (s : State) : State :=
  if !(s.clasp west).up ∨ origin = s.dom.number ∨ darkKnown s origin ident then s
  else
    let s := updDom (fun d => { d with darkMem := d.darkMem ++ [(origin, ident, s.time.mono)] }) s
    let s := darkOut origin ident (!west) s
    if s.dom.accept then
      occurrence { rem := true, prop := false } 410 { device := origin } (claspCount west 4 s)
    else s

/-- CLASP_DARK_RECEIVE (R437, R449): a unit that is no good DARK unit, or that the PCS marked as errored, is discarded.
Log entry 185 (DESIGN CHOICE). -/
def claspDarkReceive (west : Bool) (unit : Bytes) (errored : Bool) (s : State) : State :=
  match errored, ctrlBody 2 unit with
  | false, some b => claspDark west (fld b 0 1) (fld b 2 2) s
  | _, _ => s

/-- Meaning of CLASP_DARK_RECEIVE. -/
def execClaspDarkReceive (west : Bool) (unit : Bytes) (errored : Bool) (s : State) :=
  live s (claspDarkReceive west unit errored s)

/-- DARK_MEMORY_EXPIRY (R449).
Log entry 80 (DEDUCED). -/
def execDarkMemoryExpiry (origin : Nat) (ident : Nat) (s : State) :=
  live s (updDom (fun d => { d with
    darkMem := d.darkMem.filter (fun x => !(x.1 == origin && x.2.1 == ident && decide (x.2.2 + ms 1 ≤ s.time.mono))) }) s)

/-! ### Notices, scheduler commands, records and events (R445, R447, R450) -/

/-- NOTICE_RECEIVE (R243, R271, R337, R447).
Log entry 21 (DEDUCED). -/
def noticeTake (m : Msg) (s : State) : State :=
  let b := m.body
  let d := fld b 1 1
  let i := fld b 4 2
  let o := fld b 6 2
  if s.sys.role ≠ 1 ∨ 32 ≤ d then s
  else if fld b 0 1 = 2 then takeRegimeAt d 0 (timeAt b 8) s
  else if fld b 0 1 < 2 then revokeCircuit d i o (fld b 0 1) (timeAt b 8) (withdrawPair d i o s)
  else s

/-- Meaning of NOTICE_RECEIVE. -/
def execNoticeReceive (west : Bool) (cells : List Bytes) (s : State) := live s (arrive 0x22 west cells noticeTake s)

/-- What a SCHED_CMD comes to on this worker: status, time of effect and the new state (R266, R309, R545 to R548). -/
def schedAct (b : Bytes) (s : State) : Nat × NetTime × State :=
  let i := fld b 4 2
  let o := fld b 6 2
  let e := fld b 20 2
  let t := timeAt b 8
  match localOf s (fld b 1 1), fld b 0 1 with
  | _, 4 => (0, t, timeDoubt true s)
  | none, _ => (3, t, s)
  | some p, 0 => match changeRegime p (fld b 2 1) t s with
    | .ok (t, s) => (0, t, s)
    | .error e => (e.st, t, s)
  | some p, 1 => (0, t, containNamed p i o e s)
  | some p, 2 => (0, t, restoreLocal p (bit (fld b 3 1) 0) i o s)
  | some p, 3 => (0, t, darkLocal p e s)
  | some _, _ => (3, t, s)

/-- SCHED_CMD on a worker, with its reply, and the reply on the manager (R441, R447). -/
def schedTake (m : Msg) (s : State) : State :=
  let b := m.body
  let a := fld b 0 1
  if 128 ≤ a then (if a = 128 then schedAnswered (fld b 1 1) (fld b 22 2) (timeAt b 8) s else s)
  else if s.sys.role ≠ 2 then s
  else
    let r := schedAct b s
    claspSend 0x23 m.src (schedBody (a + 128) (fld b 1 1) (fld b 2 1) (fld b 3 1) (fld b 4 2) (fld b 6 2) r.2.1 (fld b 20 2) r.1) r.2.2

/-- Meaning of SCHED_CMD_RECEIVE. -/
def execSchedCmdReceive (west : Bool) (cells : List Bytes) (s : State) := live s (arrive 0x23 west cells schedTake s)

/-- Meaning of FACET_REC_RECEIVE (R291, R445). -/
def execFacetRecReceive (west : Bool) (cells : List Bytes) (s : State) := live s (arrive 0x20 west cells facetRec s)

/-- Meaning of FACET_ACK_RECEIVE (R291). -/
def execFacetAckReceive (west : Bool) (cells : List Bytes) (s : State) := live s (arrive 0x21 west cells facetAck s)

/-- EVENT_MSG_RECEIVE (R450): logged, and DOMAIN_REMOTE_EVENT; a worker's clasp link that went down opens the ring (R453), and one that
came up starts discovery (R442).
Log entry 76 (DEDUCED). -/
def eventTake (m : Msg) (s : State) : State :=
  if s.sys.role ≠ 1 then s
  else
    let e := fld m.body 0 2
    let p := pushLog 4096 s.dom.log s.dom.lost { device := m.src, event := e, time := timeAt m.body 4, data := dataAt m.body 16 }
    let s := raiseEvent 418 { device := m.src, value := e } (updDom (fun d => { d with log := p.1, lost := p.2 }) s)
    let s := if e = 51 ∧ fld m.body 16 1 < 2 then announce (moveAllow (2 * m.src + fld m.body 16 1) s) else s
    if s.dom.ring = 1 ∧ e = 405 then ringBreak m.src (eastOf s m.src) s
    else if s.dom.ring = 1 ∧ e = 406 then ringBreak (westOf s m.src) m.src s
    else if e = 419 ∨ e = 420 then startDiscovery s
    else s

/-- Meaning of EVENT_MSG_RECEIVE. -/
def execEventMsgReceive (west : Bool) (cells : List Bytes) (s : State) := live s (arrive 0x31 west cells eventTake s)

/-! ### Domain commands (R459 to R465) -/

/-- `domain.config` (R459). -/
def cmdDomainConfig : Cmd where
  op := 0x0F01
  checks p _ := layout [1, 3, 4, 4, 4] p ++
    [range p 0 1 0 3, resv p 1 3, range p 4 4 100 10000000, range p 8 4 50 1000000, range p 12 4 10 10000]
  run r s :=
    let p := r.pay
    let fl := fld p 0 1
    guarded [(s.sys.role == 2 && s.dom.holdover.isSome, busy)]
      (ok (setCfg (fun c => { c with
          propagate := bit fl 0, accept := bit fl 1, holdoverUs := fld p 4 4, silenceUs := fld p 8 4, tunnelMs := fld p 12 4 })
        (updDom (fun d => { d with
          propagate := bit fl 0, accept := bit fl 1, holdoverUs := fld p 4 4, silenceUs := fld p 8 4, tunnelMs := fld p 12 4 }) s)))

/-- Meaning of `domain.config`. -/
def execDomainConfig (req : Req) (s : State) := command cmdDomainConfig req s

/-- The farthest device that a worker hears along a port, itself where it hears none: every device of an open ring is heard on one side.
Log entry 182 (DEDUCED). -/
def farthest (s : State) (west : Bool) : Nat :=
  (((s.clasp west).peers.filter (fun e => decide (s.time.mono < e.2.2 + us 100))).foldl (fun (a : Nat × Nat) e =>
    if a.2 < e.2.1 then (e.1, e.2.1) else a) (s.dom.number, 0)).1

/-- BREAK (R460): on a worker of an open ring, the two ends of the chain of devices that it hears.
Log entry 182 (DEDUCED). -/
def breakShown (s : State) : Nat :=
  if s.dom.ring ≠ 2 then 0xFFFF
  else if s.sys.role = 2 then farthest s false + 256 * farthest s true
  else s.dom.brk

/-- `domain.status` (R460).
Log entries 76 (DEDUCED), 77 (DEDUCED). -/
def cmdDomainStatus : Cmd where
  op := 0x0F02
  checks p _ := layout [] p
  run _ s :=
    let d := s.dom
    let fl := b1 (s.clasp false).up + 2 * b1 (s.clasp true).up + 4 * b1 d.mgrUp + 8 * b1 d.holdover.isSome + 16 * b1 d.conflict
    ok s (le 1 (if s.sys.role = 3 then 0xFF else s.sys.role) ++ le 1 d.number ++ le 1 d.ring ++ le 1 fl
      ++ le 2 (if s.sys.role = 2 then d.mgrMembers else if s.sys.role = 0 then 1 else membersMask s)
      ++ le 2 (breakShown s) ++ timeLe ((d.holdover.map (·.2)).getD 0))

/-- Meaning of `domain.status`. -/
def execDomainStatus (req : Req) (s : State) := command cmdDomainStatus req s

/-- An entry of `domain.members` (R461); entry 0 is this device itself. LAST_HEARD_US counts from reset where no heartbeat has come since.
Log entry 77 (DEDUCED). -/
def memberBytes (s : State) (n : Nat) : Bytes :=
  if n = 0 then le 8 Config.identity ++ le 1 (3 + 4 * b1 (s.time.st == 2)) ++ le 7 0
  else
    let m := s.member n
    le 8 m.identity ++ le 1 (b1 m.admitted + 2 * b1 m.reachable + 4 * b1 m.locked) ++ le 1 m.hopsE ++ le 1 m.hopsW ++ le 1 0
      ++ le 4 (if m.identity = 0 then 0 else sat 32 ((s.time.mono - m.heard) / us 1))

/-- `domain.members` (R461). -/
def cmdDomainMembers : Cmd where
  op := 0x0F03
  checks p _ := layout [] p
  run _ s := guarded [(s.sys.role == 2, empty)] (ok s ((List.range 16).flatMap (memberBytes s)))

/-- Meaning of `domain.members`. -/
def execDomainMembers (req : Req) (s : State) := command cmdDomainMembers req s

/-- `domain.member_edit` (R443, R462): the number's binding changes; who is admitted changes with the next discovery.
Log entry 81 (DEDUCED). -/
def cmdDomainMemberEdit : Cmd where
  op := 0x0F04
  checks p s := layout [1, 1, 2, 8] p ++
    [range p 0 1 1 15, range p 1 1 0 1, resv p 2 2,
     (fld p 1 1 == 1 && (fld p 4 8 == Config.identity || s.dom.members.any (fun e => e.1 != fld p 0 1 && e.2.identity == fld p 4 8)), bad 4)]
  run r s :=
    let n := fld r.pay 0 1
    let id := if fld r.pay 1 1 = 1 then fld r.pay 4 8 else 0
    let lit := (s.member n).admitted && [2 * n, 2 * n + 1].any (fun d => dregime s d != 0)
    guarded [(lit, busyLit)]
      (ok (setCfg (fun c => { c with members := tset 0 c.members n id }) (s.updMember n (fun m =>
        { m with identity := id }))))

/-- Meaning of `domain.member_edit`. -/
def execDomainMemberEdit (req : Req) (s : State) := command cmdDomainMemberEdit req s

/-- `domain.set_role` (R429, R463). -/
def cmdDomainSetRole : Cmd where
  op := 0x0F05
  checks p _ := layout [1, 3] p ++ [range p 0 1 0 2, resv p 1 3]
  run r s := guarded [(!s.allIdle, busyLit)] (ok (setCfg (fun c => { c with role := fld r.pay 0 1 + 1 }) s))

/-- Meaning of `domain.set_role`. -/
def execDomainSetRole (req : Req) (s : State) := command cmdDomainSetRole req s

/-- An event record (R464, R503). -/
def evBytes (x : EvRec) : Bytes := le 1 x.device ++ le 1 0 ++ le 2 x.event ++ timeLe x.time ++ dataBytes x.data

/-- `domain.events` (R464).
Log entry 129 (DEDUCED). -/
def cmdDomainEvents : Cmd where
  op := 0x0F06
  checks p _ := [sel p 0 2 1 128] ++ layout [2, 2] p ++ [resv p 2 2]
  run r s :=
    let l := s.dom.log.take (fld r.pay 0 2)
    guarded [(l.isEmpty, empty)]
      (ok (updDom (fun d => { d with log := d.log.drop l.length, lost := 0 }) s)
        (le 2 l.length ++ le 2 s.dom.lost ++ l.flatMap evBytes))

/-- Meaning of `domain.events`. -/
def execDomainEvents (req : Req) (s : State) := command cmdDomainEvents req s

/-- `domain.counters` (R465). -/
def cmdDomainCounters : Cmd where
  op := 0x0F07
  checks p _ := layout [1, 1, 2] p ++ [range p 0 1 0 1, range p 1 1 0 1, resv p 2 2]
  run r s :=
    let w := fld r.pay 0 1 == 1
    ok (if fld r.pay 1 1 = 1 then s.updClasp w (fun c => { c with counters := [] }) else s)
      ((List.range 6).flatMap (fun i => le 4 (tget 0 (s.clasp w).counters i)))

/-- Meaning of `domain.counters`. -/
def execDomainCounters (req : Req) (s : State) := command cmdDomainCounters req s

end Sys2Proof.Machine
end

