-- ==== Sys2Proof/Machine/Cal.lean ====
section
/-! DEFINITION. Calibration (chapter 13): what each phase makes of its measurements, the calibration in force, background
visits, reference trims, the image, and the calibration commands (R510 to R537). -/

namespace Sys2Proof.Machine

/-- Change calibration. -/
def updCal (f : CalSt → CalSt) (s : State) : State := { s with cal := f s.cal }

/-! ### Records and the image (R527 to R530) -/

/-- A record with its CRC-32C. -/
def sealed (b : Bytes) : Bytes := b ++ le 4 (crc32c b)

/-- A cell record (R529). -/
def cellBytes (c : CellCal) : Bytes :=
  sealed (le 4 (uns 32 c.dc) ++ le 4 c.pPi ++ le 4 c.tauNs ++ le 2 c.k ++ le 2 c.flags ++ le 4 c.mMax ++ le 2 c.tol ++ le 2 c.ext
    ++ le 2 c.resid ++ le 2 0)

/-- An element record (R530). -/
def elemBytes (e : ElemCal) : Bytes :=
  sealed (le 1 e.fsTrim ++ le 1 e.flags ++ le 2 e.ohm ++ le 2 e.rbGain ++ le 2 (uns 16 e.rbOfs) ++ le 4 e.openCode)

/-- A monitor record (R530). -/
def monBytes (m : MonCal) : Bytes :=
  sealed (le 2 (uns 16 m.ofs) ++ le 1 m.gain ++ le 1 m.flags ++ le 4 (uns 32 m.resid) ++ le 4 m.noise)

/-- A group record (R530). -/
def groupBytes (g : GroupCal) : Bytes := sealed (le 4 (g.r23 * 1024 + g.r13))

/-- A crosstalk record (R530). -/
def xtBytes (x : XtCal) : Bytes :=
  sealed ((x.coef.take 64).flatMap (fun c => le 2 c.1 ++ le 2 (uns 16 c.2)) ++ (List.replicate (64 - x.coef.length) (le 2 0xFFFF ++ le 2 0)).flatten
    ++ le 2 x.residue ++ le 2 0)

/-- Factory trims of a link as a REF word (R522, R527). -/
def factoryRef (l : Nat) : Nat := Config.factoryTrim l % 4096 + Config.factoryTc l % 65536 * 4096

/-- REF word of a link in a calibration. -/
def refOf (c : Cal) (l : Nat) : Nat := match tget 0 c.refs l with | 0 => factoryRef l | v + 1 => v

/-- The image header (R527). -/
def calHeader (c : Cal) : Bytes :=
  sealed (le 2 1 ++ le 1 c.planes ++ le 1 0 ++ le 4 c.gen ++ le 4 c.mapGen ++ le 4 2810944 ++ timeLe c.written
    ++ (List.range 8).flatMap (fun l => le 4 (refOf c l)))

/-- A stored image passes its own checks (R528): its map is the one in force. -/
def calOk (s : State) (c : Cal) : Bool := (s.sys.map.map (·.gen)) == some c.mapGen

/-! ### Calibration comes into force (R207, R519, R526, R536) -/

/-- Values of R207 for one cell, in the range its arms run in (R119): SIGN, CORR_ARM, SUM and the hold windows; nothing for a cell
without a record.
Log entry 83 (DEDUCED). -/
def loadCell (p cell : Nat) (s : State) : State :=
  let k := cellCal s p cell
  match s.armCh p cell false with
  | none => s
  | some a =>
    if k.pPi = 0 then s
    else
      let s := s.updCtx a (fun c => { c with neg := bit k.flags 2, corrB := bit k.flags 1 })
      let s := each [a, a + 1] s (fun ch s => s.updCtx ch (fun c => { c with sum := min fullCode (toRange s ch (cellSum k)) }))
      each [a, a + 1] s (fun ch s => s.updDrive ch (fun d => { d with winLo := 0, winHi := min fullCode (toRange s ch (cellSum k)) }))

/-- A calibration comes into force (R207): the planes of `ps` that it has results of take its values. -/
def calTake (ps : List Nat) (c : Cal) (s : State) : State :=
  let old := calNow s
  let s := endCond 29 0 (updCal (fun k => { k with cal := some c }) s)
  let s := loadTrims old c s
  let s := each (ps.filter (fun p => bit c.planes p || tget 0 c.phases p != 0)) s (fun p s => each (List.range (s.cells p)) s (loadCell p))
  reState s

/-- The working set in force; before any calibration it holds the reference trims alone.
Log entry 89 (DEDUCED). -/
def workSet (s : State) : Cal :=
  s.cal.cal.getD { mapGen := (s.sys.map.map (·.gen)).getD 0, refs := s.cal.refs }

/-! ### What a phase measures (R515 to R518) -/

/-- Mean of an accumulation. -/
def meanOf (x : Stat) : Int := divRound x.sum x.n

/-- √(a/b), times one, rounded to the nearest integer. -/
def rootRound (a b : Nat) : Nat := if b = 0 then 0 else (Nat.sqrt (4 * a / b) + 1) / 2

/-- Standard deviation of an accumulation (R166). -/
def sigmaOf (x : Stat) : Nat := rootRound (x.n * x.sumsq - x.sum.natAbs ^ 2) (x.n ^ 2)

/-- One step of a ratio code toward `num/3` of full power (R515 step 1): the new code, and whether it was clamped.
Log entry 91 (DEDUCED). -/
def ratioStep (code num p0 p p3 : Nat) : Nat × Bool :=
  if p ≤ p0 ∨ p3 ≤ p0 then (code, true)
  else
    let v := rootRound ((1024 + code) ^ 2 * num * (p3 - p0)) (3 * (p - p0))
    (clampN v 1024 2047 - 1024, decide (v < 1024) || decide (2047 < v))

/-- The rounds of a group: until both codes stay, at most four (R515 step 1). -/
def ratioRounds : Nat → List (Nat × Nat × Nat × Nat) → GroupCal × Bool → GroupCal × Bool
  | 0, _, g => g
  | _, [], g => g
  | n + 1, (p0, p1, p2, p3) :: t, g =>
    let a := ratioStep g.1.r13 1 p0 p1 p3
    let b := ratioStep g.1.r23 2 p0 p2 p3
    if a.1 = g.1.r13 ∧ b.1 = g.1.r23 then (g.1, g.2 || a.2 || b.2)
    else ratioRounds n t ({ r13 := a.1, r23 := b.1 }, g.2 || a.2 || b.2)

/-- FS_TRIM from the measured full-level power (R515 step 2): the trim, and whether it was clamped.
Log entry 91 (DEDUCED). -/
def fsStep (full p3 trim : Nat) : Nat × Bool :=
  if p3 = 0 then (255, true)
  else
    let v := rootRound ((1152 + trim) ^ 2 * full) p3
    (clampN v 1152 1407 - 1152, decide (v < 1152) || decide (1407 < v))

/-- Change the work of the run. -/
def updWork (f : Cal → Cal) (s : State) : State :=
  updCal (fun k => { k with run := k.run.map (fun r => { r with work := f r.work }) }) s

/-- The work of the run. -/
def workOf (s : State) : Cal := (s.cal.run.map (·.work)).getD {}

/-- CAL_TRIM_LIMIT of a plane, when a trim was clamped. -/
def trimLimit (p : Nat) (b : Bool) (d : EvData) (s : State) : State := if b then raiseFault (238 + p) d s else s

/-- DARK, step 1: a drive group. -/
def darkGroup (p : Nat) (m : GroupMeas) (s : State) : State :=
  let r := ratioRounds 4 m.rounds (tget {} (workOf s).groups m.group, false)
  trimLimit p r.2 { plane := p, link := m.group / 144 } (updWork (fun c => { c with groups := tset {} c.groups m.group r.1 }) s)

/-- The least-squares line through readbacks at 16 evenly spaced codes (R515 step 3), against full power: gain in Q2.14, offset in 2^-16 of
P_FS, and whether a residual exceeds 1 % of P_FS. The line runs at (5440 Σ m − 120 b + 16 b i) / 87040 for code i, where
b = 16 Σ i m − 120 Σ m. -/
def rbFit (full : Nat) (l : List Nat) : Nat × Int × Bool :=
  let sum : Int := (l.sum : Nat)
  let b : Int := 16 * ((l.zipIdx.map (fun e => e.1 * e.2)).sum : Nat) - 120 * sum
  let line := fun (i : Nat) => 5440 * sum - 120 * b + 16 * b * i
  ((divRound (b * 15 * 16384) (5440 * full)).toNat, divRound (line 0 * 65536) (87040 * full),
    l.zipIdx.any (fun e => decide (87040 * full < 100 * (87040 * (e.1 : Int) - line e.2).natAbs)))

/-- DARK, steps 2 to 4: an element, whose readback scale stays where no readbacks were taken.
Log entry 184 (DEDUCED). -/
def darkElem (p : Nat) (m : ElemMeas) (s : State) : State :=
  let e := tget {} (workOf s).elems m.ch
  let t := fsStep (fullPower s m.ch) m.p3 e.fsTrim
  let fit := if m.rb.length = 16 then rbFit (fullPower s m.ch) m.rb else (e.rbGain, e.rbOfs, bit e.flags 0)
  let nonlin := fit.2.2
  let fl := b1 nonlin + 2 * b1 (decide (m.ohm < 1500) || decide (4000 < m.ohm)) + 4 * b1 t.2
  let e := { e with fsTrim := t.1, flags := fl, ohm := sat 16 m.ohm, rbGain := sat 16 fit.1
                    rbOfs := clampI fit.2.1 (-32768) 32767 }
  let d : EvData := { plane := p, link := m.ch / 1152, chan := m.ch }
  let s := trimLimit p t.2 d (updWork (fun c => { c with elems := tset {} c.elems m.ch e }) s)
  if nonlin then raiseFault (236 + p) d s else s

/-- OFS_TRIM steps that cancel a mean at a gain (R90, R515 step 5). -/
def ofsSteps (mean : Int) (gain : Nat) : Int := divRound (mean * 5120) (10486 * (384 + gain))

/-- DARK, step 5: a monitor. -/
def darkMon (p : Nat) (m : MonMeas) (s : State) : State :=
  let x := tget {} (workOf s).mons m.mon
  let v := x.ofs - ofsSteps (meanOf m.first) x.gain
  let lim := decide (v < -511) || decide (511 < v)
  let x := { x with ofs := clampI v (-511) 511, flags := x.flags / 2 * 2 + b1 lim, resid := meanOf m.second
                    noise := sat 32 (sigmaOf m.second) }
  trimLimit p lim { plane := p, link := m.mon / 640, chan := m.mon } (updWork (fun c => { c with mons := tset {} c.mons m.mon x }) s)

/-- The first point of a search with the greatest reading. -/
def peakOf : List (Nat × Int) → Option (Nat × Int)
  | [] => none
  | x :: t => match peakOf t with
    | some y => if x.2 < y.2 then some y else some x
    | none => some x

/-- FRINGE: a shutter's open code, where its search read the most.
Log entry 184 (DEDUCED). -/
def fringeElem (m : ElemMeas) (s : State) : State :=
  match peakOf m.search with
  | some x =>
    if s.isShutter m.ch then
      updWork (fun c => { c with elems := tset {} c.elems m.ch { tget {} c.elems m.ch with openCode := min fullCode x.1 } }) s
    else s
  | none => s

/-- FRINGE: GAIN_TRIM of a monitor, its residual offset and noise scaled with the gain (R516). -/
def fringeMon (p : Nat) (m : MonMeas) (s : State) : State :=
  if m.fringe = 0 then s
  else
    let x := tget {} (workOf s).mons m.mon
    let v := divRound ((384 + x.gain : Nat) * 4194304) m.fringe
    let lim := decide (v < 384) || decide (639 < v)
    let g := (clampI v 384 639).toNat - 384
    let x := { x with
      gain := g, flags := x.flags % 2 + 2 * b1 lim, resid := divRound (x.resid * (384 + g : Nat)) (384 + x.gain)
      noise := (divRound (x.noise * (384 + g) : Nat) (384 + x.gain)).toNat }
    trimLimit p lim { plane := p, link := m.mon / 640, chan := m.mon } (updWork (fun c => { c with mons := tset {} c.mons m.mon x }) s)

/-- The least number in an interval at which a monotone test holds, by halving. -/
def leastWhere (f : Nat → Bool) : Nat → Nat → Nat → Nat
  | 0, _, b => b
  | k + 1, a, b => if b ≤ a then b else if f ((a + b) / 2) then leastWhere f k a ((a + b) / 2) else leastWhere f k ((a + b) / 2 + 1) b

/-- Extinction in 0.1 dB: 100·log10 of a ratio, rounded (R516).
Log entry 91 (DEDUCED). -/
def extOf (hi lo : Nat) : Nat :=
  leastWhere (fun n => decide ((hi : Int) * expNeg ((2 * n + 1) * 2302585093) 200000000000 ≤ lo * fixOne)) 12 0 1023

/-- A cell has failed in the run.
Log entry 84 (DEDUCED). -/
def hasFailed (s : State) (cell : Nat) : Bool := (s.cal.run.map (fun r => r.failed.contains cell)).getD false

/-- A cell fails in the run (R516, R519).
Log entry 84 (DEDUCED). -/
def failCell (p cell : Nat) (fringe : Bool) (s : State) : State :=
  let i := p * 1920 + cell
  let s := updCal (fun k => { k with run := k.run.map (fun r => { r with failed := insertAsc cell r.failed }) }) s
  let s := updWork (fun c =>
    let x := tget {} c.cells i
    { c with cells := tset {} c.cells i { x with flags := x.flags ||| (if fringe then 48 else 32) } }) s
  raiseFault (230 + p) { plane := p, chan := (s.armCh p cell false).getD 0xFFFF } s

/-- Residual dark offset of a cell's monitor in the work.
Log entry 87 (DEDUCED). -/
def cellResid (p cell : Nat) (s : State) : Int :=
  ((s.cellMon p cell).map (fun q => (tget {} (workOf s).mons q).resid)).getD 0

/-- D_c and BAR_HIGH from a bar and a cross point (R18): the midpoint nearest zero.
Log entry 171 (DESIGN CHOICE). -/
def centre (bar cross : Int) : Int × Bool :=
  let d := (bar - cross).natAbs
  let m := (bar + cross) / 2
  let k := divRound m d
  (m - k * d, decide (cross < bar) != (k % 2 != 0))

/-- The drives of a search at which Re(H) changes sign, in order (R516). -/
def turns : List (Int × Int) → List Int
  | x :: y :: t => if decide (0 < x.2) != decide (0 < y.2) then y.1 :: turns (y :: t) else turns (y :: t)
  | _ => []

/-- P_FS in uW of the range that the plane map gives a cell's arms (R38, R511). -/
def cellFull (s : State) (p cell : Nat) : Nat :=
  if ((s.armCh p cell false).map (fun a => (s.elemAt a).high)).getD false then 50000 else 12500

/-- BAR and CROSS of a search: its first two changes of sign, each within a span of 2.2·P_π (R516).
Log entry 184 (DEDUCED). -/
def fringeOf (pPiUw full : Nat) (l : List (Int × Int)) : Option (Int × Int) :=
  let near := fun (a b : Int) => decide ((a - b).natAbs * full * 10 ≤ 22 * pPiUw * fullCode)
  match l, turns l with
  | x :: _, bar :: cross :: _ => if near bar x.1 && near cross bar && bar != cross then some (bar, cross) else none
  | _, _ => none

/-- FRINGE: a cell (R516).
Log entries 83 (DEDUCED), 85 (DESIGN CHOICE). -/
def fringeCell (p : Nat) (m : CellMeas) (s : State) : State :=
  let i := p * 1920 + m.cell
  let r := cellResid p m.cell s
  let hi := (m.mMax - r).toNat
  if hasFailed s m.cell then s else
  match fringeOf (s.desc p).pPiUw (cellFull s p m.cell) m.search with
  | none => failCell p m.cell true s
  | some (bar, cross) =>
    if hi < (s.plane p).cfg.lightMin then failCell p m.cell true s else
    let lo := m.mMin - r
    let e : Nat × State := if lo ≤ 0 then (let d := s.draw; (d.1 % 65536, d.2)) else (extOf hi lo.toNat, s)
    let c := centre bar cross
    let x := tget {} (workOf e.2).cells i
    let x := { x with dc := c.1, pPi := (bar - cross).natAbs / 2, mMax := hi, ext := e.1
                      flags := (x.flags &&& 14) ||| b1 c.2 }
    updWork (fun w => { w with cells := tset {} w.cells i x }) e.2

/-- Cosine of a phase in urad, in units of 2^-62. -/
def cosUrad (u : Int) : Int := cosTurn (u * 2 ^ 48 / 6283185)

/-- The fringe's amplitude as a share of M_MAX, 2^-62: one less the extinction. -/
def swing (ext : Nat) : Int := fixOne - dbDown ext

/-- SETTLE_TOL (R517): the smaller deviation at 20 mrad from the working point, Q0.16. -/
def settleTolOf (wp ext : Nat) : Nat :=
  let w : Int := wp * 1000
  let dev := fun (u : Int) => ((cosUrad w - cosUrad u).natAbs : Int) * swing ext / fixOne / 2
  sat 16 (divRound (min (dev (w - 20000)) (dev (w + 20000)) * 65536) (2 ^ 62)).toNat

/-- τ in ns from C and S of the 62.5 kHz capture (R201, R517): H = S + j·C lags by the cell's angle and, for the FAST filter's 1.44 μs, by
0.18 π, whose tangent is 0.634619298. A lag of 90° or more gives the largest value.
Log entry 184 (DEDUCED). -/
def tauOf (c q : Int) : Nat :=
  let num := -c * 1000000000 - q * 634619298
  let den := q * 1000000000 - c * 634619298
  if den ≤ 0 then 2 ^ 32 - 1 else sat 32 (divRound (num * 10000000000000) (den.toNat * 3926990817)).toNat

/-- The phase error of a cell in HOLD, in urad (R250), from a standard deviation in LSB, at a working point in mrad. -/
def phaseError (wp : Nat) (k : CellCal) (sigma : Nat) : Nat :=
  let slope := scale62 ((k.mMax : Int) * 1000000) (swing k.ext * sinTurn ((wp : Int) * 1000 * 2 ^ 48 / 6283185) / fixOne / 2)
  if slope ≤ 0 then 0 else sat 16 (divRound ((sigma : Int) * 1000000 * 1000000) slope.toNat).toNat

/-- DYNAMICS: a cell (R517). It is worse than declared by τ, by k or by P_π (R39), whose codes are of the range of its own entries (R38). -/
def dynCell (p wp : Nat) (m : CellMeas) (s : State) : State :=
  let i := p * 1920 + m.cell
  let x := tget {} (workOf s).cells i
  if x.pPi = 0 ∨ hasFailed s m.cell then s
  else
    let tau := tauOf m.tone.1 m.tone.2
    let k := sat 16 (((fullCode - x.dc.natAbs) * 200 + x.pPi) / (2 * x.pPi))
    let full := cellFull s p m.cell
    let worse := decide ((s.desc p).tauNs < tau) || decide ((fullCode - x.dc.natAbs) * 100 < (s.desc p).kMin * x.pPi)
      || decide ((s.desc p).pPiUw * fullCode < x.pPi * full)
    let fl := (x.flags &&& 1) + 2 * b1 (decide (0 < x.dc)) + 4 * b1 (!bit x.flags 0) + 8 * b1 worse
    let x := { x with tauNs := tau, k := k, tol := settleTolOf wp x.ext, flags := fl }
    let x := { x with resid := phaseError wp x (sigmaOf m.hold) }
    let s := updWork (fun w => { w with cells := tset {} w.cells i x }) s
    if worse then raiseFault (232 + p) { plane := p, chan := (s.armCh p m.cell false).getD 0xFFFF } s else s

/-- The step of XTALK: 10 % of P_FS, in codes (R518). -/
def stepCodes : Nat := 104858

/-- XTALK: a victim element (R518): per element stepped, the change of its mean loop output over the step; the 64 largest coefficients from XTALK_MIN on, and the sum of the rest.
Log entries 90 (DEDUCED), 184 (DEDUCED). -/
def xtElem (p xmin avgN : Nat) (m : XtMeas) (s : State) : State :=
  let coef := m.steps.map (fun e => (e.1, divRound ((e.2.2 - e.2.1) * 32768) (avgN * stepCodes)))
  let l := sortBy (fun a b => decide (b.2.natAbs < a.2.natAbs) || (a.2.natAbs == b.2.natAbs && decide (a.1 ≤ b.1))) coef
  let kept := (l.filter (fun c => decide (xmin ≤ c.2.natAbs))).take 64
  let rest := (l.map (fun c => c.2.natAbs)).sum - (kept.map (fun c => c.2.natAbs)).sum
  let x : XtCal := { coef := kept.map (fun c => (c.1, clampI c.2 (-32768) 32767)), residue := sat 16 rest }
  let s := updWork (fun w => { w with xts := tset {} w.xts m.ch x }) s
  if 327 < rest then raiseFault (234 + p) { plane := p, link := m.ch / 1152, chan := m.ch } s else s

/-- The lowest phase of a mask. -/
def lowPhase (m : Nat) : Nat := if bit m 0 then 1 else if bit m 1 then 2 else if bit m 2 then 4 else if bit m 3 then 8 else 0

/-- The run aborts by its own check (R515, R516, R519). -/
def runAborts (p e : Nat) (s : State) : State := calAbort p e (raiseFault e { plane := p } s)

/-- A phase has ended well. -/
def phaseOver (f : Nat) (s : State) : State :=
  updCal (fun k => { k with run := k.run.map (fun r => { r with phases := r.phases - f }) }) s

/-- A phase has set trims, which the mirror takes (R70, R515, R516).
Log entry 89 (DEDUCED). -/
def takeTrims (old : Cal) (s : State) : State := loadTrims old (workOf s) s

/-- Light reaches a cell's input 0 through this cell of the stage before it (R25, R516).
Log entry 84 (DEDUCED). -/
def feeder (s : State) (p cell : Nat) : Option Nat :=
  let n := s.ports p
  let row := cell % max 1 (n / 2)
  if cell < n / 2 then none
  else ((List.range n).find? (fun l => wire n (cell / max 1 (n / 2) - 1) l == 2 * row)).map (fun l => cell - row - n / 2 + l / 2)

/-- A cell whose light depends on a failed cell fails with it (R516).
Log entry 84 (DEDUCED). -/
def failDark (p cell : Nat) (s : State) : State :=
  if !hasFailed s cell && ((feeder s p cell).map (hasFailed s)).getD false then failCell p cell true s else s

/-- CAL_PHASE_DONE (R515 to R518): the phase that runs turns its measurements into records.
Log entry 84 (DEDUCED). -/
def calPhase (m : CalMeas) (s : State) : State :=
  match s.cal.run with
  | none => s
  | some r =>
    let p := r.plane
    match lowPhase r.phases with
    | 1 =>
      if m.mons.any (fun x => decide ((s.plane p).cfg.darkMax < max (x.second.hi - meanOf x.second).natAbs (meanOf x.second - x.second.lo).natAbs))
        then runAborts p 32 s
      else
        let old := workOf s
        let s := each m.groups s (darkGroup p)
        let s := each m.elems s (darkElem p)
        phaseOver 1 (takeTrims old (each m.mons s (darkMon p)))
    | 2 =>
      let s0 := m.cells.filter (fun c => decide (c.cell < s.ports p / 2))
      if s0 ≠ [] ∧ s0.all (fun c => decide (c.mMax < (s.plane p).cfg.lightMin)) then runAborts p 33 s
      else
        let old := workOf s
        let s := each m.elems s fringeElem
        let s := takeTrims old (each m.mons s (fringeMon p))
        let s := each (sortBy (fun a b => decide (a.cell ≤ b.cell)) m.cells) s (fun c s => fringeCell p c (failDark p c.cell s))
        phaseOver 2 (each (List.range (s.cells p)) s (failDark p))
    | 4 => phaseOver 4 (each m.cells s (dynCell p r.wp))
    | 8 => phaseOver 8 (each m.xts s (xtElem p r.xtMin r.avgN))
    | _ => s

/-- Meaning of CAL_PHASE_DONE. -/
def execCalPhaseDone (meas : CalMeas) (s : State) := live s (calPhase meas s)

/-- Newest stored CAL_GENERATION.
Log entry 46 (DEDUCED). -/
def newestGen (s : State) : Nat := max ((s.nvm.cal.a.map (·.2.gen)).getD 0) ((s.nvm.cal.b.map (·.2.gen)).getD 0)

/-- Contexts and paths of a plane leave the run (R513). -/
def endCalLeases (p : Nat) (s : State) : State :=
  { s with
    ctxs := tmap {} (fun _ c => if c.cal then { openedCtx c with cal := false } else c) s.ctxs
    drives := tmap {} (fun ch d => if s.linkPlane (ch / 1152) = some p then { d with pattern := none } else d) s.drives }

/-- A calibration that moves the default RECONFIG_ALLOW of a plane is announced (R251, R335). -/
def announceCal (old t : State) : State :=
  if old.planeIds.any (fun q => allowNs t q != allowNs old q) then announce t else t

/-- CAL_RUN_DONE (R519): the results come into force.
Log entries 82 (DEDUCED), 89 (DEDUCED). -/
def calRunDone (s : State) : State :=
  match s.cal.run with
  | none => s
  | some r =>
    if r.phases ≠ 0 then s
    else
      let p := r.plane
      let ph := tget 0 r.work.phases p ||| r.asked
      let c := { r.work with
        gen := (newestGen s + 1) % 2 ^ 32, mapGen := (s.sys.map.map (·.gen)).getD 0, written := s.time.now
        phases := tset 0 r.work.phases p ph, planes := if ph = 15 then r.work.planes ||| 2 ^ p else r.work.planes }
      let s := endCalLeases p (updCal (fun k => { k with
        run := none, unsaved := true, wp := if bit r.asked 2 then r.wp else k.wp }) s)
      raiseEvent 51 { plane := p } (announceCal s (calTake [p] c s))

/-- Meaning of CAL_RUN_DONE. -/
def execCalRunDone (s : State) := live s (calRunDone s)

/-! ### Background calibration (R520, R521) -/

/-- The cell monitor's cell is in HOLD. -/
def inHold (s : State) (m : Nat) : Bool := (monCtx s m).map (fun c => (s.ctx c).regime == 2) == some true

/-- A memory BIST runs, which pauses the background (note 24 of R574). -/
def memBist (s : State) : Bool := s.bists.any (fun b => b.2.st == 1)

/-- A monitor that background calibration may visit now (R520, R521). -/
def visitable (s : State) (m : Nat) : Bool :=
  let e := s.monAt m
  let x := s.mon m
  let dark := e.kind == 3 || (e.kind != 0 && !litMonitor s m && !(s.plane e.plane).accepted.any (fun l => facetLights s l.facet m))
  (dark || inHold s m) && x.live && calPlane s != some e.plane && (holders s 4 3 0 m).isEmpty && !memBist s

/-- The next monitor to visit after `m`, in turn. -/
def nextVisit (s : State) (m : Nat) : Option Nat :=
  if !s.cal.bg then none else (range' (m + 1) 5120).map (· % 5120) |>.find? (visitable s)

/-- A visit to a dark monitor (R520): OFS_TRIM moves one step, and the dark noise is updated. -/
def visitDark (m : Nat) (mean : Int) (sigma : Nat) (s : State) : State :=
  let c := calNow s
  let x := tget {} c.mons m
  let far := bit s.cal.bgFlags 0 && decide (s.cal.retrim < (mean - x.resid).natAbs)
  let ofs := if far then clampI (if x.resid < mean then x.ofs - 1 else x.ofs + 1) (-511) 511 else x.ofs
  let y := { x with ofs := ofs, noise := if bit s.cal.bgFlags 1 then sat 32 sigma else x.noise }
  if x = y then s
  else
    let s := updCal (fun k => { k with cal := some { c with mons := tset {} c.mons m y }, unsaved := true }) s
    if ofs = x.ofs then s else setMonTrim m ofs y.gain s

/-- A visit to the monitor of a cell in HOLD (R520): `integ` sums the integrator's contents over the samples of `acc`.
Log entries 87 (DEDUCED), 88 (DEDUCED). -/
def visitHold (m : Nat) (acc : Stat) (integ : Int) (s : State) : State :=
  let e := s.monAt m
  let cell := s.cellNo e
  let k := cellCal s e.plane cell
  let c := calNow s
  let y := { k with resid := phaseError s.cal.wp k (sigmaOf acc) }
  let s := if bit s.cal.bgFlags 1 ∧ y ≠ k then
    updCal (fun x => { x with cal := some { c with cells := tset {} c.cells (e.plane * 1920 + cell) y }, unsaved := true }) s else s
  match monCtx s m with
  | none => s
  | some a =>
    if bit s.cal.bgFlags 2 ∧ s.cal.drift * toRange s a k.pPi * 1048576 * acc.n < integ.natAbs * 1000 then
      raiseFault (228 + e.plane) { plane := e.plane, link := a / 1152, chan := a } s
    else s

/-- CAL_BACKGROUND_VISIT_DONE (R520, R521): the visit is judged and the next one begins. -/
def visitDone (acc : Stat) (integ : Int) (s : State) : State :=
  if !s.cal.bg then s
  else match s.cal.visit with
    | none => updCal (fun k => { k with visit := nextVisit s 5119 }) s
    | some m =>
      let ok' := visitable s m && commissioned s (s.monAt m).plane
      let s := if !ok' then s else if inHold s m then visitHold m acc integ s else visitDark m (meanOf acc) (sigmaOf acc) s
      let s := updCal (fun k => { k with visit := none }) s
      updCal (fun k => { k with visit := nextVisit s m }) s

/-- Meaning of CAL_BACKGROUND_VISIT_DONE. -/
def execCalBackgroundVisitDone (acc : Stat) (integ : Int) (s : State) := live s (visitDone acc integ s)

/-! ### Calibration commands (R531 to R537) -/

/-- A calibration image is being stored (R533). -/
def storing (s : State) : Bool := s.nvm.jobs.any (fun j => match j with | .cal _ => true | _ => false)

/-- Instances of a class on the links of a plane. -/
def onLinks (s : State) (p per : Nat) : List Nat := (s.linksOf p).flatMap (fun l => range' (l * per) per)

/-- A resource of R513 that another party holds, or a test on the plane's links or memories (R531, notes 24 and 25 of R574).
Log entry 92 (DEDUCED). -/
def runConflict (s : State) (p : Nat) : Option Refuse :=
  let first := fun (cls use per : Nat) => ((onLinks s p per).find? (fun i => !(holders s cls use 0 i).isEmpty)).map
    (fun i => (⟨2, ((holders s cls use 0 i).head?.map (·.id)).getD 0, 0⟩ : Refuse))
  match first 5 4 1152, first 4 3 640, first 3 2 8 with
  | some e, _, _ => some e
  | _, some e, _ => some e
  | _, _, some e => some e
  | _, _, _ =>
    if (onLinks s p 5).any (fun n => (s.lane n).uses != 0) || (s.linksOf p).any (fun l => (s.link l).st == 5) || memBist s then some ⟨2, 0, 6⟩
    else if s.pwr.avs = 2 then some ⟨2, 0, 0⟩ else none

/-- Phases whose results are in force for a plane (R512).
Log entry 82 (DEDUCED). -/
def phasesDone (s : State) (p : Nat) : Nat := tget 0 (calNow s).phases p

/-- Every earlier phase of an asked mask has results, or runs before it (R512).
Log entry 82 (DEDUCED). -/
def phasesReady (done asked : Nat) : Bool :=
  (List.range 4).all (fun i => !bit asked i || (List.range i).all (fun j => bit asked j || bit done j))

/-- `cal.commission` (R512 to R514, R531).
Log entry 92 (DEDUCED). -/
def cmdCalCommission : Cmd where
  op := 0x1001
  checks p s := layout [1, 1, 1, 1, 2, 2, 2, 2] p ++
    [badPlane s p 0, range p 1 1 1 15, (decide (1 < fld p 2 1) || (decide (1 < fld p 1 1) && !bit (fld p 2 1) 0), bad 2), resv p 3 1,
     (fld p 4 2 != 0 && (decide (fld p 4 2 < 16) || decide (1024 < fld p 4 2) || fld p 4 2 % 2 == 1), bad 4),
     (fld p 6 2 != 0 && (decide (fld p 6 2 < 10) || decide (200 < fld p 6 2)), bad 6), resv p 10 2]
  floor _ _ := 700
  run r s :=
    let p := fld r.pay 0 1
    let asked := fld r.pay 1 1
    let dflt := fun (o d : Nat) => if fld r.pay o 2 = 0 then d else fld r.pay o 2
    guarded [((runConflict s p).isSome, (runConflict s p).getD busy), ((s.plane p).regime != 0, busyLit),
        ((s.linksOf p).any (fun l => (s.link l).st != 2 || refMissing s l) || !(s.plane p).parked || !phasesReady (phasesDone s p) asked
          || ((s.ptemp p).st != 0 && (s.ptemp p).st != 2), notReady),
        (s.cal.run.isSome || storing s, busy)]
      (let run : CalRun := { plane := p, phases := asked, asked := asked, avgN := dflt 4 64, wp := dflt 6 40, xtMin := dflt 8 33, work := workSet s }
       let s := updCal (fun k => { k with
         run := some run, visit := if (k.visit.map (fun m => (s.monAt m).plane == p)).getD false then none else k.visit }) s
       ok (each (onLinks s p 1152) s (fun c s => s.updCtx c (fun x => { x with cal := true }))))

/-- Meaning of `cal.commission`. -/
def execCalCommission (req : Req) (s : State) := command cmdCalCommission req s

/-- `cal.background` (R520, R532). -/
def cmdCalBackground : Cmd where
  op := 0x1002
  checks p _ := layout [1, 1, 2, 4, 2, 2] p ++
    [range p 0 1 0 1, range p 1 1 0 7, resv p 2 2, range p 4 4 524 1000000, range p 8 2 1 500, resv p 10 2]
  run r s :=
    let p := r.pay
    guarded [(!s.planeIds.any (commissioned s), notReady)]
      (let s := updCal (fun k => { k with
         bg := fld p 0 1 == 1, bgFlags := fld p 1 1, retrim := fld p 4 4, drift := fld p 8 2, visit := if fld p 0 1 = 1 then k.visit else none }) s
       ok (if s.cal.visit.isNone then updCal (fun k => { k with visit := nextVisit s 5119 }) s else s))

/-- Meaning of `cal.background`. -/
def execCalBackground (req : Req) (s : State) := command cmdCalBackground req s

/-- Cells of the calibration in force with FAILED set. -/
def failedCells (s : State) : Nat := ((s.cal.cal.map (fun c => (c.cells.filter (fun e => bit e.2.flags 5)).length)).getD 0)

/-- Number of phases in a mask. -/
def phaseCount (m : Nat) : Nat := ((List.range 4).filter (bit m)).length

/-- `cal.status` (R533). ETA_MS of a run is an estimate the manual does not state: a free value.
Log entry 86 (DESIGN CHOICE). -/
def cmdCalStatus : Cmd where
  op := 0x1003
  checks p _ := layout [] p
  run _ s :=
    let c := s.cal
    let ok' := fun (b : Option (Nat × Cal)) => (b.map (fun x => calOk s x.2)).getD false
    let fl := b1 c.unsaved + 2 * b1 c.bg + 4 * b1 (ok' s.nvm.cal.a) + 8 * b1 (ok' s.nvm.cal.b) + 16 * b1 c.bankB
    let d : Nat × State := if c.run.isSome then s.draw else (0, s)
    let run := c.run.getD {}
    ok d.2 (le 1 (if c.run.isSome then 1 else if storing s then 2 else 0) ++ le 1 run.plane ++ le 1 (lowPhase run.phases) ++ le 1 fl
      ++ le 4 ((c.cal.map (·.gen)).getD 0)
      ++ le 2 (if c.run.isSome then 1000 * (phaseCount run.asked - phaseCount run.phases) / max 1 (phaseCount run.asked) else 0)
      ++ le 2 (failedCells s) ++ le 4 d.1 ++ le 4 c.badRecord)

/-- Meaning of `cal.status`. -/
def execCalStatus (req : Req) (s : State) := command cmdCalStatus req s

/-- The middle of a sorted list.
Log entry 187 (DESIGN CHOICE). -/
def medianOf (l : List Nat) : Nat := (sortBy (fun a b => decide (a ≤ b)) l).getD (l.length / 2) 0

/-- Plane summary (R534). -/
def planeSummary (s : State) (p : Nat) : Bytes :=
  let all := (List.range (s.cells p)).map (cellCal s p)
  let l := all.filter (fun c => !bit c.flags 5)
  let wide := ((calNow s).xts.filter (fun e => (s.elemAt e.1).kind != 0 && (s.elemAt e.1).plane == p && decide (327 < e.2.residue))).length
  let ext := l.map (·.ext)
  let res := l.map (·.resid)
  le 2 l.length ++ le 2 (all.length - l.length) ++ le 2 (l.filter (fun c => bit c.flags 3)).length
    ++ le 2 (if ext = [] then 0 else ext.foldl min 65535) ++ le 2 (medianOf ext) ++ le 2 (medianOf res) ++ le 2 (res.foldl max 0)
    ++ le 2 wide ++ timeLe (calNow s).written

/-- A lane record (R534). -/
def laneRecord (s : State) (n : Nat) : Bytes := le 2 n ++ le 2 (tget 0 s.cal.eye n) ++ timeLe (tget 0 s.cal.scanned n)

/-- Records of a table. -/
def calTable (s : State) (t p : Nat) : Nat := match t with
  | 1 => s.cells p | 2 => 9216 | 3 => 5120 | 4 => 1152 | 5 => 9216 | 7 => 52 | _ => 0

/-- One record of a table. -/
def calRecord (s : State) (t p i : Nat) : Bytes :=
  let c := calNow s
  match t with
  | 1 => cellBytes (cellCal s p i)
  | 2 => elemBytes (tget {} c.elems i)
  | 3 => monBytes (tget {} c.mons i)
  | 4 => groupBytes (tget {} c.groups i)
  | 5 => xtBytes (tget {} c.xts i)
  | _ => laneRecord s i

/-- `cal.read` (R534). -/
def cmdCalRead : Cmd where
  op := 0x1004
  checks p _ :=
    let t := fld p 0 1
    [sel p 0 1 0 7] ++ (if t = 0 ∨ t = 6 then [] else [sel p 4 2 1 (if t = 5 then 248 else 1000)]) ++ layout [1, 1, 2, 2, 2] p ++
    [((t == 1 || t == 6) && decide (1 < fld p 1 1), bad 1), resv p 6 2]
  run r s :=
    let t := fld r.pay 0 1
    let p := fld r.pay 1 1
    let i := fld r.pay 2 2
    let n := fld r.pay 4 2
    guarded [((t == 1 || t == 6) && (!s.planeIds.contains p || !commissioned s p), empty), (t != 7 && s.cal.cal.isNone, empty),
        (t != 0 && t != 6 && decide (calTable s t p ≤ i), bad 2), (t != 0 && t != 6 && decide (calTable s t p < i + n), bad 4)]
      (ok s (if t = 0 then calHeader (calNow s) else if t = 6 then planeSummary s p else (range' i n).flatMap (calRecord s t p)))

/-- Meaning of `cal.read`. -/
def execCalRead (req : Req) (s : State) := command cmdCalRead req s

/-- `cal.store` (R525, R535). -/
def cmdCalStore : Cmd where
  op := 0x1005
  checks p _ := layout [4] p ++ [resv p 0 4]
  run _ s :=
    guarded [(!s.cal.unsaved, empty), (s.cal.run.isSome || storing s, busy)] (ok (startJob (.cal (workSet s)) s))

/-- Meaning of `cal.store`. -/
def execCalStore (req : Req) (s : State) := command cmdCalStore req s

/-- A calibration as it is read from flash: a plane it commissions has all its phases.
Log entry 82 (DEDUCED). -/
def fromFlash (c : Cal) : Cal :=
  { c with phases := [0, 1].foldl (fun t p => if bit c.planes p then tset 0 t p 15 else tdel t p) c.phases }

/-- `cal.select` (R536). -/
def cmdCalSelect : Cmd where
  op := 0x1006
  checks p _ := layout [1, 1, 2] p ++ [range p 0 1 0 1, range p 1 1 0 1, resv p 2 2]
  run r s :=
    let b := fld r.pay 0 1 == 1
    let img := ((if b then s.nvm.cal.b else s.nvm.cal.a).map (·.2)).filter (calOk s)
    guarded [(!s.allIdle, busyLit), (s.cal.unsaved && fld r.pay 1 1 == 0, ⟨2, 0, 0⟩), (img.isNone, empty),
        (s.cal.run.isSome || storing s, busy)]
      (ok (announceCal s (calTake s.planeIds (fromFlash (img.getD {})) (updCal (fun k => { k with unsaved := false, bankB := b }) s))))

/-- Meaning of `cal.select`. -/
def execCalSelect (req : Req) (s : State) := command cmdCalSelect req s

/-- `cal.ref_trim` (R522, R523, R537).
Log entry 89 (DEDUCED). -/
def cmdCalRefTrim : Cmd where
  op := 0x1007
  checks p _ := layout [1, 1, 2, 2, 2] p ++ [range p 0 1 0 7, range p 1 1 0 1, (fld p 1 1 == 1 && decide (4095 < fld p 2 2), bad 2), resv p 6 2]
  run r s :=
    let l := fld r.pay 0 1
    let word := fld r.pay 2 2 + fld r.pay 4 2 * 4096
    let rsp := fun (w : Nat) => le 2 (w % 4096) ++ le 2 (w / 4096 % 65536)
    let c := workSet s
    if fld r.pay 1 1 = 0 then ok s (rsp (refOf c l))
    else
      guarded [(((s.linkPlane l).map s.lit).getD false, busyLit)]
        (let refs := tset 0 c.refs l (if word = factoryRef l then 0 else word + 1)
         let s := updCal (fun k => { k with
           cal := k.cal.map (fun x => { x with refs := refs }), refs := if k.cal.isNone then refs else k.refs, unsaved := true }) s
         ok (s.updSense l (fun k => if k.refOn then { k with refAt := s.time.mono, refReady := false } else k)) (rsp word))

/-- Meaning of `cal.ref_trim`. -/
def execCalRefTrim (req : Req) (s : State) := command cmdCalRefTrim req s

end Sys2Proof.Machine
end

