-- ==== Sys2Proof/Machine/Fault.lean ====
section
/-! DEFINITION. Fault commands (R562 to R570) and the hold of an injected cause. -/

namespace Sys2Proof.Machine

/-! ### fault.status -/

/-- FLAGS of a record (R563). -/
def recordFlags (s : State) (r : FaultRec) : Nat :=
  b1 r.acked + 2 * b1 (causePresent s r.event) + 4 * b1 r.injected + 8 * b1 r.remote

/-- A record as `fault.status` returns it (R563). -/
def recordBytes (s : State) (r : FaultRec) : Bytes :=
  le 2 r.event ++ le 1 r.sev ++ le 1 r.base ++ le 1 (recordFlags s r) ++ le 1 (scopeOf r.event) ++ le 2 r.occ
    ++ timeLe r.first ++ timeLe r.last ++ dataBytes r.data

/-- `fault.status` (R563). -/
def cmdFaultStatus : Cmd where
  op := 0x1101
  checks p _ := [sel p 2 2 1 80] ++ layout [2, 2] p
  run r s :=
    let p := r.pay
    let l := s.flt.records.filter (fun x => decide (fld p 0 2 ≤ x.event))
    let n := min (fld p 2 2) l.length
    ok s (le 2 n ++ le 2 (((l.drop n).head?.map (·.event)).getD 0xFFFF) ++ le 4 0
      ++ (l.take n).flatMap (recordBytes s))

/-- Meaning of `fault.status`. -/
def execFaultStatus (req : Req) (s : State) := command cmdFaultStatus req s

/-! ### fault.ack -/

/-- Mark one record ACKED and log it (R558, R570). -/
def ackRecord (r : FaultRec) (s : State) : State :=
  faultLog r.event r.sev 2 r.injected r.remote r.data
    { s with flt := { s.flt with records := putRecord { r with acked := true } s.flt.records } }

/-- Records that an EVENT field names; 0xFFFF names all. -/
def namedRecords (s : State) (e : Nat) : List FaultRec :=
  if e = 0xFFFF then s.flt.records else (recordOf s e).toList

/-- `fault.ack` (R558, R565). -/
def cmdFaultAck : Cmd where
  op := 0x1102
  checks p _ := layout [2, 2] p ++ [resv p 2 2]
  run r s :=
    let l := namedRecords s (fld r.pay 0 2)
    guarded [(l.isEmpty, empty)] (ok (each l s ackRecord) (le 2 l.length ++ le 2 0))

/-- Meaning of `fault.ack`. -/
def execFaultAck (req : Req) (s : State) := command cmdFaultAck req s

/-! ### fault.clear -/

/-- `fault.clear` (R559, R566). -/
def cmdFaultClear : Cmd where
  op := 0x1103
  checks p _ := layout [2, 2] p ++ [resv p 2 2]
  run r s :=
    let e := fld r.pay 0 2
    let named := namedRecords s e
    let l := named.filter (clearable s)
    let t := reState (each l s clearRecord)
    let done := ok t (le 2 l.length ++ le 2 t.flt.records.length)
    if e = 0xFFFF then done
    else guarded [(named.isEmpty, empty), (named.any (fun x => !x.acked), notReady), (causePresent s e, busy)] done

/-- Meaning of `fault.clear`. -/
def execFaultClear (req : Req) (s : State) := command cmdFaultClear req s

/-! ### fault.set_severity, fault.config -/

/-- `fault.set_severity` (R561, R567): stored in NVM, and for later occurrences. -/
def cmdFaultSetSeverity : Cmd where
  op := 0x1104
  checks p _ :=
    layout [2, 1, 1] p ++
    [((faultRow (fld p 0 2)).isNone, bad 0),
     (fld p 2 1 != 0xFF && (decide (4 < fld p 2 1) || decide (fld p 2 1 < ((faultRow (fld p 0 2)).map (·.floor)).getD 0)),
      bad 2), resv p 3 1]
  run r s :=
    let e := fld r.pay 0 2
    let v := fld r.pay 2 1
    let row := (faultRow e).getD ⟨0, 0, 7, 0, 0, false⟩
    let s := if v = 0xFF then s else
      faultLog e v 4 false false {} (setCfg (fun c => { c with severity := tput c.severity e (v + 1) })
        { s with flt := { s.flt with severity := tput s.flt.severity e v } })
    ok s (le 1 (severityOf s e) ++ le 1 row.dflt ++ le 1 row.floor ++ le 1 0)

/-- Meaning of `fault.set_severity`. -/
def execFaultSetSeverity (req : Req) (s : State) := command cmdFaultSetSeverity req s

/-- `fault.config` (R560, R561, R568): the severity threshold is stored in NVM. -/
def cmdFaultConfig : Cmd where
  op := 0x1105
  checks p _ := layout [1, 1, 2] p ++ [range p 0 1 1 4, resv p 1 1, range p 2 2 1 100]
  run r s :=
    let p := r.pay
    let t := setCfg (fun c => { c with faultNSev := fld p 0 1 })
      { s with flt := { s.flt with faultNSev := fld p 0 1, fwWdogMs := fld p 2 2 } }
    ok (notify s t)

/-- Meaning of `fault.config`. -/
def execFaultConfig (req : Req) (s : State) := command cmdFaultConfig req s

/-! ### fault.inject -/

/-- Injection is authorised (R562, R669).
Log entry 41 (DEDUCED). -/
def injectOk (s : State) : Bool := s.sys.testMode && bit (s.sec.token.getD 0) 0

/-- `fault.inject` (R562, R569). -/
def cmdFaultInject : Cmd where
  op := 0x1106
  checks p _ :=
    layout [2, 1, 1, 4, 1, 1, 2, 2, 2, 2, 1, 1, 4] p ++
    [((faultRow (fld p 0 2)).isNone, bad 0), range p 2 1 0 1, resv p 3 1, range p 4 4 0 60000, resv p 19 1]
  run r s :=
    let p := r.pay
    let e := fld p 0 2
    guarded [(!injectOk s, authFail)]
      (ok (occurrence { inj := true, prop := !bit (fld p 2 1) 0 } e (dataAt p 8)
        { s with flt := { s.flt with injected := s.flt.injected ++ [(e, s.time.mono + ms (fld p 4 4))] } }))

/-- Meaning of `fault.inject`. -/
def execFaultInject (req : Req) (s : State) := command cmdFaultInject req s

/-- INJECT_HOLD_EXPIRY (R562): the injected causes of a source whose HOLD_MS has passed are gone. -/
def execInjectHoldExpiry (event : Nat) (s : State) :=
  live s { s with flt := { s.flt with
    injected := s.flt.injected.filter (fun c => !(c.1 == event && decide (c.2 ≤ s.time.mono))) } }

/-! ### fault.log -/

/-- A fault log record (R570). -/
def faultLogBytes (x : FaultLogRec) : Bytes :=
  le 2 x.event ++ le 1 x.sev ++ le 1 x.action ++ le 1 (b1 x.injected + 2 * b1 x.remote) ++ le 3 0 ++ timeLe x.time
    ++ dataBytes x.data ++ le 4 0

/-- `fault.log` (R570).
Log entry 129 (DEDUCED). -/
def cmdFaultLog : Cmd where
  op := 0x1107
  checks p _ := [sel p 0 2 1 64] ++ layout [2, 2] p ++ [resv p 2 2]
  run r s :=
    let l := s.flt.log.take (fld r.pay 0 2)
    guarded [(l.isEmpty, empty)]
      (ok { s with flt := { s.flt with log := s.flt.log.drop l.length, logLost := 0 } }
        (le 2 l.length ++ le 2 s.flt.logLost ++ l.flatMap faultLogBytes))

/-- Meaning of `fault.log`. -/
def execFaultLog (req : Req) (s : State) := command cmdFaultLog req s

end Sys2Proof.Machine
end

