-- ==== Sys2Proof/Machine/Test.lean ====
section
/-! DEFINITION. Lanes under test, memory self-test and boundary scan (R590 to R597, R608 to R611), and the end of a lease, which
ends the tests under it (R583). -/

namespace Sys2Proof.Machine

/-! ### Lanes (R590) -/

/-- A lane of a bezel link. -/
def bezelLane (n : Nat) : Bool := decide (n < 40)
/-- A down-lane of a bezel link. -/
def downLane (n : Nat) : Bool := bezelLane n && decide (n % 5 < 3)
/-- An up-lane of a bezel link. -/
def upLane (n : Nat) : Bool := bezelLane n && decide (3 ≤ n % 5)

/-- Rate of a lane in 10 kb/s (R48, R381, R431). -/
def laneRate (s : State) (n : Nat) : Nat :=
  if n < 40 then 2812500
  else if n < 48 then (match portMode s ((n - 40) / 2) with | 1 | 2 => 5312500 | 3 => 2578125 | _ => 0)
  else 5312500

/-- Bits that a lane carries in a span of time.
Log entry 96 (DESIGN CHOICE). -/
def laneBits (s : State) (n : Nat) (t : NetTime) : Nat := t * laneRate s n / 6553600000

/-- Relay links that use an Ethernet or clasp lane (R381, note 22 of R574). -/
def linksOnLane (s : State) (n : Nat) : List Nat :=
  if n < 40 then []
  else if n < 48 then (if portMode s ((n - 40) / 2) = 1 then [(n - 40) / 2 * 2] else [n - 40])
  else []

/-- HOST leases other than OBSERVE stand on one of these lanes.
Log entry 94 (DEDUCED). -/
def laneLeased (s : State) (l : List Nat) : Bool :=
  s.leases.any (fun x => x.cls == 6 && x.use != 0 && l.any (fun n => x.covers n))

/-- A lane is out of use.
Log entry 97 (DEDUCED). -/
def laneIdle (x : Lane) : Lane :=
  { x with uses := 0, tx := 0, rx := 0, locked := false, scan := none, test := false }

/-- A test session begins on a lane: the link that uses it leaves service (R593, R594).
Log entry 94 (DEDUCED). -/
def laneSession (n : Nat) (s : State) : State :=
  if n < 40 then
    let l := n / 5
    if (s.link l).st = 5 then s
    else
      let s := restartConvs l false (fun _ => true) (lightOff l (dropCmds l s))
      let s := s.updLink l (fun k => { k with
        st := 5, step := 0, relockAt := none, checkOnly := false, laneTest := false, laneTestWait := none, badActive := 0, lostRun := 0 })
      reState s
  else if (s.lane n).test then s
  else
    let s := s.updLane n (fun x => { x with test := true })
    if n < 48 then each (linksOnLane s n) s ethDown else claspLinkDown (decide (50 ≤ n)) s

/-- A lane returns to service when its last LANE lease ends: a bezel link is trained (R593), another link trains by itself.
Log entry 94 (DEDUCED). -/
def laneBack (n : Nat) (s : State) : State :=
  if n < 40 then
    let l := n / 5
    let lanes := range' (5 * l) 5
    if (s.link l).st ≠ 5 ∨ laneLeased s lanes then s
    else startTraining l (each lanes s (fun n s => s.updLane n laneIdle))
  else if laneLeased s [n] then s
  else s.updLane n laneIdle

/-- A lease ends (R583).
Log entry 6 (DESIGN CHOICE). -/
def leaseOver (l : Lease) (s : State) : State :=
  let s := endLease l s
  if l.cls = 6 ∧ l.use ≠ 0 then each (range' l.first l.count) s laneBack else s

/-- `lease.release` (R583, R587). -/
def cmdLeaseRelease : Cmd where
  op := 0x1702
  checks p _ := layout [4] p
  run r s :=
    match leaseOf s (fld r.pay 0 4) with
    | none => .error empty
    | some l => ok (leaseOver l s)

/-- Meaning of `lease.release`. -/
def execLeaseRelease (req : Req) (s : State) := command cmdLeaseRelease req s

/-- LEASE_EXPIRY (R583): a lease whose time has passed ends, and LEASE_EXPIRED names it. -/
def execLeaseExpiry (id : Nat) (s : State) :=
  live s (match leaseOf s id with
    | none => s
    | some l => if l.due ≤ s.time.mono then raiseEvent 36 { value := id } (leaseOver l s) else s)

/-! ### Lane commands (R608, R609, R611) -/

/-- A lane number. -/
def laneBad (p : Bytes) : Bool × Refuse := range p 0 2 0 51

/-- The device's other clasp link is down (note 4 of R574). -/
def otherClaspDown (s : State) (n : Nat) : Bool := decide (48 ≤ n) && !(s.lane n).test && !(s.clasp (decide (n < 50))).up

/-- The plane of a bezel lane is not in IDLE (note 11). -/
def lanePlaneBusy (s : State) (n : Nat) : Bool :=
  bezelLane n && ((s.linkPlane (n / 5)).map (fun p => (s.plane p).regime != 0)).getD false

/-- The port of an Ethernet lane is used by PTP_FIRMWARE (note 21).
Log entry 120 (DEDUCED). -/
def laneTimed (s : State) (n : Nat) : Bool :=
  decide (40 ≤ n) && decide (n < 48) && s.time.source == 1 && s.time.ptp.on && s.time.ptp.port == (n - 40) / 2

/-- The plane of a bezel lane is being commissioned (note 24). -/
def laneCal (s : State) (n : Nat) : Bool := bezelLane n && (calPlane s).isSome && calPlane s == s.linkPlane (n / 5)

/-- Refusals that every lane test shares (R574, R579); `down` for one that takes its link out of service. -/
def laneRefusals (r : Req) (s : State) (n : Nat) (down lit : Bool) : List (Bool × Refuse) :=
  [(r.lease == 0, notReady), (down && otherClaspDown s n, ⟨2, 0, 0⟩), (lit && lanePlaneBusy s n, busyLit),
   (laneTimed s n, conflict 6), (laneCal s n, conflict 1)]

/-- The one LANE_TEST of a session is taken (R593).
Log entry 94 (DEDUCED). -/
def laneTestTaken (s : State) (n : Nat) : Bool :=
  (s.link (n / 5)).st == 5 && ((s.link (n / 5)).laneTest || (s.link (n / 5)).laneTestWait.isSome)

/-- Ask for a LANE_TEST. -/
def askLaneTest (n data : Nat) (s : State) : State := s.updLink (n / 5) (fun k => { k with laneTestWait := some data })

/-- The payload checks of `test.lane_pattern`, and of `test.lane_check`, which takes no down-lane. -/
def patternChecks (check : Bool) (p : Bytes) : List (Bool × Refuse) :=
  layout [2, 1, 1, 8] p ++ [laneBad p, (check && downLane (fld p 0 2), bad 0), range p 2 1 0 6, range p 3 1 0 1, (fld p 9 3 != 0, bad 4)]

/-- `test.lane_pattern` (R593, R608).
Log entries 94 (DEDUCED), 95 (DESIGN CHOICE). -/
def cmdTestLanePattern : Cmd where
  op := 0x1201
  need p _ := some ⟨6, 5, [fld p 0 2]⟩
  checks p _ := patternChecks false p
  run r s :=
    let p := r.pay
    let n := fld p 0 2
    let pat := fld p 2 1
    let user := fld p 4 5
    let up := upLane n
    let set := fun (s : State) => s.updLane n (fun x => { x with
      tx := pat, txInv := bit (fld p 3 1) 0, txUser := user, txGen := none, uses := if pat = 0 then x.uses &&& 30 else x.uses ||| 1 })
    guarded (laneRefusals r s n true true ++
        [(up && laneTestTaken s n && (pat != 0 || (s.lane n).tx != 0), ⟨2, 0, 0⟩)])
      (ok (if pat = 0 then set s
        else
          let s := set (laneSession n s)
          if up then askLaneTest n (n % 5 + 16 * pat + user * 2 ^ 32) s else s))

/-- Meaning of `test.lane_pattern`. -/
def execTestLanePattern (req : Req) (s : State) := command cmdTestLanePattern req s

/-- `test.lane_check` (R592, R608). -/
def cmdTestLaneCheck : Cmd where
  op := 0x1202
  need p _ := some ⟨6, 6, [fld p 0 2]⟩
  checks p _ := patternChecks true p
  run r s :=
    let p := r.pay
    let n := fld p 0 2
    let pat := fld p 2 1
    let set := fun (s : State) => s.updLane n (fun x => { x with
      rx := pat, rxInv := bit (fld p 3 1) 0, rxUser := fld p 4 5, locked := false, uses := if pat = 0 then x.uses &&& 29 else x.uses ||| 2 })
    guarded (laneRefusals r s n true true) (ok (set (if pat = 0 then s else laneSession n s)))

/-- Meaning of `test.lane_check`. -/
def execTestLaneCheck (req : Req) (s : State) := command cmdTestLaneCheck req s

/-- `test.loopback` (R593, R594, R608).
Log entries 94 (DEDUCED), 95 (DESIGN CHOICE). -/
def cmdTestLoopback : Cmd where
  op := 0x1203
  need p _ := some ⟨6, 7, [fld p 0 2]⟩
  checks p _ := layout [2, 1, 1] p ++ [laneBad p, range p 2 1 0 2, (fld p 2 1 == 2 && upLane (fld p 0 2), bad 2), resv p 3 1]
  run r s :=
    let p := r.pay
    let n := fld p 0 2
    let mode := fld p 2 1
    let far := mode == 2 && downLane n
    let u3 := n / 5 * 5 + 3
    let set := fun (s : State) => s.updLane n (fun x => { x with
      uses := (x.uses &&& 19) ||| (if mode = 1 then 4 else if mode = 2 then 8 else 0) })
    guarded (laneRefusals r s n true true ++
        [(far && !s.leases.any (fun x => x.cls == 6 && x.use == 6 && x.covers u3 && decide (s.time.mono < x.due)), notReady),
         (downLane n && laneTestTaken s n && (far || (mode == 0 && bit (s.lane n).uses 3)), ⟨2, 0, 0⟩)])
      (ok (if mode = 0 then set s
        else
          let s := set (laneSession n s)
          if far then askLaneTest n (n % 5 + 256) s else s))

/-- Meaning of `test.loopback`. -/
def execTestLoopback (req : Req) (s : State) := command cmdTestLoopback req s

/-- `test.margin_scan` (R595, R609).
Log entry 97 (DEDUCED). -/
def cmdTestMarginScan : Cmd where
  op := 0x1204
  need p _ := some ⟨6, 8, [fld p 0 2]⟩
  checks p _ := layout [2, 1, 1, 4] p ++ [laneBad p, (downLane (fld p 0 2), bad 0), range p 2 1 0 1, range p 3 1 20 36]
  run r s :=
    let p := r.pay
    let n := fld p 0 2
    let pattern := fld p 2 1 == 1
    let k := s.link (n / 5)
    let served := bezelLane n && k.st == 2
    let spare := !pattern && served && k.active != n % 5
    guarded (laneRefusals r s n false (!spare) ++
        [(pattern && !(s.lane n).locked, notReady), (!pattern && served && k.active == n % 5, busyLit)])
      (ok (s.updLane n (fun x => { x with uses := x.uses ||| 16, scan := some (pattern, fld p 4 4, []), dwell := fld p 3 1 })))

/-- Meaning of `test.margin_scan`. -/
def execTestMarginScan (req : Req) (s : State) := command cmdTestMarginScan req s

/-- Passing points on the run that includes point 0 (R595): from index 32 downward and upward. -/
def passRun (l : List Bool) : Nat := (l.takeWhile (fun b => b)).length

/-- LEFT and RIGHT of one eye from its 65 points, and whether point 0 passes. -/
def eyeOf (errMax : Nat) (e : List Nat) : Bool × Int × Int :=
  let ok' := e.map (fun x => decide (x ≤ errMax))
  if (ok'.drop 32).headD false then (true, -(passRun (ok'.take 32).reverse : Int), passRun (ok'.drop 33)) else (false, 0, 0)

/-- EYE_MUI of an eye. -/
def eyeMui (x : Bool × Int × Int) : Nat := if x.1 then (divRound ((x.2.2 - x.2.1) * 1000) 64).toNat else 0

/-- The smallest eye of a finished scan. -/
def smallestEye (errMax : Nat) (pts : List (List Nat)) : Bool × Int × Int :=
  let eyes := (List.range (max 1 (pts.headD []).length)).map (fun i => eyeOf errMax (pts.map (fun l => l.getD i 0)))
  eyes.foldl (fun a b => if eyeMui b < eyeMui a then b else a) (eyes.headD (false, 0, 0))

/-- MARGIN_POINT_DONE (R595): the error counts of one point, one per eye; after the last the result is stored.
Log entry 97 (DEDUCED). -/
def marginPoint (n : Nat) (errors : List Nat) (s : State) : State :=
  match (s.lane n).scan with
  | none => s
  | some (pat, errMax, pts) =>
    let pts := pts ++ [errors]
    if pts.length < 65 then s.updLane n (fun x => { x with scan := some (pat, errMax, pts) })
    else
      let e := smallestEye errMax pts
      let s := s.updLane n (fun x => { x with scan := none, uses := x.uses &&& 15, left := e.2.1, right := e.2.2 })
      let s := updCal (fun k => { k with eye := tset 0 k.eye n (eyeMui e), scanned := tset 0 k.scanned n s.time.now }) s
      raiseEvent 37 { chan := n } s

/-- Meaning of MARGIN_POINT_DONE. -/
def execMarginPointDone (lane : Nat) (errors : List Nat) (s : State) := onUnit lane 52 s (marginPoint lane errors s)

/-- CHECKER_LOCKED (R592). -/
def execCheckerLocked (lane : Nat) (s : State) :=
  onUnit lane 52 s (if bit (s.lane lane).uses 1 then
    s.updLane lane (fun x => if x.locked then x else { x with locked := true, lockAt := s.time.mono }) else s)

/-- CHECKER_LOCK_LOSS (R592): `bits` and `errors` are those counted since the counters were last brought up to date. -/
def execCheckerLockLoss (lane bits errors : Nat) (s : State) :=
  onUnit lane 52 s (s.updLane lane (fun x => if !x.locked then x else { x with
    locked := false, losses := (x.losses + 1) % 2 ^ 32, bits := (x.bits + bits) % 2 ^ 64, errors := (x.errors + errors) % 2 ^ 64 }))

/-- Bring the counters of a LOCKED checker up to the present; the errors among the bits since then are a free value (R592).
Log entry 96 (DESIGN CHOICE). -/
def laneCount64 (n : Nat) (s : State) : State :=
  let x := s.lane n
  let b := laneBits s n (s.time.mono - x.lockAt)
  if !x.locked ∨ b = 0 then s
  else
    let d := s.draw
    d.2.updLane n (fun x => { x with
      bits := (x.bits + b) % 2 ^ 64, errors := (x.errors + d.1 % (b + 1)) % 2 ^ 64, lockAt := s.time.mono })

/-- Response of `test.counters` (R611). -/
def laneBytes (s : State) (n : Nat) : Bytes :=
  let x := s.lane n
  le 1 x.uses ++ le 1 (b1 x.locked) ++ le 1 x.tx ++ le 1 x.rx ++ le 4 x.losses ++ le 8 x.bits ++ le 8 x.errors
    ++ le 1 (uns 8 x.left) ++ le 1 (uns 8 x.right) ++ le 2 (tget 0 s.cal.eye n) ++ timeLe (tget 0 s.cal.scanned n) ++ le 8 0

/-- `test.counters` (R611).
Log entry 93 (DEDUCED). -/
def cmdTestCounters : Cmd where
  op := 0x1206
  need p _ := some ⟨6, if fld p 2 1 = 1 then 6 else 0, [fld p 0 2]⟩
  checks p _ := layout [2, 1, 1] p ++ [laneBad p, range p 2 1 0 1, resv p 3 1]
  run r s :=
    let n := fld r.pay 0 2
    let clear := fld r.pay 2 1 == 1
    let s := laneCount64 n s
    guarded [(clear && r.lease == 0, notReady)]
      (ok (if clear then s.updLane n (fun x => { x with losses := 0, bits := 0, errors := 0 }) else s) (laneBytes s n))

/-- Meaning of `test.counters`. -/
def execTestCounters (req : Req) (s : State) := command cmdTestCounters req s

/-! ### Memory self-test (R596, R610) -/

/-- The source of a loupe record type is enabled (R602). -/
def typeOn (s : State) (t : Nat) : Bool :=
  match t with
  | 2 => s.mons.any (fun e => e.2.mode != 0 && bit e.2.flags 0)
  | 6 => s.sched.samInterval != 0
  | 8 => s.relay.mirrors.any (fun e => e.2.on)
  | _ => (tget {} s.loupe.srcs t).on

/-- Any loupe source is enabled. -/
def anySource (s : State) : Bool := (range' 1 8).any (typeOn s)

/-- REFUSED_CONFLICT of a target (R596), with note 24 of R574. -/
def bistConflict (s : State) (t : Nat) : List (Bool × Refuse) :=
  [((calPlane s).isSome, conflict 1), (t == 2 && s.pwr.planes.any (fun e => e.2.st != 0), conflict 5),
   (t == 4 && anySource s, ⟨2, 0, 0⟩),
   (t == 5 && [0, 1].any (fun b => (s.snap b).st != 0 || !(holders s 8 1 0 b).isEmpty), ⟨2, 0, 0⟩),
   (decide (6 ≤ t) && (anySource s || s.sched.chains.any (fun c => c.2.steps != [])), ⟨2, 0, 0⟩)]

/-- What a test leaves of its target (R596).
Log entry 97 (DEDUCED). -/
def bistWipes (t : Nat) (s : State) : State :=
  match t with
  | 0 => updSched (fun c => { c with demand := [] }) s
  | 2 =>
    let s := { s with ctxs := [], tables := [], implicits := s.implicits.filter (fun l => l.cls != 5) }
    each (s.planeIds.filter (commissioned s)) s (fun p s => each (List.range (s.cells p)) s (loadCell p))
  | 3 => updSched (fun c => { c with first := 0, dplanes := tmap {} (fun _ d => { d with gptr := [], aptr := [] }) c.dplanes }) s
  | 4 => { s with loupe := { s.loupe with staged := [], used := 0, lost := [] } }
  | 5 => { s with snaps := [] }
  | 6 | 7 | 8 | 9 =>
    { s with
      lib := []
      eps := { s.eps with tab := tmap {} (fun _ e => { e with grants := [] }) s.eps.tab }
      loupe := { s.loupe with mem := [], rings := tmap {} (fun _ r =>
        { r with pos := 0, full := false, lost := 0, lostRun := 0, base0 := none }) s.loupe.rings } }
  | _ => s

/-- A BIST target. -/
def bistOf (s : State) (t : Nat) : Bist := tget {} s.bists t

/-- `test.bist` (R596, R610).
Log entry 97 (DEDUCED). -/
def cmdTestBist : Cmd where
  op := 0x1205
  checks p _ := layout [1, 1, 2] p ++ [range p 0 1 0 10, range p 1 1 0 1, (fld p 0 1 == 10 && fld p 1 1 == 0, bad 1), resv p 2 2]
  run r s :=
    let t := fld r.pay 0 1
    let b := bistOf s t
    if fld r.pay 1 1 = 1 then
      ok s (le 1 b.st ++ le 3 0 ++ le 4 b.fails ++ le 8 b.first ++ timeLe b.at')
    else
      guarded ((!s.allIdle, busyLit) :: bistConflict s t)
        (ok (bistWipes t { s with bists := tset {} s.bists t { b with st := 1 } }))

/-- Meaning of `test.bist`. -/
def execTestBist (req : Req) (s : State) := command cmdTestBist req s

/-- BIST_DONE (R596): the result is kept, the target is reset and TEST_BIST_DONE raised. -/
def execBistDone (target fails first : Nat) (s : State) :=
  onUnit target 10 s (
    if (bistOf s target).st ≠ 1 then s
    else
      let b : Bist := { st := if fails = 0 then 2 else 3, fails := sat 32 fails, first := first, at' := s.time.now }
      raiseEvent 38 { value := target } (bistWipes target { s with bists := tset {} s.bists target b }))

/-! ### Boundary scan (R597) -/

/-- A boundary-scan instruction takes the pins from the core: EXTEST 4, EXTEST_PULSE 5, EXTEST_TRAIN 6, CLAMP 7, HIGHZ 8.
Log entry 98 (DESIGN CHOICE). -/
def takesPins (code : Nat) : Bool := decide (4 ≤ code) && decide (code ≤ 8)

/-- The instruction that takes effect: a private one acts only by R669 and is BYPASS otherwise.
Log entry 98 (DESIGN CHOICE). -/
def jtagCode (s : State) (code : Nat) : Nat :=
  if code ≤ 8 ∨ (s.nvm.lifecycle = 2 ∧ s.sys.testMode ∧ bit (s.sec.token.getD 0) 2) then code else 1

/-- LIGHT_EN and BZ_RST_N of a link are driven low by their boundary cells: the bezel is reset (R82). -/
def scanLow (l : Nat) (s : State) : State :=
  let s := (bzDrive l false (lightOff l s)).updBezel l (fun b => { bezelReset b with rstN := false })
  if (s.link l).st = 2 then crcLoss l s else s

/-- The core drives BZ_RST_N of a link again after boundary scan: where it holds the pin high the bezel, reset by the scan, leaves
reset (R82).
Log entry 98 (DESIGN CHOICE). -/
def scanBack (l : Nat) (s : State) : State :=
  let k := s.link l
  if k.st = 2 ∨ k.st = 3 ∨ k.st = 5 ∨ (k.st = 1 ∧ 2 ≤ k.step) then
    (bzDrive l true s).updBezel l (fun b => { bezelReset b with rstN := true, rstAt := s.time.mono })
  else s

/-- JTAG_INSTRUCTION_UPDATE (R597): 0 Test-Logic-Reset, 1 BYPASS, 2 IDCODE, 3 SAMPLE/PRELOAD, then as `takesPins`.
Log entry 98 (DESIGN CHOICE). -/
def jtagUpdate (code : Nat) (s : State) : State :=
  let c := jtagCode s code
  let s := { s with sec := { s.sec with jtag := c } }
  let was := s.pins.scan
  let s := { s with pins := { s.pins with scan := takesPins c } }
  let s := if c = 0 ∨ c = 2 then s.emit (.idcode 0xB0512F4B) else s
  if takesPins c then each (List.range 8) s scanLow else if was then each (List.range 8) s scanBack else s

/-- Meaning of JTAG_INSTRUCTION_UPDATE. -/
def execJtagInstructionUpdate (code : Nat) (s : State) := live s (jtagUpdate code s)

end Sys2Proof.Machine
end

