-- ==== Sys2Proof/Machine/Loupe.lean ====
section
/-! DEFINITION. The loupe: its writer, its directory, freezes and commands (R598 to R604, R612 to R616). -/

namespace Sys2Proof.Machine

/-- A ring. -/
def ringNo (s : State) (i : Nat) : Ring := tget {} s.loupe.rings i

/-- Change a ring. -/
def updRing (i : Nat) (f : Ring → Ring) (s : State) : State :=
  { s with loupe := { s.loupe with rings := tset {} s.loupe.rings i (f (ringNo s i)) } }

/-- The writer moves what is staged (R603); records lost in staging raise LOUPE_OVERFLOW at most once per millisecond.
Log entry 102 (DEDUCED). -/
def loupeWrite (s : State) : State :=
  let n := (s.loupe.lost.map (·.2)).foldl (· + ·) 0
  let due := match s.loupe.ovfAt with | none => true | some t => decide (t + ms 1 ≤ s.time.mono)
  let s := drainLoupe s
  if n = 0 ∨ !due then s
  else raiseEvent 39 { value := sat 32 n } { s with loupe := { s.loupe with ovfAt := some s.time.mono } }

/-- A freeze of a ring is armed or runs (R616). -/
def freezeArmed (s : State) (i : Nat) : Bool := s.loupe.freezes.any (fun f => bit f.rings i)

/-- The directory entry of a ring (R599). -/
def dirEntry (s : State) (i : Nat) : Bytes :=
  let r := ringNo s i
  le 4 r.dirSeq ++ le 1 r.mode ++ le 1 (b1 r.full + 2 * b1 r.frozen + 4 * b1 (freezeArmed s i)) ++ le 2 r.types ++ le 4 r.base
    ++ le 4 r.size ++ le 8 r.pos ++ le 8 r.lost ++ timeLe r.frozenAt ++ le 20 0

/-- The directory entry of a ring is rewritten (R599). -/
def dirWrite (i : Nat) (s : State) : State :=
  let s := updRing i (fun r => { r with dirSeq := (r.dirSeq + 2) % 2 ^ 32 }) s
  { s with loupe := { s.loupe with mem := putBytes s.loupe.mem (64 * i) (dirEntry s i) } }

/-- LOUPE_DIR_UPDATE (R599, R603). -/
def dirUpdate (s : State) : State := if loupeGib s = 0 then s else each (List.range 32) (loupeWrite s) dirWrite

/-- Meaning of LOUPE_DIR_UPDATE. -/
def execLoupeDirUpdate (s : State) := live s (dirUpdate s)

/-- A TIME_BASE record of its own, with the PAD it needs (R600). -/
def timeBase (now : NetTime) (rb : Ring × List Host.Cell) : Ring × List Host.Cell :=
  if rb.1.mode = 0 ∨ rb.1.frozen ∨ !baseDue now rb.1 ∨ rb.1.pos % 65536 = 0 then rb
  else
    let left := 65536 - rb.1.pos % 65536
    ringBase now (if left < 32 then ringPut rb (recBytes 15 0 0 (List.replicate (left - 8) 0)) else rb)

/-- TIME_BASE_DUE (R600): into each ring whose last TIME_BASE record is 1 s old, or older than a step. A ring at a 64 KiB
boundary takes it with its next record. -/
def timeBases (s : State) : State :=
  let s := loupeWrite s
  each (s.loupe.rings.map (·.1)) s (fun i s =>
    let rb := timeBase s.time.now (ringNo s i, s.loupe.mem)
    { s with loupe := { s.loupe with rings := tset {} s.loupe.rings i rb.1, mem := rb.2 } })

/-- Meaning of TIME_BASE_DUE. -/
def execTimeBaseDue (s : State) := live s (timeBases s)

/-! ### Freezes (R616) -/

/-- A freeze's trigger fires: an event, or the time of a time trigger.
Log entry 101 (DEDUCED). -/
def freezeFires (event : Option Nat) (now : NetTime) (f : Freeze) : Bool :=
  f.stop.isNone && (match event with
    | some e => f.trigger == 1 && f.event == e
    | none => f.trigger == 2 && decide (f.at' ≤ now))

/-- LOUPE_FREEZE_TRIGGER (R616): POST_US of further recording begins. -/
def freezeTrigger (event : Option Nat) (s : State) : State :=
  { s with loupe := { s.loupe with freezes := s.loupe.freezes.map (fun f =>
      if freezeFires event s.time.now f then { f with stop := some (s.time.mono + us f.postUs) } else f) } }

/-- Meaning of LOUPE_FREEZE_TRIGGER. -/
def execLoupeFreezeTrigger (event : Option Nat) (s : State) := live s (freezeTrigger event s)

/-- A freeze has run its POST_US. -/
def freezeOver (now : NetTime) (f : Freeze) : Bool := match f.stop with | some t => decide (t ≤ now) | none => false

/-- The rings of a freeze stop (R616). -/
def freezeRings (f : Freeze) (s : State) : State :=
  let s := each ((List.range 32).filter (fun i => bit f.rings i && (ringNo s i).mode != 0 && !(ringNo s i).frozen)) s
    (fun i s => updRing i (fun r => { r with frozen := true, frozenAt := s.time.now }) s)
  raiseEvent 41 { value := f.rings } s

/-- LOUPE_FREEZE_STOP (R616). -/
def freezeStop (s : State) : State :=
  let due := s.loupe.freezes.filter (freezeOver s.time.mono)
  if due = [] then s
  else
    let s := loupeWrite s
    each due { s with loupe := { s.loupe with freezes := s.loupe.freezes.filter (fun f => !freezeOver s.time.mono f) } } freezeRings

/-- Meaning of LOUPE_FREEZE_STOP. -/
def execLoupeFreezeStop (s : State) := live s (freezeStop s)

/-! ### Commands -/

/-- Two rings overlap. -/
def ringsMeet (b1' n1 : Nat) (r : Ring) : Bool := r.mode != 0 && decide (b1' < r.base + r.size) && decide (r.base < b1' + n1)

/-- `loupe.ring_config` (R612).
Log entry 99 (DEDUCED). -/
def cmdLoupeRingConfig : Cmd where
  op := 0x1301
  checks p _ := layout [1, 1, 2, 4, 4] p ++
    [range p 0 1 0 31, range p 1 1 0 2, (fld p 4 4 == 0, bad 4), (fld p 8 4 == 0, bad 8)]
  run r s :=
    let p := r.pay
    let i := fld p 0 1
    let mode := fld p 1 1
    let base := fld p 4 4
    let size := fld p 8 4
    let top := loupeGib s * 1024
    let others := s.loupe.rings.filter (fun e => e.1 != i && e.2.mode != 0)
    let s := loupeWrite s
    let new : Ring := if mode = 0 then { dirSeq := (ringNo s i).dirSeq } else
      { mode := mode, types := fld p 2 2, base := base, size := size, dirSeq := (ringNo s i).dirSeq }
    guarded [(mode != 0 && (decide (top ≤ base) || others.any (fun e => ringsMeet base size e.2)), bad 4),
        (mode != 0 && decide (top < base + size), bad 8),
        (mode != 0 && others.any (fun e => e.2.types &&& fld p 2 2 != 0), ⟨2, 0, 0⟩),
        ((range' 1 8).any (fun t => bit (ringNo s i).types t && typeOn s t), busy)]
      (ok (updRing i (fun _ => new) s))

/-- Meaning of `loupe.ring_config`. -/
def execLoupeRingConfig (req : Req) (s : State) := command cmdLoupeRingConfig req s

/-- Instances of a source that `loupe.enable` selects (R602). -/
def srcCount (t : Nat) : Nat := match t with | 1 | 3 => 9216 | 4 => 8 | 5 => 2 | 7 => 512 | _ => 0

/-- `loupe.enable` (R602, R613).
Log entry 100 (DEDUCED). -/
def cmdLoupeEnable : Cmd where
  op := 0x1302
  checks p _ :=
    let n := srcCount (fld p 0 1)
    layout [1, 1, 2, 2, 2] p ++ [(n == 0, bad 0), range p 1 1 0 1, (fld p 2 2 == 0, bad 2), (decide (n ≤ fld p 4 2), bad 4),
      (decide (n < fld p 4 2 + fld p 6 2), bad 6)]
  run r s :=
    let p := r.pay
    let t := fld p 0 1
    let src : LSrc := { on := fld p 1 1 == 1, div := fld p 2 2, first := fld p 4 2, count := fld p 6 2 }
    guarded [((ringOf s t).isNone, notReady)] (ok { s with loupe := { s.loupe with srcs := tset {} s.loupe.srcs t src } })

/-- Meaning of `loupe.enable`. -/
def execLoupeEnable (req : Req) (s : State) := command cmdLoupeEnable req s

/-- `loupe.status` (R614). -/
def cmdLoupeStatus : Cmd where
  op := 0x1303
  checks p _ := layout [1, 3] p ++ [range p 0 1 0 31, resv p 1 3]
  run r s := ok s (dirEntry s (fld r.pay 0 1))

/-- Meaning of `loupe.status`. -/
def execLoupeStatus (req : Req) (s : State) := command cmdLoupeStatus req s

/-- Bytes of a ring from a position upward (R600).
Log entry 100 (DEDUCED). -/
def ringBytes (s : State) (r : Ring) (pos n : Nat) : Bytes :=
  (List.range n).map (fun k => getByte s.loupe.mem (r.base * 1048576 + (pos + k) % max 1 (r.size * 1048576)))

/-- `loupe.export` (R615): the positions that WRITE_POS has passed.
Log entry 100 (DEDUCED). -/
def cmdLoupeExport : Cmd where
  op := 0x1304
  need _ _ := some ⟨9, 1, [0]⟩
  host := some 20
  checks p _ := layout [1, 3, 8, 8, 8] p ++ [range p 0 1 0 31, resv p 1 3, range p 12 8 0 1073741824]
  run r s :=
    let p := r.pay
    let ring := ringNo s (fld p 0 1)
    let pos := fld p 4 8
    let n := min (fld p 12 8) (ring.pos - pos)
    .ok (s, some {
      pay := le 8 n ++ le 1 (b1 (decide (0 < n) && decide (pos + ring.size * 1048576 < ring.pos))) ++ le 7 0
      addr := fld p 20 8, data := ringBytes s ring pos n })

/-- Meaning of `loupe.export`. -/
def execLoupeExport (req : Req) (s : State) := command cmdLoupeExport req s

/-- `loupe.freeze` (R616).
Log entry 101 (DEDUCED). -/
def cmdLoupeFreeze : Cmd where
  op := 0x1305
  checks p _ := layout [4, 1, 1, 2, 4, 12] p ++
    [range p 4 1 0 3, resv p 5 1, (fld p 4 1 == 1 && decide (511 < fld p 6 2), bad 6), range p 8 4 0 10000000, badTime p 12]
  run r s :=
    let p := r.pay
    let rings := fld p 0 4
    let t := fld p 4 1
    if t = 3 then
      ok (each ((List.range 32).filter (fun i => bit rings i)) (loupeWrite s) (fun i s =>
        updRing i (fun x => { x with frozen := false, frozenAt := 0 }) s))
    else
      let f : Freeze := { rings := rings, trigger := t, event := fld p 6 2, postUs := fld p 8 4, at' := timeAt p 12
                          stop := if t = 0 then some (s.time.mono + us (fld p 8 4)) else none }
      ok { s with loupe := { s.loupe with freezes := s.loupe.freezes ++ [f] } }

/-- Meaning of `loupe.freeze`. -/
def execLoupeFreeze (req : Req) (s : State) := command cmdLoupeFreeze req s

end Sys2Proof.Machine
end

