-- ==== Sys2Proof/Machine/Snap.lean ====
section
/-! DEFINITION. Snapshots of a device and of the domain (R448, R605 to R607, R617, R618). -/

namespace Sys2Proof.Machine

/-- What a snapshot of the present state copies (R605, R606).
Log entry 103 (DEDUCED). -/
def copyOf (s : State) : SnapCopy :=
  { mons := s.mons, senses := s.senses, links := s.links, engines := s.engines, planes := s.planes, lib := s.lib
    sched := s.sched, eps := s.eps, relay := s.relay, pools := s.pools, dom := s.dom, lanes := s.lanes, cal := s.cal
    pwr := s.pwr, time := s.time, free := s.free }

/-- The machine as a copy shows it, to read its records with.
Log entry 103 (DEDUCED). -/
def shown (c : SnapCopy) (k : Nat) (s : State) : State :=
  { s with
    mons := c.mons, senses := c.senses, links := c.links, engines := c.engines, planes := c.planes, lib := c.lib
    sched := c.sched, eps := c.eps, relay := c.relay, pools := c.pools, dom := c.dom, lanes := c.lanes, cal := c.cal
    pwr := c.pwr, time := c.time, free := c.free + k }

/-- What a read command answers to a payload. -/
def answerOf (c : Cmd) (pay : Bytes) (s : State) : Bytes :=
  match c.run { payload := pay, len := pay.length } s with
  | .ok (_, some r) => r.pay
  | _ => []

/-- Records of a section (R605). -/
def snapCount (sec : Nat) : Nat :=
  match sec with
  | 1 | 2 => 5120 | 3 | 4 => 8 | 5 => 256 | 6 | 7 | 12 | 13 => 2 | 8 | 10 => 1 | 9 => 513 | 11 => 14 | 14 => 52 | _ => 0

/-- NEXT_CONTEXT of the sampler: the context that a pass under way reads next, 64 a microsecond; FIRST at rest (R297, R605). -/
def nextContext (s : State) : Nat :=
  let l := sampled s
  let left := ceilDiv (s.sched.samBusy - s.time.mono) (us 1) * 64
  if left = 0 then s.sched.samFirst else l.getD (l.length - left) s.sched.samFirst

/-- A record of a section, laid out as the command that reads the original returns it (R605). -/
def snapRec (sec i : Nat) (s : State) : Bytes :=
  match sec with
  | 1 => accBytes (accShown (s.mon i).acc) (s.mon i)
  | 2 => trkRec (s.mon i).trk
  | 3 => answerOf cmdSenseStatus (le 4 i) s
  | 4 => answerOf cmdDriveCounters (le 4 i) s
  | 5 => answerOf cmdLoopCounters (le 4 i) s
  | 6 => answerOf cmdFacetStatus (le 4 i) s
  | 7 => answerOf cmdChainStatus (le 4 (s.dplaneOf i)) s
  | 8 => answerOf cmdSchedStatus (le 4 0) s
  | 9 => answerOf cmdEndpointCounters (le 2 (if i < 512 then i else 0xFFFF) ++ le 2 0) s
  | 10 => le 4 s.sched.samPasses ++ le 4 s.sched.samSkipped ++ le 4 (nextContext s) ++ le 4 0
  | 11 => answerOf cmdRelayCounters (if i < 8 then le 1 (i / 2) ++ le 3 (i % 2) else le 4 (i - 4)) s
  | 12 => answerOf cmdPoolStatus (le 4 i) s
  | 13 => answerOf cmdDomainCounters (le 4 i) s
  | 14 => laneBytes (laneCount64 i s) i
  | _ => []

/-- The device number in a snapshot result. -/
def snapSelf (s : State) : Nat := if s.sys.role = 0 then 0 else s.dom.number

/-- SNAP_STROBE (R606, R607): every unit copies, and SNAP_TAKEN is raised; a worker reports to the manager.
Log entries 103 (DEDUCED), 164 (DESIGN CHOICE). -/
def snapStrobe (b : Nat) (s : State) : State :=
  let x := s.snap b
  if x.st ≠ 1 ∨ s.time.now < x.t then s
  else
    let v := if x.domain ∧ s.time.st ≠ 2 then 2 else 0
    let s := each (s.mons.map (·.1)) s flushReady
    let c := copyOf s
    let s := { s with free := s.free + 65536 }
    let s := s.updSnap b (fun x => { x with st := 2, copy := c, devs := tset 0 x.devs (snapSelf s) (v + 1) })
    let s := raiseEvent 40 { value := b } s
    if x.domain ∧ s.sys.role = 2 then claspSend 0x30 0 (le 1 1 ++ le 1 b ++ le 1 v ++ le 1 0 ++ timeLe x.t) s else s

/-- Meaning of SNAP_STROBE. -/
def execSnapStrobe (bank : Nat) (s : State) := onUnit bank 2 s (snapStrobe bank s)

/-- A SNAP message is acted on (R448, R607, R618).
Log entry 103 (DEDUCED). -/
def snapTake (m : Msg) (s : State) : State :=
  let k := fld m.body 0 1
  let b := fld m.body 1 1
  let t := timeAt m.body 4
  if 2 ≤ b then s
  else if k = 0 ∧ s.admitted then
    if (s.snap b).st ≠ 0 ∨ (holders s 8 1 0 b) ≠ [] then
      claspSend 0x30 0 (le 1 1 ++ le 1 b ++ le 1 3 ++ le 1 0 ++ timeLe t) s
    else s.updSnap b (fun _ => { st := 1, domain := true, t := t })
  else if k = 1 ∧ s.sys.role = 1 then
    if (s.snap b).st ≠ 0 ∧ (s.snap b).domain ∧ (s.snap b).t = t then
      s.updSnap b (fun x => { x with devs := tset 0 x.devs m.src (fld m.body 2 1 + 1) })
    else s
  else if k = 2 ∧ s.admitted then
    (if (s.snap b).domain then s.updSnap b (fun _ => {}) else s)
  else s

/-- SNAP_RECEIVE (R448). -/
def execSnapReceive (west : Bool) (cells : List Bytes) (s : State) := live s (arrive 0x30 west cells snapTake s)

/-- The members of the domain, as yet MISSING from a snapshot. -/
def snapMissing (s : State) : Tab Nat :=
  ((List.range 16).filter (fun n => (s.member n).admitted)).map (fun n => (n, 2))

/-- `snap.at` (R448, R617).
Log entry 103 (DEDUCED). -/
def cmdSnapAt : Cmd where
  op := 0x1601
  need p _ := some ⟨8, 1, [fld p 0 1]⟩
  checks p s := layout [1, 1, 2, 12] p ++
    [range p 0 1 0 1, range p 1 1 0 1, (fld p 1 1 == 1 && s.sys.role != 1, bad 1), resv p 2 2, badTime p 4,
     (fld p 1 1 == 1 && timeAt p 4 == 0, bad 4)]
  run r s :=
    let p := r.pay
    let b := fld p 0 1
    let domain := fld p 1 1 == 1
    let t := if timeAt p 4 = 0 then ceilTo (s.time.now + us 10) (us 1) else timeAt p 4
    guarded [((s.snap b).st != 0, busy), (decide (t < s.time.now + us (if domain then 50 else 10)), late)]
      (let s := s.updSnap b (fun _ => { st := 1, domain := domain, t := t, devs := if domain then snapMissing s else [] })
       ok (if domain then claspSend 0x30 0xFF (le 1 0 ++ le 1 b ++ le 2 0 ++ timeLe t) s else s))

/-- Meaning of `snap.at`. -/
def execSnapAt (req : Req) (s : State) := command cmdSnapAt req s

/-- Length of a record. -/
def snapLen (sec i : Nat) : Nat :=
  match sec with
  | 1 => 48 | 2 => 40 | 3 => 28 | 4 => 24 | 5 => 24 | 6 => 28 | 7 => 24 | 8 => 36 | 9 => 32 | 10 => 16 | 11 => 88 | 12 => if i = 0 then 184 else 88
  | 13 => 24 | 14 => 48 | _ => 0

/-- `snap.read` (R618).
Log entry 103 (DEDUCED). -/
def cmdSnapRead : Cmd where
  op := 0x1602
  need p _ := some ⟨8, 0, [fld p 0 1]⟩
  checks p _ :=
    let sec := fld p 1 1
    [(decide (2 ≤ p.length) && snapCount sec == 0, bad 1), sel p 4 2 1 (snapCount sec)] ++ layout [1, 1, 2, 2, 2] p ++
    [range p 0 1 0 1, (decide (snapCount sec ≤ fld p 2 2), bad 2),
     (decide (snapCount sec < fld p 2 2 + fld p 4 2)
       || decide (4080 < total ((range' (fld p 2 2) (min (fld p 4 2) 1024)).map (snapLen sec))), bad 4), resv p 6 2]
  run r s :=
    let p := r.pay
    let b := fld p 0 1
    let sec := fld p 1 1
    let c := (s.snap b).copy
    guarded [((s.snap b).st != 2 || (!schedules s && (sec == 8 || sec == 9)), empty)]
      (ok s ((range' (fld p 2 2) (fld p 4 2)).flatMap (fun i => snapRec sec i (shown c (4096 * sec + 4 * i) s))))

/-- Meaning of `snap.read`. -/
def execSnapRead (req : Req) (s : State) := command cmdSnapRead req s

/-- `snap.status` (R618). -/
def cmdSnapStatus : Cmd where
  op := 0x1603
  checks p _ := layout [1, 3] p ++ [range p 0 1 0 1, resv p 1 3]
  run r s :=
    let x := s.snap (fld r.pay 0 1)
    ok s (le 1 x.st ++ le 1 (b1 x.domain) ++ le 2 0 ++ timeLe x.t
      ++ (List.range 16).flatMap (fun n => le 1 (match tget 0 x.devs n with | 0 => 0xFF | v + 1 => v)))

/-- Meaning of `snap.status`. -/
def execSnapStatus (req : Req) (s : State) := command cmdSnapStatus req s

/-- `snap.release` (R618). -/
def cmdSnapRelease : Cmd where
  op := 0x1604
  need p _ := some ⟨8, 1, [fld p 0 1]⟩
  checks p _ := layout [1, 3] p ++ [range p 0 1 0 1, resv p 1 3]
  run r s :=
    let b := fld r.pay 0 1
    let x := s.snap b
    let s := s.updSnap b (fun _ => {})
    ok (if x.domain ∧ s.sys.role = 1 then claspSend 0x30 0xFF (le 1 2 ++ le 1 b ++ le 2 0 ++ timeLe x.t) s else s)

/-- Meaning of `snap.release`. -/
def execSnapRelease (req : Req) (s : State) := command cmdSnapRelease req s

end Sys2Proof.Machine
end

