-- ==== Sys2Proof/Machine/Power.lean ====
section
/-! DEFINITION. Power, clocks and temperature (R621 to R646, R655, R701, R710, R712). -/

namespace Sys2Proof.Machine

/-! ### The floor of the modes in use (R623) -/

/-- A context in a regime that needs 0.70 V, taken or about to be taken. -/
def ctxNeeds700 (c : Ctx) : Bool :=
  regimeFloor c.regime c.pairedTick == 700 || (c.pending.map (fun q => regimeFloor q.regime q.tick == 700)).getD false

/-- A context in PAIRED at PAIRED_TICK 1, taken or about to be taken. -/
def ctxNeeds650 (c : Ctx) : Bool :=
  regimeFloor c.regime c.pairedTick == 650 || (c.pending.map (fun q => regimeFloor q.regime q.tick == 650)).getD false

/-- A plane of this device has a launch accepted, pending or under way. -/
def launching (s : State) : Bool :=
  s.planeIds.any (fun p => (s.plane p).cur.isSome || !(s.plane p).accepted.isEmpty || !(s.plane p).builds.isEmpty)

/-- A plane is in CHAIN, DEMAND or CHAIN_FILL, or about to enter it. -/
def schedulesAny (s : State) : Bool :=
  (dplanes s).any (fun d => scheduling (dregime s d) || ((dregimeAt s d).map (fun a => scheduling a.regime)).getD false
    || (s.chainPlane d).pend.isSome)
  || s.planeIds.any (fun p => scheduling (s.plane p).regime)

/-- An external Ethernet or clasp link is up. -/
def extLinkUp (s : State) : Bool :=
  (List.range 8).any (fun k => (s.rlink k).up) || (s.clasp false).up || (s.clasp true).up

/-- Floor of the modes in use, in mV (R623).
Log entry 23 (DEDUCED). -/
def modeFloor (s : State) : Nat :=
  let demand := anyDemand s
  if demand then
    max 700 (if slotNever s s.sched.slotNs s.sched.iter s.sched.cutoffNs s.sched.marginNs then 700
      else slotFloor s s.sched.slotNs s.sched.iter s.sched.cutoffNs s.sched.marginNs)
  else if s.ctxs.any (fun c => ctxNeeds700 c.2) || launching s || schedulesAny s || s.cal.run.isSome then 700
  else if s.ctxs.any (fun c => ctxNeeds650 c.2) || (s.pwr.avs != 2 && extLinkUp s) then 650
  else 550

/-! ### Pace monitors (R621, R626) -/

/-- The block of pace monitor `i` is in use (R621).
Log entry 24 (DEDUCED). -/
def paceUsed (s : State) (i : Nat) : Bool :=
  if i < 4 then s.ctxs.any (fun c => c.2.regime != 0 && c.1 / 2304 == i)
  else if i < 6 then anyDemand s
  else if i < 8 then extLinkUp s
  else if i < 12 then s.mons.any (fun m => m.2.en && m.1 / 1280 == i - 8)
  else true

/-- The pace monitors in use with their slack.
Log entry 24 (DEDUCED). -/
def paceInUse (s : State) : List (Nat × Int) :=
  ((List.range 13).filter (paceUsed s)).map (fun i => (i, s.pwr.slack.getD i 1000))

/-- The in-use monitor of least slack, the first of equals. -/
def leastSlack (s : State) : Nat × Int :=
  match paceInUse s with
  | [] => (12, 1000)
  | x :: t => t.foldl (fun a b => if b.2 < a.2 then b else a) x

/-- Since when the floor lies below the request (R625).
Log entry 23 (DEDUCED). -/
def trackBelow (s : State) : State :=
  if s.pwr.avs != 0 && s.pwr.raise.isNone && decide (modeFloor s < s.pwr.req) then
    { s with pwr := { s.pwr with below := some (s.pwr.below.getD s.time.mono) } }
  else { s with pwr := { s.pwr with below := none, lowering := false } }

/-- Ask for a higher VCORE when it lies above the request (R622, R626).
Log entry 28 (DEDUCED). -/
def raiseTo (mv : Nat) (s : State) : State :=
  if s.pwr.req < clampMv s mv then startRaise mv s else s

/-- PACE_MONITOR_SAMPLE (R621, R623, R626): how far VCORE rises to restore SLACK_MARGIN is a free value.
Log entry 25 (DESIGN CHOICE). -/
def paceSample (slack : List Int) (s : State) : State :=
  let s := { s with pwr := { s.pwr with slack := slack } }
  let low := (paceInUse s).filter (fun x => decide (x.2 < 20))
  let s := each low s (fun x s =>
    raiseEvent 42 { value := x.1 } { s with pwr := { s.pwr with paceLow := (s.pwr.paceLow + 1) % 2 ^ 32 } })
  let base := (s.pwr.raise.map (·.1)).getD s.pwr.req
  let s := if s.pwr.avs = 0 then s
    else if !low.isEmpty then raiseTo (base + 20) s
    else if s.pwr.avs = 1 ∧ (leastSlack s).2 < s.pwr.slackMargin then
      let d := s.draw
      raiseTo (base + 5 * (d.1 % 80)) d.2
    else s
  trackBelow s

/-- PACE_MONITOR_SAMPLE (R621): the thirteen slacks in 0.1 %. -/
def execPaceMonitorSample (slack : List Int) (s : State) := live s (paceSample slack s)

/-! ### Adaptive voltage (R622 to R628) -/

/-- The regulator and the on-die monitor confirm a request (R624). -/
def confirms (want reported meas : Nat) : Bool :=
  decide (reported ≤ want + 10) && decide (want ≤ reported + 10) && decide (want ≤ meas + 10)

/-- AVS_RAISE_TIMEOUT (R624): SYS_AVS_TIMEOUT, the waiting commands refused, and the request repeated. -/
def execAvsRaiseTimeout (s : State) :=
  live s (match s.pwr.raise with
    | none => s
    | some (v, t) =>
      if t ≤ s.time.mono then
        let w := s.pwr.waiting
        let s := raiseCond 15 0 {} s
        let s := { s with pwr := { s.pwr with waiting := [], raise := some (v, s.time.mono + us s.pwr.toUs) } }
        (each w s (fun x => refuseReq x.1 x.2 notReady)).emit (.avs v)
      else s)

/-- AVS_DOWN_HOLD_EXPIRY (R625): DOWN_HOLD_MS after the floor fell, lowering begins. -/
def execAvsDownHoldExpiry (s : State) :=
  live s (match s.pwr.below with
    | some t =>
      if t + ms s.pwr.holdMs ≤ s.time.mono ∧ s.pwr.raise.isNone ∧ s.pwr.avs ≠ 0 ∧ modeFloor s < s.pwr.req then
        { s with pwr := { s.pwr with lowering := true } }
      else s
    | none => s)

/-- The next step down: 10 mV, not below the floor nor MIN_MV (R622, R625). -/
def stepDown (s : State) : Nat := max (max (modeFloor s) s.pwr.minMv) (s.pwr.req - 10)

/-- AVS_LOWER_STEP (R625): the step before it is confirmed, then VCORE falls by 10 mV, once per millisecond, unless the
prediction of R623, which is a free choice, keeps the present value.
Log entry 25 (DESIGN CHOICE). -/
def lowerStep (reported meas : Nat) (s : State) : State :=
  if s.pwr.avs = 0 ∨ !s.pwr.lowering then s
  else
    let s := { s with pwr := { s.pwr with meas := meas } }
    let s := match s.pwr.step with
      | some v => if confirms v reported meas then { s with pwr := { s.pwr with req := v, step := none } } else s
      | none => s
    if s.pwr.step.isSome then s
    else if s.pwr.req ≤ stepDown s then { s with pwr := { s.pwr with lowering := false, below := none } }
    else if s.time.mono < s.pwr.stepAt + ms 1 then s
    else
      let d := s.draw
      let s := d.2
      if d.1 % 2 = 0 then { s with pwr := { s.pwr with lowering := false, below := none } }
      else
        let v := stepDown s
        ({ s with pwr := { s.pwr with step := some v, stepAt := s.time.mono } }).emit (.avs v)

/-- AVS_LOWER_STEP (R625): what the regulator and the on-die monitor report. -/
def execAvsLowerStep (reported meas : Nat) (s : State) := live s (lowerStep reported meas s)

/-! ### Rails and power (R631 to R633) -/

/-- Window of rail `k` in mV (R631). -/
def railWindow (s : State) (k : Nat) : Nat × Nat :=
  match k with
  | 0 => if s.pwr.avs = 0 then (530, 970) else (s.pwr.req - 20, s.pwr.req + 20)
  | 1 => (873, 927) | 2 => (1164, 1236) | 3 => (1746, 1854) | 4 => (1764, 1836) | 5 => (388, 412) | 6 => (1067, 1133)
  | _ => (1746, 1854)

/-- The latest sample of one rail (R632).
Log entry 37 (DEDUCED). -/
def railSample (k mv : Nat) (s : State) : State :=
  let w := railWindow s k
  if w.1 ≤ mv ∧ mv ≤ w.2 then
    endCond (7 + k) 0 { s with pwr := { s.pwr with railOut := s.pwr.railOut.filter (· != k) } }
  else if s.pwr.railOut.contains k then raiseCond (7 + k) 0 {} s
  else { s with pwr := { s.pwr with railOut := insertAsc k s.pwr.railOut } }

/-- RAIL_SAMPLE (R632): the eight rails in mV, in the order of R631. -/
def execRailSample (mv : List Nat) (s : State) :=
  live s (
    let s := { s with pwr := { s.pwr with rails := mv.take 8, meas := mv.getD 0 s.pwr.meas } }
    each (List.range (min 8 mv.length)) s (fun k => railSample k (mv.getD k 0)))

/-- POWER_ESTIMATE (R633). -/
def execPowerEstimate (dieMw hbmMw : Nat) (s : State) :=
  live s { s with pwr := { s.pwr with dieMw := dieMw, hbmMw := hbmMw } }

/-- PATROL_SCRUB (R655): an SRAM word, or a word of HBM stack `stack`. -/
def execPatrolScrub (sram : Bool) (stack : Nat) (corrected uncorrectable : Bool) (s : State) :=
  if 4 ≤ stack then .fault .noSuchUnit else live s (
    let s := { s with pwr := { s.pwr with scrubAt := s.time.mono } }
    let s := if corrected then raiseFault (if sram then 25 else 20 + stack) {} s else s
    if uncorrectable then raiseFault (if sram then 24 else 16 + stack) {} s else s)

/-! ### Clocks and brown-out (R541, R701, R710) -/

/-- REFCLK_LOSS (R710). -/
def execRefclkLoss (s : State) := live s (raiseCond 34 0 {} { s with sys := { s.sys with refclkBad := true } })
/-- REFCLK_RETURN (R710). -/
def execRefclkReturn (s : State) := live s (endCond 34 0 { s with sys := { s.sys with refclkBad := false } })
/-- DPLL_UNLOCK (R541). -/
def execDpllUnlock (s : State) := live s (raiseCond 35 0 {} { s with sys := { s.sys with dpllBad := true } })
/-- DPLL_RELOCK (R541). -/
def execDpllRelock (s : State) := live s (endCond 35 0 { s with sys := { s.sys with dpllBad := false } })

/-- BROWN_OUT (R701): LIGHT_EN and BZ_RST_N are driven low. -/
def execBrownOut (s : State) := live s (each (List.range 8) s scanLow)

/-! ### Temperature sensors (R634 to R637) -/

/-- Group of a sensor, numbered as in R645: 0 to 3 Q, 4 M, 5 S, 6 P, 7 H, 8 + n Bn. -/
def sensorGroup (i : Nat) : Nat := if i < 12 then i / 3 else if i < 28 then 4 + (i - 12) / 4 else 8 + (i - 28) / 4

/-- Sensors of a group (R634). -/
def groupSensors (g : Nat) : List Nat :=
  if g < 4 then range' (3 * g) 3 else if g < 8 then range' (12 + 4 * (g - 4)) 4 else range' (28 + 4 * (g - 8)) 4

/-- Up-frames of a link are valid, so its bezel's sensors are read (R635).
Log entry 30 (DEDUCED). -/
def bezelHeard (s : State) (l : Nat) : Bool :=
  ((s.link l).st == 2 || (s.link l).st == 3 || (s.link l).st == 5) && (s.link l).lostRun == 0

/-- A sensor is INVALID (R635); one that has no reading yet counts as INVALID.
Log entry 30 (DEDUCED). -/
def sensorInvalid (s : State) (i : Nat) : Bool :=
  match (s.sensor i).val with
  | none => true
  | some v => decide (v < -2560) || decide (9600 < v) || (decide (28 ≤ i) && !bezelHeard s ((i - 28) / 4))

/-- A sensor counts as valid: neither INVALID nor SUSPECT (R635). -/
def sensorValid (s : State) (i : Nat) : Bool := !sensorInvalid s i && !(s.sensor i).suspect

/-- Ascending insertion that keeps repeats. -/
def insertVal (x : Int) : List Int → List Int
  | [] => [x]
  | y :: t => if x ≤ y then x :: y :: t else y :: insertVal x t

/-- Readings of the valid sensors of a list, ascending. -/
def validReadings (s : State) (l : List Nat) : List Int :=
  ((l.filter (sensorValid s)).map (fun i => (s.sensor i).val.getD 0)).foldl (fun a v => insertVal v a) []

/-- The reference of a sensor with reading `v` (R635): none with fewer than two good neighbours.
Log entry 31 (DESIGN CHOICE). -/
def reference (s : State) (i : Nat) (v : Int) : Option Int :=
  let r := validReadings s ((groupSensors (sensorGroup i)).filter (· != i))
  let n := r.length
  if n < 2 then none
  else if n % 2 = 1 then some (r.getD (n / 2) 0)
  else
    let a := r.getD (n / 2 - 1) 0
    let b := r.getD (n / 2) 0
    some (if (v - a).natAbs ≤ (v - b).natAbs then a else b)

/-- The largest reading of the valid sensors of a list; none without one (R636). -/
def maxReading (s : State) (l : List Nat) : Option Int := (validReadings s l).getLast?

/-- TEMP_DIE (R636). -/
def tempDie (s : State) : Option Int := maxReading s (List.range 24)
/-- TEMP_HBM (R636). -/
def tempHbm (s : State) : Option Int := maxReading s (range' 24 4)
/-- TEMP_BEZEL of a link (R636). -/
def tempBezel (s : State) (l : Nat) : Option Int := maxReading s (range' (28 + 4 * l) 4)
/-- A temperature as two bytes; 0x8000 for none. -/
def tempBytes (t : Option Int) : Bytes := le 2 ((t.map (uns 16)).getD 0x8000)

/-- Two sensors of a group are SUSPECT or INVALID at once (R635); a sensor that has never been read does not count.
Log entries 30 (DEDUCED), 31 (DESIGN CHOICE). -/
def crossCheck (g : Nat) (s : State) : State :=
  let n := ((groupSensors g).filter (fun i => (s.sensor i).val.isSome && !sensorValid s i)).length
  if g < 8 then setCond (decide (2 ≤ n)) 6 g {} s
  else setCond (decide (2 ≤ n)) (96 + (g - 8)) 0 (linkData s (g - 8)) s

/-- SYS_TEMP_HIGH above a warning threshold, with the temperature (R564); the cause is gone 3 °C below it (R637). -/
def tempHigh (inst : Nat) (t : Option Int) (warn : Nat) (s : State) : State :=
  match t with
  | none => s
  | some v =>
    if (64 * warn : Nat) < v then raiseCond 5 inst { value := uns 32 v } s
    else if v ≤ 64 * ((warn : Int) - 3) then endCond 5 inst s else s

/-- The trip (R551, R637): any valid die sensor at 110 °C; gone once all valid ones read below 100 °C. -/
def tripCheck (s : State) : State :=
  match tempDie s with
  | none => s
  | some v =>
    if 7040 ≤ v then
      raiseCond 4 0 { value := uns 32 v } { s with pwr := { s.pwr with trip := true }, pins := { s.pins with therm := true } }
    else if v < 6400 then
      endCond 4 0 { s with pwr := { s.pwr with trip := false }, pins := { s.pins with therm := s.pwr.anaTrip } }
    else s

/-- The thresholds after a reading (R637). -/
def thresholds (s : State) : State :=
  tripCheck (tempHigh 1 (tempHbm s) s.pwr.hbmWarn (tempHigh 0 (tempDie s) s.pwr.dieWarn s))

/-- A sensor is checked at its update against its reference (R635). -/
def sensorCheck (i : Nat) (v : Int) (s : State) : State :=
  if sensorInvalid s i then s.updSensor i (fun x => { x with ref := none, okSince := none })
  else
    match reference s i v with
    | none => s.updSensor i (fun x => { x with ref := none, bad := 0, okSince := none })
    | some r =>
      let off := (v - r).natAbs
      let bad' := if 64 * s.pwr.xcheck < off then min 3 ((s.sensor i).bad + 1) else 0
      let fresh := bad' == 3 && !(s.sensor i).suspect
      let t := s.updSensor i (fun x => { x with
        ref := some r, bad := bad', suspect := x.suspect || fresh
        okSince := if off ≤ 32 * s.pwr.xcheck then some (x.okSince.getD s.time.mono) else none })
      if fresh then raiseEvent 43 { chan := i } t else t

/-- TEMP_SENSOR_UPDATE (R634 to R637): a reading in 1/64 °C; −32,768 is the bezel's 0x8000. -/
def execTempSensorUpdate (sensor : Nat) (reading : Int) (s : State) :=
  onUnit sensor 60 s (
    let s := s.updSensor sensor (fun x => { x with val := some reading })
    thresholds (crossCheck (sensorGroup sensor) (sensorCheck sensor reading s)))

/-- SENSOR_RECOVER (R635): 1 s of checks within XCHECK / 2. -/
def execSensorRecover (sensor : Nat) (s : State) :=
  onUnit sensor 60 s (match (s.sensor sensor).okSince with
    | some t =>
      if (s.sensor sensor).suspect ∧ t + oneSecond ≤ s.time.mono then
        thresholds (crossCheck (sensorGroup sensor)
          (s.updSensor sensor (fun x => { x with suspect := false, bad := 0 })))
      else s
    | none => s)

/-- ANALOGUE_THERMTRIP (R637): no logic in the path, so PORST_N does not matter.
Log entry 36 (DEDUCED). -/
def execAnalogueThermtrip (s : State) : Host.Outcome State Fault Refusal :=
  .next { s with pwr := { s.pwr with anaTrip := true }, pins := { s.pins with therm := true, light := 0 } }

/-- ANALOGUE_TRIP_RELEASE (R637).
Log entry 36 (DEDUCED). -/
def execAnalogueTripRelease (s : State) : Host.Outcome State Fault Refusal :=
  .next { s with pwr := { s.pwr with anaTrip := false }, pins := { s.pins with therm := s.pwr.trip } }

/-- SMB_TEMP_DIE (R712). -/
def execSmbTempDie (s : State) := smbRead (some (tempBytes (tempDie s))) s
/-- SMB_TEMP_HBM (R712). -/
def execSmbTempHbm (s : State) := smbRead (some (tempBytes (tempHbm s))) s

/-! ### Temperature compensation (R638) -/

/-- Sensor of a compensated circuit (R638). -/
def compSensor (k : Nat) : Nat := if k = 0 then 19 else if k = 1 then 14 else 15

/-- One circuit's correction (R638): of two middle readings, which one counts as the median is a free choice.
Log entry 32 (DESIGN CHOICE). -/
def compTick (k : Nat) (s : State) : State :=
  let i := compSensor k
  let r := validReadings s (groupSensors (sensorGroup i))
  let d := s.draw
  let v := if sensorValid s i then (s.sensor i).val
    else if r = [] then none
    else if r.length % 2 = 1 then r[r.length / 2]? else r[r.length / 2 - d.1 % 2]?
  let s := d.2
  match v with
  | some t => { s with pwr := { s.pwr with
      comp := tput s.pwr.comp k (t + 65536).toNat, compHeld := s.pwr.compHeld.filter (· != k) } }
  | none =>
    if s.pwr.compHeld.contains k then s
    else raiseEvent 46 { chan := i } { s with pwr := { s.pwr with compHeld := insertAsc k s.pwr.compHeld } }

/-- VREF_OUT of a link by R522: 1.250 V, the trim's steps of 50 μV, and TC by the temperature that corrects the reference outputs. Before
that circuit has had a temperature the term is that of 25 °C; an output that is off has no level.
Log entry 186 (DESIGN CHOICE). -/
def vrefOut (s : State) (l : Nat) : Option Int :=
  let word := refOf (workSet s) l
  let trim : Int := (word % 4096 : Nat)
  let tc := (BitVec.ofNat 16 (word / 4096)).toInt
  let t : Int := (tget (65536 + 1600) s.pwr.comp 2 : Nat)
  if (s.sense l).refOn then some (6400000000 + (trim - 2048) * 256000 + tc * (t - 65536 - 1600)) else none

/-- The reference outputs take their levels.
Log entry 186 (DESIGN CHOICE). -/
def driveVref (s : State) : State :=
  each (List.range 8) s (fun l s => match vrefOut s l with
    | some v => s.emit (.vref l v)
    | none => s)

/-- TEMP_COMP_TICK (R638, R522). -/
def execTempCompTick (s : State) := live s (driveVref (each [0, 1, 2] s compTick))

/-! ### Plane temperature regulation (R639 to R641) -/

/-- The set-point field in force: the command's, else the descriptor's (R639). -/
def tSetOf (s : State) (p : Nat) : Nat := if (s.ptemp p).tSet = 0x8000 then (s.desc p).tSet else (s.ptemp p).tSet

/-- Full scale of the plane's auxiliary heaters in uW (R639).
Log entry 33 (DEDUCED). -/
def auxFullScale (s : State) (p : Nat) : Nat :=
  if ((s.auxChs p).head?.map (fun ch => (s.drive ch).high)).getD false then 50000 else 12500

/-- Bezel sensors of the plane's links that are valid (R639). -/
def planeSensors (s : State) (p : Nat) : List Nat :=
  ((s.linksOf p).flatMap (fun l => range' (28 + 4 * l) 4)).filter (sensorValid s)

/-- A code to every heater's queue, TRANSITION clear (R639).
Log entry 33 (DEDUCED). -/
def heaterCodes (p code : Nat) (s : State) : State :=
  each (s.auxChs p) s (fun ch s => s.updDrive ch (fun d =>
    if d.queue.length < 16 then { d with queue := d.queue ++ [{ code := code }] } else d))

/-- Every plane meets a condition of R687. -/
def planeWarm (s : State) (p : Nat) : Bool :=
  if (s.ptemp p).st != 0 then (s.ptemp p).st == 2 || (s.plane p).warmHeld
  else s.sys.park.isNone || (s.plane p).warmed

/-- WARMING ends when every plane meets a condition (R687); shutters that no record holds are released (R688, R691). -/
def warmCheck (s : State) : State :=
  if s.sys.st = 5 ∧ s.planeIds.all (planeWarm s) then
    let s := { s with sys := { s.sys with warm := false } }
    enterState (runState s) (releaseDark s)
  else s

/-- One tick of the regulator with `n ≥ 2` valid sensors of mean `sum / n` (R639): powers in uW / 6,400.
Log entries 33 (DEDUCED), 34 (DEDUCED). -/
def regulate (p sumN : Nat) (sum : Int) (s : State) : State :=
  let t := s.ptemp p
  let e : Int := sgn 16 (tSetOf s p) * 64 - divRound (100 * sum) sumN
  let full : Int := ((s.desc p).aux * auxFullScale s p * 6400 : Nat)
  let pw := (t.kp * 1000 : Nat) * e + t.integ
  let a := clampI pw 0 full
  let code := if full ≤ 0 then 0 else (divRound (a * 1048575) full.toNat).toNat
  let inBand := e.natAbs * 5 ≤ t.band * 32
  let atEnd := decide (a = 0) || decide (a = full)
  let s := s.updPtemp p (fun x => { x with
    out := a
    integ := if a = pw then x.integ + (x.ki : Nat) * e else x.integ
    meas := some (divRound sum sumN)
    sensors := sumN
    inBand := if inBand then some (x.inBand.getD s.time.mono) else none
    satSince := if atEnd then some (x.satSince.getD s.time.mono) else none
    st := if x.st = 4 then 1 else if x.st = 2 ∧ ¬ inBand then 1 else if x.st = 3 ∧ !atEnd then 1 else x.st })
  heaterCodes p code s

/-- The regulator runs: not while a warm reset restarts the processors, nor after shutdown (R641, R691). -/
def regRuns (s : State) (p : Nat) : Bool :=
  (s.ptemp p).st != 0 && !(s.sys.warm && decide (s.sys.st ≤ 3)) && !s.sys.shutdown

/-- PLANE_TEMP_TICK (R639, R640): BLIND with fewer than two valid bezel sensors.
Log entry 35 (DEDUCED). -/
def planeTempTick (p : Nat) (s : State) : State :=
  if !regRuns s p then s
  else
    let l := planeSensors s p
    if l.length < 2 then
      let t := s.updPtemp p (fun x => { x with
        st := 4, sensors := l.length, inBand := none, satSince := none
        meas := l.head?.bind (fun i => (s.sensor i).val) })
      if (s.ptemp p).st = 4 then t else raiseEvent 47 { plane := p } t
    else regulate p l.length (l.foldl (fun a i => a + (s.sensor i).val.getD 0) 0) s

/-- PLANE_TEMP_TICK (R639). -/
def execPlaneTempTick (plane : Nat) (s : State) := onUnit plane 2 s (planeTempTick plane s)

/-- PLANE_TEMP_SETTLED (R640, R687): 1 s within the band. -/
def execPlaneTempSettled (plane : Nat) (s : State) :=
  onUnit plane 2 s (match (s.ptemp plane).inBand with
    | some t =>
      if regRuns s plane ∧ ((s.ptemp plane).st = 1 ∨ (s.ptemp plane).st = 3) ∧ t + oneSecond ≤ s.time.mono then
        let s := s.updPtemp plane (fun x => { x with st := 2, settledAt := s.time.mono })
        let s := raiseEvent 44 { plane := plane } s
        warmCheck (reState (s.updPlane plane (fun q => { q with warmHeld := false })))
      else s
    | none => s)

/-- PLANE_TEMP_SATURATED (R640): 10 s at an end of its range without settling.
Log entry 35 (DEDUCED). -/
def execPlaneTempSaturated (plane : Nat) (s : State) :=
  onUnit plane 2 s (match (s.ptemp plane).satSince with
    | some t =>
      if regRuns s plane ∧ (s.ptemp plane).st = 1 ∧ t + 10 * oneSecond ≤ s.time.mono then
        raiseEvent 45 { plane := plane } (s.updPtemp plane (fun x => { x with st := 3 }))
      else s
    | none => s)

/-! ### Commands (R642 to R646) -/

/-- `power.status` (R642).
Log entry 37 (DEDUCED). -/
def cmdPowerStatus : Cmd where
  op := 0x1501
  checks p _ := layout [] p
  run _ s :=
    let w := s.pwr
    let m := leastSlack s
    let bad' := w.railOut.foldl (fun a k => a + 2 ^ k) 0
    ok s (le 1 w.avs ++ le 1 (b1 w.raise.isSome + 2 * b1 w.lowering + 4 * b1 (bad' != 0))
      ++ le 2 (if w.avs = 0 then 0 else w.req) ++ le 2 w.meas ++ le 2 (modeFloor s) ++ le 2 (uns 16 m.2) ++ le 1 m.1
      ++ le 1 bad' ++ le 4 w.dieMw ++ le 4 w.hbmMw ++ (List.range 8).flatMap (fun k => le 2 (w.rails.getD k 0))
      ++ le 4 w.raises ++ le 4 w.paceLow)

/-- Meaning of `power.status`. -/
def execPowerStatus (req : Req) (s : State) := command cmdPowerStatus req s

/-- `power.avs_config` (R643): the values apply at once and are stored; a request below the new MIN_MV is raised (R622).
Log entry 28 (DEDUCED). -/
def cmdPowerAvsConfig : Cmd where
  op := 0x1502
  checks p _ := layout [1, 1, 2, 2, 2, 2, 2, 4] p ++
    [range p 0 1 0 1, range p 1 1 0 15, range p 2 2 30 300, range p 4 2 550 950, range p 6 2 (fld p 4 2) 950,
     range p 8 2 100 10000, range p 10 2 0 60000, resv p 12 4]
  run r s :=
    let p := r.pay
    let on := fld p 0 1 == 1
    guarded [((!on && s.pwr.avs == 2) || decide (fld p 6 2 < modeFloor s), conflict 0), (s.pwr.raise.isSome, busy)]
      (let s := setCfg (fun c => { c with avsOn := on, rail := fld p 1 1, slack := fld p 2 2, minMv := fld p 4 2
                                          maxMv := fld p 6 2, toUs := fld p 8 2, holdMs := fld p 10 2 }) s
       let w : Pwr := { s.pwr with
         rail := fld p 1 1, slackMargin := fld p 2 2, minMv := fld p 4 2, maxMv := fld p 6 2, toUs := fld p 8 2
         holdMs := fld p 10 2 }
       if !on then ok { s with pwr := { w with avs := 0, lowering := false, step := none, below := none } }
       else if s.pwr.avs ≠ 0 then ok (raiseTo s.pwr.req { s with pwr := w })
       else
         let s := { s with pwr := { w with avs := 1, req := s.pwr.meas } }
         ok (raiseTo (modeFloor s) s))

/-- Meaning of `power.avs_config`. -/
def execPowerAvsConfig (req : Req) (s : State) := command cmdPowerAvsConfig req s

/-- Launches, chain starts or scheduling regimes are accepted, pending or in force (note 12 of R574). -/
def ecoBlocked (s : State) : Bool := launching s || schedulesAny s || anyDemand s

/-- `power.mode` (R628, R644).
Log entry 29 (DEDUCED). -/
def cmdPowerMode : Cmd where
  op := 0x1503
  checks p _ := layout [1, 3] p ++ [range p 0 1 0 1, resv p 1 3]
  run r s :=
    let eco := fld r.pay 0 1 == 1
    guarded [(eco && s.pwr.avs == 0, notReady), (eco && s.pwr.avs == 1 && ecoBlocked s, conflict 7)]
      (if s.pwr.avs = 0 then ok s
       else if eco then ok { s with pwr := { s.pwr with avs := 2 } }
       else
         let t := { s with pwr := { s.pwr with avs := 1 } }
         ok (raiseTo (modeFloor t) t))

/-- Meaning of `power.mode`. -/
def execPowerMode (req : Req) (s : State) := command cmdPowerMode req s

/-- STATE of a sensor in `power.temps` (R645).
Log entry 30 (DEDUCED). -/
def sensorState (s : State) (i : Nat) : Nat :=
  if sensorInvalid s i then 3 else if (s.sensor i).suspect then 2
  else if (reference s i ((s.sensor i).val.getD 0)).isNone then 1 else 0

/-- `power.temps` (R645). -/
def cmdPowerTemps : Cmd where
  op := 0x1504
  checks p _ := [sel p 1 1 1 60] ++ layout [1, 1, 1, 1, 1, 1, 1, 1] p ++
    [range p 0 1 0 59, (decide (60 < fld p 0 1 + fld p 1 1), bad 1), (decide (7 < fld p 2 1), bad 2), resv p 3 1,
     (bit (fld p 2 1) 0 && (decide (fld p 4 1 < 70) || decide (108 < fld p 4 1)), bad 4),
     (bit (fld p 2 1) 1 && (decide (fld p 5 1 < 70) || decide (105 < fld p 5 1)), bad 5),
     (bit (fld p 2 1) 2 && (decide (fld p 6 1 < 2) || decide (30 < fld p 6 1)), bad 6), resv p 7 1]
  run r s :=
    let p := r.pay
    let m := fld p 2 1
    let d := if bit m 0 then fld p 4 1 else s.pwr.dieWarn
    let h := if bit m 1 then fld p 5 1 else s.pwr.hbmWarn
    let x := if bit m 2 then fld p 6 1 else s.pwr.xcheck
    let s := { s with pwr := { s.pwr with dieWarn := d, hbmWarn := h, xcheck := x } }
    let s := if m % 8 = 0 then s else setCfg (fun c => { c with dieWarn := d, hbmWarn := h, xcheck := x }) s
    ok s (tempBytes (tempDie s) ++ tempBytes (tempHbm s) ++ (List.range 8).flatMap (fun l => tempBytes (tempBezel s l)) ++ le 4 0
      ++ (range' (fld p 0 1) (fld p 1 1)).flatMap (fun i =>
          le 1 i ++ le 1 (sensorState s i) ++ tempBytes (s.sensor i).val
            ++ tempBytes (reference s i ((s.sensor i).val.getD 0)) ++ le 1 (sensorGroup i) ++ le 1 0))

/-- Meaning of `power.temps`. -/
def execPowerTemps (req : Req) (s : State) := command cmdPowerTemps req s

/-- Start regulation of a plane (R640, R685, R691): its held output stays. -/
def startReg (p : Nat) (s : State) : State :=
  s.updPtemp p (fun x => { x with st := 1, inBand := none, satSince := none })

/-- Set gains and set-point of a regulator (R646).
Log entry 35 (DEDUCED). -/
def tuneReg (p : Bytes) (tSet : Bool) (x : PlaneTemp) : PlaneTemp :=
  { x with kp := fld p 4 4, ki := fld p 8 4, band := fld p 12 2, tSet := if tSet then fld p 2 2 else x.tSet }

/-- Response of `power.plane_temp` (R646). -/
def planeTempBytes (s : State) (p : Nat) : Bytes :=
  let t := s.ptemp p
  le 1 t.st ++ le 1 0 ++ tempBytes t.meas ++ le 2 (tSetOf s p) ++ le 1 t.sensors ++ le 1 0
    ++ le 4 (divRound t.out 6400000).toNat
    ++ le 4 (if t.st = 2 then sat 32 ((s.time.mono - t.settledAt) / ms 1) else 0)

/-- `power.plane_temp` (R646).
Log entry 35 (DEDUCED). -/
def cmdPowerPlaneTemp : Cmd where
  op := 0x1505
  checks p _ := layout [1, 1, 2, 4, 4, 2, 2] p ++
    [range p 0 1 0 1, range p 1 1 0 3, (fld p 2 2 != 0x8000 && (decide (fld p 2 2 < 2000) || decide (8500 < fld p 2 2)), bad 2),
     range p 4 4 1 100000, range p 8 4 1 1000000, range p 12 2 10 1000, resv p 14 2]
  run r s :=
    let p := r.pay
    let q := fld p 0 1
    let act := fld p 1 1
    let newSet := (act == 1 || act == 3) && fld p 2 2 != (s.ptemp q).tSet
    let moves := act == 1 || act == 2 || newSet
    guarded [((s.desc q).aux == 0 || (act == 1 && fld p 2 2 == 0x8000 && (s.desc q).tSet == 0x8000), notReady),
        (moves && (s.plane q).regime != 0, busyLit), (moves && (s.cal.run.map (·.plane)) == some q, busy)]
      (let t := if act = 1 then
            let t := s.updPtemp q (tuneReg p true)
            if (s.ptemp q).st = 0 then startReg q (t.updPtemp q (fun x => { x with integ := 0, out := 0 })) else t
          else if act = 2 then s.updPtemp q (fun x => { x with st := 0, inBand := none, satSince := none })
          else if act = 3 then s.updPtemp q (tuneReg p true)
          else s
       ok t (planeTempBytes t q))

/-- Meaning of `power.plane_temp`. -/
def execPowerPlaneTemp (req : Req) (s : State) := command cmdPowerPlaneTemp req s

end Sys2Proof.Machine
end

