-- ==== Sys2Proof/Machine/Sec.lean ====
section
/-! DEFINITION. Images as bytes, the plane map commands, secure boot, the locket's commands and the end of a flash
write (R37 to R47, R524, R525, R649 to R678). -/

namespace Sys2Proof.Machine

/-! ### The plane map image (R37 to R40) -/

/-- A plane descriptor (R38). -/
def descBytes (d : PlaneDesc) : Bytes :=
  le 2 d.ports ++ le 1 (b1 d.high) ++ le 1 d.aux ++ le 4 d.tauNs ++ le 4 d.pPiUw ++ le 2 d.kMin ++ le 2 d.extDb ++ le 4 d.offNs
    ++ le 2 d.tSet ++ le 2 0

/-- The descriptor at an offset of an image. -/
def descAt (p : Bytes) (o : Nat) : PlaneDesc :=
  { ports := fld p o 2, high := fld p (o + 2) 1 == 1, aux := fld p (o + 3) 1, tauNs := fld p (o + 4) 4, pPiUw := fld p (o + 8) 4
    kMin := fld p (o + 12) 2, extDb := fld p (o + 14) 2, offNs := fld p (o + 16) 4, tSet := fld p (o + 20) 2 }

/-- Bytes 0 to 63 of a map image (R37). -/
def mapHead (m : PlaneMap) : Bytes :=
  le 2 1 ++ le 1 m.geometry ++ le 1 0 ++ le 4 m.gen ++ le 8 0 ++ descBytes m.d0 ++ descBytes m.d1

/-- A whole map image (R37). -/
def mapImage (m : PlaneMap) : Bytes :=
  let b := mapHead m ++ (List.range 9216).flatMap (fun c => le 4 (m.elemAt c).word)
    ++ (List.range 5120).flatMap (fun c => le 4 (m.monAt c).word)
  b ++ le 4 (crc32c b)

/-- Non-zero words of a table at an offset of an image. -/
def wordsAt (p : Bytes) (o n : Nat) : Tab Nat :=
  (List.range n).foldr (fun i t => if fld p (o + 4 * i) 4 = 0 then t else (i, fld p (o + 4 * i) 4) :: t) []

/-- The map of an image; the entries of a standard geometry are not listed. -/
def mapAt (p : Bytes) : PlaneMap :=
  let g := fld p 2 1
  { geometry := g, gen := fld p 4 4, d0 := descAt p 16, d1 := descAt p 40
    elem := if g = 2 ∨ g = 3 then wordsAt p 64 9216 else [], mon := if g = 2 ∨ g = 3 then wordsAt p 36928 5120 else [] }

/-- The header and descriptor bytes are well formed (rules 1 and 9 of R40). -/
def mapHeadOk (p : Bytes) : Bool :=
  fld p 0 2 == 1 && decide (fld p 2 1 ≤ 4) && fld p 3 1 == 0 && fld p 8 8 == 0 && decide (fld p 18 1 ≤ 1) && decide (fld p 42 1 ≤ 1)
    && fld p 38 2 == 0 && fld p 62 2 == 0

/-- Ports that a geometry gives a plane. -/
def geoPorts (g : Nat) : Nat := if g = 0 ∨ g = 2 then 512 else 256

/-- Cells of a plane of a geometry. -/
def geoCells (g : Nat) : Nat := if g = 0 ∨ g = 2 then 4352 else 1920

/-- Stages of a plane of a geometry. -/
def geoStages (g : Nat) : Nat := if g = 0 ∨ g = 2 then 17 else 15

/-- A descriptor within rule 8 of R40. -/
def descOk (ports : Nat) (d : PlaneDesc) : Bool :=
  d.ports == ports && decide (d.aux ≤ 64) && decide (1000 ≤ d.tauNs) && decide (d.tauNs ≤ 100000) && decide (200 ≤ d.kMin)
    && decide (300 ≤ d.extDb) && decide (d.offNs ≤ 4 * d.tauNs)

/-- A custom element entry is well formed (rule 9 of R40). -/
def elemOk (g w : Nat) : Bool :=
  let e := placeOf w
  w % 2 ^ 13 == 0 && decide (1 ≤ e.kind) && decide (e.kind ≤ 4) && (g == 3 || e.plane == 0) &&
    (if e.kind ≤ 2 then decide (e.stage < geoStages g) && decide (e.index < geoPorts g / 2)
     else e.stage == 0 && decide (e.index < if e.kind = 3 then geoPorts g else 64))

/-- A custom monitor entry is well formed (rule 9 of R40). -/
def monOk (g w : Nat) : Bool :=
  let e := placeOf w
  w % 2 ^ 14 == 0 && decide (1 ≤ e.kind) && decide (e.kind ≤ 3) && (g == 3 || e.plane == 0) &&
    (if e.kind = 1 then decide (e.stage < geoStages g) && decide (e.index < geoPorts g / 2)
     else e.stage == 0 && decide (e.index < if e.kind = 2 then geoPorts g else 256))

/-- Insertion into an ascending list that keeps repeats. -/
def insertNum (x : Nat) : List Nat → List Nat
  | [] => [x]
  | y :: t => if x ≤ y then x :: y :: t else y :: insertNum x t

/-- No number twice in an ascending list. -/
def strictAsc : List Nat → Bool
  | a :: b :: t => decide (a < b) && strictAsc (b :: t)
  | _ => true

/-- Entries of one kind and plane: how many there are, and that no two serve the same place. -/
def kindOnce (t : Tab Nat) (kind p n : Nat) : Bool :=
  let k := ((t.map (fun e => placeOf e.2)).filter (fun e => e.kind == kind && e.plane == p)).map (fun e => e.stage * 512 + e.index)
  k.length == n && strictAsc (k.foldr insertNum [])

/-- Both arms and the monitor of each cell stand where rules 2 and 3 of R40 want them. -/
def cellsOk (m : PlaneMap) : Bool :=
  m.elem.all (fun e =>
    let a := placeOf e.2
    if a.kind = 1 then
      e.1 % 2 == 0 && placeOf (tget 0 m.elem (e.1 + 1)) == { a with kind := 2 } &&
        ((m.monCh 1 a.plane a.stage a.index).map (fun c => c / 640 == e.1 / 1152)).getD false
    else a.kind != 2 || e.1 % 2 == 1)

/-- Every link serves at most one plane (rule 6 of R40). -/
def linksOk (m : PlaneMap) : Bool :=
  (List.range 8).all (fun l =>
    let e := (m.elem.filter (fun e => e.1 / 1152 == l)).map (fun e => (placeOf e.2).plane)
    let c := (m.mon.filter (fun e => e.1 / 640 == l)).map (fun e => (placeOf e.2).plane)
    (e ++ c).all (· == 0) || (e ++ c).all (· == 1))

/-- A map passes R40, its CHECK apart. -/
def mapOk (m : PlaneMap) : Bool :=
  let g := m.geometry
  (m.planes.all (fun p => descOk (geoPorts g) (m.desc p))) && decide (g ≤ 4) && (g != 4 || m.d0 == {}) && (g == 1 || g == 3 || m.d1 == {}) &&
    (g != 0 || m.d0.aux == 0) && (g != 1 || (m.d0.aux == 32 && m.d1.aux == 32)) &&
    (if g = 2 ∨ g = 3 then
      m.elem.all (fun e => elemOk g e.2) && m.mon.all (fun e => monOk g e.2) && cellsOk m && linksOk m &&
        m.planes.all (fun p => kindOnce m.elem 1 p (geoCells g) && kindOnce m.elem 2 p (geoCells g) && kindOnce m.mon 1 p (geoCells g)
          && kindOnce m.elem 3 p (geoPorts g) && kindOnce m.mon 2 p (geoPorts g) && kindOnce m.elem 4 p (m.desc p).aux) &&
        (let a := ((m.elem.map (fun e => placeOf e.2)).filter (fun e => e.kind == 4)).map (·.index)
         decide (a.length ≤ 64) && strictAsc (a.foldr insertNum []))
     else m.elem.isEmpty && m.mon.isEmpty)

/-- A whole map image passes R40; a standard one carries the standard entries (rule 7). -/
def mapImageOk (p : Bytes) : Bool :=
  let m := mapAt p
  p.length == 57412 && mapHeadOk p && mapOk m && fld p 57408 4 == crc32c (p.take 57408) && p.take 57408 == (mapImage m).take 57408

/-- The 64 bytes of a STANDARD load pass R40 (R45). -/
def mapStdOk (p : Bytes) : Bool :=
  let g := fld p 2 1
  p.length == 64 && mapHeadOk p && (g == 0 || g == 1 || g == 4) && mapOk (mapAt p)

/-- The generation of the next accepted map (R37).
Log entry 46 (DEDUCED). -/
def nextMapGen (s : State) : Nat :=
  let last := s.nvm.jobs.foldl (fun a j => match j with | .map m => some m.gen | _ => a) ((bankNow s.nvm.map).map (·.2.gen))
  (last.getD 0 + 1) % 2 ^ 32

/-- `plane.map_read` (R44). -/
def cmdPlaneMapRead : Cmd where
  op := 0x0301
  checks p _ := [sel p 0 1 0 2] ++ (if fld p 0 1 = 0 then [] else [sel p 8 2 1 1000]) ++ layout [1, 3, 4, 2, 2] p ++ [resv p 1 3,
    (let n := if fld p 0 1 = 1 then 9216 else 5120
     fld p 0 1 != 0 && decide (n ≤ fld p 4 4), bad 4),
    (let n := if fld p 0 1 = 1 then 9216 else 5120
     fld p 0 1 != 0 && decide (n < fld p 4 4 + fld p 8 2), bad 8), resv p 10 2]
  run r s :=
    match s.sys.map with
    | none => .error empty
    | some m =>
      let l := range' (fld r.pay 4 4) (fld r.pay 8 2)
      ok s (if fld r.pay 0 1 = 0 then mapHead m
        else if fld r.pay 0 1 = 1 then l.flatMap (fun c => le 4 (m.elemAt c).word)
        else l.flatMap (fun c => le 4 (m.monAt c).word))

/-- Meaning of `plane.map_read`. -/
def execPlaneMapRead (req : Req) (s : State) := command cmdPlaneMapRead req s

/-- `plane.map_load` (R45 to R47): written to NVM as a new generation; it takes effect at the next reset. -/
def cmdPlaneMapLoad : Cmd where
  op := 0x0302
  host := some 0
  checks p _ := layout [8, 4, 4] p ++ [(fld p 8 4 != (if bit (fld p 12 4) 0 then 64 else 57412), bad 8), (decide (1 < fld p 12 4), bad 12)]
  run r s :=
    let std := bit (fld r.pay 12 4) 0
    let img := hostRead r (if std then 64 else 57412)
    guarded [(!s.allIdle, busyLit), (!(if std then mapStdOk img else mapImageOk img), bad 0)]
      (ok (startJob (.map { mapAt img with gen := nextMapGen s }) s))

/-- Meaning of `plane.map_load`. -/
def execPlaneMapLoad (req : Req) (s : State) := command cmdPlaneMapLoad req s

/-! ### Other images as bytes (R120, R527) -/

/-- A park table as bytes (R120). -/
def parkImage (k : Park) : Bytes :=
  let b := le 2 1 ++ le 2 0 ++ le 4 k.mapGen ++ le 8 0 ++ (List.range 9216).flatMap (fun c => le 4 (tget 0 k.codes c))
  b ++ le 4 (crc32c b)

/-- A calibration image as bytes (R527). -/
def calImage (c : Cal) : Bytes :=
  calHeader c ++ (List.range 4352).flatMap (fun i => cellBytes (tget {} c.cells i)) ++ (List.range 9216).flatMap (fun i => elemBytes (tget {} c.elems i))
    ++ (List.range 5120).flatMap (fun i => monBytes (tget {} c.mons i)) ++ (List.range 1152).flatMap (fun i => groupBytes (tget {} c.groups i))
    ++ (List.range 9216).flatMap (fun i => xtBytes (tget {} c.xts i))

/-! ### Secure boot (R662 to R666) -/

/-- SHA-512 of bytes, as 64 bytes. -/
def sha (b : Bytes) : Bytes := slice (Config.sha512 b) 0 64

/-- The payload of a bank; flash past what was written reads 0xFF.
Log entry 45 (DESIGN CHOICE). -/
def fwPayload (b : Bytes) : Bytes :=
  let n := fld b 16 4
  let p := (b.drop 4096).take n
  p ++ List.replicate (n - p.length) 0xFF

/-- The key of a manifest at an offset: modulus and exponent. -/
def keyAt (b : Bytes) (o : Nat) : Bytes := slice b o 516

/-- OWNER_SIG of a bank verifies with a key (R663 check 3).
Log entry 40 (DEDUCED). -/
def ownerSigOk (key b : Bytes) : Bool := Config.rsaVerify key (slice b 0 1792) (slice b 1792 512)

/-- The checks of R663 on a bank: 0 when it is valid, else the status of R674.
Log entries 3 (DESIGN CHOICE), 39 (DEDUCED). -/
def fwCheck (s : State) (b : Bytes) : Nat :=
  if b.length < 4096 ∨ fld b 0 4 ≠ 0x4B564657 ∨ fld b 4 2 ≠ 1 ∨ 6291456 < fld b 16 4 then 3
  else if sha (keyAt b 128) ≠ Config.vendorRootHash ∨ !Config.rsaVerify (keyAt b 128) (slice b 0 704) (slice b 704 512) then 8
  else if s.nvm.lifecycle = 1 ∧ (sha (keyAt b 1216) ≠ s.nvm.ownerHash ∨ !ownerSigOk (keyAt b 1216) b) then 8
  else if fld b 12 4 < s.nvm.secCounter then 8
  else if sha (fwPayload b) ≠ slice b 64 64 then 3
  else 0

/-- A firmware bank: B when `true`. -/
def fwBank (s : State) (bankB : Bool) : Bytes := (if bankB then s.nvm.fwB else s.nvm.fwA).data

/-- Replace a firmware bank. -/
def setFwBank (bankB : Bool) (d : Bytes) (s : State) : State :=
  { s with nvm := if bankB then { s.nvm with fwB := { data := d } } else { s.nvm with fwA := { data := d } } }

/-- IMAGE_SELECT of the record in flash; bank A when no record is valid (R659). -/
def imageSelect (s : State) : Bool := ((bankNow s.nvm.cfg).map (·.2.image)).getD false

/-- Boot a bank (R649, R652, R664). -/
def bootBank (bankB fallback : Bool) (s : State) : State :=
  let b := fwBank s bankB
  { s with sec := { s.sec with
      bankB := bankB, running := true, version := fld b 8 4, secVersion := fld b 12 4, fwHash := slice b 64 64, slices := slice b 24 16
      remap := true, procs := BitVec.allOnes 8, fallback := fallback } }

/-- Recovery (R665): mailbox 0 alone is enabled. -/
def enterRecovery (s : State) : State :=
  { s with sys := { s.sys with recovery := true } }.updMbox 0 (fun b => { b with enabled := true })

/-- BOOT_IMAGE_VERIFY (R664, R665): the bank selected first, the other second. -/
def execBootImageVerify (s : State) :=
  live s (if s.sys.st = 2 ∧ !s.sec.running ∧ !s.sys.recovery then
    let sel := imageSelect s
    if fwCheck s (fwBank s sel) = 0 then bootBank sel false s
    else if fwCheck s (fwBank s (!sel)) = 0 then bootBank (!sel) true s
    else enterRecovery s
  else s)

/-! ### Flash writes end (R525, R674) -/

/-- A write to one of the banked images ended, with or without success.
Log entry 45 (DESIGN CHOICE). -/
def writeDone (ok' : Bool) (j : NvmJob) (s : State) : State :=
  match j with
  | .cal c =>
    if ok' then
      let s := { s with nvm := { s.nvm with cal := bankWrite s.nvm.cal c }, cal := { s.cal with unsaved := false } }
      raiseEvent 53 { value := c.gen } { s with cal := { s.cal with bankB := useB s.nvm.cal } }
    else raiseFault 31 { value := 2 } s
  | .map m => if ok' then { s with nvm := { s.nvm with map := bankWrite s.nvm.map m } } else raiseFault 31 { value := 0 } s
  | .park k => if ok' then { s with nvm := { s.nvm with park := bankWrite s.nvm.park k } } else raiseFault 31 { value := 1 } s
  | .fw b d =>
    let v := if ok' then fwCheck s d else 3
    let s := setFwBank b (if v = 0 then d else []) s
    raiseEvent 415 { value := v } (if v = 8 then raiseFault 412 {} s else s)

/-- NVM_WRITE_DONE (R525, R674): the oldest write under way ends; `ok` is its read-back against what was written. -/
def execNvmWriteDone (ok : Bool) (s : State) :=
  live s (match s.nvm.jobs with
    | [] => s
    | j :: t => writeDone ok j { s with nvm := { s.nvm with jobs := t } })

/-- A bank that is not the one in use loses its image (R525).
Log entry 45 (DESIGN CHOICE). -/
def spoil {α : Type} (k : Banks α) : Banks α := if useB k || k.a.isNone then { k with a := none } else { k with b := none }

/-- A write that is cut off leaves its bank invalid (R525).
Log entry 45 (DESIGN CHOICE). -/
def cutWrite (j : NvmJob) (s : State) : State :=
  match j with
  | .cal _ => { s with nvm := { s.nvm with cal := spoil s.nvm.cal } }
  | .map _ => { s with nvm := { s.nvm with map := spoil s.nvm.map } }
  | .park _ => { s with nvm := { s.nvm with park := spoil s.nvm.park } }
  | .fw b _ => setFwBank b [] s

/-- Every write under way is cut off, by power or by a restart of the firmware. -/
def cutWrites (s : State) : State :=
  let t := each s.nvm.jobs s cutWrite
  { t with nvm := { t.nvm with jobs := [] } }

/-! ### TEST_MODE (R680, R669, R541) -/

/-- SEC_TEST_MODE_PIN stands while TEST_MODE is high outside the factory lifecycle (R702). -/
def testPin (s : State) : State := setCond (s.sys.testMode && s.nvm.lifecycle != 2) 413 0 {} s

/-- TEST_MODE_CHANGE (R680): a fall ends an accepted token (R669). -/
def execTestModeChange (level : Bool) (s : State) : Host.Outcome State Fault Refusal :=
  let t := { s with sys := { s.sys with testMode := level } }
  let t := if level then t else { t with sec := { t.sec with token := none } }
  .next (if s.sys.porst || decide (s.sys.st ≤ 2) then t else testPin t)

/-! ### Attestation (R670 to R673) -/

/-- 64 bytes of a free value, the `k`-th from the present one.
Log entry 38 (DESIGN CHOICE). -/
def freeHash (s : State) (k : Nat) : Bytes := le 64 (Config.freeValue (s.free + k))

/-- FLAGS of a report (R670). -/
def attestFlags (s : State) : Nat :=
  b1 s.sec.bankB + 2 * b1 s.sec.fallback + 4 * b1 s.cal.unsaved + 8 * b1 s.sys.testMode + 16 * b1 s.sec.token.isSome

/-- Bytes 0 to 511 of a report (R670): the hash of the configuration record, whose layout the manual does not give, and
the hash of an image that is not in force are free values.
Log entries 3 (DESIGN CHOICE), 38 (DESIGN CHOICE). -/
def attestBody (nonce : Bytes) (s : State) : Bytes :=
  le 2 1 ++ le 1 s.nvm.lifecycle ++ le 1 s.sys.role ++ le 4 s.sec.version ++ le 8 Config.identity ++ le 4 s.sec.secVersion ++ le 4 s.nvm.secCounter
    ++ le 4 (attestFlags s) ++ le 4 0 ++ timeLe s.time.now ++ le 4 0 ++ slice nonce 0 32 ++ slice s.sec.fwHash 0 64 ++ freeHash s 0
    ++ ((s.sys.map.map (fun m => sha (mapImage m))).getD (freeHash s 1)) ++ ((s.sys.park.map (fun k => sha (parkImage k))).getD (freeHash s 2))
    ++ ((s.cal.cal.map (fun c => sha (calImage c))).getD (freeHash s 3)) ++ slice s.nvm.ownerHash 0 64 ++ le 48 0

/-- `sec.attest` (R670 to R672).
Log entry 43 (DESIGN CHOICE). -/
def cmdSecAttest : Cmd where
  op := 0x1401
  checks p _ := layout [32] p
  run r s :=
    let b := attestBody (r.pay.take 32) s
    ok { s with free := s.free + 4 } (b ++ slice (Config.rsaSign b) 0 512)

/-- Meaning of `sec.attest`. -/
def execSecAttest (req : Req) (s : State) := command cmdSecAttest req s

/-- `sec.cert_read` (R673). -/
def cmdSecCertRead : Cmd where
  op := 0x1402
  checks p s := [sel p 4 2 1 4000] ++ layout [4, 2, 2] p ++
    [(decide (s.nvm.certs.length < fld p 0 4), bad 0),
     (decide (s.nvm.certs.length < fld p 0 4 + fld p 4 2), bad 4), resv p 6 2]
  run r s :=
    ok s (le 4 s.nvm.certs.length ++ le 1 s.nvm.certCount ++ le 3 0 ++ slice s.nvm.certs (fld r.pay 0 4) (fld r.pay 4 2))

/-- Meaning of `sec.cert_read`. -/
def execSecCertRead (req : Req) (s : State) := command cmdSecCertRead req s

/-! ### Firmware images (R674, R675) -/

/-- The bank that `sec.fw_update` writes: the one not running, or in recovery the one selected (R665). -/
def updateBank (s : State) : Bool := if s.sys.recovery then imageSelect s else !s.sec.bankB

/-- `sec.fw_update` (R674). -/
def cmdSecFwUpdate : Cmd where
  op := 0x1403
  host := some 0
  checks p _ := layout [8, 4, 4] p ++ [range p 8 4 4096 16777216, resv p 12 4]
  run r s := guarded [(nvmBusy s, busy)] (ok (startJob (.fw (updateBank s) (hostRead r (fld r.pay 8 4))) s))

/-- Meaning of `sec.fw_update`. -/
def execSecFwUpdate (req : Req) (s : State) := command cmdSecFwUpdate req s

/-- `sec.fw_select` (R666, R675).
Log entry 44 (DEDUCED). -/
def cmdSecFwSelect : Cmd where
  op := 0x1404
  checks p _ := layout [1, 1, 2] p ++ [range p 0 1 0 1, range p 1 1 0 1, resv p 2 2]
  run r s :=
    let b := fld r.pay 0 1 == 1
    guarded [(fwCheck s (fwBank s b) != 0, empty), (nvmBusy s, busy)]
      (let s := setCfg (fun c => { c with image := b }) s
       ok (if fld r.pay 1 1 = 1 then { s with nvm := { s.nvm with secCounter := max s.nvm.secCounter s.sec.secVersion } } else s))

/-- Meaning of `sec.fw_select`. -/
def execSecFwSelect (req : Req) (s : State) := command cmdSecFwSelect req s

/-! ### Lifecycle and tokens (R667 to R669, R676 to R678) -/

/-- A new CHALLENGE replaces the old one and is returned (R668): 32 random bytes, a free value.
Log entry 42 (DEDUCED). -/
def newChallenge (s : State) : Ran :=
  let d := s.draw
  let c := le 32 d.1
  ok { d.2 with sec := { d.2.sec with challenge := some c } } c

/-- The owner key whose hash the locket holds, found in the bank selected or else in the other.
Log entry 40 (DEDUCED). -/
def ownerKey (s : State) : Option Bytes :=
  ([s.sys.cfg.image, !s.sys.cfg.image].map (fun b => keyAt (fwBank s b) 1216)).find? (fun k => sha k == s.nvm.ownerHash)

/-- What an owner signature covers (R668). -/
def ownerMsg (challenge : Bytes) (target : Nat) (newKey : Option Bytes) : Bytes :=
  le 8 Config.identity ++ challenge ++ le 1 target ++ (newKey.map sha).getD (le 64 0)

/-- An owner signature verifies (R668).
Log entry 40 (DEDUCED). -/
def ownerSigned (s : State) (target : Nat) (newKey : Option Bytes) (sig : Bytes) : Bool :=
  match s.sec.challenge, ownerKey s with
  | some c, some k => Config.rsaVerify k (ownerMsg c target newKey) sig
  | _, _ => false

/-- A failed check: CHALLENGE is consumed, SEC_AUTH_FAIL raised and the request refused with AUTH_FAIL (R541, R668).
Log entry 41 (DEDUCED). -/
def authFailed (op : Nat) (r : Req) (s : State) : Ran :=
  later (refuseReq op r authFail (raiseFault 412 {} { s with sec := { s.sec with challenge := none } }))

/-- The lifecycle changes at once (R667). -/
def setLifecycle (lc : Nat) (s : State) : State :=
  raiseEvent 416 { value := lc } (testPin { s with nvm := { s.nvm with lifecycle := lc } })

/-- `sec.owner_set` (R667, R668, R676).
Log entry 40 (DEDUCED). -/
def cmdSecOwnerSet : Cmd where
  op := 0x1405
  checks p _ := [sel p 0 1 0 2] ++
    layout (if fld p 0 1 = 0 then [1, 3] else if fld p 0 1 = 1 then [1, 3, 516] else [1, 3, 516, 512]) p ++ [resv p 1 3]
  run r s :=
    let p := r.pay
    let act := fld p 0 1
    let key := keyAt p 4
    if act = 0 then newChallenge s
    else
      guarded [((act == 1 && s.nvm.lifecycle != 0) || (act == 2 && s.nvm.lifecycle != 1), conflict 0),
          (!ownerSigOk key (fwBank s s.sys.cfg.image), conflict 0), (!s.allIdle, busyLit)]
        (let done := fun (s : State) => ok (setLifecycle 1 { s with nvm := { s.nvm with ownerHash := sha key } })
         if act = 1 then done s
         else if ownerSigned s 1 (some key) (slice p 520 512) then done { s with sec := { s.sec with challenge := none } }
         else authFailed 0x1405 r s)

/-- Meaning of `sec.owner_set`. -/
def execSecOwnerSet (req : Req) (s : State) := command cmdSecOwnerSet req s

/-- The lifecycle changes that `sec.lifecycle` makes (R667). -/
def lcAllowed (from' to' : Nat) : Bool := (from' == 1 && to' == 0) || (from' == 0 && to' == 2) || (from' == 2 && to' == 0)

/-- `sec.lifecycle` (R667, R668, R677).
Log entries 41 (DEDUCED), 42 (DEDUCED). -/
def cmdSecLifecycle : Cmd where
  op := 0x1406
  checks p s := [sel p 0 1 0 1] ++ layout (if fld p 0 1 = 1 && s.nvm.lifecycle == 1 then [1, 1, 2, 512] else [1, 1, 2]) p ++
    [(fld p 0 1 == 1 && !lcAllowed s.nvm.lifecycle (fld p 1 1), bad 1), resv p 2 2]
  run r s :=
    let p := r.pay
    let to' := fld p 1 1
    if fld p 0 1 = 0 then newChallenge s
    else
      guarded [(!s.allIdle, busyLit), (s.nvm.lifecycle != 1 && !bit (s.sec.token.getD 0) 1, authFail)]
        (if s.nvm.lifecycle = 1 then
          if ownerSigned s to' none (slice p 4 512) then
            let s := { s with sec := { s.sec with challenge := none }, nvm := { s.nvm with ownerHash := [] } }
            ok (setLifecycle to' s) (le 1 to' ++ le 3 0)
          else authFailed 0x1406 r s
         else ok (setLifecycle to' s) (le 1 to' ++ le 3 0))

/-- Meaning of `sec.lifecycle`. -/
def execSecLifecycle (req : Req) (s : State) := command cmdSecLifecycle req s

/-- A factory token passes its checks (R669, R678).
Log entry 3 (DESIGN CHOICE). -/
def tokenOk (s : State) (t : Bytes) : Bool :=
  fld t 0 8 == Config.identity && s.sec.challenge == some (slice t 8 32) && Config.rsaVerify Config.vendorRootKey (slice t 0 64) (slice t 64 512)

/-- `sec.factory_token` (R668, R669, R678). -/
def cmdSecFactoryToken : Cmd where
  op := 0x1407
  checks p _ := [sel p 0 1 0 1] ++ layout (if fld p 0 1 = 0 then [1, 3] else [1, 3, 8, 32, 4, 20, 512]) p ++ [resv p 1 3] ++
    (if fld p 0 1 = 1 then [(decide (7 < fld p 44 4), bad 44), resv p 48 20] else [])
  run r s :=
    let p := r.pay
    guarded [(!s.sys.testMode, notReady)]
      (if fld p 0 1 = 0 then newChallenge s
       else if tokenOk s (slice p 4 576) then
         ok { s with sec := { s.sec with challenge := none, token := some (fld p 44 4) } } (le 4 (fld p 44 4))
       else authFailed 0x1407 r s)

/-- Meaning of `sec.factory_token`. -/
def execSecFactoryToken (req : Req) (s : State) := command cmdSecFactoryToken req s

end Sys2Proof.Machine
end

