-- ==== Sys2Proof/Machine/Start.lean ====
section
/-! DEFINITION. Start-up, warm reset, shutdown, the resets of the PCIe function, and the commands of groups `sys` and `cap`
(R428, R429, R468, R498 to R504, R550, R679 to R695, R701). -/

namespace Sys2Proof.Machine

/-! ### PORST_N (R680 to R682, R701) -/

/-- What PORST_N low leaves (R682): flash and key store, the bezels in reset, and what stands outside the device's logic.
Log entry 48 (DEDUCED). -/
def porstLow (s : State) : State :=
  let z : State := {}
  { z with
    pending := s.pending, free := s.free, out := s.out, nvm := (cutWrites s).nvm
    time := { now := 65536000000000, mono := s.time.mono, released := s.time.mono }
    sys := { porst := true, testMode := s.sys.testMode, upAt := s.time.mono }
    pins := { therm := s.pwr.anaTrip }
    pwr := { anaTrip := s.pwr.anaTrip, meas := s.pwr.meas, req := s.pwr.meas }
    bezels := tmap {} (fun _ b => { bezelReset { b with lightPin := false } with rstN := false }) s.bezels }

/-- PORST_ASSERT (R682). -/
def execPorstAssert (s : State) : Host.Outcome State Fault Refusal := .next (porstLow s)

/-- POWER_UP (R701): LIGHT_EN and BZ_RST_N are driven low; the device leaves OFF with PORST_N low. -/
def execPowerUp (s : State) : Host.Outcome State Fault Refusal := .next (porstLow s)

/-- PORST_RELEASE (R428, R649, R680, R683): ROLE is sampled, processor 0 leaves reset and BOOT begins. -/
def execPorstRelease (role : Nat) (s : State) : Host.Outcome State Fault Refusal :=
  .next (if s.sys.porst then
    { s with
      sys := { s.sys with porst := false, st := 2, strap := role % 4, upAt := s.time.mono }
      time := { s.time with now := 65536000000000, released := s.time.mono }
      sec := { s.sec with procs := 1 } }
  else s)

/-! ### BOOT completes (R429, R526, R659, R683) -/

/-- A configuration record comes into force (R659). -/
def takeCfg (c : Cfg) (s : State) : State :=
  { s with
    sys := { s.sys with cfg := c }
    dom := { s.dom with
      propagate := c.propagate, accept := c.accept, holdoverUs := c.holdoverUs, silenceUs := c.silenceUs, tunnelMs := c.tunnelMs
      members := c.members.foldl (fun t e => tset ({} : Member) t e.1 { tget ({} : Member) t e.1 with identity := e.2 }) s.dom.members }
    flt := { s.flt with severity := c.severity.map (fun e => (e.1, e.2 - 1)), faultNSev := c.faultNSev }
    pwr := { s.pwr with
      rail := c.rail, slackMargin := c.slack, minMv := c.minMv, maxMv := c.maxMv, toUs := c.toUs, holdMs := c.holdMs
      dieWarn := c.dieWarn, hbmWarn := c.hbmWarn, xcheck := c.xcheck } }

/-- CAL_NVM_FALLBACK for an image (R526). -/
def fallback (b : Bool) (image : Nat) (s : State) : State := if b then raiseFault 30 { value := image } s else s

/-- The configuration record, plane map and park table of flash (R41, R121, R526, R659). A warm reset keeps the park codes in force, and
that a plane is parked, only while the map and a valid park table stay (R47, R138). -/
def loadImages (s : State) : State :=
  let c := bootImage s.nvm.cfg (fun _ => true)
  let s := fallback c.2 3 (takeCfg (c.1.getD {}) s)
  let m := bootImage s.nvm.map mapOk
  let moved := m.1.map (·.gen) != s.sys.map.map (·.gen)
  let s := { s with sys := { s.sys with map := m.1 } }
  let s := fallback m.2 0 (setCond m.1.isNone 28 0 {} s)
  let k := bootImage s.nvm.park (parkOk s)
  let s := { s with sys := { s.sys with park := k.1 } }
  let s := if s.sys.warm && !moved && k.1.isSome then s
    else each [0, 1] s (fun p s => s.updPlane p (fun q => { q with park := parkTable s, parked := false }))
  fallback k.2 1 (setCond k.1.isNone 27 0 {} s)

/-- The calibration (R526): the one that a warm reset kept while its map is in force (R692), else that of flash. -/
def loadCal (s : State) : State :=
  let kept := s.sys.warm && (s.cal.cal.map (calOk s)).getD false
  if kept then calTake s.planeIds (s.cal.cal.getD {}) s
  else
    let c := bootImage s.nvm.cal (calOk s)
    let s := { s with cal := { s.cal with cal := none, unsaved := false, bankB := useB s.nvm.cal != c.2 } }
    match c.1 with
    | some x => fallback c.2 2 (calTake s.planeIds (fromFlash x) s)
    | none => raiseCond 29 0 {} s

/-- A drive path in a range: codes that stand keep their power as far as the range allows (R119), and the noise shaper starts afresh (R111). -/
def takeRange (h : Bool) (d : Drive) : Drive :=
  let c := fun (x : Nat) => min fullCode (convRange d.high h x)
  { d with high := h, code := c d.code, out := c d.out, cmd := c d.cmd, e1 := 0, e2 := 0 }

/-- Ranges of the plane map's entries, in the drive paths and in the mirror (R115, R119). After a warm reset too: R692 keeps the bezels'
mirrors and the heaters' drive, R119 ends a range of drive.set_range at the reset, so the RANGE bits that differ are written and held
codes are converted (log entry 167, DESIGN CHOICE). -/
def loadRanges (s : State) : State :=
  let l := (List.range 9216).filter (fun ch =>
    (s.elemAt ch).high != (s.drive ch).high || (s.elemAt ch).high != bit (elemHalf s ch) 8)
  each l s (fun ch s => setRangeBit ch (s.elemAt ch).high (s.updDrive ch (takeRange (s.elemAt ch).high)))

/-- The drive paths that a warm reset kept, under the map in force: a channel that is UNUSED now, and a shutter, which is under FORCE_ZERO,
stand at code 0 (R31, R113); hold windows are the whole range until the calibration that comes into force gives those of cells (R47,
R107, R207). -/
def mapPaths (s : State) : State :=
  { s with drives := tmap {} (fun ch d =>
      let k := (s.elemAt ch).kind
      let d := { d with winLo := 0, winHi := fullCode }
      if k = 0 ∨ k = 3 then forceReset d else d) s.drives }

/-- SHUTTER_MASK of every link (R67). -/
def loadMasks (s : State) : State :=
  each (List.range 8) s (fun l s => each (List.range 36) s (fun w s => setImage l (1360 + w) (maskWord s l w) s))

/-- The role by strap and flash, and a worker's time source with it (R349, R428, R429).
Log entry 50 (DEDUCED). -/
def takeRole (s : State) : State :=
  let ok := decide (s.sys.strap < 3) && s.sys.cfg.role == s.sys.strap + 1
  let role := if ok then s.sys.strap else 3
  let d := s.draw
  let s := { d.2 with
    sys := { d.2.sys with role := role }
    dom := { d.2.dom with number := if role < 2 then 0 else 0xFF, darkId := d.1 % 65536 }
    time := if role = 2 then { d.2.time with source := 3, st := 1 } else d.2.time }
  setCond (!ok) 384 0 {} (if ringed s then s else each [false, true] s claspLinkDown)

/-- AVS starts if it is on (R683).
Log entries 28 (DEDUCED), 29 (DEDUCED). -/
def startAvs (s : State) : State :=
  if s.sys.cfg.avsOn then
    let s := { s with pwr := { s.pwr with avs := 1, req := if s.pwr.avs = 0 then s.pwr.meas else s.pwr.req } }
    raiseTo (modeFloor s) s
  else { s with pwr := { s.pwr with avs := 0 } }

/-- LINKING begins on one link (R684, R691): references and training on mapped links, a check alone on a link still in RUN after
a warm reset. -/
def startLink (l : Nat) (s : State) : State :=
  if (s.linkPlane l).isNone then
    if s.bzHigh l then dropCmds l (bzDrive l false (lightOff l (s.updLink l (fun k => { k with st := 0 })))) else s
  else
    let s := refSet true l s
    if s.sys.warm && (s.link l).st == 2 then
      queueBezel l 1 0 [] none (s.updLink l (fun k => { k with checkOnly := true, step := 4, tries := 1 }))
    else startTraining l s

/-- Results of the BOOT-time BIST (R596): target 10, with the first failing address.
Log entry 49 (DESIGN CHOICE). -/
def bootBist (bist : List Nat) (s : State) : State :=
  let b : Bist := { st := if bist = [] then 2 else 3, fails := bist.length, first := bist.headD 0, at' := s.time.now }
  { s with bists := tset {} s.bists 10 b }

/-- BOOT_COMPLETE (R526, R664, R683): `bist` lists the failing addresses of the BOOT-time BIST.
Log entry 49 (DESIGN CHOICE). -/
def bootComplete (bist : List Nat) (s : State) : State :=
  if s.sys.st ≠ 2 ∨ !s.sec.running ∨ s.sys.recovery then s
  else
    let s := bootBist bist s
    if bist ≠ [] then s
    else
      let s := takeRole (loadImages s)
      let s := loadMasks (loadRanges (mapPaths s))
      let s := loadCal s
      let s := each (List.range 16) s (fun m s => s.updMbox m (fun b => { b with enabled := true }))
      let s := startAvs (testPin s)
      let s := if s.sec.fallback then raiseFault 411 {} s else s
      let y := { s.sys with st := 3, phaseAt := s.time.mono }
      let s := notify s { s with sys := y, flt := { s.flt with fwWdogLast := s.time.mono } }
      startDiscovery (each (List.range 8) s startLink)

/-- Meaning of BOOT_COMPLETE. -/
def execBootComplete (bist : List Nat) (s : State) := live s (bootComplete bist s)

/-! ### LINKING, PARKING, WARMING (R683 to R688) -/

/-- A mapped link no longer holds LINKING up (R683, R684).
Log entry 51 (DEDUCED). -/
def linkReady (s : State) (l : Nat) : Bool :=
  (((s.link l).st == 2 && !(s.link l).checkOnly) || (s.link l).st == 4) && (s.sense l).refReady

/-- Discovery no longer holds LINKING up: a worker that hears nothing goes on after the 10 ms that R683 gives LINKING.
Log entry 51 (DEDUCED). -/
def discReady (s : State) : Bool :=
  if s.sys.role = 1 then s.dom.discovered
  else if s.sys.role = 2 then s.dom.discovered || decide (s.sys.phaseAt + ms 10 ≤ s.time.mono)
  else true

/-- WARMING begins once no park ramp is left (R683).
Log entry 53 (DEDUCED). -/
def parkingCheck (s : State) : State :=
  if s.sys.st = 4 ∧ s.planeIds.all (fun p => (s.plane p).ramp.isNone) then
    let s := notify s { s with sys := { s.sys with st := 5 } }
    warmCheck (each s.planeIds s (fun p s => s.updPlane p (fun q => { q with warmAt := s.time.mono, warmed := false, warmHeld := false })))
  else s

/-- Regulation of a plane starts or goes on at PARKING (R685, R691); a plane without an auxiliary heater, and one that the map in force no
longer has, has none (R29).
Log entry 53 (DEDUCED). -/
def parkReg (p : Nat) (s : State) : State :=
  if (s.desc p).aux ≠ 0 ∧ ((s.desc p).tSet ≠ 0x8000 ∨ (s.ptemp p).st ≠ 0) then startReg p s
  else s.updPtemp p (fun x => { x with st := 0 })

/-- LINKING_COMPLETE (R683, R685).
Log entry 51 (DEDUCED). -/
def linkingComplete (s : State) : State :=
  if s.sys.st = 3 ∧ s.mappedLinks.all (linkReady s) ∧ discReady s then
    let s := notify s { s with sys := { s.sys with st := 4 } }
    let s := each s.planeIds s (fun p s =>
      if s.sys.park.isSome then startRamp p 1 (rampTicks 250 (s.plane p).tickUs) true s else s)
    let s := each [0, 1] s parkReg
    parkingCheck s
  else s

/-- Meaning of LINKING_COMPLETE. -/
def execLinkingComplete (s : State) := live s (linkingComplete s)

/-- RAMP_COMPLETE (R123, R138, R683): a ramp has taken its last tick and every channel stands at its destination.
Log entry 178 (DESIGN CHOICE). -/
def rampComplete (p : Nat) (s : State) : State :=
  match (s.plane p).ramp with
  | none => s
  | some r =>
    if r.shutdown ∨ r.done < r.ticks ∨ !((s.planeChs p false).all (fun ch => (s.drive ch).code == (s.drive ch).rampB || forced s ch)) then s
    else
      let s := s.updPlane p (fun q => { q with ramp := none, parked := r.dest == 1 && s.sys.park.isSome })
      parkingCheck (raiseEvent 184 { plane := p } s)

/-- Meaning of RAMP_COMPLETE. -/
def execRampComplete (plane : Nat) (s : State) := onUnit plane 2 s (rampComplete plane s)

/-- WARM_HOLD_EXPIRY (R687): 100 ms since PARKING ended on a plane without regulation. -/
def execWarmHoldExpiry (plane : Nat) (s : State) :=
  onUnit plane 2 s (
    if s.sys.st = 5 ∧ (s.ptemp plane).st = 0 ∧ (s.plane plane).warmAt + ms 100 ≤ s.time.mono then
      warmCheck (s.updPlane plane (fun q => { q with warmed := true }))
    else s)

/-- SYS_WARM_TIMEOUT (R687): 900 s without settling. -/
def execSysWarmTimeout (plane : Nat) (s : State) :=
  onUnit plane 2 s (
    if s.sys.st = 5 ∧ (s.ptemp plane).st ≠ 0 ∧ (s.ptemp plane).st ≠ 2 ∧ !(s.plane plane).warmHeld ∧
        (s.plane plane).warmAt + 900 * oneSecond ≤ s.time.mono then
      warmCheck (s.updPlane plane (fun q => { q with warmHeld := true }) |> raiseEvent 49 { plane := plane })
    else s)

/-! ### Warm reset (R691, R692) -/

/-- What a warm reset leaves of a plane (R692): in IDLE, its shutters under FORCE_ZERO until WARMING ends; one that was parked is so until
its next ramp starts (R138).
Log entry 52 (DEDUCED). -/
def warmPlane (q : Plane) : Plane :=
  { q with
    regime := 0, regimeAt := none, ramp := none, force := none, forceSlot := 0xFFFF, cur := none, accepted := []
    builds := [], showing := none, learn := [], learnOut := [], showSuspect := [], dark := [], lit := [], warmHeld := false, warmed := false, fzDark := true }

/-- What a warm reset leaves of a drive path: its code; what fed it is gone.
Log entry 52 (DEDUCED). -/
def warmDrive (d : Drive) : Drive :=
  { d with
    queue := [], out := d.code, cmd := d.code, trans := false, toHold := false, peLeft := 0, fzWithdrawn := false, pattern := none
    rcStep := 0, inj := 0, loopCode := none }

/-- What a warm reset leaves of the timekeeper (R692): it goes on, and the source starts anew. -/
def warmTime (t : Time) : Time :=
  { t with
    st := if t.source = 0 then 0 else 1, good := 0, bad := 0, step := none, freqLog := [], heard := t.mono
    tout := t.tout.map (fun e => (e.1, toutRest e.2)), tcap := []
    ptp := { t.ptp with
      portState := if t.ptp.on then 4 else t.ptp.portState, foreign := [], sync := none, t12 := none, req := none, presp := none
      annAt := t.mono, syncAt := t.mono } }

/-- What a warm reset leaves of the scheduler (R692): settings and port maps. -/
def warmSched (c : Sched) : Sched :=
  { c with
    gridAt := none, demand := [], chains := [], chainPlanes := [], pipes := [], matching := none, requested := [], asked := []
    loading := [], reads := [], samInterval := 0
    dplanes := tmap {} (fun _ q => { q with
      regime := 0, regimeAt := none, pins := [], withdrawn := [], gptr := [], aptr := [], lost := false }) c.dplanes }

/-- What a warm reset leaves of the domain's state: the clasp links, the memory of DARK units and the settings. -/
def warmDom (d : Dom) : Dom :=
  { clasps := d.clasps, darkMem := d.darkMem, propagate := d.propagate, accept := d.accept, holdoverUs := d.holdoverUs
    silenceUs := d.silenceUs, tunnelMs := d.tunnelMs, log := d.log, lost := d.lost, tunnelTag := d.tunnelTag
    number := if d.number = 0 then 0 else 0xFF }

/-- What a warm reset leaves of a mailbox (R692): what its areas hold; a running request is not answered.
Log entry 52 (DEDUCED). -/
def warmMbox (b : Mbox) : Mbox := { b with enabled := false, busy := false, discard := none, bufs := [] }

/-- What a warm reset leaves of a link: one in RUN keeps its mirror and is checked in LINKING; commands to the bezel are gone.
Log entry 52 (DEDUCED). -/
def warmLink (k : Link) : Link := { k with cmds := [], poll := [], mods := [], checkOnly := k.st == 2 }

/-- Conditions of sources whose cause a warm reset removes: starved contexts, stale endpoints, a full withdrawn list. -/
def warmConds (l : List (Nat × Nat)) : List (Nat × Nat) :=
  l.filter (fun c => !(decide (200 ≤ c.1) && decide (c.1 ≤ 207)) && c.1 != 290 && c.1 != 296)

/-- A warm reset (R691, R692): hardware part of S3 on every plane, drive paths frozen, processors restarted.
Log entries 29 (DEDUCED), 52 (DEDUCED). -/
def warmReset (s : State) : State :=
  let s := hwDarkAll s
  let s := each s.leases s endLease
  let s := cutWrites (dropRunTrims s)
  let s := each (List.range 16) s unstage
  let s := { s with
    sys := { s.sys with st := 2, warm := true, recovery := false }
    sec := { s.sec with running := false, remap := false, procs := 1, token := none, challenge := none }
    time := warmTime s.time
    flt := { s.flt with tasks := [], conds := warmConds s.flt.conds, fwWdogLast := s.time.mono }
    hi := { s.hi with queue := [] }
    mboxes := tmap {} (fun _ b => warmMbox b) s.mboxes
    links := tmap {} (fun _ k => warmLink k) s.links
    drives := tmap {} (fun _ d => warmDrive d) s.drives
    mons := tmap {} (fun _ m => { m with taken := [] }) s.mons
    ctxs := [], swaps := []
    planes := [0, 1].foldl (fun t p => tset ({} : Plane) t p (warmPlane (tget ({} : Plane) t p))) s.planes
    sched := warmSched s.sched
    eps := { s.eps with tab := [], hello := [], held := [] }
    relay := { s.relay with mirrors := [], fences := [] }
    dom := warmDom s.dom
    cal := { s.cal with run := none, visit := none }
    lanes := tmap {} (fun _ x => laneIdle x) s.lanes
    loupe := { s.loupe with srcs := [], freezes := [] }
    snaps := []
    pwr := { s.pwr with raise := none, waiting := [], lowering := false, step := none, below := none }
    leases := [], implicits := [] }
  { s with sys := { s.sys with smbAlert := true } }

/-- FW_WDOG_EXPIRY (R550): SYS_FW_WDOG with the hardware part of S4, then a warm reset; in SHUTTING_DOWN the device stays (R693).
Log entry 54 (DEDUCED). -/
def fwWdogExpiry (s : State) : State :=
  if s.sec.running ∧ s.flt.fwWdogLast + ms s.flt.fwWdogMs ≤ s.time.mono then
    let t := raiseFault 2 {} s
    if s.sys.shutdown then t else warmReset t
  else s

/-- Meaning of FW_WDOG_EXPIRY. -/
def execFwWdogExpiry (s : State) := live s (fwWdogExpiry s)

/-! ### PERST_N and function-level reset (R468, R583) -/

/-- What a reset of the PCIe function leaves of a mailbox: a request that runs is answered to no one.
Log entry 55 (DEDUCED). -/
def perstMbox (waits : Bool) (b : Mbox) : Mbox :=
  { enabled := b.enabled, discard := if b.busy && !waits then some b.tag else b.discard, bufs := b.bufs }

/-- PERST_N and a function-level reset (R468, R583): the PCIe function and BAR0, except the HOST_DARK latch and the host watchdog,
and every HOST lease taken through a mailbox.
Log entry 55 (DEDUCED). -/
def functionReset (s : State) : State :=
  let s := each (s.leases.filter (fun l => l.mbox != 0xFF)) s leaseOver
  { s with
    mboxes := tmap {} (fun m b => perstMbox (s.hi.queue.contains m) b) s.mboxes
    hi := {}
    ev := { log := s.ev.log, lost := s.ev.lost } }

/-- PERST_ASSERT (R468). -/
def execPerstAssert (s : State) := live s (functionReset s)
/-- FUNCTION_LEVEL_RESET (R468). -/
def execFunctionLevelReset (s : State) := live s (functionReset s)

/-! ### Orderly shutdown (R124, R693, R695) -/

/-- Every element of a plane ramps to code 0 under the HOLD set (R124).
Log entry 56 (DEDUCED). -/
def shutRamp (p : Nat) (s : State) : State :=
  let s := startRamp p 0 1 false s
  s.updPlane p (fun q => { q with ramp := q.ramp.map (fun r => { r with shutdown := true }) })

/-- The channel of the largest drive code, the lowest on a tie (R695). -/
def topChannel (s : State) : Nat :=
  (s.drives.foldl (fun (b : Nat × Nat) e => if b.2 < e.2.code then (e.1, e.2.code) else b) (0, 0)).1

/-- Duration of the shutdown ramp of a channel in us (R124, R695). -/
def shutUs (s : State) (ch : Nat) : Nat :=
  let e := s.elemAt ch
  let sl := slewOf s e.plane (slewKind e) 0
  ceilDiv (s.drive ch).code (max sl.step 1) * sl.rate * (s.plane e.plane).tickUs

/-- Expected duration of the ramp in ms, rounded up: of the largest drive code at its HOLD STEP and RATE (R695). -/
def shutMs (s : State) : Nat := ceilDiv (shutUs s (topChannel s)) 1000

/-- Steps 1 to 3 of R693.
Log entry 56 (DEDUCED). -/
def shutdown (s : State) : State :=
  let s := { s with sys := { s.sys with shutdown := true }, pins := { s.pins with light := 0 } }
  let s := each s.planeIds s (fun p s => (enterIdle p (calAbort p 0 s)).updPtemp p (fun x => { x with st := 0 }))
  enterState 10 (each s.planeIds s shutRamp)

/-- SHUTDOWN_RAMP_DONE (step 4 of R693). -/
def shutdownDone (s : State) : State :=
  if s.sys.shutdown ∧ !s.sys.shutDone ∧ s.drives.all (fun e => e.2.code == 0) then
    let s := each (List.range 8) s (fun l s =>
      refSet false l (dropCmds l (bzDrive l false (s.updLink l (fun k => { k with st := 0, relockAt := none })))))
    let s := each s.planeIds s (fun p s => s.updPlane p (fun q => { q with ramp := none }))
    raiseEvent 50 {} { s with sys := { s.sys with shutDone := true } }
  else s

/-- Meaning of SHUTDOWN_RAMP_DONE. -/
def execShutdownRampDone (s : State) := live s (shutdownDone s)

/-! ### Commands of group `sys` (R502 to R504, R694, R695) -/

/-- `sys.info` (R502). -/
def cmdSysInfo : Cmd where
  op := 0x0101
  checks p _ := layout [] p
  run _ s :=
    ok s (le 4 (shownVersion s) ++ le 2 0x0512 ++ le 1 0xB0 ++ le 1 (b1 Config.hbm96) ++ le 1 s.sys.role ++ le 1 s.dom.number
      ++ le 1 (shownLifecycle s) ++ le 1 s.sys.st ++ le 8 Config.identity ++ le 1 (b1 s.sec.bankB) ++ le 3 0
      ++ le 8 ((s.time.mono - s.sys.upAt) / ms 1))

/-- Meaning of `sys.info`. -/
def execSysInfo (req : Req) (s : State) := command cmdSysInfo req s

/-- `sys.reset` (R691, R694): the OK response is written first. -/
def cmdSysReset : Cmd where
  op := 0x0102
  checks p s := layout [1, 1, 2] p ++ [range p 0 1 0 0, (!s.sys.recovery && decide (1 < fld p 1 1), bad 1), resv p 2 2]
  run r s :=
    guarded [(!s.sys.recovery && fld r.pay 1 1 == 0 && !s.allIdle, busyLit)] (later (warmReset (answerOk 0x0102 r {} s)))

/-- Meaning of `sys.reset`. -/
def execSysReset (req : Req) (s : State) := command cmdSysReset req s

/-- `sys.shutdown` (R693, R695).
Log entry 56 (DEDUCED). -/
def cmdSysShutdown : Cmd where
  op := 0x0103
  checks p _ := layout [1, 3] p ++ [range p 0 1 0 1, resv p 1 3]
  run r s := guarded [(fld r.pay 0 1 == 0 && !s.allIdle, busyLit)] (ok (shutdown s) (le 4 (shutMs s)))

/-- Meaning of `sys.shutdown`. -/
def execSysShutdown (req : Req) (s : State) := command cmdSysShutdown req s

/-- `sys.event_log` (R503).
Log entry 129 (DEDUCED). -/
def cmdSysEventLog : Cmd where
  op := 0x0104
  checks p _ := [sel p 0 2 1 128] ++ layout [2, 2] p ++ [resv p 2 2]
  run r s :=
    let l := s.ev.log.take (fld r.pay 0 2)
    guarded [(l.isEmpty, empty)]
      (ok { s with ev := { s.ev with log := s.ev.log.drop l.length, lost := 0 } } (le 2 l.length ++ le 2 s.ev.lost ++ l.flatMap evBytes))

/-- Meaning of `sys.event_log`. -/
def execSysEventLog (req : Req) (s : State) := command cmdSysEventLog req s

/-- `sys.echo` (R504). -/
def cmdSysEcho : Cmd where
  op := 0x0105
  checks _ _ := []
  run r s := ok s r.pay

/-- Meaning of `sys.echo`. -/
def execSysEcho (req : Req) (s : State) := command cmdSysEcho req s

/-! ### The capability list (R498 to R500) -/

/-- Commands of each group, 1 to 23 (R501). -/
def groupSizes : List Nat := [5, 1, 2, 3, 12, 6, 12, 11, 7, 10, 5, 11, 11, 2, 7, 7, 7, 6, 5, 7, 5, 4, 4]

/-- Features of this device with PARAM words 0 and 1, ascending (R499).
Log entry 57 (DESIGN CHOICE). -/
def features (s : State) : List (Nat × Nat × Nat) :=
  [(1, 4080, 65535), (2, 0, 0), (3, 0, 0), (4, 0, 0), (5, 15, 0), (6, 0, 0)] ++
    (if s.sys.role ≤ 1 then [(7, 512, 0)] else []) ++ [(8, 0, 0), (9, 16, 0)] ++
    (List.range 23).map (fun i => (0x101 + i, 2 ^ (groupSizes.getD i 0 + 1) - 2, 0))

/-- An entry of the list (R498): BILEK has MAJOR 2, every other revision is the firmware's. -/
def featureBytes (f : Nat × Nat × Nat) : Bytes :=
  let v := Config.featureRev f.1
  le 2 f.1 ++ le 1 (if f.1 = 1 then 2 else v) ++ le 1 (v / 256) ++ le 4 f.2.1 ++ le 4 f.2.2 ++ le 4 0

/-- `cap.walk` (R498). -/
def cmdCapWalk : Cmd where
  op := 0x0201
  checks p _ := [sel p 2 2 1 250] ++ layout [2, 2] p
  run r s :=
    let l := (features s).filter (fun f => decide (fld r.pay 0 2 ≤ f.1))
    let n := min (fld r.pay 2 2) l.length
    ok s (le 2 n ++ le 2 (((l.drop n).head?.map (·.1)).getD 0xFFFF) ++ (l.take n).flatMap featureBytes)

/-- Meaning of `cap.walk`. -/
def execCapWalk (req : Req) (s : State) := command cmdCapWalk req s

end Sys2Proof.Machine
end

