-- ==== Sys2Proof/Machine/Table.lean ====
section
/-! DEFINITION. The list of commands (R501), the start of queued requests (R486), requests that wait for VCORE (R624), and tunnelled
requests and responses (R441, R452). -/

namespace Sys2Proof.Machine

/-! ### The commands of the device (R501) -/

/-- Commands of group 0x01 (R501). -/
def cmds01 : List Cmd :=
  [cmdSysInfo, cmdSysReset, cmdSysShutdown, cmdSysEventLog, cmdSysEcho]

/-- Commands of group 0x02 (R501). -/
def cmds02 : List Cmd :=
  [cmdCapWalk]

/-- Commands of group 0x03 (R501). -/
def cmds03 : List Cmd :=
  [cmdPlaneMapRead, cmdPlaneMapLoad]

/-- Commands of group 0x04 (R501). -/
def cmds04 : List Cmd :=
  [cmdLinkStatus, cmdLinkRetrain, cmdLinkBezelCmd]

/-- Commands of group 0x05 (R501). -/
def cmds05 : List Cmd :=
  [cmdDriveSetTarget, cmdDriveReadState, cmdDriveSetSlew, cmdDriveSetTick, cmdDriveSetRange, cmdDriveParkLoad,
   cmdDriveParkRead, cmdDriveRamp, cmdDriveReadback, cmdDriveSetReadback, cmdDriveSetLinkLead, cmdDriveCounters]

/-- Commands of group 0x06 (R501). -/
def cmds06 : List Cmd :=
  [cmdSenseRefEnable, cmdSenseSetChannel, cmdSenseAccConfig, cmdSenseAccRead, cmdSenseMinmaxRead, cmdSenseStatus]

/-- Commands of group 0x07 (R501). -/
def cmds07 : List Cmd :=
  [cmdLoopSetRegime, cmdLoopSetGains, cmdLoopSwapBank, cmdLoopSetSetpoint, cmdLoopSetLimits, cmdLoopReadState,
   cmdLoopTableLoad, cmdLoopTableRead, cmdLoopInject, cmdLoopCapture, cmdLoopCaptureRead, cmdLoopCounters]

/-- Commands of group 0x08 (R501). -/
def cmds08 : List Cmd :=
  [cmdFacetDefine, cmdFacetLookup, cmdFacetRead, cmdFacetWrite, cmdFacetLaunch, cmdFacetCancel, cmdFacetReport,
   cmdFacetConfig, cmdFacetPin, cmdFacetRoute, cmdFacetStatus]

/-- Commands of group 0x09 (R501). -/
def cmds09 : List Cmd :=
  [cmdChainLoad, cmdChainStart, cmdChainStop, cmdChainUnload, cmdChainRead, cmdChainStatus, cmdChainConfig]

/-- Commands of group 0x0A (R501). -/
def cmds0A : List Cmd :=
  [cmdSchedSetRegime, cmdSchedConfig, cmdSchedClassConfig, cmdSchedQueueConfig, cmdSchedPin, cmdSchedRestore,
   cmdSchedPlanePorts, cmdSchedDemandRead, cmdSchedSampler, cmdSchedStatus]

/-- Commands of group 0x0B (R501). -/
def cmds0B : List Cmd :=
  [cmdEndpointConfig, cmdEndpointAdmit, cmdEndpointRead, cmdEndpointEvict, cmdEndpointCounters]

/-- Commands of group 0x0C (R501). -/
def cmds0C : List Cmd :=
  [cmdTimeConfig, cmdTimeRead, cmdTimeAdjust, cmdTimeForceSet, cmdTimePtpConfig, cmdTimePtpStatus, cmdTimeTxtsRead,
   cmdTimeTcConfig, cmdTimeTout, cmdTimeTcapConfig, cmdTimeTcapRead]

/-- Commands of group 0x0D (R501). -/
def cmds0D : List Cmd :=
  [cmdRelayConfig, cmdRelayPortConfig, cmdRelayPortStatus, cmdRelayFdbWrite, cmdRelayFdbRead, cmdRelayGroupWrite,
   cmdRelayFence, cmdRelayGateLoad, cmdRelayShaper, cmdRelayMirror, cmdRelayCounters]

/-- Commands of group 0x0E (R501). -/
def cmds0E : List Cmd :=
  [cmdPoolConfig, cmdPoolStatus]

/-- Commands of group 0x0F (R501). -/
def cmds0F : List Cmd :=
  [cmdDomainConfig, cmdDomainStatus, cmdDomainMembers, cmdDomainMemberEdit, cmdDomainSetRole, cmdDomainEvents,
   cmdDomainCounters]

/-- Commands of group 0x10 (R501). -/
def cmds10 : List Cmd :=
  [cmdCalCommission, cmdCalBackground, cmdCalStatus, cmdCalRead, cmdCalStore, cmdCalSelect, cmdCalRefTrim]

/-- Commands of group 0x11 (R501). -/
def cmds11 : List Cmd :=
  [cmdFaultStatus, cmdFaultAck, cmdFaultClear, cmdFaultSetSeverity, cmdFaultConfig, cmdFaultInject, cmdFaultLog]

/-- Commands of group 0x12 (R501). -/
def cmds12 : List Cmd :=
  [cmdTestLanePattern, cmdTestLaneCheck, cmdTestLoopback, cmdTestMarginScan, cmdTestBist, cmdTestCounters]

/-- Commands of group 0x13 (R501). -/
def cmds13 : List Cmd :=
  [cmdLoupeRingConfig, cmdLoupeEnable, cmdLoupeStatus, cmdLoupeExport, cmdLoupeFreeze]

/-- Commands of group 0x14 (R501). -/
def cmds14 : List Cmd :=
  [cmdSecAttest, cmdSecCertRead, cmdSecFwUpdate, cmdSecFwSelect, cmdSecOwnerSet, cmdSecLifecycle, cmdSecFactoryToken]

/-- Commands of group 0x15 (R501). -/
def cmds15 : List Cmd :=
  [cmdPowerStatus, cmdPowerAvsConfig, cmdPowerMode, cmdPowerTemps, cmdPowerPlaneTemp]

/-- Commands of group 0x16 (R501). -/
def cmds16 : List Cmd :=
  [cmdSnapAt, cmdSnapRead, cmdSnapStatus, cmdSnapRelease]

/-- Commands of group 0x17 (R501). -/
def cmds17 : List Cmd :=
  [cmdLeaseTake, cmdLeaseRelease, cmdLeaseList, cmdLeaseRenew]

/-- Every command of this device by group and number (R501). -/
def allCmds : List Cmd :=
  cmds01 ++ cmds02 ++ cmds03 ++ cmds04 ++ cmds05 ++ cmds06 ++ cmds07 ++ cmds08 ++ cmds09 ++ cmds0A ++ cmds0B ++ cmds0C ++ cmds0D ++ cmds0E ++ cmds0F ++ cmds10 ++ cmds11 ++ cmds12 ++ cmds13 ++ cmds14 ++ cmds15 ++ cmds16 ++ cmds17

/-- The command with an OPCODE. -/
def bilekCmd (op : Nat) : Option Cmd := allCmds.find? (fun c => c.op == op)

/-! ### Queued requests (R485, R486) -/

/-- Run a request through the mailboxes; an opcode that the list does not hold is refused (step 1 of R497).
Log entry 157 (DEDUCED). -/
def runOp (op : Nat) (r : Req) (s : State) : State :=
  match bilekCmd op with
  | some c => runCmd c r s
  | none => refuseReq op r noCap s

/-- COMMAND_START (R486), which waits for a `chain.load` that still reads a worker's records: `dma` is the payload that DMA fetches for an INDIRECT request, `dmaIn` what host memory holds where the
command reads it.
Log entries 156 (DESIGN CHOICE), 157 (DEDUCED). -/
def commandStart (dma dmaIn : Bytes) (s : State) : State :=
  match s.hi.queue with
  | [] => s
  | m :: rest =>
    if s.sched.loading ≠ [] then s else
    let x := reqOf m (getBytes (s.mbox m).req 0 4096) dma dmaIn
    runOp x.1 x.2 { s with hi := { s.hi with queue := rest } }

/-- Meaning of COMMAND_START. -/
def execCommandStart (dma dmaIn : Bytes) (s : State) := live s (commandStart dma dmaIn s)

/-! ### Requests that wait for VCORE (R624) -/

/-- A waiting command once VCORE is confirmed (step 3 of R624): one whose floor lies above what the regulator may be asked for is
refused.
Log entry 15 (DEDUCED). -/
def runWaiting (op : Nat) (r : Req) (s : State) : State :=
  match bilekCmd op with
  | some c =>
    if vcore s < c.floor r.pay s ∧ clampMv s (c.floor r.pay s) ≤ s.pwr.req then refuseReq op r notReady s else runAgain c r s
  | none => refuseReq op r noCap s

/-- AVS_POLL (R624): the regulator reports `reported` mV and the on-die monitor reads `meas` mV.
Log entries 15 (DEDUCED), 16 (DESIGN CHOICE). -/
def avsPoll (reported meas : Nat) (s : State) : State :=
  match s.pwr.raise with
  | none => s
  | some (v, _) =>
    let s := { s with pwr := { s.pwr with meas := meas } }
    if confirms v reported meas then
      let w := s.pwr.waiting
      let s := endCond 15 0 { s with pwr := { s.pwr with req := v, raise := none, waiting := [], raises := s.pwr.raises + 1 } }
      each w s (fun x => runWaiting x.1 x.2)
    else s

/-- Meaning of AVS_POLL. -/
def execAvsPoll (reported meas : Nat) (s : State) := live s (avsPoll reported meas s)

/-! ### Tunnelled requests and responses (R441, R452) -/

/-- Key of a whole under reassembly: device, code and TUNNEL_TAG. -/
def wholeKey (m : Msg) : Nat := (m.src * 256 + m.code) * 2 ^ 32 + fld m.body 0 4

/-- The whole with the segment of a message added. -/
def withSegment (m : Msg) (w : Reasm) : Reasm :=
  let b := m.body
  let n := fld b 4 2
  { key := wholeKey m, segs := fld b 6 2, total := fld b 12 4
    got := w.got.filter (fun g => g.1 != n) ++ [(n, fld b 8 4, b.drop 16)] }

/-- The bytes of a whole all of whose segments are there. -/
def wholeBytes (w : Reasm) : Option Bytes :=
  if (List.range w.segs).all (fun i => w.got.any (fun g => g.1 == i)) then
    some ((List.range w.segs).foldl (fun a i =>
      match w.got.find? (fun g => g.1 == i) with
      | some g => a.take g.2.1 ++ g.2.2 ++ a.drop (g.2.1 + g.2.2.length)
      | none => a) (List.replicate w.total 0))
  else none

/-- A segment arrives; `act` gets the whole once every segment has arrived (R441).
Log entry 20 (DESIGN CHOICE). -/
def segment (m : Msg) (act : Bytes → State → State) (s : State) : State :=
  let k := wholeKey m
  let w := withSegment m ((s.dom.reasm.find? (fun x => x.key == k)).getD {})
  let rest := s.dom.reasm.filter (fun x => x.key != k)
  match wholeBytes w with
  | some b => act b (updDom (fun d => { d with reasm := rest }) s)
  | none => updDom (fun d => { d with reasm := rest ++ [w] }) s

/-- The request that the whole of a TUNNEL_REQ spells (R441). -/
def tunnelReq (dev tag : Nat) (b : Bytes) : Nat × Req :=
  let n := fld b 4 2
  (fld b 0 2,
   { origin := .tunnel dev tag, tag := fld b 2 2, len := n, flags := fld b 6 2, target := fld b 8 1, resv := fld b 9 3
     lease := fld b 12 4, payload := slice b 16 n, dmaIn := b.drop (16 + n) })

/-- TUNNEL_REQ_RECEIVE (R452, R497): steps 1 to 3 of R497 were the manager's. -/
def tunnelReqTake (m : Msg) (s : State) : State :=
  if s.sys.role ≠ 2 then s
  else segment m (fun b s =>
    let x := tunnelReq m.src (fld m.body 0 4) b
    match bilekCmd x.1 with
    | some c => runLocal c x.2 s
    | none => refuseReq x.1 x.2 noCap s) s

/-- Meaning of TUNNEL_REQ_RECEIVE. -/
def execTunnelReqReceive (west : Bool) (cells : List Bytes) (s : State) := live s (arrive 0x40 west cells tunnelReqTake s)

/-- What the manager learns of a worker's planes from a command that it passed on and the worker has answered OK: chains of MODE CHAIN, the
update tick and RECONFIG_ALLOW, which SLOT_ANNOUNCE shows (R334, R335).
Log entries 21 (DEDUCED), 60 (DESIGN CHOICE). -/
def workerView (op dev : Nat) (r : Req) (pay : Bytes) (s : State) : State :=
  let p := r.pay
  let key := 256 * dev + fld p 0 1
  let d := 2 * dev + fld p 0 1
  match op with
  | 0x0504 => s.updDplane d (fun q => { q with tickUs := fld p 1 1 })
  | 0x0808 =>
    let t := s.updDplane d (fun q => { q with allow := fld p 32 4, moves := if fld p 32 4 = 0 then q.moves + 1 else q.moves })
    if dallow t d = dallow s d then t else announce t
  | 0x0901 =>
    let c : Chain := { dplane := fld p 1 1, endIdle := bit (fld p 3 1) 0, rep := fld p 6 2, addr := fld p 8 8
                       steps := stepsAt (hostRead r (8 * fld p 4 2)) (fld p 4 2) }
    updSched (fun x => { x with chains := tset {} x.chains key c }) s
  | 0x0902 => if (chainOf s key).steps = [] then s else
    announce (s.updChainPlane (chainOf s key).dplane (fun c => { c with
      pend := some { chain := key, start := timeAt pay 0, rolled := fld pay 24 2 }, late := bit (fld pay 26 1) 0 }))
  | 0x0903 =>
    announce (s.updChainPlane (fld p 0 1) (fun c => { c with run := c.run.map (fun x => { x with stopAt := some (timeAt pay 0) }) }))
  | 0x1006 => announce (moveAllow (2 * dev + 1) (moveAllow (2 * dev) s))
  | 0x0904 => updSched (fun x => { x with chains := tdel x.chains key }) s
  | _ => s

/-- The answer to a tunnelled request (R452): the worker's, unchanged apart from TAG; data goes to the host address of the original
request.
Log entry 17 (DEDUCED). -/
def tunnelAnswer (t : Tunnel) (b : Bytes) (s : State) : State :=
  let n := fld b 4 2
  let pay := slice b 16 n
  let data := b.drop (16 + n)
  if t.own then if t.req.resv ≠ 0x0803 then s else permCame (if fld b 2 2 = 0 then .ok ((List.range (n / 2)).map (fun i => fld pay (2 * i) 2)) else .error (bad 8)) s
  else
    let op := t.req.resv
    let r := { t.req with resv := 0 }
    if rspRoom r < n then refuseReq op r (noRoom r) s
    else
      let addr := match (bilekCmd op).bind (fun c => c.host) with | some o => fld r.pay o 8 | none => 0
      let s := if fld b 2 2 = 0 then workerView op t.dev r pay s else s
      answer op r (fld b 2 2) (fld b 8 4) (fld b 12 4) { pay := pay, addr := addr, data := data } s

/-- TUNNEL_RSP_RECEIVE (R452). A response to a request that has timed out finds nothing to complete.
Log entry 17 (DEDUCED). -/
def tunnelRspTake (m : Msg) (s : State) : State :=
  if s.sys.role ≠ 1 then s
  else segment m (fun b s =>
    let tag := fld m.body 0 4
    match s.dom.tunnels.find? (fun t => t.tag == tag && t.dev == m.src) with
    | none => s
    | some t => tunnelAnswer t b (updDom (fun d => { d with tunnels := d.tunnels.filter (fun x => x.tag != tag) }) s)) s

/-- Meaning of TUNNEL_RSP_RECEIVE. -/
def execTunnelRspReceive (west : Bool) (cells : List Bytes) (s : State) := live s (arrive 0x41 west cells tunnelRspTake s)

/-- TUNNEL_TIMEOUT (R452): TARGET_UNREACHABLE, counted on the clasp port that leads to the worker.
Log entries 18 (DEDUCED), 19 (DEDUCED). -/
def tunnelTimeout (tag : Nat) (s : State) : State :=
  match s.dom.tunnels.find? (fun t => t.tag == tag && decide (t.due ≤ s.time.mono)) with
  | none => s
  | some t =>
    let s := claspCount (wayTo s t.dev) 5 (updDom (fun d => { d with tunnels := d.tunnels.filter (fun x => x.tag != tag) }) s)
    if t.own then
      (if t.req.resv ≠ 0x0803 then s else permCame (.error (unreachableT t.dev)) s)
    else refuseReq t.req.resv { t.req with resv := 0 } (unreachableT t.dev) s

/-- Meaning of TUNNEL_TIMEOUT. -/
def execTunnelTimeout (tag : Nat) (s : State) := live s (tunnelTimeout tag s)

end Sys2Proof.Machine
end

