-- ==== Sys2Proof/Machine/Dispatch.lean ====
section
/-! DEFINITION. One arm per step of the opcode table, each a call of its meaning. -/

namespace Sys2Proof.Machine

open Sys2Proof

def exec (i : Instr) (s : State) : Host.Outcome State Fault Refusal :=
  match i with
  | .porstAssert => Sys2Proof.Machine.execPorstAssert s
  | .porstRelease role => Sys2Proof.Machine.execPorstRelease role s
  | .perstAssert => Sys2Proof.Machine.execPerstAssert s
  | .functionLevelReset => Sys2Proof.Machine.execFunctionLevelReset s
  | .testModeChange level => Sys2Proof.Machine.execTestModeChange level s
  | .brownOut => Sys2Proof.Machine.execBrownOut s
  | .railSample mv => Sys2Proof.Machine.execRailSample mv s
  | .refclkLoss => Sys2Proof.Machine.execRefclkLoss s
  | .dpllUnlock => Sys2Proof.Machine.execDpllUnlock s
  | .analogueThermtrip => Sys2Proof.Machine.execAnalogueThermtrip s
  | .bootImageVerify => Sys2Proof.Machine.execBootImageVerify s
  | .bootComplete bist => Sys2Proof.Machine.execBootComplete bist s
  | .linkingComplete => Sys2Proof.Machine.execLinkingComplete s
  | .warmHoldExpiry plane => Sys2Proof.Machine.execWarmHoldExpiry plane s
  | .sysWarmTimeout plane => Sys2Proof.Machine.execSysWarmTimeout plane s
  | .shutdownRampDone => Sys2Proof.Machine.execShutdownRampDone s
  | .fwHeartbeatTick => Sys2Proof.Machine.execFwHeartbeatTick s
  | .timeMirrorUpdate => Sys2Proof.Machine.execTimeMirrorUpdate s
  | .modulatorTick => Sys2Proof.Machine.execModulatorTick s
  | .upFrameCheck link lane3 lane4 => Sys2Proof.Machine.execUpFrameCheck link lane3 lane4 s
  | .heaterStatusPoll link => Sys2Proof.Machine.execHeaterStatusPoll link s
  | .bzRstHoldExpiry link => Sys2Proof.Machine.execBzRstHoldExpiry link s
  | .upLaneLock link lane => Sys2Proof.Machine.execUpLaneLock link lane s
  | .bezelResponse link resp => Sys2Proof.Machine.execBezelResponse link resp s
  | .bezelCmdRetry link tag => Sys2Proof.Machine.execBezelCmdRetry link tag s
  | .trainTimeout link => Sys2Proof.Machine.execTrainTimeout link s
  | .relockTimeout link => Sys2Proof.Machine.execRelockTimeout link s
  | .lightEnRise link => Sys2Proof.Machine.execLightEnRise link s
  | .bezelApplyTick link lane0 lane1 lane2 env => Sys2Proof.Machine.execBezelApplyTick link lane0 lane1 lane2 env s
  | .bezelCommandComplete link ohm => Sys2Proof.Machine.execBezelCommandComplete link ohm s
  | .bezelLostDownFrame link lanes => Sys2Proof.Machine.execBezelLostDownFrame link lanes s
  | .bezelHoldExit link => Sys2Proof.Machine.execBezelHoldExit link s
  | .bezelLightEnFall link => Sys2Proof.Machine.execBezelLightEnFall link s
  | .bezelLightEnQualify link => Sys2Proof.Machine.execBezelLightEnQualify link s
  | .bezelReset link => Sys2Proof.Machine.execBezelReset link s
  | .bezelSupplyLoss link => Sys2Proof.Machine.execBezelSupplyLoss link s
  | .bezelSupplyRecover link => Sys2Proof.Machine.execBezelSupplyRecover link s
  | .updateTick plane => Sys2Proof.Machine.execUpdateTick plane s
  | .preEmphasisEnd ch => Sys2Proof.Machine.execPreEmphasisEnd ch s
  | .rampComplete plane => Sys2Proof.Machine.execRampComplete plane s
  | .rangeRampDownDone ch => Sys2Proof.Machine.execRangeRampDownDone ch s
  | .rangeSegApplied ch => Sys2Proof.Machine.execRangeSegApplied ch s
  | .rangeChangeDone ch => Sys2Proof.Machine.execRangeChangeDone ch s
  | .readbackStart link modulator => Sys2Proof.Machine.execReadbackStart link modulator s
  | .readbackComplete link modulator => Sys2Proof.Machine.execReadbackComplete link modulator s
  | .sampleDeliver mon => Sys2Proof.Machine.execSampleDeliver mon s
  | .filterSwitch mon => Sys2Proof.Machine.execFilterSwitch mon s
  | .launchFastLead plane launch => Sys2Proof.Machine.execLaunchFastLead plane launch s
  | .refWarmupDone link => Sys2Proof.Machine.execRefWarmupDone link s
  | .accBlockDone mon => Sys2Proof.Machine.execAccBlockDone mon s
  | .bankSwapAt ctx => Sys2Proof.Machine.execBankSwapAt ctx s
  | .loopPaceOverrun ctx => Sys2Proof.Machine.execLoopPaceOverrun ctx s
  | .loopSampleStarved ctx => Sys2Proof.Machine.execLoopSampleStarved ctx s
  | .injectionStart ctx => Sys2Proof.Machine.execInjectionStart ctx s
  | .captureDone ctx => Sys2Proof.Machine.execCaptureDone ctx s
  | .facetBuildDone plane => Sys2Proof.Machine.execFacetBuildDone plane s
  | .launchTime plane launch => Sys2Proof.Machine.execLaunchTime plane launch s
  | .settleTimeout plane cell => Sys2Proof.Machine.execSettleTimeout plane cell s
  | .verifyTimeout plane port => Sys2Proof.Machine.execVerifyTimeout plane port s
  | .learnRead plane => Sys2Proof.Machine.execLearnRead plane s
  | .learnFoldWrite plane => Sys2Proof.Machine.execLearnFoldWrite plane s
  | .chainStepStage dplane => Sys2Proof.Machine.execChainStepStage dplane s
  | .chainStartTime dplane => Sys2Proof.Machine.execChainStartTime dplane s
  | .chainStopBoundary dplane => Sys2Proof.Machine.execChainStopBoundary dplane s
  | .chainEnd dplane => Sys2Proof.Machine.execChainEnd dplane s
  | .schedRegimeAt dplane => Sys2Proof.Machine.execSchedRegimeAt dplane s
  | .gridChangeAt => Sys2Proof.Machine.execGridChangeAt s
  | .slotCutoff => Sys2Proof.Machine.execSlotCutoff s
  | .matchingComplete => Sys2Proof.Machine.execMatchingComplete s
  | .facetRecReceive west cells => Sys2Proof.Machine.execFacetRecReceive west cells s
  | .facetAckReceive west cells => Sys2Proof.Machine.execFacetAckReceive west cells s
  | .grantMarginExpiry slot => Sys2Proof.Machine.execGrantMarginExpiry slot s
  | .pipeLateDeadline dplane slot => Sys2Proof.Machine.execPipeLateDeadline dplane slot s
  | .grantSlotEnd slot => Sys2Proof.Machine.execGrantSlotEnd slot s
  | .samplerPass => Sys2Proof.Machine.execSamplerPass s
  | .helloReceive link frame => Sys2Proof.Machine.execHelloReceive link frame s
  | .demandReceive link frame => Sys2Proof.Machine.execDemandReceive link frame s
  | .arpRequestReceive link frame => Sys2Proof.Machine.execArpRequestReceive link frame s
  | .endpointLiveTimeout ep => Sys2Proof.Machine.execEndpointLiveTimeout ep s
  | .announceTimer => Sys2Proof.Machine.execAnnounceTimer s
  | .ptpMessageReceive link frame rx => Sys2Proof.Machine.execPtpMessageReceive link frame rx s
  | .ptpIntervalTimer kind => Sys2Proof.Machine.execPtpIntervalTimer kind s
  | .slewDone => Sys2Proof.Machine.execSlewDone s
  | .timeSourceLoss => Sys2Proof.Machine.execTimeSourceLoss s
  | .timeStepApply => Sys2Proof.Machine.execTimeStepApply s
  | .realignDone => Sys2Proof.Machine.execRealignDone s
  | .claspTimeSend => Sys2Proof.Machine.execClaspTimeSend s
  | .claspTimeReceive west unit rx => Sys2Proof.Machine.execClaspTimeReceive west unit rx s
  | .claspTimeSilence => Sys2Proof.Machine.execClaspTimeSilence s
  | .tcMatchTimeout port => Sys2Proof.Machine.execTcMatchTimeout port s
  | .tcHoldTimeout frame => Sys2Proof.Machine.execTcHoldTimeout frame s
  | .toutEdge pin => Sys2Proof.Machine.execToutEdge pin s
  | .tcapEdge input fall time => Sys2Proof.Machine.execTcapEdge input fall time s
  | .frameHeadArrive link head rx => Sys2Proof.Machine.execFrameHeadArrive link head rx s
  | .frameReceiveEnd link frame fcs => Sys2Proof.Machine.execFrameReceiveEnd link frame fcs s
  | .crossbarCellTime => Sys2Proof.Machine.execCrossbarCellTime s
  | .egressFrameStart link => Sys2Proof.Machine.execEgressFrameStart link s
  | .egressFrameDone link => Sys2Proof.Machine.execEgressFrameDone link s
  | .pfcReceive link classes quanta => Sys2Proof.Machine.execPfcReceive link classes quanta s
  | .pauseExpiry link cls => Sys2Proof.Machine.execPauseExpiry link cls s
  | .pfcRefresh link => Sys2Proof.Machine.execPfcRefresh link s
  | .ethLinkDown link => Sys2Proof.Machine.execEthLinkDown link s
  | .ethLinkUp link => Sys2Proof.Machine.execEthLinkUp link s
  | .gateEntryBoundary link => Sys2Proof.Machine.execGateEntryBoundary link s
  | .gateListTakeEffect link => Sys2Proof.Machine.execGateListTakeEffect link s
  | .fenceComplete => Sys2Proof.Machine.execFenceComplete s
  | .fenceTimeout => Sys2Proof.Machine.execFenceTimeout s
  | .bufferTransfer pool addr src dst => Sys2Proof.Machine.execBufferTransfer pool addr src dst s
  | .hostTxFrame desc data => Sys2Proof.Machine.execHostTxFrame desc data s
  | .hostRxDeliver desc => Sys2Proof.Machine.execHostRxDeliver desc s
  | .claspLinkUp west sameName => Sys2Proof.Machine.execClaspLinkUp west sameName s
  | .claspLinkDown west => Sys2Proof.Machine.execClaspLinkDown west s
  | .claspCreditReceive west unit => Sys2Proof.Machine.execClaspCreditReceive west unit s
  | .heartbeatSend => Sys2Proof.Machine.execHeartbeatSend s
  | .heartbeatReceive west cells => Sys2Proof.Machine.execHeartbeatReceive west cells s
  | .workerSilence dev => Sys2Proof.Machine.execWorkerSilence dev s
  | .managerSilence => Sys2Proof.Machine.execManagerSilence s
  | .holdoverEnd => Sys2Proof.Machine.execHoldoverEnd s
  | .discoverReceive west cells => Sys2Proof.Machine.execDiscoverReceive west cells s
  | .numberReceive west cells => Sys2Proof.Machine.execNumberReceive west cells s
  | .claspAckReceive west cells => Sys2Proof.Machine.execClaspAckReceive west cells s
  | .claspResendTimeout dst seq => Sys2Proof.Machine.execClaspResendTimeout dst seq s
  | .noticeReceive west cells => Sys2Proof.Machine.execNoticeReceive west cells s
  | .schedCmdReceive west cells => Sys2Proof.Machine.execSchedCmdReceive west cells s
  | .snapReceive west cells => Sys2Proof.Machine.execSnapReceive west cells s
  | .eventMsgReceive west cells => Sys2Proof.Machine.execEventMsgReceive west cells s
  | .tunnelReqReceive west cells => Sys2Proof.Machine.execTunnelReqReceive west cells s
  | .tunnelRspReceive west cells => Sys2Proof.Machine.execTunnelRspReceive west cells s
  | .tunnelTimeout tag => Sys2Proof.Machine.execTunnelTimeout tag s
  | .claspDarkReceive west unit errored => Sys2Proof.Machine.execClaspDarkReceive west unit errored s
  | .darkMemoryExpiry origin ident => Sys2Proof.Machine.execDarkMemoryExpiry origin ident s
  | .commandStart dma dmaIn => Sys2Proof.Machine.execCommandStart dma dmaIn s
  | .faultFirmwareReaction => Sys2Proof.Machine.execFaultFirmwareReaction s
  | .fwWdogExpiry => Sys2Proof.Machine.execFwWdogExpiry s
  | .hostWdogExpiry => Sys2Proof.Machine.execHostWdogExpiry s
  | .injectHoldExpiry event => Sys2Proof.Machine.execInjectHoldExpiry event s
  | .calPhaseDone meas => Sys2Proof.Machine.execCalPhaseDone meas s
  | .calRunDone => Sys2Proof.Machine.execCalRunDone s
  | .calBackgroundVisitDone acc integ => Sys2Proof.Machine.execCalBackgroundVisitDone acc integ s
  | .nvmWriteDone ok => Sys2Proof.Machine.execNvmWriteDone ok s
  | .marginPointDone lane errors => Sys2Proof.Machine.execMarginPointDone lane errors s
  | .bistDone target fails first => Sys2Proof.Machine.execBistDone target fails first s
  | .jtagInstructionUpdate code => Sys2Proof.Machine.execJtagInstructionUpdate code s
  | .loupeDirUpdate => Sys2Proof.Machine.execLoupeDirUpdate s
  | .timeBaseDue => Sys2Proof.Machine.execTimeBaseDue s
  | .loupeFreezeTrigger event => Sys2Proof.Machine.execLoupeFreezeTrigger event s
  | .loupeFreezeStop => Sys2Proof.Machine.execLoupeFreezeStop s
  | .snapStrobe bank => Sys2Proof.Machine.execSnapStrobe bank s
  | .leaseExpiry id => Sys2Proof.Machine.execLeaseExpiry id s
  | .paceMonitorSample slack => Sys2Proof.Machine.execPaceMonitorSample slack s
  | .avsPoll reported meas => Sys2Proof.Machine.execAvsPoll reported meas s
  | .avsRaiseTimeout => Sys2Proof.Machine.execAvsRaiseTimeout s
  | .avsDownHoldExpiry => Sys2Proof.Machine.execAvsDownHoldExpiry s
  | .avsLowerStep reported meas => Sys2Proof.Machine.execAvsLowerStep reported meas s
  | .powerEstimate dieMw hbmMw => Sys2Proof.Machine.execPowerEstimate dieMw hbmMw s
  | .tempSensorUpdate sensor reading => Sys2Proof.Machine.execTempSensorUpdate sensor reading s
  | .sensorRecover sensor => Sys2Proof.Machine.execSensorRecover sensor s
  | .tempCompTick => Sys2Proof.Machine.execTempCompTick s
  | .planeTempTick plane => Sys2Proof.Machine.execPlaneTempTick plane s
  | .planeTempSettled plane => Sys2Proof.Machine.execPlaneTempSettled plane s
  | .planeTempSaturated plane => Sys2Proof.Machine.execPlaneTempSaturated plane s
  | .patrolScrub sram stack corrected uncorrectable => Sys2Proof.Machine.execPatrolScrub sram stack corrected uncorrectable s
  | .emergencyDark value => Sys2Proof.Machine.execEmergencyDark value s
  | .emergencyRelease value => Sys2Proof.Machine.execEmergencyRelease value s
  | .wdogTimeoutWrite value => Sys2Proof.Machine.execWdogTimeoutWrite value s
  | .wdogKick value => Sys2Proof.Machine.execWdogKick value s
  | .mailboxRing mbox value => Sys2Proof.Machine.execMailboxRing mbox value s
  | .requestAreaWrite mbox offset value => Sys2Proof.Machine.execRequestAreaWrite mbox offset value s
  | .pendingClear word value raised => Sys2Proof.Machine.execPendingClear word value raised s
  | .irqEnWrite value => Sys2Proof.Machine.execIrqEnWrite value s
  | .eventMaskWrite word value => Sys2Proof.Machine.execEventMaskWrite word value s
  | .eventVectorWrite word value => Sys2Proof.Machine.execEventVectorWrite word value s
  | .txTailWrite value => Sys2Proof.Machine.execTxTailWrite value s
  | .rxTailWrite value => Sys2Proof.Machine.execRxTailWrite value s
  | .registerWrite space offset size value => Sys2Proof.Machine.execRegisterWrite space offset size value s
  | .smbState => Sys2Proof.Machine.execSmbState s
  | .smbMaxSev => Sys2Proof.Machine.execSmbMaxSev s
  | .smbLightEn => Sys2Proof.Machine.execSmbLightEn s
  | .smbPlaneDark => Sys2Proof.Machine.execSmbPlaneDark s
  | .smbTempDie => Sys2Proof.Machine.execSmbTempDie s
  | .smbTempHbm => Sys2Proof.Machine.execSmbTempHbm s
  | .smbVcoreMv => Sys2Proof.Machine.execSmbVcoreMv s
  | .smbDiePowerW => Sys2Proof.Machine.execSmbDiePowerW s
  | .smbIdentity => Sys2Proof.Machine.execSmbIdentity s
  | .smbAlertResponse => Sys2Proof.Machine.execSmbAlertResponse s
  | .smbUnknown code => Sys2Proof.Machine.execSmbUnknown code s
  | .sysInfo req => Sys2Proof.Machine.execSysInfo req s
  | .sysReset req => Sys2Proof.Machine.execSysReset req s
  | .sysShutdown req => Sys2Proof.Machine.execSysShutdown req s
  | .sysEventLog req => Sys2Proof.Machine.execSysEventLog req s
  | .sysEcho req => Sys2Proof.Machine.execSysEcho req s
  | .capWalk req => Sys2Proof.Machine.execCapWalk req s
  | .planeMapRead req => Sys2Proof.Machine.execPlaneMapRead req s
  | .planeMapLoad req => Sys2Proof.Machine.execPlaneMapLoad req s
  | .linkStatus req => Sys2Proof.Machine.execLinkStatus req s
  | .linkRetrain req => Sys2Proof.Machine.execLinkRetrain req s
  | .linkBezelCmd req => Sys2Proof.Machine.execLinkBezelCmd req s
  | .driveSetTarget req => Sys2Proof.Machine.execDriveSetTarget req s
  | .driveReadState req => Sys2Proof.Machine.execDriveReadState req s
  | .driveSetSlew req => Sys2Proof.Machine.execDriveSetSlew req s
  | .driveSetTick req => Sys2Proof.Machine.execDriveSetTick req s
  | .driveSetRange req => Sys2Proof.Machine.execDriveSetRange req s
  | .driveParkLoad req => Sys2Proof.Machine.execDriveParkLoad req s
  | .driveParkRead req => Sys2Proof.Machine.execDriveParkRead req s
  | .driveRamp req => Sys2Proof.Machine.execDriveRamp req s
  | .driveReadback req => Sys2Proof.Machine.execDriveReadback req s
  | .driveSetReadback req => Sys2Proof.Machine.execDriveSetReadback req s
  | .driveSetLinkLead req => Sys2Proof.Machine.execDriveSetLinkLead req s
  | .driveCounters req => Sys2Proof.Machine.execDriveCounters req s
  | .senseRefEnable req => Sys2Proof.Machine.execSenseRefEnable req s
  | .senseSetChannel req => Sys2Proof.Machine.execSenseSetChannel req s
  | .senseAccConfig req => Sys2Proof.Machine.execSenseAccConfig req s
  | .senseAccRead req => Sys2Proof.Machine.execSenseAccRead req s
  | .senseMinmaxRead req => Sys2Proof.Machine.execSenseMinmaxRead req s
  | .senseStatus req => Sys2Proof.Machine.execSenseStatus req s
  | .loopSetRegime req => Sys2Proof.Machine.execLoopSetRegime req s
  | .loopSetGains req => Sys2Proof.Machine.execLoopSetGains req s
  | .loopSwapBank req => Sys2Proof.Machine.execLoopSwapBank req s
  | .loopSetSetpoint req => Sys2Proof.Machine.execLoopSetSetpoint req s
  | .loopSetLimits req => Sys2Proof.Machine.execLoopSetLimits req s
  | .loopReadState req => Sys2Proof.Machine.execLoopReadState req s
  | .loopTableLoad req => Sys2Proof.Machine.execLoopTableLoad req s
  | .loopTableRead req => Sys2Proof.Machine.execLoopTableRead req s
  | .loopInject req => Sys2Proof.Machine.execLoopInject req s
  | .loopCapture req => Sys2Proof.Machine.execLoopCapture req s
  | .loopCaptureRead req => Sys2Proof.Machine.execLoopCaptureRead req s
  | .loopCounters req => Sys2Proof.Machine.execLoopCounters req s
  | .facetDefine req => Sys2Proof.Machine.execFacetDefine req s
  | .facetLookup req => Sys2Proof.Machine.execFacetLookup req s
  | .facetRead req => Sys2Proof.Machine.execFacetRead req s
  | .facetWrite req => Sys2Proof.Machine.execFacetWrite req s
  | .facetLaunch req => Sys2Proof.Machine.execFacetLaunch req s
  | .facetCancel req => Sys2Proof.Machine.execFacetCancel req s
  | .facetReport req => Sys2Proof.Machine.execFacetReport req s
  | .facetConfig req => Sys2Proof.Machine.execFacetConfig req s
  | .facetPin req => Sys2Proof.Machine.execFacetPin req s
  | .facetRoute req => Sys2Proof.Machine.execFacetRoute req s
  | .facetStatus req => Sys2Proof.Machine.execFacetStatus req s
  | .chainLoad req => Sys2Proof.Machine.execChainLoad req s
  | .chainStart req => Sys2Proof.Machine.execChainStart req s
  | .chainStop req => Sys2Proof.Machine.execChainStop req s
  | .chainUnload req => Sys2Proof.Machine.execChainUnload req s
  | .chainRead req => Sys2Proof.Machine.execChainRead req s
  | .chainStatus req => Sys2Proof.Machine.execChainStatus req s
  | .chainConfig req => Sys2Proof.Machine.execChainConfig req s
  | .schedSetRegime req => Sys2Proof.Machine.execSchedSetRegime req s
  | .schedConfig req => Sys2Proof.Machine.execSchedConfig req s
  | .schedClassConfig req => Sys2Proof.Machine.execSchedClassConfig req s
  | .schedQueueConfig req => Sys2Proof.Machine.execSchedQueueConfig req s
  | .schedPin req => Sys2Proof.Machine.execSchedPin req s
  | .schedRestore req => Sys2Proof.Machine.execSchedRestore req s
  | .schedPlanePorts req => Sys2Proof.Machine.execSchedPlanePorts req s
  | .schedDemandRead req => Sys2Proof.Machine.execSchedDemandRead req s
  | .schedSampler req => Sys2Proof.Machine.execSchedSampler req s
  | .schedStatus req => Sys2Proof.Machine.execSchedStatus req s
  | .endpointConfig req => Sys2Proof.Machine.execEndpointConfig req s
  | .endpointAdmit req => Sys2Proof.Machine.execEndpointAdmit req s
  | .endpointRead req => Sys2Proof.Machine.execEndpointRead req s
  | .endpointEvict req => Sys2Proof.Machine.execEndpointEvict req s
  | .endpointCounters req => Sys2Proof.Machine.execEndpointCounters req s
  | .timeConfig req => Sys2Proof.Machine.execTimeConfig req s
  | .timeRead req => Sys2Proof.Machine.execTimeRead req s
  | .timeAdjust req => Sys2Proof.Machine.execTimeAdjust req s
  | .timeForceSet req => Sys2Proof.Machine.execTimeForceSet req s
  | .timePtpConfig req => Sys2Proof.Machine.execTimePtpConfig req s
  | .timePtpStatus req => Sys2Proof.Machine.execTimePtpStatus req s
  | .timeTxtsRead req => Sys2Proof.Machine.execTimeTxtsRead req s
  | .timeTcConfig req => Sys2Proof.Machine.execTimeTcConfig req s
  | .timeTout req => Sys2Proof.Machine.execTimeTout req s
  | .timeTcapConfig req => Sys2Proof.Machine.execTimeTcapConfig req s
  | .timeTcapRead req => Sys2Proof.Machine.execTimeTcapRead req s
  | .relayConfig req => Sys2Proof.Machine.execRelayConfig req s
  | .relayPortConfig req => Sys2Proof.Machine.execRelayPortConfig req s
  | .relayPortStatus req => Sys2Proof.Machine.execRelayPortStatus req s
  | .relayFdbWrite req => Sys2Proof.Machine.execRelayFdbWrite req s
  | .relayFdbRead req => Sys2Proof.Machine.execRelayFdbRead req s
  | .relayGroupWrite req => Sys2Proof.Machine.execRelayGroupWrite req s
  | .relayFence req => Sys2Proof.Machine.execRelayFence req s
  | .relayGateLoad req => Sys2Proof.Machine.execRelayGateLoad req s
  | .relayShaper req => Sys2Proof.Machine.execRelayShaper req s
  | .relayMirror req => Sys2Proof.Machine.execRelayMirror req s
  | .relayCounters req => Sys2Proof.Machine.execRelayCounters req s
  | .poolConfig req => Sys2Proof.Machine.execPoolConfig req s
  | .poolStatus req => Sys2Proof.Machine.execPoolStatus req s
  | .domainConfig req => Sys2Proof.Machine.execDomainConfig req s
  | .domainStatus req => Sys2Proof.Machine.execDomainStatus req s
  | .domainMembers req => Sys2Proof.Machine.execDomainMembers req s
  | .domainMemberEdit req => Sys2Proof.Machine.execDomainMemberEdit req s
  | .domainSetRole req => Sys2Proof.Machine.execDomainSetRole req s
  | .domainEvents req => Sys2Proof.Machine.execDomainEvents req s
  | .domainCounters req => Sys2Proof.Machine.execDomainCounters req s
  | .calCommission req => Sys2Proof.Machine.execCalCommission req s
  | .calBackground req => Sys2Proof.Machine.execCalBackground req s
  | .calStatus req => Sys2Proof.Machine.execCalStatus req s
  | .calRead req => Sys2Proof.Machine.execCalRead req s
  | .calStore req => Sys2Proof.Machine.execCalStore req s
  | .calSelect req => Sys2Proof.Machine.execCalSelect req s
  | .calRefTrim req => Sys2Proof.Machine.execCalRefTrim req s
  | .faultStatus req => Sys2Proof.Machine.execFaultStatus req s
  | .faultAck req => Sys2Proof.Machine.execFaultAck req s
  | .faultClear req => Sys2Proof.Machine.execFaultClear req s
  | .faultSetSeverity req => Sys2Proof.Machine.execFaultSetSeverity req s
  | .faultConfig req => Sys2Proof.Machine.execFaultConfig req s
  | .faultInject req => Sys2Proof.Machine.execFaultInject req s
  | .faultLog req => Sys2Proof.Machine.execFaultLog req s
  | .testLanePattern req => Sys2Proof.Machine.execTestLanePattern req s
  | .testLaneCheck req => Sys2Proof.Machine.execTestLaneCheck req s
  | .testLoopback req => Sys2Proof.Machine.execTestLoopback req s
  | .testMarginScan req => Sys2Proof.Machine.execTestMarginScan req s
  | .testBist req => Sys2Proof.Machine.execTestBist req s
  | .testCounters req => Sys2Proof.Machine.execTestCounters req s
  | .loupeRingConfig req => Sys2Proof.Machine.execLoupeRingConfig req s
  | .loupeEnable req => Sys2Proof.Machine.execLoupeEnable req s
  | .loupeStatus req => Sys2Proof.Machine.execLoupeStatus req s
  | .loupeExport req => Sys2Proof.Machine.execLoupeExport req s
  | .loupeFreeze req => Sys2Proof.Machine.execLoupeFreeze req s
  | .secAttest req => Sys2Proof.Machine.execSecAttest req s
  | .secCertRead req => Sys2Proof.Machine.execSecCertRead req s
  | .secFwUpdate req => Sys2Proof.Machine.execSecFwUpdate req s
  | .secFwSelect req => Sys2Proof.Machine.execSecFwSelect req s
  | .secOwnerSet req => Sys2Proof.Machine.execSecOwnerSet req s
  | .secLifecycle req => Sys2Proof.Machine.execSecLifecycle req s
  | .secFactoryToken req => Sys2Proof.Machine.execSecFactoryToken req s
  | .powerStatus req => Sys2Proof.Machine.execPowerStatus req s
  | .powerAvsConfig req => Sys2Proof.Machine.execPowerAvsConfig req s
  | .powerMode req => Sys2Proof.Machine.execPowerMode req s
  | .powerTemps req => Sys2Proof.Machine.execPowerTemps req s
  | .powerPlaneTemp req => Sys2Proof.Machine.execPowerPlaneTemp req s
  | .snapAt req => Sys2Proof.Machine.execSnapAt req s
  | .snapRead req => Sys2Proof.Machine.execSnapRead req s
  | .snapStatus req => Sys2Proof.Machine.execSnapStatus req s
  | .snapRelease req => Sys2Proof.Machine.execSnapRelease req s
  | .leaseTake req => Sys2Proof.Machine.execLeaseTake req s
  | .leaseRelease req => Sys2Proof.Machine.execLeaseRelease req s
  | .leaseList req => Sys2Proof.Machine.execLeaseList req s
  | .leaseRenew req => Sys2Proof.Machine.execLeaseRenew req s
  | .bezelDownLaneLock link => Sys2Proof.Machine.execBezelDownLaneLock link s
  | .discoveryComplete => Sys2Proof.Machine.execDiscoveryComplete s
  | .checkerLocked lane => Sys2Proof.Machine.execCheckerLocked lane s
  | .checkerLockLoss lane bits errors => Sys2Proof.Machine.execCheckerLockLoss lane bits errors s
  | .refclkReturn => Sys2Proof.Machine.execRefclkReturn s
  | .dpllRelock => Sys2Proof.Machine.execDpllRelock s
  | .analogueTripRelease => Sys2Proof.Machine.execAnalogueTripRelease s
  | .powerUp => Sys2Proof.Machine.execPowerUp s

end Sys2Proof.Machine
end

