-- ==== Sys2Proof/Machine/Step.lean ====
section
/-! DEFINITION. One step: the step at the front of the queue runs with the queue's rest; on an empty queue the block idles
(log entry 4, DESIGN CHOICE). -/

namespace Sys2Proof.Machine

/-- Take the front of the queue and run it. -/
def step (s : State) : Host.Outcome State Fault Refusal :=
  match s.pending with
  | [] => .next s
  | i :: rest => exec i { s with pending := rest }

/-- The state with the step that a table word spells at the front of its queue; unchanged where the word spells none. -/
def State.withFetchWord (s : State) (nbits w : Nat) : State :=
  match decodeTableWord nbits w with
  | some i => { s with pending := i :: s.pending }
  | none => s

end Sys2Proof.Machine
end

