-- ==== Sys2Proof/Safety.lean ====
section
/-! DEFINITION. The terms in which claims speak: when a mailbox request starts and what completes it (R485, R486, R492, R497, R624), what
a step leaves alone, and what a safe state is (R475, R690). -/

namespace Sys2Proof.Machine

/-! ### Requests through a mailbox -/

/-- The state in which a request is judged: its bytes stand in the request area, BUSY is set, DONE is clear, TAG is latched (steps 1 and 2
of R485). -/
def rung (c : Cmd) (m : Nat) (r : Req) (s : State) : State :=
  acceptBell m r.tag (s.updMbox m (fun b => { b with req := putBytes b.req 0 (reqBytes c.op r) }))

/-- The state in which a request runs: that in which it was judged, with the payload of an INDIRECT request in the message pool (R414,
R493). -/
def started (c : Cmd) (m : Nat) (r : Req) (s : State) : State := (stage r (rung c m r s)).2

/-- The request `r` rung in mailbox `m` starts at once on this device: PORST_N is high, the mailbox is enabled and free and no earlier
request waits or still reads a worker's records (R484, R485, R486), the device is not in recovery (R665), the header is right and names this device (steps 2 and 3 of R497,
R430), no refusal of steps 4 to 6 of R497 applies, the message pool has room for an INDIRECT payload (R414), and VCORE is high enough
(R624). -/
def accepts (c : Cmd) (m : Nat) (r : Req) (s : State) : Bool :=
  let u := rung c m r s
  r.origin == .mailbox m && decide (m < 16) && !s.sys.porst && (s.mbox m).enabled && !(s.mbox m).busy && s.hi.queue.isEmpty
    && s.sched.loading.isEmpty && !s.sys.recovery && !headerBad r && targetSelf u r.target && !targetBad c.op r u
    && (localRefusal c r u).isNone && (stage r u).1 && decide (c.floor r.pay (started c m r s) ≤ vcore (started c m r s))

/-- Completion of a command: in every state in which it is accepted and its own conditions `cond` hold, the row answers a next state in
which its effect `eff` has happened and the request has been answered OK with the payload `pay`, which the response area holds (R493). -/
def Completes (i : Req → Instr) (c : Cmd) (cond : Req → State → Prop) (pay : Req → State → Bytes) (eff : Req → State → State) : Prop :=
  ∀ m r s, accepts c m r s = true → cond r (started c m r s) → (pay r (started c m r s)).length ≤ rspRoom r →
    exec (i r) s = .next (answerOk c.op r { pay := pay r (started c m r s) } (eff r (started c m r s)))

/-- Completion of a command whose OK answer comes later: its effect `eff` happens, and the mailbox stays BUSY. -/
def Defers (i : Req → Instr) (c : Cmd) (cond : Req → State → Prop) (eff : Req → State → State) : Prop :=
  ∀ m r s, accepts c m r s = true → cond r (started c m r s) → exec (i r) s = .next (eff r (started c m r s))

/-- Refusal by a command's own rule: in every state in which it is accepted and `cond` holds, it is answered with `e` and has no effect. -/
def Refuses (i : Req → Instr) (c : Cmd) (cond : Req → State → Prop) (e : Refuse) : Prop :=
  ∀ m r s, accepts c m r s = true → cond r (started c m r s) → exec (i r) s = .next (refuseReq c.op r e (started c m r s))

/-- `chain.start` is accepted on its chain's DPLANE (R277, R299). -/
def startable (r : Req) (u : State) : Prop :=
  let c := chainOf u (fld r.pay 0 1)
  let d := c.dplane
  let s0 := startBoundary u c (timeAt r.pay 4)
  c.steps ≠ [] ∧ (if c.fill then schedules u else (localOf u d).isSome) = true ∧ u.em.hostDark = false ∧ u.time.st ≠ 4 ∧ dplaneHere u d = true ∧ dregime u d ≠ 0 ∧
    (u.chainPlane d).pend = none ∧ u.sched.asked.any (fun a => a.1 == d && a.2.1 == 4) = false ∧ u.pwr.avs ≠ 2 ∧
    (localOf u d).bind (fun p => scheduleRefusal u p) = none ∧
    (c.fill = true → slotsFit u d s0 = true ∧ pinClash u c = false ∧ neverFrom u s0 = false)

/-- The start that the formula of R277 gives the chain, and how many periods late it is. -/
def startOf (r : Req) (u : State) : Option (NetTime × Nat) :=
  let c := chainOf u (fld r.pay 0 1)
  chainStartAt u.time.now (startBoundary u c (timeAt r.pay 4)) (minLead u + (if c.fill then 2 * ns u.sched.slotNs else 0))
    (ns (chainPeriod u (fld r.pay 0 1)))

/-- Completion of a row that is not a command, on a unit below `n`: with PORST_N high and `cond` met it answers `eff`. -/
def Acts (i : Nat → Instr) (n : Nat) (cond : Nat → State → Prop) (eff : Nat → State → State) : Prop :=
  ∀ k s, k < n → s.sys.porst = false → cond k s → exec (i k) s = .next (eff k s)

/-- Completion of a row that names no unit. -/
def Runs (i : Instr) (cond : State → Prop) (eff : State → State) : Prop :=
  ∀ s, s.sys.porst = false → cond s → exec i s = .next (eff s)

/-- Completion of a row that receives a domain message: cells that carry an intact frame (R437, R438) with a message of the row's code
arrive on a port whose link is up; the frame is counted, the message is passed on as R434 and R440 say or its buffers are returned (R405),
and when it is for this device it is acted on. -/
def Arrives (i : Bool → List Bytes → Instr) (code : Nat) (act : Bool → Msg → State → State) : Prop :=
  ∀ w cells d m s, s.sys.porst = false → linkUp s (claspKey w) = true → frameOfCells cells = some (true, d) → msgOf d = some m →
    m.code = code → exec (i w cells) s = .next
      (let t := forward w (cellsClass cells) m (relayCount (claspKey w) 2 1 (relayCount (claspKey w) 0 d.length s))
       if addressed m (relayCount (claspKey w) 2 1 (relayCount (claspKey w) 0 d.length s)) = true then actOn w m (act w m) t else t)

/-! ### What a step leaves alone -/

/-- Nothing but the mailboxes, the pending bits of MSI-X and the record of what left the device differs. -/
def SameButMail (s t : State) : Prop :=
  ({ t with mboxes := s.mboxes, out := s.out, ev := { t.ev with pba := s.ev.pba } } : State) = s

/-- The state in which a request is answered that had no effect of its own: the one before it, or under INDIRECT that in which its
payload has been in the message pool and left it (R414, R493). -/
def unstaged (c : Cmd) (m : Nat) (r : Req) (s : State) : State := if r.indirect = true then unstage m (started c m r s) else s

/-- A command that only reads: whenever it is accepted it is answered, with OK or with a refusal, and has no other effect. -/
def OnlyReads (i : Req → Instr) (c : Cmd) : Prop :=
  ∀ m r s, accepts c m r s = true → ∃ t, exec (i r) s = .next t ∧ SameButMail (unstaged c m r s) t

/-! ### Safe states -/

/-- While HOST_DARK is latched, every LIGHT_EN output is low (R475). -/
def DarkHeld (s : State) : Prop := s.em.hostDark = true → s.pins.light = 0

/-- The loupe memory and the request areas of the mailboxes are in canonical form. -/
def MemoryOk (s : State) : Prop := Memory.wf s.loupe.mem = true ∧ s.mboxes.all (fun e => Memory.wf e.2.req) = true

/-- LIGHT_EN outputs of `t` are among those of `s`. -/
def NoNewLight (s t : State) : Prop := t.pins.light &&& ~~~s.pins.light = 0

end Sys2Proof.Machine
end

