-- ==== Sys2Proof/WellFormed.lean ====
section
/-! DEFINITION. Which steps are well formed: every operand within the range that the spec gives it (R1, R10, R346, R484,
R492, R590, R634). A step that is not well formed names a unit that the device does not have, or a field wider than its format. -/

namespace Sys2Proof

/-- A way by which a request comes: one of 16 mailboxes (R484), or a device of the ring with its TUNNEL_TAG (R441). -/
def Origin.wf : Origin → Bool
  | .mailbox m => decide (m < 16)
  | .tunnel dev tag => decide (dev < 16) && decide (tag < 2 ^ 32)

/-- Field widths of an INDIRECT request (R493). -/
def Indirect.wf (i : Indirect) : Bool :=
  decide (i.reqAddr < 2 ^ 64) && decide (i.reqLen < 2 ^ 32) && decide (i.rspMax < 2 ^ 32) && decide (i.rspAddr < 2 ^ 64)

/-- Field widths of a request (R492, R493). -/
def Req.wf (r : Req) : Bool :=
  r.origin.wf && decide (r.tag < 2 ^ 16) && decide (r.len < 2 ^ 16) && decide (r.flags < 2 ^ 16) && decide (r.target < 256)
    && decide (r.resv < 2 ^ 24) && decide (r.lease < 2 ^ 32) && (match r.ind with | some i => i.wf | none => true)

/-- Field widths of a tick frame (R53). -/
def LaneFrame.wf (f : LaneFrame) : Bool :=
  decide (f.sync < 2 ^ 9) && decide (f.payload < 2 ^ 1088) && decide (f.crc < 2 ^ 24) && decide (f.seq < 2 ^ 4)

/-- Ranges of what a bezel shows: 640 monitor and 1,152 element channels, four TEMP fields (R62, R76). -/
def BezelEnv.wf (e : BezelEnv) : Bool :=
  e.ovr.all (fun c => decide (c < 640)) && e.htrOpen.all (fun c => decide (c < 1152)) && e.htrShort.all (fun c => decide (c < 1152))
    && decide (e.temps.length ≤ 4) && e.temps.all (fun t => decide (t < 2 ^ 16))

/-- Field widths of a response slot (R72). -/
def BezelResp.wf (r : BezelResp) : Bool :=
  decide (r.op < 256) && decide (r.tag < 256) && decide (r.status < 256) && decide (r.data.length ≤ 4)
    && r.data.all (fun w => decide (w < 2 ^ 32))

/-- A well-formed step. -/
def Instr.wf : Instr → Bool
  | .porstAssert => true
  | .porstRelease role => decide (role < 4)
  | .perstAssert => true
  | .functionLevelReset => true
  | .testModeChange _ => true
  | .brownOut => true
  | .railSample _ => true
  | .refclkLoss => true
  | .dpllUnlock => true
  | .analogueThermtrip => true
  | .bootImageVerify => true
  | .bootComplete _ => true
  | .linkingComplete => true
  | .warmHoldExpiry plane => decide (plane < 2)
  | .sysWarmTimeout plane => decide (plane < 2)
  | .shutdownRampDone => true
  | .fwHeartbeatTick => true
  | .timeMirrorUpdate => true
  | .modulatorTick => true
  | .upFrameCheck link lane3 lane4 => decide (link < 8) && lane3.wf && lane4.wf
  | .heaterStatusPoll link => decide (link < 8)
  | .bzRstHoldExpiry link => decide (link < 8)
  | .upLaneLock link lane => decide (link < 8) && decide (lane = 3 ∨ lane = 4)
  | .bezelResponse link resp => decide (link < 8) && resp.wf
  | .bezelCmdRetry link tag => decide (link < 8) && decide (tag < 256)
  | .trainTimeout link => decide (link < 8)
  | .relockTimeout link => decide (link < 8)
  | .lightEnRise link => decide (link < 8)
  | .bezelApplyTick link lane0 lane1 lane2 env => decide (link < 8) && lane0.wf && lane1.wf && lane2.wf && env.wf
  | .bezelCommandComplete link _ => decide (link < 8)
  | .bezelLostDownFrame link lanes => decide (link < 8) && lanes.all (fun n => n < 3)
  | .bezelHoldExit link => decide (link < 8)
  | .bezelLightEnFall link => decide (link < 8)
  | .bezelLightEnQualify link => decide (link < 8)
  | .bezelReset link => decide (link < 8)
  | .bezelSupplyLoss link => decide (link < 8)
  | .bezelSupplyRecover link => decide (link < 8)
  | .updateTick plane => decide (plane < 2)
  | .preEmphasisEnd ch => decide (ch < 9216)
  | .rampComplete plane => decide (plane < 2)
  | .rangeRampDownDone ch => decide (ch < 9216)
  | .rangeSegApplied ch => decide (ch < 9216)
  | .rangeChangeDone ch => decide (ch < 9216)
  | .readbackStart link modulator => decide (link < 8) && decide (modulator < 8)
  | .readbackComplete link modulator => decide (link < 8) && decide (modulator < 8)
  | .sampleDeliver mon => decide (mon < 5120)
  | .filterSwitch mon => decide (mon < 5120)
  | .launchFastLead plane _ => decide (plane < 2)
  | .refWarmupDone link => decide (link < 8)
  | .accBlockDone mon => decide (mon < 5120)
  | .bankSwapAt ctx => decide (ctx < 9216)
  | .loopPaceOverrun ctx => decide (ctx < 9216)
  | .loopSampleStarved ctx => decide (ctx < 9216)
  | .injectionStart ctx => decide (ctx < 9216)
  | .captureDone ctx => decide (ctx < 9216)
  | .facetBuildDone plane => decide (plane < 2)
  | .launchTime plane _ => decide (plane < 2)
  | .settleTimeout plane _ => decide (plane < 2)
  | .verifyTimeout plane port => decide (plane < 2) && decide (port < 512)
  | .learnRead plane => decide (plane < 2)
  | .learnFoldWrite plane => decide (plane < 2)
  | .chainStepStage dplane => decide (dplane < 32)
  | .chainStartTime dplane => decide (dplane < 32)
  | .chainStopBoundary dplane => decide (dplane < 32)
  | .chainEnd dplane => decide (dplane < 32)
  | .schedRegimeAt dplane => decide (dplane < 32)
  | .gridChangeAt => true
  | .slotCutoff => true
  | .matchingComplete => true
  | .facetRecReceive _ _ => true
  | .facetAckReceive _ _ => true
  | .grantMarginExpiry _ => true
  | .pipeLateDeadline dplane _ => decide (dplane < 32)
  | .grantSlotEnd _ => true
  | .samplerPass => true
  | .helloReceive link _ => decide (link < 8)
  | .demandReceive link _ => decide (link < 8)
  | .arpRequestReceive link _ => decide (link < 8)
  | .endpointLiveTimeout ep => decide (ep < 512)
  | .announceTimer => true
  | .ptpMessageReceive link _ rx => decide (link < 8) && decide (rx < 2 ^ 96)
  | .ptpIntervalTimer kind => decide (kind < 3)
  | .slewDone => true
  | .timeSourceLoss => true
  | .timeStepApply => true
  | .realignDone => true
  | .claspTimeSend => true
  | .claspTimeReceive _ _ rx => decide (rx < 2 ^ 96)
  | .claspTimeSilence => true
  | .tcMatchTimeout port => decide (port < 4)
  | .tcHoldTimeout _ => true
  | .toutEdge pin => decide (pin < 4)
  | .tcapEdge input _ time => decide (input < 2) && decide (time < 2 ^ 96)
  | .frameHeadArrive link _ rx => decide (link < 12) && decide (rx < 2 ^ 96) && decide (link ≠ 9) && decide (link ≠ 11)
  | .frameReceiveEnd link _ _ => decide (link < 12) && decide (link ≠ 9) && decide (link ≠ 11)
  | .crossbarCellTime => true
  | .egressFrameStart link => decide (link < 12) && decide (link ≠ 9) && decide (link ≠ 11)
  | .egressFrameDone link => decide (link < 12) && decide (link ≠ 9) && decide (link ≠ 11)
  | .pfcReceive link classes quanta => decide (link < 8) && decide (classes < 256) && quanta.all (fun n => n < 2 ^ 16)
  | .pauseExpiry link cls => decide (link < 8) && decide (cls < 8)
  | .pfcRefresh link => decide (link < 8)
  | .ethLinkDown link => decide (link < 8)
  | .ethLinkUp link => decide (link < 8)
  | .gateEntryBoundary link => decide (link < 8)
  | .gateListTakeEffect link => decide (link < 8)
  | .fenceComplete => true
  | .fenceTimeout => true
  | .bufferTransfer pool _ src dst => decide (pool < 2) && decide (src < (if pool = 0 then 10 else 4)) && decide (dst < (if pool = 0 then 10 else 4))
  | .hostTxFrame _ _ => true
  | .hostRxDeliver _ => true
  | .claspLinkUp _ _ => true
  | .claspLinkDown _ => true
  | .claspCreditReceive _ _ => true
  | .heartbeatSend => true
  | .heartbeatReceive _ _ => true
  | .workerSilence dev => decide (dev < 16)
  | .managerSilence => true
  | .holdoverEnd => true
  | .discoverReceive _ _ => true
  | .numberReceive _ _ => true
  | .claspAckReceive _ _ => true
  | .claspResendTimeout dst seq => decide (dst < 256) && decide (seq < 2 ^ 16)
  | .noticeReceive _ _ => true
  | .schedCmdReceive _ _ => true
  | .snapReceive _ _ => true
  | .eventMsgReceive _ _ => true
  | .tunnelReqReceive _ _ => true
  | .tunnelRspReceive _ _ => true
  | .tunnelTimeout tag => decide (tag < 2 ^ 32)
  | .claspDarkReceive _ _ _ => true
  | .darkMemoryExpiry origin ident => decide (origin < 256) && decide (ident < 2 ^ 16)
  | .commandStart _ _ => true
  | .faultFirmwareReaction => true
  | .fwWdogExpiry => true
  | .hostWdogExpiry => true
  | .injectHoldExpiry _ => true
  | .calPhaseDone _ => true
  | .calRunDone => true
  | .calBackgroundVisitDone _ _ => true
  | .nvmWriteDone _ => true
  | .marginPointDone lane _ => decide (lane < 52)
  | .bistDone target _ _ => decide (target < 10)
  | .jtagInstructionUpdate code => decide (code < 2 ^ 8)
  | .loupeDirUpdate => true
  | .timeBaseDue => true
  | .loupeFreezeTrigger _ => true
  | .loupeFreezeStop => true
  | .snapStrobe bank => decide (bank < 2)
  | .leaseExpiry _ => true
  | .paceMonitorSample _ => true
  | .avsPoll _ _ => true
  | .avsRaiseTimeout => true
  | .avsDownHoldExpiry => true
  | .avsLowerStep _ _ => true
  | .powerEstimate _ _ => true
  | .tempSensorUpdate sensor _ => decide (sensor < 60)
  | .sensorRecover sensor => decide (sensor < 60)
  | .tempCompTick => true
  | .planeTempTick plane => decide (plane < 2)
  | .planeTempSettled plane => decide (plane < 2)
  | .planeTempSaturated plane => decide (plane < 2)
  | .patrolScrub _ stack _ _ => decide (stack < 4)
  | .emergencyDark value => decide (value < 2 ^ 32)
  | .emergencyRelease value => decide (value < 2 ^ 32)
  | .wdogTimeoutWrite value => decide (value < 2 ^ 32)
  | .wdogKick value => decide (value < 2 ^ 32)
  | .mailboxRing mbox value => decide (mbox < 16) && decide (value < 2 ^ 32)
  | .requestAreaWrite mbox offset value => decide (mbox < 16) && decide (offset < 4096) && decide (offset % 4 = 0) && decide (value < 2 ^ 32)
  | .pendingClear word value raised => decide (word < 16) && decide (value < 2 ^ 32) && raised.all (fun n => n < 512)
  | .irqEnWrite value => decide (value < 2 ^ 32)
  | .eventMaskWrite word value => decide (word < 16) && decide (value < 2 ^ 32)
  | .eventVectorWrite word value => decide (word < 128) && decide (value < 2 ^ 32)
  | .txTailWrite value => decide (value < 2 ^ 32)
  | .rxTailWrite value => decide (value < 2 ^ 32)
  | .registerWrite _ offset size value => decide (size = 4 ∨ size = 8) && decide (offset % size = 0) && decide (value < 2 ^ (8 * size))
  | .smbState => true
  | .smbMaxSev => true
  | .smbLightEn => true
  | .smbPlaneDark => true
  | .smbTempDie => true
  | .smbTempHbm => true
  | .smbVcoreMv => true
  | .smbDiePowerW => true
  | .smbIdentity => true
  | .smbAlertResponse => true
  | .smbUnknown code => decide (code < 256)
  | .sysInfo req => req.wf
  | .sysReset req => req.wf
  | .sysShutdown req => req.wf
  | .sysEventLog req => req.wf
  | .sysEcho req => req.wf
  | .capWalk req => req.wf
  | .planeMapRead req => req.wf
  | .planeMapLoad req => req.wf
  | .linkStatus req => req.wf
  | .linkRetrain req => req.wf
  | .linkBezelCmd req => req.wf
  | .driveSetTarget req => req.wf
  | .driveReadState req => req.wf
  | .driveSetSlew req => req.wf
  | .driveSetTick req => req.wf
  | .driveSetRange req => req.wf
  | .driveParkLoad req => req.wf
  | .driveParkRead req => req.wf
  | .driveRamp req => req.wf
  | .driveReadback req => req.wf
  | .driveSetReadback req => req.wf
  | .driveSetLinkLead req => req.wf
  | .driveCounters req => req.wf
  | .senseRefEnable req => req.wf
  | .senseSetChannel req => req.wf
  | .senseAccConfig req => req.wf
  | .senseAccRead req => req.wf
  | .senseMinmaxRead req => req.wf
  | .senseStatus req => req.wf
  | .loopSetRegime req => req.wf
  | .loopSetGains req => req.wf
  | .loopSwapBank req => req.wf
  | .loopSetSetpoint req => req.wf
  | .loopSetLimits req => req.wf
  | .loopReadState req => req.wf
  | .loopTableLoad req => req.wf
  | .loopTableRead req => req.wf
  | .loopInject req => req.wf
  | .loopCapture req => req.wf
  | .loopCaptureRead req => req.wf
  | .loopCounters req => req.wf
  | .facetDefine req => req.wf
  | .facetLookup req => req.wf
  | .facetRead req => req.wf
  | .facetWrite req => req.wf
  | .facetLaunch req => req.wf
  | .facetCancel req => req.wf
  | .facetReport req => req.wf
  | .facetConfig req => req.wf
  | .facetPin req => req.wf
  | .facetRoute req => req.wf
  | .facetStatus req => req.wf
  | .chainLoad req => req.wf
  | .chainStart req => req.wf
  | .chainStop req => req.wf
  | .chainUnload req => req.wf
  | .chainRead req => req.wf
  | .chainStatus req => req.wf
  | .chainConfig req => req.wf
  | .schedSetRegime req => req.wf
  | .schedConfig req => req.wf
  | .schedClassConfig req => req.wf
  | .schedQueueConfig req => req.wf
  | .schedPin req => req.wf
  | .schedRestore req => req.wf
  | .schedPlanePorts req => req.wf
  | .schedDemandRead req => req.wf
  | .schedSampler req => req.wf
  | .schedStatus req => req.wf
  | .endpointConfig req => req.wf
  | .endpointAdmit req => req.wf
  | .endpointRead req => req.wf
  | .endpointEvict req => req.wf
  | .endpointCounters req => req.wf
  | .timeConfig req => req.wf
  | .timeRead req => req.wf
  | .timeAdjust req => req.wf
  | .timeForceSet req => req.wf
  | .timePtpConfig req => req.wf
  | .timePtpStatus req => req.wf
  | .timeTxtsRead req => req.wf
  | .timeTcConfig req => req.wf
  | .timeTout req => req.wf
  | .timeTcapConfig req => req.wf
  | .timeTcapRead req => req.wf
  | .relayConfig req => req.wf
  | .relayPortConfig req => req.wf
  | .relayPortStatus req => req.wf
  | .relayFdbWrite req => req.wf
  | .relayFdbRead req => req.wf
  | .relayGroupWrite req => req.wf
  | .relayFence req => req.wf
  | .relayGateLoad req => req.wf
  | .relayShaper req => req.wf
  | .relayMirror req => req.wf
  | .relayCounters req => req.wf
  | .poolConfig req => req.wf
  | .poolStatus req => req.wf
  | .domainConfig req => req.wf
  | .domainStatus req => req.wf
  | .domainMembers req => req.wf
  | .domainMemberEdit req => req.wf
  | .domainSetRole req => req.wf
  | .domainEvents req => req.wf
  | .domainCounters req => req.wf
  | .calCommission req => req.wf
  | .calBackground req => req.wf
  | .calStatus req => req.wf
  | .calRead req => req.wf
  | .calStore req => req.wf
  | .calSelect req => req.wf
  | .calRefTrim req => req.wf
  | .faultStatus req => req.wf
  | .faultAck req => req.wf
  | .faultClear req => req.wf
  | .faultSetSeverity req => req.wf
  | .faultConfig req => req.wf
  | .faultInject req => req.wf
  | .faultLog req => req.wf
  | .testLanePattern req => req.wf
  | .testLaneCheck req => req.wf
  | .testLoopback req => req.wf
  | .testMarginScan req => req.wf
  | .testBist req => req.wf
  | .testCounters req => req.wf
  | .loupeRingConfig req => req.wf
  | .loupeEnable req => req.wf
  | .loupeStatus req => req.wf
  | .loupeExport req => req.wf
  | .loupeFreeze req => req.wf
  | .secAttest req => req.wf
  | .secCertRead req => req.wf
  | .secFwUpdate req => req.wf
  | .secFwSelect req => req.wf
  | .secOwnerSet req => req.wf
  | .secLifecycle req => req.wf
  | .secFactoryToken req => req.wf
  | .powerStatus req => req.wf
  | .powerAvsConfig req => req.wf
  | .powerMode req => req.wf
  | .powerTemps req => req.wf
  | .powerPlaneTemp req => req.wf
  | .snapAt req => req.wf
  | .snapRead req => req.wf
  | .snapStatus req => req.wf
  | .snapRelease req => req.wf
  | .leaseTake req => req.wf
  | .leaseRelease req => req.wf
  | .leaseList req => req.wf
  | .leaseRenew req => req.wf
  | .bezelDownLaneLock link => decide (link < 8)
  | .discoveryComplete => true
  | .checkerLocked lane => decide (lane < 52)
  | .checkerLockLoss lane _ _ => decide (lane < 52)
  | .refclkReturn => true
  | .dpllRelock => true
  | .analogueTripRelease => true
  | .powerUp => true

end Sys2Proof
end

