-- ==== Sys2Proof/Certificates/Slice0/Obligations.lean ====
section
/-! DEFINITION. The statements for the provers. -/

open Sys2Proof Sys2Proof.Machine

/-! ### System, capability, plane and link commands -/

/-- The commands of groups `sys` and `cap` complete (rows of R498, R502 to R504, R694, R695). The frame is the equation: nothing but what
`eff` names changes, and the answer. -/
def Obligations.SystemCommandsComplete : Prop :=
  Completes .sysInfo cmdSysInfo (fun _ _ => True)
    (fun _ u => le 4 (if u.sys.st ≤ 2 then 0 else u.sec.version) ++ le 2 0x0512 ++ le 1 0xB0 ++ le 1 (b1 Config.hbm96) ++ le 1 u.sys.role ++ le 1 u.dom.number
      ++ le 1 (if u.sys.st ≤ 2 then 0 else u.nvm.lifecycle) ++ le 1 u.sys.st ++ le 8 Config.identity ++ le 1 (b1 u.sec.bankB) ++ le 3 0
      ++ le 8 ((u.time.mono - u.sys.upAt) / ms 1)) (fun _ u => u) ∧
  Defers .sysReset cmdSysReset (fun r u => u.sys.recovery = true ∨ fld r.pay 1 1 = 1 ∨ u.allIdle = true)
    (fun r u => warmReset (answerOk 0x0102 r {} u)) ∧
  Refuses .sysReset cmdSysReset (fun r u => u.sys.recovery = false ∧ fld r.pay 1 1 = 0 ∧ u.allIdle = false) busyLit ∧
  Completes .sysShutdown cmdSysShutdown (fun r u => fld r.pay 0 1 = 1 ∨ u.allIdle = true) (fun _ u => le 4 (shutMs u))
    (fun _ u => shutdown u) ∧
  Completes .sysEventLog cmdSysEventLog (fun r u => u.ev.log.take (fld r.pay 0 2) ≠ [])
    (fun r u => le 2 (u.ev.log.take (fld r.pay 0 2)).length ++ le 2 u.ev.lost ++ (u.ev.log.take (fld r.pay 0 2)).flatMap evBytes)
    (fun r u => { u with ev := { u.ev with log := u.ev.log.drop (u.ev.log.take (fld r.pay 0 2)).length, lost := 0 } }) ∧
  Completes .sysEcho cmdSysEcho (fun _ _ => True) (fun r _ => r.pay) (fun _ u => u) ∧
  Completes .capWalk cmdCapWalk (fun _ _ => True)
    (fun r u =>
      let l := (features u).filter (fun f => decide (fld r.pay 0 2 ≤ f.1))
      let n := min (fld r.pay 2 2) l.length
      le 2 n ++ le 2 (((l.drop n).head?.map (·.1)).getD 0xFFFF) ++ (l.take n).flatMap featureBytes) (fun _ u => u)

/-- The commands of groups `plane` and `link` complete (rows of R44, R45, R505 to R507). -/
def Obligations.PlaneAndLinkCommandsComplete : Prop :=
  (∀ k, Completes .planeMapRead cmdPlaneMapRead (fun _ u => u.sys.map = some k)
    (fun r _ =>
      let l := range' (fld r.pay 4 4) (fld r.pay 8 2)
      if fld r.pay 0 1 = 0 then mapHead k else if fld r.pay 0 1 = 1 then l.flatMap (fun c => le 4 (k.elemAt c).word)
        else l.flatMap (fun c => le 4 (k.monAt c).word)) (fun _ u => u)) ∧
  Completes .planeMapLoad cmdPlaneMapLoad
    (fun r u => u.allIdle = true ∧
      (if bit (fld r.pay 12 4) 0 then mapStdOk (hostRead r 64) else mapImageOk (hostRead r 57412)) = true)
    (fun _ _ => [])
    (fun r u => startJob (.map { mapAt (hostRead r (if bit (fld r.pay 12 4) 0 then 64 else 57412)) with gen := nextMapGen u }) u) ∧
  Refuses .planeMapLoad cmdPlaneMapLoad (fun _ u => u.allIdle = false) busyLit ∧
  Completes .linkStatus cmdLinkStatus (fun _ _ => True)
    (fun r u =>
      let l := fld r.pay 0 1
      let k := u.link l
      le 1 k.st ++ le 1 k.active ++ le 1 (b1 (u.lightOn l) + 2 * b1 k.oneUp) ++ le 1 0 ++ le 4 k.status.toNat ++ le 2 k.implementer
        ++ le 2 k.part ++ le 4 k.tApply ++ le 4 k.crc3 ++ le 4 k.crc4 ++ le 4 k.upLost) (fun _ u => u) ∧
  Completes .linkRetrain cmdLinkRetrain
    (fun r u => ∃ p, u.linkPlane (fld r.pay 0 1) = some p ∧ u.lit p = false)
    (fun _ _ => []) (fun r u => startTraining (fld r.pay 0 1) u) ∧
  Refuses .linkRetrain cmdLinkRetrain (fun r u => ∃ p, u.linkPlane (fld r.pay 0 1) = some p ∧ u.lit p = true) busyLit ∧
  Defers .linkBezelCmd cmdLinkBezelCmd (fun r u => (u.link (fld r.pay 0 1)).st = 2 ∧ (u.link (fld r.pay 0 1)).cmds.length < 4)
    (fun r u => queueBezel (fld r.pay 0 1) (fld r.pay 1 1) (fld r.pay 2 2) [] (some r) u) ∧
  Refuses .linkBezelCmd cmdLinkBezelCmd (fun r u => (u.link (fld r.pay 0 1)).st ≠ 2) notReady

/-! ### Drive commands (chapter 3) -/

/-- The drive commands that set something complete (rows of R131, R133 to R136, R138, R141). -/
def Obligations.DriveSettingCommandsComplete : Prop :=
  Completes .driveSetTarget cmdDriveSetTarget
    (fun r u =>
      let ch := fld r.pay 0 2
      (u.ctx ch).regime = 0 ∧ (u.ctx ch).pending = none ∧ forced u ch = false ∧ litChannel u ch = false ∧
        (if bit (fld r.pay 11 1) 1 then 0 else (u.drive ch).queue.length) + fld r.pay 2 1 ≤ 16)
    (fun _ _ => [])
    (fun r u => u.updDrive (fld r.pay 0 2) (fun d => { d with
      queue := (if bit (fld r.pay 11 1) 1 then [] else (u.drive (fld r.pay 0 2)).queue) ++ entriesAt r.pay (fld r.pay 2 1) u.time.now })) ∧
  Completes .driveSetSlew cmdDriveSetSlew
    (fun r u => ¬ (fld r.pay 2 1 = 1 ∧ scheduling (u.plane (fld r.pay 0 1)).regime = true)) (fun _ _ => [])
    (fun r u =>
      let k := slewKey (fld r.pay 0 1) (fld r.pay 1 1) (fld r.pay 2 1)
      { u with slews := tset (slewDefault k) u.slews k { step := fld r.pay 4 4, rate := fld r.pay 3 1 } }) ∧
  Completes .driveSetTick cmdDriveSetTick
    (fun r u => (u.plane (fld r.pay 0 1)).regime = 0 ∧ (u.plane (fld r.pay 0 1)).ramp = none) (fun _ _ => [])
    (fun r u => u.updPlane (fld r.pay 0 1) (fun q => { q with tickUs := fld r.pay 1 1 })) ∧
  Completes .driveSetRange cmdDriveSetRange
    (fun r u =>
      let ch := fld r.pay 0 2
      let l := rangeChs u ch
      litChannel u ch = false ∧ scheduling (u.plane (u.elemAt ch).plane).regime = false ∧ (∀ c ∈ l, (u.drive c).rcStep = 0) ∧
        ctxKind u ch = none ∧
        ¬ (((u.drive ch).high != (fld r.pay 2 1 == 1)) = true ∧
          l.any (fun c => (rangeCodes u (fld r.pay 2 1 == 1) c).any (fun v => decide (fullCode < v))) = true))
    (fun _ _ => [])
    (fun r u =>
      let ch := fld r.pay 0 2
      let l := rangeChs u ch
      let high := fld r.pay 2 1 == 1
      if (u.drive ch).high = high then u
      else each l (each l u (startRange high)) (fun c s => s.updDrive c (fun d => { d with rcRegime := (u.ctx ch).regime }))) ∧
  Completes .driveParkLoad cmdDriveParkLoad (fun r u => u.allIdle = true ∧ parkImageOk u (hostRead r parkBytes) = true) (fun _ _ => [])
    (fun r u =>
      let k := { parkAt (hostRead r parkBytes) with gen := ((bankNow u.nvm.park).map (fun e => (e.1 + 1) % 2 ^ 32)).getD 1 }
      reState (endCond 27 0 { startJob (.park k) u with sys := { u.sys with park := some k } })) ∧
  Completes .driveRamp cmdDriveRamp
    (fun r u =>
      let q := fld r.pay 0 1
      (u.plane q).regime = 0 ∧
        rampTooFast u q (fld r.pay 1 1) (rampTicks (if fld r.pay 4 4 = 0 then 250 else fld r.pay 4 4) (u.plane q).tickUs) = false)
    (fun _ _ => [])
    (fun r u =>
      let q := fld r.pay 0 1
      startRamp q (fld r.pay 1 1) (rampTicks (if fld r.pay 4 4 = 0 then 250 else fld r.pay 4 4) (u.plane q).tickUs) false u) ∧
  Completes .driveSetLinkLead cmdDriveSetLinkLead (fun _ _ => True) (fun _ _ => [])
    (fun r u => u.updLink (fld r.pay 0 1) (fun k => { k with leadPs := fld r.pay 4 4 }))

/-- The drive commands that read, and the readback commands, complete (rows of R132, R137, R139, R140, R142). -/
def Obligations.DriveReadingCommandsComplete : Prop :=
  Completes .driveReadState cmdDriveReadState (fun _ _ => True)
    (fun r u =>
      let ch := fld r.pay 0 2
      let d := u.drive ch
      le 4 d.out ++ le 4 d.code ++ le 4 d.winLo ++ le 4 d.winHi ++ le 1 d.queue.length ++ le 1 (driveFlags u ch) ++ le 2 0
        ++ le 4 d.rbPower ++ le 4 d.rbCmd) (fun _ u => u) ∧
  Completes .driveParkRead cmdDriveParkRead (fun _ _ => True)
    (fun r u => (range' (fld r.pay 0 4) (fld r.pay 4 2)).flatMap (fun ch => le 4 (tget 0 ((u.sys.park.map (·.codes)).getD []) ch)))
    (fun _ u => u) ∧
  Defers .driveReadback cmdDriveReadback
    (fun r u =>
      let ch := fld r.pay 0 2
      ¬ ((calPlane u).isSome = true ∧ calPlane u = u.linkPlane (ch / 1152)) ∧ (u.link (ch / 1152)).st = 2 ∧
        (tget {} (u.link (ch / 1152)).mods (ch % 1152 / 144)).urgent.length < 4)
    (fun r u =>
      let ch := fld r.pay 0 2
      let m := ch % 1152 / 144
      let md := tget {} (u.link (ch / 1152)).mods m
      let t := u.updLink (ch / 1152) (fun k => { k with mods := tset {} k.mods m {
        (if bit (fld r.pay 2 1) 0 = true ∧ md.cur = none ∧ md.urgent = [] then { md with idle := 0, sinceEvent := none } else md) with
        urgent := md.urgent ++ [{ chan := ch % 144, urgent := true, sync := bit (fld r.pay 2 1) 0, req := some r }] } })
      if r.lease = 0 ∧ ¬ t.implicits.any (fun x => x.cls == 3 && x.first == ch / 144) then holdImplicit 3 2 (ch / 144) 1 t else t) ∧
  Completes .driveSetReadback cmdDriveSetReadback (fun _ _ => True) (fun _ _ => [])
    (fun r u => each (if fld r.pay 0 1 = 0xFF then List.range 8 else [fld r.pay 0 1]) u (fun l s =>
      setCond (!bit (fld r.pay 4 1) 0) (152 + l) 0 { plane := (s.linkPlane l).getD 0xFF, link := l }
        (s.updLink l (fun k => { k with rbDelay := fld r.pay 1 1, rbTol := fld r.pay 2 2, rbScan := bit (fld r.pay 4 1) 0 })))) ∧
  Completes .driveCounters cmdDriveCounters (fun _ _ => True)
    (fun r u =>
      let k := u.link (fld r.pay 0 1)
      le 4 k.cConv ++ le 4 k.cRestart ++ le 4 k.cRestartLink ++ le 4 k.cMismatch ++ le 4 k.cClamp ++ le 4 k.cPe)
    (fun r u => if fld r.pay 1 1 = 1 then u.updLink (fld r.pay 0 1) (fun k => { k with
      cConv := 0, cRestart := 0, cRestartLink := 0, cMismatch := 0, cClamp := 0, cPe := 0 }) else u)

/-! ### Sense commands (chapter 4) -/

/-- The sense commands complete (rows of R171 to R176). -/
def Obligations.SenseCommandsComplete : Prop :=
  Completes .senseRefEnable cmdSenseRefEnable
    (fun r u => fld r.pay 1 1 = 1 ∨
      ∀ l ∈ (if fld r.pay 0 1 = 0xFF then List.range 8 else [fld r.pay 0 1]), ((u.linkPlane l).map u.lit).getD false = false)
    (fun _ _ => [])
    (fun r u => each (if fld r.pay 0 1 = 0xFF then List.range 8 else [fld r.pay 0 1]) u (fun l s =>
      refSet (fld r.pay 1 1 == 1) l s)) ∧
  Completes .senseSetChannel cmdSenseSetChannel
    (fun r u =>
      let l := rangeOf r.pay
      let en := fld r.pay 4 1
      (accConflict u l).1 = false ∧ ¬ (en = 1 ∧ l.any (fun m => refMissing u (m / 640)) = true) ∧
        ¬ ((en = 0 ∨ fld r.pay 5 1 ≤ 2) ∧ l.any (litMonitor u) = true) ∧
        ¬ (en = 0 ∧ l.any (fun m => ((monCtx u m).map (fun c => (u.ctx c).regime != 0)).getD false) = true))
    (fun _ _ => [])
    (fun r u => each (rangeOf r.pay) u (fun m s =>
      let s := if fld r.pay 5 1 ≤ 3 then s.updMon m (fun x => { x with setting := fld r.pay 5 1, askAt := s.time.now }) else s
      if fld r.pay 4 1 ≤ 1 then setMonBit m (fld r.pay 4 1 == 1) (s.updMon m (fun x => { x with en := fld r.pay 4 1 == 1 })) else s)) ∧
  Completes .senseAccConfig cmdSenseAccConfig
    (fun r u => (accConflict u (rangeOf r.pay)).1 = false ∧
      ¬ (fld r.pay 4 1 ≠ 0 ∧ (rangeOf r.pay).any (fun m => refMissing u (m / 640)) = true))
    (fun _ _ => [])
    (fun r u => each (rangeOf r.pay) u (fun m s =>
      (flushReady m s).updMon m (configureAcc (fld r.pay 4 1) (fld r.pay 5 1) (fld r.pay 6 1) (fld r.pay 8 4)))) ∧
  Completes .senseAccRead cmdSenseAccRead
    (fun r u => fld r.pay 3 1 = 1 → (accConflict u (range' (fld r.pay 0 2) (fld r.pay 2 1))).1 = false)
    (fun r u => (range' (fld r.pay 0 2) (fld r.pay 2 1)).flatMap (fun m =>
      accRec ((each (range' (fld r.pay 0 2) (fld r.pay 2 1)) u flushReady).mon m)))
    (fun r u =>
      let l := range' (fld r.pay 0 2) (fld r.pay 2 1)
      if fld r.pay 3 1 = 1 then each l (each l u flushReady) (fun m s =>
        s.updMon m (fun x => if x.mode = 2 then x else { x with acc := {}, sat := false })) else each l u flushReady) ∧
  Completes .senseMinmaxRead cmdSenseMinmaxRead
    (fun r u => fld r.pay 3 1 = 1 → (accConflict u (range' (fld r.pay 0 2) (fld r.pay 2 1))).1 = false)
    (fun r u => (range' (fld r.pay 0 2) (fld r.pay 2 1)).flatMap (fun m =>
      trkRec ((each (range' (fld r.pay 0 2) (fld r.pay 2 1)) u flushReady).mon m).trk))
    (fun r u =>
      let l := range' (fld r.pay 0 2) (fld r.pay 2 1)
      if fld r.pay 3 1 = 1 then each l (each l u flushReady) (fun m s => s.updMon m (fun x => { x with trk := {} }))
      else each l u flushReady) ∧
  Completes .senseStatus cmdSenseStatus (fun _ _ => True)
    (fun r u =>
      let l := fld r.pay 0 1
      let k := u.sense l
      le 1 (refState u l) ++ le 1 0 ++ le 2 (u.mons.filter (fun e => e.1 / 640 == l && e.2.en)).length ++ le 4 k.ovrTicks
        ++ le 4 k.ovrEvents ++ le 4 k.invalid ++ le 4 k.dist ++ le 4 k.settle ++ le 4 k.refnr)
    (fun r u => if fld r.pay 1 1 = 1 then u.updSense (fld r.pay 0 1) (fun k => { k with
      ovrTicks := 0, ovrEvents := 0, invalid := 0, dist := 0, settle := 0, refnr := 0 }) else u)

/-! ### Loop commands (chapter 5) -/

/-- The loop commands that set something complete (rows of R209 to R213, R215, R216). -/
def Obligations.LoopSettingCommandsComplete : Prop :=
  Completes .loopSetRegime cmdLoopSetRegime
    (fun r u =>
      let cs := governed u (rangeOf r.pay)
      let rg := fld r.pay 4 1
      (rg ≠ 0 → cs.any (fun c => refMissing u (c / 1152)) = false ∧ cs.any (fun c => (u.plane (u.elemAt c).plane).regime == 0) = false ∧
        cs.any (fun c => !((ctxMon u c).map (fun m => (u.mon m).en)).getD false) = false) ∧
      (ctxConflict u true cs).1 = false ∧ (rg = 0 ∨ rg = 4 → cs.any (litCell u) = false))
    (fun _ _ => [])
    (fun r u => each (governed u (rangeOf r.pay)) u (fun c s =>
      let w : Pend := { regime := fld r.pay 4 1, tick := fld r.pay 5 1, base := fld r.pay 6 1, filter := fld r.pay 7 1 }
      if fld r.pay 4 1 = 0 then goOpen c s else s.updCtx c (fun x => { x with pending := some w }))) ∧
  Completes .loopSetGains cmdLoopSetGains
    (fun r u =>
      let cs := governed u (rangeOf r.pay)
      (ctxConflict u false cs).1 = false ∧ cs.any (fun c => (u.ctx c).bank == fld r.pay 4 1 && (u.ctx c).regime != 0) = false)
    (fun _ _ => [])
    (fun r u =>
      let b : Bank := { table := fld r.pay 6 2, kscale := fld r.pay 8 2, kt := fld r.pay 10 2, ramp := fld r.pay 12 2 }
      each (governed u (rangeOf r.pay)) u (fun c s =>
        s.updCtx c (fun x => if fld r.pay 4 1 = 1 then { x with b1 := b } else { x with b0 := b }))) ∧
  Completes .loopSwapBank cmdLoopSwapBank
    (fun r u => (ctxConflict u false (governed u (rangeOf r.pay))).1 = false ∧
      (timeAt r.pay 8 = 0 ∨ u.time.now + us 10 ≤ timeAt r.pay 8))
    (fun _ _ => [])
    (fun r u =>
      let cs := governed u (rangeOf r.pay)
      let t := timeAt r.pay 8
      let s := each cs u cancelSwap
      let todo := cs.filter (fun c => (s.ctx c).bank != fld r.pay 4 1)
      let g := s.swapId
      let s := { s with swapId := (g + 1) % 2 ^ 32
                        swaps := if todo = [] then s.swaps else tput s.swaps g { left := todo.length, n := todo.length } }
      let due := if t = 0 then s.time.now else t
      each todo s (fun c s => swapAt c (s.updCtx c (fun x => { x with swap := some (fld r.pay 4 1, due, g) })))) ∧
  Completes .loopSetSetpoint cmdLoopSetSetpoint
    (fun r u => (targetWords u r.pay).any (fun w => litCell u w.1) = false ∧
      (ctxConflict u true ((targetWords u r.pay).map (·.1))).1 = false)
    (fun _ _ => [])
    (fun r u => each (targetWords u r.pay) u (fun w s => s.updCtx w.1 (fun x => { x with target := sgn 24 (fld r.pay w.2 4) }))) ∧
  Completes .loopSetLimits cmdLoopSetLimits
    (fun r u =>
      let cs := governed u (rangeOf r.pay)
      let k := fld r.pay 4 1
      (ctxConflict u true cs).1 = false ∧ ((bit k 1 || bit k 3 || bit k 4) = true →
        cs.any (fun c => (u.ctx c).regime != 0) = false))
    (fun _ _ => []) (fun r u => each (governed u (rangeOf r.pay)) u (fun c s => s.updCtx c (limitCtx r.pay))) ∧
  Completes .loopTableLoad cmdLoopTableLoad (fun r u => tableUsed u (fld r.pay 0 2) = false) (fun _ _ => [])
    (fun r u => { u with tables := tput u.tables (fld r.pay 0 2) (tableAt r.pay) }) ∧
  Completes .loopInject cmdLoopInject (fun r u => (ctxConflict u false [fld r.pay 0 2]).1 = false) (fun _ _ => [])
    (fun r u => u.updCtx (fld r.pay 0 2) (fun x => { x with genNext := putGen (compAt r.pay 16, compAt r.pay 32,
      if timeAt r.pay 4 = 0 then ceilTo (u.time.now + 1) (us (u.plane (u.elemAt (fld r.pay 0 2)).plane).tickUs) else timeAt r.pay 4) x.genNext }))

/-- The loop commands that read or capture complete (rows of R214, R215, R217 to R219). The MAX_UPDATE_NS of an engine that has run is a
free value (log entry 2, DESIGN CHOICE). -/
def Obligations.LoopReadingCommandsComplete : Prop :=
  Completes .loopReadState cmdLoopReadState (fun _ _ => True) (fun r u => ctxRec u (fld r.pay 0 2))
    (fun r u => if fld r.pay 2 1 = 1 then u.updCtx (governs u (fld r.pay 0 2)) (fun x => { x with measOvr := false, clipped := false })
      else u) ∧
  Completes .loopTableRead cmdLoopTableRead (fun r _ => fld r.pay 0 2 = 0) (fun _ _ => List.replicate 384 0) (fun _ u => u) ∧
  (∀ w, Completes .loopTableRead cmdLoopTableRead (fun r u => fld r.pay 0 2 ≠ 0 ∧ tfind u.tables (fld r.pay 0 2) = some w)
    (fun _ _ => w.flatMap (le 4)) (fun _ u => u)) ∧
  Refuses .loopTableRead cmdLoopTableRead (fun r u => fld r.pay 0 2 ≠ 0 ∧ tfind u.tables (fld r.pay 0 2) = none) empty ∧
  Completes .loopCapture cmdLoopCapture
    (fun r u =>
      let x := u.ctx (fld r.pay 0 2)
      let k := if fld r.pay 2 1 = 1 then x.gen.c1 else x.gen.c0
      let n := fld r.pay 4 4
      x.regime = 4 ∧ x.cap.running = false ∧ x.gen.on = true ∧ k.wave ≠ 0 ∧
        (if k.wave = 3 then 4 ≤ n ∧ n ≤ 16777216 else 1 ≤ n ∧ n ≤ 65535 ∧ captureShort u (fld r.pay 0 2) n k.inc = false))
    (fun _ _ => [])
    (fun r u =>
      let c := fld r.pay 0 2
      let x := u.ctx c
      let k := if fld r.pay 2 1 = 1 then x.gen.c1 else x.gen.c0
      let t := u.updCtx c (fun x => { x with cap := { running := true, comp := fld r.pay 2 1, length := fld r.pay 4 4, lag := fld r.pay 8 4
                                                      start := timeAt r.pay 12, amp := k.amp, wave := k.wave } })
      if r.lease = 0 then holdImplicit 5 4 c 1 t else t) ∧
  Completes .loopCaptureRead cmdLoopCaptureRead (fun _ _ => True)
    (fun r u =>
      let k := capShown (u.ctx (governs u (fld r.pay 0 2))).cap
      le 8 (uns 64 k.c) ++ le 8 (uns 64 k.s) ++ le 4 k.n ++ le 4 k.missed ++ le 1 k.flags ++ le 3 0
        ++ le 4 (capPoint k (if k.wave = 3 then k.c else k.s)) ++ le 4 (if k.wave = 3 then 0 else capPoint k k.c)
        ++ timeLe k.tStart ++ timeLe k.tEnd) (fun _ u => u) ∧
  Completes .loopCounters cmdLoopCounters (fun r u => (u.engine (fld r.pay 0 1)).updates = 0)
    (fun r u =>
      let k := u.engine (fld r.pay 0 1)
      le 4 0 ++ le 4 k.missed ++ le 4 k.overrun ++ le 4 k.starved ++ le 4 k.swaps ++ le 2 k.maxNs ++ le 2 0)
    (fun r u => if fld r.pay 1 1 = 1 then uncounted (fld r.pay 0 1) (u.updEngine (fld r.pay 0 1) (fun _ => {})) else
      u.updEngine (fld r.pay 0 1) (fun k => { k with maxNs := (u.engine (fld r.pay 0 1)).maxNs })) ∧
  Completes .loopCounters cmdLoopCounters (fun r u => (u.engine (fld r.pay 0 1)).updates ≠ 0)
    (fun r u =>
      let k := u.engine (fld r.pay 0 1)
      le 4 k.updates ++ le 4 k.missed ++ le 4 k.overrun ++ le 4 k.starved ++ le 4 k.swaps ++ le 2 (max k.maxNs (u.draw.1 % 65536)) ++ le 2 0)
    (fun r u => if fld r.pay 1 1 = 1 then uncounted (fld r.pay 0 1) (u.draw.2.updEngine (fld r.pay 0 1) (fun _ => {})) else
      u.draw.2.updEngine (fld r.pay 0 1) (fun k => { k with maxNs := max (u.engine (fld r.pay 0 1)).maxNs (u.draw.1 % 65536) }))

/-! ### Facet commands (chapter 6) -/

/-- The commands that build, read and write facets complete (rows of R254 to R256, R261 to R263). -/
def Obligations.FacetLibraryCommandsComplete : Prop :=
  (∀ n hit t, Completes .facetDefine cmdFacetDefine
    (fun r u =>
      let p := fld r.pay 0 1
      let perm := permOf r.pay 4 (u.ports p)
      commissioned u p = true ∧ lookup p perm true u = .ok (n, hit, t) ∧ (bit (fld r.pay 1 1) 0 = true →
        ((findSlot u p perm).map (fun k => (u.slot p k).pinned)).getD false = true ∨ pinCount u p < slotCount u p / 2))
    (fun r u => le 2 n ++ le 1 (b1 hit) ++ le 1 0 ++ le 8 (signature (permOf r.pay 4 (u.ports (fld r.pay 0 1)))))
    (fun r _ => t.updSlot (fld r.pay 0 1) n (fun x => { x with
      pinned := x.pinned || bit (fld r.pay 1 1) 0, learnOff := x.learnOff || bit (fld r.pay 1 1) 1 }))) ∧
  (∀ n hit t, Completes .facetLookup cmdFacetLookup
    (fun r u => commissioned u (fld r.pay 0 1) = true ∧
      lookup (fld r.pay 0 1) (permOf r.pay 4 (u.ports (fld r.pay 0 1))) false u = .ok (n, hit, t))
    (fun r u => le 2 n ++ le 1 (b1 hit) ++ le 1 0 ++ le 8 (signature (permOf r.pay 4 (u.ports (fld r.pay 0 1))))) (fun _ _ => t)) ∧
  Completes .facetRead cmdFacetRead (fun r u => slotValid u (fld r.pay 0 1) (fld r.pay 2 2) = true)
    (fun r u =>
      let p := fld r.pay 0 1
      let x := (u.slot p (fld r.pay 2 2)).facet
      if fld r.pay 4 1 = 0 then slotHeader u p (fld r.pay 2 2)
      else if fld r.pay 4 1 = 1 then (((slotChs u p).drop (fld r.pay 6 2)).take (fld r.pay 8 2)).flatMap (fun ch =>
        le 8 (entryWord true (tget {} x.entries ch)))
      else if fld r.pay 4 1 = 2 then x.perm.flatMap (le 2)
      else stateVector (u.ports p) x.cross) (fun _ u => u) ∧
  Refuses .facetRead cmdFacetRead (fun r u => slotValid u (fld r.pay 0 1) (fld r.pay 2 2) = false) empty ∧
  Completes .facetWrite cmdFacetWrite
    (fun r u =>
      let p := fld r.pay 0 1
      let n := fld r.pay 2 2
      let chs := ((slotChs u p).drop (fld r.pay 4 2)).take (fld r.pay 6 2)
      slotValid u p n = true ∧ ∀ e ∈ chs.zipIdx,
        entryBad u e.1 (fld r.pay 1 1) (fld r.pay (8 + 8 * e.2) 8) (tget {} (u.slot p n).facet.entries e.1) = false)
    (fun _ _ => [])
    (fun r u =>
      let p := fld r.pay 0 1
      let n := fld r.pay 2 2
      let chs := ((slotChs u p).drop (fld r.pay 4 2)).take (fld r.pay 6 2)
      u.updSlot p n (fun x => { x with edited := true, facet := { x.facet with entries := chs.zipIdx.foldl (fun t e =>
        tset {} t e.1 (writeEntry (fld r.pay 1 1) (fld r.pay (8 + 8 * e.2) 8) (tget {} t e.1))) x.facet.entries } })) ∧
  Completes .facetPin cmdFacetPin
    (fun r u =>
      let p := fld r.pay 0 1
      let n := fld r.pay 2 2
      slotValid u p n = true ∧ (fld r.pay 1 1 = 2 → evictable u p n = true) ∧
        (fld r.pay 1 1 = 1 → (u.slot p n).pinned = true ∨ pinCount u p < slotCount u p / 2))
    (fun _ _ => [])
    (fun r u => u.updSlot (fld r.pay 0 1) (fld r.pay 2 2) (fun x =>
      if fld r.pay 1 1 = 2 then {} else { x with pinned := fld r.pay 1 1 == 1 })) ∧
  Completes .facetRoute cmdFacetRoute (fun _ _ => True)
    (fun r u => stateVector (u.ports (fld r.pay 0 1)) (routeRecord (permOf r.pay 4 (u.ports (fld r.pay 0 1))))) (fun _ u => u) ∧
  Completes .facetStatus cmdFacetStatus (fun _ _ => True)
    (fun r u =>
      let p := fld r.pay 0 1
      let c := fun i => le 4 (tget 0 (u.plane p).counters i)
      le 2 ((List.range (slotCount u p)).filter (slotValid u p)).length ++ le 2 (pinnedSlots u p) ++ c 0 ++ c 1 ++ c 2 ++ c 3 ++ c 4 ++ c 5)
    (fun r u => if fld r.pay 1 1 = 1 then u.updPlane (fld r.pay 0 1) (fun q => { q with counters := [] }) else u)

/-- The launch commands complete (rows of R257 to R260). -/
def Obligations.LaunchCommandsComplete : Prop :=
  (∀ l t, Completes .facetLaunch cmdFacetLaunch
    (fun r u =>
      let p := fld r.pay 0 1
      (∀ x ∈ regimeRefusal u p, x.1 = false) ∧ fld r.pay 1 1 = 0 ∧ slotValid u p (fld r.pay 2 2) = true ∧
        acceptLaunch p (fld r.pay 2 2) (timeAt r.pay 4) (us 10) true none u = .ok (t, l))
    (fun r _ => le 4 l.id ++ le 2 (fld r.pay 2 2) ++ le 1 (b1 l.hit + 2 * b1 l.rounded) ++ le 1 0 ++ timeLe l.at') (fun _ _ => t)) ∧
  (∀ n hit v l t, Completes .facetLaunch cmdFacetLaunch
    (fun r u =>
      let p := fld r.pay 0 1
      (∀ x ∈ regimeRefusal u p, x.1 = false) ∧ fld r.pay 1 1 = 1 ∧ commissioned u p = true ∧
        lookup p (permOf r.pay 16 (u.ports p)) true u = .ok (n, hit, v) ∧
        acceptLaunch p n (timeAt r.pay 4) (us 20) hit none v = .ok (t, l))
    (fun _ _ => le 4 l.id ++ le 2 n ++ le 1 (b1 l.hit + 2 * b1 l.rounded) ++ le 1 0 ++ timeLe l.at') (fun _ _ => t)) ∧
  (∀ l, Completes .facetCancel cmdFacetCancel
    (fun r u => (u.plane (fld r.pay 0 1)).accepted.find? (fun x => x.id == fld r.pay 4 4) = some l ∧ u.time.now + us 3 < l.at')
    (fun _ _ => []) (fun r u => withdrawLaunch (fld r.pay 0 1) l u)) ∧
  (∀ l, Refuses .facetCancel cmdFacetCancel
    (fun r u => (u.plane (fld r.pay 0 1)).accepted.find? (fun x => x.id == fld r.pay 4 4) = some l ∧ l.at' ≤ u.time.now + us 3) late) ∧
  (∀ l, Completes .facetReport cmdFacetReport
    (fun r u => fld r.pay 4 4 ≠ 0 ∧ (knownLaunches u (fld r.pay 0 1)).find? (fun x => x.id == fld r.pay 4 4) = some l)
    (fun r _ => reportBytes (fld r.pay 0 1) l) (fun _ u => u)) ∧
  Completes .facetConfig cmdFacetConfig
    (fun r u =>
      let q := u.plane (fld r.pay 0 1)
      q.accepted = [] ∧ (q.cur.map (fun l => !l.done)).getD false = false)
    (fun _ _ => [])
    (fun r u =>
      let p := r.pay
      let t := u.updPlane (fld p 0 1) (fun q => { q with cfg := {
        holdRegime := fld p 1 1, verifyN := fld p 2 1, lambda := 256 * fld p 3 1 + fld p 4 1, learnMin := fld p 5 1
        retuneMin := fld p 6 2, verifyLo := fld p 8 2, verifyHi := fld p 10 2, lightMin := fld p 12 4, darkMax := fld p 16 4
        settleUs := fld p 20 4, verifyUs := fld p 24 4, holdMinUs := fld p 28 4, allowNs := fld p 32 4 } })
      if fld p 32 4 ≠ (u.plane (fld p 0 1)).cfg.allowNs then announce t else t)

/-! ### Chain commands (chapter 7) -/

/-- The chain commands complete (rows of R298 to R303). -/
def Obligations.ChainCommandsComplete : Prop :=
  Completes .chainLoad cmdChainLoad
    (fun r u =>
      let d := fld r.pay 1 1
      let data := hostRead r (8 * fld r.pay 4 2)
      chainBusy u (fld r.pay 0 1) = false ∧ dplaneHere u d = true ∧
        stepsOk u d (fld r.pay 2 1 == 1) data (stepsAt data (fld r.pay 4 2)) = true ∧ (localOf u d).isSome = true)
    (fun _ _ => [])
    (fun r u =>
      let d := fld r.pay 1 1
      let steps := stepsAt (hostRead r (8 * fld r.pay 4 2)) (fld r.pay 4 2)
      let c : Chain := { dplane := d, fill := fld r.pay 2 1 == 1, endIdle := bit (fld r.pay 3 1) 0, rep := fld r.pay 6 2
                         addr := fld r.pay 8 8, steps := steps
                         perms := if fld r.pay 2 1 = 1 then steps.map (fun e => localPerm u d e.1) else [] }
      updSched (fun x => { x with chains := tset {} x.chains (fld r.pay 0 1) c }) u) ∧
  Defers .chainLoad cmdChainLoad
    (fun r u =>
      let d := fld r.pay 1 1
      let data := hostRead r (8 * fld r.pay 4 2)
      chainBusy u (fld r.pay 0 1) = false ∧ dplaneHere u d = true ∧ fld r.pay 2 1 = 1 ∧
        stepsOk u d true data (stepsAt data (fld r.pay 4 2)) = true ∧ localOf u d = none)
    (fun r u =>
      let c : Chain := { dplane := fld r.pay 1 1, fill := true, endIdle := bit (fld r.pay 3 1) 0, rep := fld r.pay 6 2
                         addr := fld r.pay 8 8, steps := stepsAt (hostRead r (8 * fld r.pay 4 2)) (fld r.pay 4 2) }
      askPerm (updSched (fun x => { x with loading := [(fld r.pay 0 1, c, r)], loadAt := u.time.mono }) u)) ∧
  (∀ start n, Completes .chainStart cmdChainStart
    (fun r u =>
      startable r u ∧ (localOf u (chainOf u (fld r.pay 0 1)).dplane).isSome = true ∧ startOf r u = some (start, n))
    (fun _ u => startReply start u.time.now n) (fun r u => acceptStart (fld r.pay 0 1) start n u)) ∧
  (∀ start n, Defers .chainStart cmdChainStart
    (fun r u => startable r u ∧ localOf u (chainOf u (fld r.pay 0 1)).dplane = none ∧ startOf r u = some (start, n))
    (fun r u => orderRegime (chainOf u (fld r.pay 0 1)).dplane 4 start (some r) u)) ∧
  (∀ x, Completes .chainStop cmdChainStop
    (fun r u => ownRun u (fld r.pay 0 1) = some x ∧ dplaneHere u (fld r.pay 0 1) = true)
    (fun r u =>
      let t := max (timeAt r.pay 4) (u.time.now + minLead u)
      timeLe (runBoundary u (u.chainPlane (fld r.pay 0 1)) x (if (chainOf u x.chain).fill = true then max t (firstFree u) else t)))
    (fun r u =>
      let d := fld r.pay 0 1
      let c := chainOf u x.chain
      let t := max (timeAt r.pay 4) (u.time.now + minLead u)
      let b := runBoundary u (u.chainPlane d) x (if c.fill = true then max t (firstFree u) else t)
      let s := u.updChainPlane d (stopRun b)
      announce (if localOf u d = none then orderRegime d (if c.endIdle = true then 0 else 1) b none s else s))) ∧
  Refuses .chainStop cmdChainStop (fun r u => dplaneHere u (fld r.pay 0 1) = true ∧ ownRun u (fld r.pay 0 1) = none) empty ∧
  (∀ t, Refuses .chainStop cmdChainStop (fun r u => r.target = t ∧ dplaneHere u (fld r.pay 0 1) = false) (unreachableT t)) ∧
  Completes .chainUnload cmdChainUnload
    (fun r u => (chainOf u (fld r.pay 0 1)).steps ≠ [] ∧ chainBusy u (fld r.pay 0 1) = false) (fun _ _ => [])
    (fun r u => updSched (fun x => { x with chains := tdel x.chains (fld r.pay 0 1) }) u) ∧
  Completes .chainRead cmdChainRead
    (fun r u => fld r.pay 2 2 + fld r.pay 4 2 ≤ (chainOf u (fld r.pay 0 1)).steps.length ∧ 0 < fld r.pay 4 2)
    (fun r u =>
      let c := chainOf u (fld r.pay 0 1)
      le 1 (fld r.pay 0 1) ++ le 1 c.dplane ++ le 1 (b1 c.fill) ++ le 1 (b1 c.endIdle) ++ le 2 c.steps.length ++ le 2 c.rep ++ le 8 c.addr
        ++ ((c.steps.drop (fld r.pay 2 2)).take (fld r.pay 4 2)).flatMap (fun e => le 2 e.1 ++ le 2 0 ++ le 4 e.2)) (fun _ u => u) ∧
  Completes .chainStatus cmdChainStatus (fun _ _ => True)
    (fun r u =>
      let d := fld r.pay 0 1
      let c := u.chainPlane d
      let run := ownRun u d
      let pos := match run with | some x => chainPosAt u d x u.time.now | none => (0, 0)
      le 1 ((run.map (·.chain)).getD 0xFF) ++ le 1 (b1 run.isSome + 2 * b1 (ownPend u d).isSome + 4 * b1 c.late) ++ le 2 pos.2
        ++ le 4 (sat 32 pos.1) ++ timeLe ((run.map (·.start)).getD 0) ++ le 4 c.skipped) (fun _ u => u) ∧
  Completes .chainConfig cmdChainConfig (fun _ u => u.sched.chainPlanes.any (fun c => (ownPend u c.1).isSome) = false) (fun _ _ => [])
    (fun r u => updSched (fun x => { x with stageUs := fld r.pay 0 4, minLeadUs := fld r.pay 4 4 }) u)

/-! ### Scheduler commands (chapter 7) -/

/-- The scheduler commands that set regimes, the grid, classes and queues complete (rows of R304 to R307, R311 to R313). -/
def Obligations.SchedulerCommandsComplete : Prop :=
  (∀ p b t, Completes .schedSetRegime cmdSchedSetRegime
    (fun r u =>
      let d := fld r.pay 0 1
      (u.sys.map.isSome = true ∨ fld r.pay 1 1 = 0) ∧ (fld r.pay 1 1 ≠ 0 → u.em.hostDark = false) ∧
        (dplaneAway u r d).1 = false ∧ fld r.pay 1 1 ≠ 3 ∧
        localOf u d = some p ∧ changeRegime p (fld r.pay 1 1) (timeAt r.pay 4) u = .ok (b, t))
    (fun _ _ => timeLe b) (fun _ _ => t)) ∧
  (∀ p b t, Completes .schedSetRegime cmdSchedSetRegime
    (fun r u =>
      let d := fld r.pay 0 1
      let b0 := demandBoundary u (timeAt r.pay 4)
      u.sys.map.isSome = true ∧ u.em.hostDark = false ∧ u.time.st ≠ 4 ∧ (dplaneAway u r d).1 = false ∧ fld r.pay 1 1 = 3 ∧ dregime u d ≠ 0 ∧ dregime u d ≠ 3 ∧
        (timeAt r.pay 4 ≠ 0 → demandLead u ≤ timeAt r.pay 4) ∧ neverFrom u b0 = false ∧
        localOf u d = some p ∧ changeRegime p 3 b0 u = .ok (b, t))
    (fun _ _ => timeLe b) (fun _ _ => t)) ∧
  Completes .schedSetRegime cmdSchedSetRegime
    (fun r u =>
      let d := fld r.pay 0 1
      (u.sys.map.isSome = true ∨ fld r.pay 1 1 = 0) ∧ (fld r.pay 1 1 ≠ 0 → u.em.hostDark = false) ∧ fld r.pay 1 1 ≠ 3 ∧
        localOf u d = none ∧ d / 2 = u.dom.number)
    (fun _ u => timeLe u.time.now) (fun _ u => u) ∧
  Defers .schedSetRegime cmdSchedSetRegime
    (fun r u =>
      let d := fld r.pay 0 1
      workerHere u (d / 2) = true ∧ (fld r.pay 1 1 ≠ 0 → u.em.hostDark = false) ∧ fld r.pay 1 1 ≠ 3 ∧ localOf u d = none ∧ d / 2 ≠ u.dom.number)
    (fun r u =>
      let d := fld r.pay 0 1
      orderRegime d (fld r.pay 1 1) (remoteTime u d (fld r.pay 1 1) (timeAt r.pay 4)) (some r) u) ∧
  Defers .schedSetRegime cmdSchedSetRegime
    (fun r u =>
      let d := fld r.pay 0 1
      workerHere u (d / 2) = true ∧ u.em.hostDark = false ∧ u.time.st ≠ 4 ∧ fld r.pay 1 1 = 3 ∧ dregime u d ≠ 0 ∧ dregime u d ≠ 3 ∧
        (timeAt r.pay 4 ≠ 0 → demandLead u ≤ timeAt r.pay 4) ∧ neverFrom u (demandBoundary u (timeAt r.pay 4)) = false ∧
        localOf u d = none ∧ d / 2 ≠ u.dom.number)
    (fun r u => orderRegime (fld r.pay 0 1) 3 (demandBoundary u (timeAt r.pay 4)) (some r) u) ∧
  Completes .schedConfig cmdSchedConfig
    (fun r u => slotNever u (fld r.pay 0 4) (fld r.pay 12 1) (fld r.pay 4 4) (fld r.pay 8 4) = false ∧ anyDemand u = false)
    (fun _ _ => [])
    (fun r u => announce (updSched (fun c => { c with
      slotNs := fld r.pay 0 4, cutoffNs := fld r.pay 4 4, marginNs := fld r.pay 8 4, iter := fld r.pay 12 1, epoch := timeAt r.pay 16
      gridAt := none, lastCut := 0, samNext := 0 }) u)) ∧
  Completes .schedConfig cmdSchedConfig
    (fun r u => slotNever u (fld r.pay 0 4) (fld r.pay 12 1) (fld r.pay 4 4) (fld r.pay 8 4) = false ∧ anyDemand u = true ∧
      fld r.pay 0 4 ≠ u.sched.slotNs ∧ (dplanes u).any (fun d => dregime u d == 4) = false ∧
      u.time.now + 3 * ns u.sched.slotNs + minLead u ≤ timeAt r.pay 28)
    (fun _ _ => [])
    (fun r u =>
      let b := ceilGrid (timeAt r.pay 28) u.sched.epoch (max 1 (ns u.sched.slotNs))
      announce (updSched (fun c => { c with gridAt := some (fld r.pay 0 4, fld r.pay 4 4, fld r.pay 8 4, fld r.pay 12 1, b) }) u)) ∧
  Completes .schedClassConfig cmdSchedClassConfig (fun _ _ => True) (fun _ _ => [])
    (fun r u =>
      let x : ClassCfg := { tier := fld r.pay 1 1, weight := fld r.pay 2 1, ageGain := fld r.pay 3 1, minReq := fld r.pay 4 2 }
      updSched (fun c => { c with classes := tset {} c.classes (fld r.pay 0 1) x }) u) ∧
  Completes .schedQueueConfig cmdSchedQueueConfig (fun _ _ => True) (fun _ _ => [])
    (fun r u => each (range' (fld r.pay 0 4) (fld r.pay 4 4)) u (fun i s => s.updDemand i (queueWrite r.pay))) ∧
  Completes .schedDemandRead cmdSchedDemandRead (fun _ u => u.sched.matching = none)
    (fun r u => (range' (fld r.pay 0 4) (fld r.pay 4 2)).flatMap (fun i => demandBytes (u.demand i))) (fun _ u => u) ∧
  Defers .schedDemandRead cmdSchedDemandRead (fun _ u => u.sched.matching.isSome = true)
    (fun r u => updSched (fun c => { c with reads := c.reads ++ [r] }) u) ∧
  Completes .schedSampler cmdSchedSampler (fun _ _ => True) (fun _ _ => [])
    (fun r u => updSched (fun c => { c with
      samFirst := fld r.pay 0 4, samCount := fld r.pay 4 4, samInterval := fld r.pay 8 2, samNonzero := bit (fld r.pay 10 1) 0
      samNext := slotNow u + 1 }) u) ∧
  Completes .schedStatus cmdSchedStatus (fun _ _ => True)
    (fun _ u =>
      let c := fun (i : Nat) => tget 0 u.sched.counters i
      le 8 (slotNow u) ++ le 4 (slotMin u) ++ le 4 (c 0) ++ le 4 (c 1) ++ le 4 (c 2) ++ le 4 (c 3) ++ le 4 (c 4) ++ le 2 (c 5)
        ++ le 2 ((u.sched.dplanes.map (fun d => min 1024 d.2.withdrawn.length)).foldl (· + ·) 0))
    (fun r u => if fld r.pay 0 1 = 1 then updSched (fun x => { x with counters := [] }) u else u)

/-- The commands on pins, withdrawn pairs and port maps complete (rows of R308 to R310). -/
def Obligations.PinAndPortCommandsComplete : Prop :=
  Completes .schedPin cmdSchedPin
    (fun r u => fld r.pay 1 1 = 0 ∧ (dplaneAway u r (fld r.pay 0 1)).1 = false ∧
      (u.dplane (fld r.pay 0 1)).pins.any (fun x => x.1 == fld r.pay 2 2 && x.2.1 == fld r.pay 4 2) = true)
    (fun _ _ => [])
    (fun r u => u.updDplane (fld r.pay 0 1) (fun q => { q with
      pins := q.pins.filter (fun x => !(x.1 == fld r.pay 2 2 && x.2.1 == fld r.pay 4 2)) })) ∧
  Completes .schedPin cmdSchedPin
    (fun r u =>
      let d := fld r.pay 0 1
      let i := fld r.pay 2 2
      let o := fld r.pay 4 2
      fld r.pay 1 1 ≠ 0 ∧ (dplaneAway u r d).1 = false ∧ (u.dplane d).pins.length < dports u d ∧
        (u.dplane d).pins.any (fun x => x.1 == i || x.2.1 == o) = false ∧ pinInChain u d i o = false ∧ inEp u d i ≤ 511 ∧ outEp u d o ≤ 511)
    (fun _ _ => [])
    (fun r u => u.updDplane (fld r.pay 0 1) (fun q => { q with pins := q.pins ++ [(fld r.pay 2 2, fld r.pay 4 2, false)] })) ∧
  Completes .schedRestore cmdSchedRestore
    (fun r u => (dplaneAway u r (fld r.pay 0 1)).1 = false ∧
      (fld r.pay 1 1 = 1 ∨ isWithdrawn u (fld r.pay 0 1) (fld r.pay 2 2) (fld r.pay 4 2) = true))
    (fun _ _ => [])
    (fun r u =>
      let d := fld r.pay 0 1
      let i := fld r.pay 2 2
      let o := fld r.pay 4 2
      let hit := fun (c : Nat × Nat) => fld r.pay 1 1 == 1 || c == (i, o)
      let s := u.updDplane d (fun q => { q with
        withdrawn := q.withdrawn.filter (fun c => !hit c)
        pins := q.pins.map (fun x => if hit (x.1, x.2.1) then (x.1, x.2.1, false) else x) })
      let s := if (s.dplane d).withdrawn.length < 1024 then endCond 290 d s else s
      match localOf s d with
      | some p => restoreLocal p (fld r.pay 1 1 == 1) i o s
      | none => schedCmd d 2 0 (b1 (fld r.pay 1 1 == 1)) i o 0 0 s) ∧
  Completes .schedPlanePorts cmdSchedPlanePorts
    (fun r u => (dplaneAway u r (fld r.pay 0 1)).1 = false ∧ demandRegime (dregime u (fld r.pay 0 1)) = false) (fun _ _ => [])
    (fun r u =>
      let p := r.pay
      let put := fun (o : Nat) (t : Tab Nat) => (List.range (fld p 4 2)).foldl (fun t i =>
        tset 0 t (fld p 2 2 + i) (mapEntry (fld p 2 2 + i) (fld p (6 + 4 * i + o) 2))) t
      u.updDplane (fld p 0 1) (fun q => { q with inEp := put 0 q.inEp, outEp := put 2 q.outEp }))

/-! ### Endpoint commands (chapter 8) -/

/-- The endpoint commands complete (rows of R341 to R345). -/
def Obligations.EndpointCommandsComplete : Prop :=
  Completes .endpointConfig cmdEndpointConfig
    (fun r u => ¬ (epCfgMoves (epCfgAt r.pay) u.eps.cfg = true ∧ anyDemand u = true)) (fun _ _ => [])
    (fun r u =>
      let t := { u with eps := { u.eps with cfg := epCfgAt r.pay } }
      if (epCfgAt r.pay).guardNs ≠ u.eps.cfg.guardNs then announce t else t) ∧
  Completes .endpointAdmit cmdEndpointAdmit
    (fun r u => fld r.pay 2 1 ≠ 0 ∨ (tget ({} : Bind) u.eps.binds (fld r.pay 0 2)).on = true) (fun _ _ => [])
    (fun r u =>
      let b : Bind := if fld r.pay 2 1 = 0 then {} else { mac := fldBe r.pay 4 6, ip := fld r.pay 12 4, on := true }
      { u with eps := { u.eps with binds := tset {} u.eps.binds (fld r.pay 0 2) b } }) ∧
  Completes .endpointRead cmdEndpointRead (fun _ _ => True) (fun r u => epBytes u (fld r.pay 0 2)) (fun _ u => u) ∧
  Completes .endpointEvict cmdEndpointEvict (fun r u => u.sched.matching = none ∧ (u.ep (fld r.pay 0 2)).st ≠ 0) (fun _ _ => [])
    (fun r u => leaveEp (fld r.pay 0 2) (some 5) u) ∧
  Refuses .endpointEvict cmdEndpointEvict (fun r u => u.sched.matching = none ∧ (u.ep (fld r.pay 0 2)).st = 0) empty ∧
  Defers .endpointEvict cmdEndpointEvict (fun _ u => u.sched.matching.isSome = true) (fun r u => epLater (.evict r) u) ∧
  Completes .endpointCounters cmdEndpointCounters (fun _ _ => True)
    (fun r u => (List.range 8).flatMap (fun i => le 4 (tget 0
      (if fld r.pay 0 2 < 512 then (u.ep (fld r.pay 0 2)).counters else u.eps.counters) i)))
    (fun r u => if fld r.pay 2 1 = 0 then u
      else if fld r.pay 0 2 < 512 then u.updEp (fld r.pay 0 2) (fun x => { x with counters := [] })
      else { u with eps := { u.eps with counters := [] } })

/-! ### Time commands (chapter 9) -/

/-- The commands that choose and move the time complete (rows of R370 to R375); `time.adjust` that would jump waits for the refusal
(R352). -/
def Obligations.TimeSettingCommandsComplete : Prop :=
  Completes .timeConfig cmdTimeConfig (fun r u => sourceOk u (fld r.pay 0 1) = true ∧ (fld r.pay 0 1 ≠ u.time.source → anyScheduling u = false))
    (fun _ _ => [])
    (fun r u =>
      let p := r.pay
      let v := fld p 0 1
      let s := updTime (fun t => { t with
        slewPpm := fld p 2 2, jumpNs := fld p 4 4, lockNs := fld p 8 4, lossMs := fld p 12 4
        asymE := sgn 16 (fld p 16 2), asymW := sgn 16 (fld p 18 2) }) u
      if v = u.time.source then s
      else
        let s := endCond 323 0 (updTime (fun t => { t with
          source := v, st := if t.st = 4 then 4 else if v = 0 then 0 else 1, good := 0, bad := 0, heard := t.mono, utc := 0 }) s)
        let s := updPtp (fun p => { p with
          portState := if p.on then 4 else 1, foreign := [], sync := none, t12 := none, req := none, presp := none, annAt := s.time.mono
          syncAt := s.time.mono, steps := 0, parent := portId s, offset := 0, delay := 0 }) s
        if v = 1 then drainTxts s else s) ∧
  Completes .timeRead cmdTimeRead (fun _ _ => True)
    (fun _ u =>
      let t := u.time
      timeLe t.now ++ le 1 t.st ++ le 1 t.source ++ le 1 (b1 t.jumpRefused + t.txtsOvf.foldl (fun a i => a + 2 ^ (i + 1)) 0) ++ le 1 0
        ++ le 8 (uns 64 t.freq) ++ le 8 (uns 64 (t.slew.tdiv 1000000000)) ++ le 8 (uns 64 t.lastOffset) ++ le 2 t.utc ++ le 2 0)
    (fun _ u => u) ∧
  Completes .timeAdjust cmdTimeAdjust
    (fun r u => (u.time.source = 2 ∨ u.time.source = 4) ∧ (bit (fld r.pay 0 1) 1 = true → jumps u (sgn 64 (fld r.pay 16 8)) = false))
    (fun _ _ => [])
    (fun r u => correct (if bit (fld r.pay 0 1) 1 then some (sgn 64 (fld r.pay 16 8)) else none)
      (if bit (fld r.pay 0 1) 0 then some (sgn 64 (fld r.pay 8 8)) else none) u) ∧
  Refuses .timeAdjust cmdTimeAdjust (fun _ u => u.time.source ≠ 2 ∧ u.time.source ≠ 4) ⟨2, 0, 0⟩ ∧
  Completes .timeForceSet cmdTimeForceSet 
    (fun r u => (∃ m, r.origin = .mailbox m) ∧ u.sys.role ≤ 1 ∧ (anyScheduling u = true → bit (fld r.pay 1 1) 0 = true))
    (fun r u =>
      let b := stepBoundary (if bit (fld r.pay 1 1) 0 then suspendAll u else u)
      timeLe (if fld r.pay 0 1 = 0 then timeAt r.pay 4 else carry (sgn 64 (fld r.pay 16 8)) b))
    (fun r u =>
      let s := if bit (fld r.pay 1 1) 0 then suspendAll u else u
      let b := stepBoundary s
      if fld r.pay 0 1 = 0 then
        stepWorkers b ((timeAt r.pay 4 : Int) - b) (askStep b (some (timeAt r.pay 4)) (sgn 64 (fld r.pay 16 8)) s)
      else stepWorkers b (sgn 64 (fld r.pay 16 8)) (askStep b none (sgn 64 (fld r.pay 16 8)) s)) ∧
  Completes .timePtpConfig cmdTimePtpConfig (fun _ u => u.time.source = 1) (fun _ _ => [])
    (fun r u =>
      let p := r.pay
      updPtp (fun x => { x with
        on := true, port := fld p 0 1, domain := fld p 1 1, udp := fld p 2 1 == 1, peer := fld p 3 1 == 1, logSync := sgn 8 (fld p 4 1)
        logAnn := fld p 5 1, logReq := sgn 8 (fld p 6 1), annTo := fld p 7 1, prio1 := fld p 8 1, prio2 := fld p 9 1
        clkClass := fld p 10 1, slaveOnly := bit (fld p 11 1) 0, asymPs := sgn 32 (fld p 12 4)
        portState := 4, foreign := [], steps := 0, parent := portId u, sync := none, t12 := none, req := none, presp := none
        annAt := u.time.mono, syncAt := u.time.mono, offset := 0, delay := 0, seqs := [], sentAt := [] }) u) ∧
  Completes .timePtpStatus cmdTimePtpStatus (fun _ u => u.time.source = 1)
    (fun _ u =>
      let x := u.time.ptp
      le 1 x.portState ++ le 1 0 ++ le 2 x.steps ++ le 10 x.parent ++ le 2 0 ++ le 8 (uns 64 x.offset) ++ le 8 (uns 64 x.delay))
    (fun _ u => u) ∧
  Refuses .timePtpStatus cmdTimePtpStatus (fun _ u => u.time.source ≠ 1) empty

/-- The commands on time stamps, the transparent clock and the pins TOUT and TCAP complete (rows of R376 to R379). -/
def Obligations.TimePinCommandsComplete : Prop :=
  Completes .timeTxtsRead cmdTimeTxtsRead (fun r u => u.time.source ≠ 1 ∧ tget [] u.time.txts (fld r.pay 0 1) ≠ [])
    (fun r u =>
      let l := (tget [] u.time.txts (fld r.pay 0 1)).take (fld r.pay 1 1)
      le 1 l.length ++ le 3 0 ++ l.flatMap (txtsBytes (fld r.pay 0 1)))
    (fun r u =>
      let n := fld r.pay 0 1
      let q := tget [] u.time.txts n
      endCond (325 + n) 0 (updTime (fun t => { t with
        txts := tset [] t.txts n (q.drop (q.take (fld r.pay 1 1)).length), txtsOvf := t.txtsOvf.filter (· != n) }) u)) ∧
  Completes .timeTcConfig cmdTimeTcConfig (fun _ _ => True) (fun _ _ => [])
    (fun r u => updTime (fun t => { t with tcOn := fld r.pay 0 1 == 1, tcMask := fld r.pay 1 1 }) u) ∧
  Completes .timeTout cmdTimeTout (fun r u => fld r.pay 1 1 = 0 ∨ u.time.now + us 2 ≤ timeAt r.pay 4) (fun _ _ => [])
    (fun r u =>
      let p := r.pay
      let low := fld p 2 1 == 1
      if fld p 1 1 = 0 then updTout (fld p 0 1) (fun _ => { level := low }) u
      else updTout (fld p 0 1) (fun t => { t with
        next := some { mode := fld p 1 1, low := low, start := timeAt p 4, period := fld p 16 4, width := fld p 20 4, count := fld p 24 4 }
        level := if t.cur.isNone then low else t.level }) u) ∧
  Refuses .timeTout cmdTimeTout (fun r u => fld r.pay 1 1 ≠ 0 ∧ timeAt r.pay 4 < u.time.now + us 2) late ∧
  Completes .timeTcapConfig cmdTimeTcapConfig (fun _ _ => True) (fun _ _ => [])
    (fun r u =>
      let x := tget {} u.time.tcap (fld r.pay 0 1)
      let y := if x.edge = fld r.pay 1 1 then x else { x with edge := fld r.pay 1 1, queue := [], lost := false }
      updTime (fun t => { t with tcap := tset {} t.tcap (fld r.pay 0 1) y }) u) ∧
  Completes .timeTcapRead cmdTimeTcapRead (fun r u => (tget {} u.time.tcap (fld r.pay 0 1)).queue ≠ [])
    (fun r u =>
      let l := (tget {} u.time.tcap (fld r.pay 0 1)).queue.take (fld r.pay 1 1)
      le 1 l.length ++ le 3 0 ++ l.flatMap tcapBytes)
    (fun r u =>
      let x := tget {} u.time.tcap (fld r.pay 0 1)
      let y := { x with queue := x.queue.drop (x.queue.take (fld r.pay 1 1)).length }
      updTime (fun t => { t with tcap := tset {} t.tcap (fld r.pay 0 1) y }) u) ∧
  Refuses .timeTcapRead cmdTimeTcapRead (fun r u => (tget {} u.time.tcap (fld r.pay 0 1)).queue = []) empty

/-! ### Relay commands (chapter 10) -/

/-- The commands that set the relay complete (rows of R415, R416, R418, R420, R422 to R424). -/
def Obligations.RelaySettingCommandsComplete : Prop :=
  Completes .relayConfig cmdRelayConfig (fun _ _ => True) (fun _ _ => [])
    (fun r u =>
      let p := r.pay
      updRelay (fun x => { x with
        mac := fldBe p 0 6, miss := fld p 6 1, defClass := fld p 7 1, missGroup := fld p 8 2, epClass := fld p 10 1
        ptpClass := fld p 11 1
        pcp := (List.range 8).foldl (fun (t : Tab Nat) i => tset (i + 1) t i (fld p (14 + i) 1 + 1)) [] }) u) ∧
  Completes .relayPortConfig cmdRelayPortConfig
    (fun r u => ¬ (portChanges u r.pay = true ∧ portTimed u (fld r.pay 0 1) = true)) (fun _ _ => [])
    (fun r u =>
      let p := r.pay
      let n := fld p 0 1
      let t := if portChanges u p then each [2 * n, 2 * n + 1] u ethDown else u
      let t := if n < 4 then updRelay (fun x => { x with
        mode := tset 0 x.mode n (newMode u p), iface := tset 0 x.iface n (fld p 3 1), fec := tset 0 x.fec n (fld p 4 1) }) t else t
      flow (t.updRlink (2 * n + fld p 1 1) (fun l =>
        let l := { l with cut := bit (fld p 5 1) 0, train := bit (fld p 5 1) 1 }
        if n < 4 then { l with pfc := fld p 6 1, overhead := fld p 7 1 } else l))) ∧
  Completes .relayFdbWrite cmdRelayFdbWrite
    (fun r u => (((List.range (fld r.pay 0 2)).map (fun i => 4 + 16 * i)).foldl (fdbApply r.pay) (u.relay.fdb, 0)).1.length ≤ 65536)
    (fun r u =>
      let t := ((List.range (fld r.pay 0 2)).map (fun i => 4 + 16 * i)).foldl (fdbApply r.pay) (u.relay.fdb, 0)
      le 4 ((u.relay.version + 1) % 2 ^ 32) ++ le 2 t.2 ++ le 2 0)
    (fun r u =>
      let t := ((List.range (fld r.pay 0 2)).map (fun i => 4 + 16 * i)).foldl (fdbApply r.pay) (u.relay.fdb, 0)
      updRelay (fun x => { x with fdb := t.1, version := (u.relay.version + 1) % 2 ^ 32 }) u) ∧
  Completes .relayGroupWrite cmdRelayGroupWrite (fun _ _ => True) (fun _ u => le 4 ((u.relay.version + 1) % 2 ^ 32))
    (fun r u =>
      let p := r.pay
      let g := (List.range (fld p 2 2)).foldl (fun (t : Tab Nat) i => tset 0 t (fld p 0 2 + i) (fld p (4 + 2 * i) 2)) u.relay.groups
      updRelay (fun x => { x with groups := g, version := (u.relay.version + 1) % 2 ^ 32 }) u) ∧
  Completes .relayGateLoad cmdRelayGateLoad (fun r u => u.time.now + us 10 ≤ (gateListOf r.pay u.time.now).at') (fun _ _ => [])
    (fun r u => u.updRlink (2 * fld r.pay 0 1 + fld r.pay 1 1) (fun l => { l with gatesAt := some (gateListOf r.pay u.time.now) })) ∧
  Completes .relayShaper cmdRelayShaper (fun _ _ => True) (fun _ _ => [])
    (fun r u =>
      let p := r.pay
      let k := 2 * fld p 0 1 + fld p 1 1
      let c := fld p 2 1
      let t := u.updRlink k (fun l => { l with slopeNext := tset 0 l.slopeNext c (fld p 4 4 + 1) })
      if (u.rlink k).tx = none then newSlopes k t else t) ∧
  Completes .relayMirror cmdRelayMirror (fun _ _ => True) (fun _ _ => [])
    (fun r u =>
      let p := r.pay
      updMirror (fld p 0 1) (fun x => { x with
        on := fld p 1 1 == 1, egress := fld p 2 1 == 1, classes := fld p 3 1, links := fld p 4 2, n := fld p 6 2
        trunc := fld p 8 2, count := 0 }) u)

/-- The commands that read the relay, the fence, the pool and the leases complete (rows of R417, R419, R421, R425 to R427, R586 to R589).
-/
def Obligations.RelayPoolAndLeaseCommandsComplete : Prop :=
  Completes .relayPortStatus cmdRelayPortStatus (fun _ _ => True)
    (fun r u =>
      let n := fld r.pay 0 1
      let k := 2 * n + fld r.pay 1 1
      let l := u.rlink k
      le 1 (b1 (linkUp u k || decide (12 ≤ k))) ++ le 1 (if n < 4 then portMode u n else 0) ++ le 1 (tget 0 u.relay.fec n)
        ++ le 1 l.paused ++ le 1 (if n = 4 ∨ n = 5 then withheld u n else l.xoff) ++ le 3 0
        ++ le 4 (relayCounter (fecSeen n k u) k 20) ++ le 4 (relayCounter (fecSeen n k u) k 21))
    (fun r u => fecSeen (fld r.pay 0 1) (2 * fld r.pay 0 1 + fld r.pay 1 1) u) ∧
  (∀ e, Completes .relayFdbRead cmdRelayFdbRead (fun r u => fld r.pay 0 1 = 0 ∧ tfind u.relay.fdb (fdbKey r.pay 8) = some e)
    (fun r _ => fdbBytes (fdbKey r.pay 8) e) (fun _ u => u)) ∧
  Completes .relayFdbRead cmdRelayFdbRead (fun r _ => fld r.pay 0 1 ≠ 0)
    (fun r u =>
      let l := (u.relay.fdb.drop (fld r.pay 4 4)).take (fld r.pay 2 2)
      let next := fld r.pay 4 4 + l.length
      l.flatMap (fun e => fdbBytes e.1 e.2) ++ le 4 (if next < u.relay.fdb.length then next else 0xFFFFFFFF) ++ le 4 u.relay.version)
    (fun _ u => u) ∧
  Completes .relayFence cmdRelayFence (fun r u => earlier u (fld r.pay 0 4) = 0) (fun _ _ => []) (fun _ u => u) ∧
  Defers .relayFence cmdRelayFence (fun r u => earlier u (fld r.pay 0 4) ≠ 0)
    (fun r u => updRelay (fun x => { x with fences := x.fences ++
      [{ ver := fld r.pay 0 4, due := u.time.mono + us (fld r.pay 4 4), req := r }] }) u) ∧
  Completes .relayCounters cmdRelayCounters (fun _ _ => True)
    (fun r u =>
      let n := fld r.pay 0 1
      let g := relayCounter u (2 * n + fld r.pay 1 1)
      le 8 (g 0) ++ le 8 (g 1) ++ (range' 2 15).flatMap (fun i => le 4 (g i)) ++ le 4 (if n = 6 then u.relay.skipped else 0)
        ++ le 4 (g 18) ++ le 4 0)
    (fun r u =>
      let n := fld r.pay 0 1
      if fld r.pay 2 1 = 1 then
        updRelay (fun x => if n = 6 then { x with skipped := 0 } else x)
          (u.updRlink (2 * n + fld r.pay 1 1) (fun l => { l with counters := l.counters.filter (fun e => decide (20 ≤ e.1)) }))
      else u) ∧
  Completes .poolConfig cmdPoolConfig
    (fun r u =>
      let n := fld r.pay 0 1
      let q := poolWith r.pay n (u.pool n)
      minTotal q n ≤ poolSize n ∧ (bit (fld r.pay 2 1) 0 = true → (poolReq q n (fld r.pay 1 1)).v ≤ fld r.pay 4 4))
    (fun _ _ => [])
    (fun r u => flow (restage (fld r.pay 0 1) (u.updPool (fld r.pay 0 1) (fun _ => poolWith r.pay (fld r.pay 0 1) (u.pool (fld r.pay 0 1)))))) ∧
  Completes .poolStatus cmdPoolStatus (fun _ _ => True)
    (fun r u =>
      let n := fld r.pay 0 1
      let q := u.pool n
      le 4 q.alloc ++ le 4 (sharedFree q n) ++ le 1 q.stage ++ le 3 0 ++ le 4 q.bad ++ le 4 q.dbl ++ le 4 q.foreign
        ++ (List.range (poolReqs n)).flatMap (requesterBytes u n))
    (fun r u => if fld r.pay 1 1 = 1 then u.updPool (fld r.pay 0 1) (fun q => { q with bad := 0, dbl := 0, foreign := 0 }) else u) ∧
  (∀ v, Completes .leaseTake cmdLeaseTake
    (fun r u =>
      let p := r.pay
      let rg := leaseRange u (fld p 0 1) (fld p 4 2) (fld p 6 2)
      takeRefusal u (fld p 0 1) (fld p 1 1) rg.1 rg.2 = none ∧ u.leases.length < 256 ∧
        (if fld p 0 1 = 9 ∧ fld p 1 1 ≠ 0 then
          (poolReq (u.pool 1) 1 3).u + fld p 6 2 ≤ (poolReq (u.pool 1) 1 3).max ∧
            ∃ b, allocBufs 1 3 1 (fld p 6 2) u = (some b, v)
        else v = u))
    (fun r _ => le 4 v.leaseId ++ timeLe (expiresAt v (v.time.mono + ms (ttlOf (fld r.pay 8 4)))))
    (fun r _ =>
      let p := r.pay
      let rg := leaseRange v (fld p 0 1) (fld p 4 2) (fld p 6 2)
      { v with
        leases := putLease { id := v.leaseId, cls := fld p 0 1, use := fld p 1 1, mbox := mboxOf r, first := rg.1, count := rg.2
                             due := v.time.mono + ms (ttlOf (fld p 8 4)) } v.leases
        leaseId := nextLease v.leaseId })) ∧
  (∀ l, Completes .leaseRenew cmdLeaseRenew (fun r u => leaseOf u (fld r.pay 0 4) = some l)
    (fun r u => timeLe (expiresAt u (u.time.mono + ms (fld r.pay 4 4))))
    (fun r u => { u with leases := u.leases.map (fun x => if x.id = l.id then { l with due := u.time.mono + ms (fld r.pay 4 4) } else x) })) ∧
  (∀ l, Completes .leaseRelease cmdLeaseRelease (fun r u => leaseOf u (fld r.pay 0 4) = some l) (fun _ _ => []) (fun _ u => leaseOver l u)) ∧
  Completes .leaseList cmdLeaseList (fun _ _ => True)
    (fun r u =>
      let l := ((holdList u).drop (fld r.pay 0 2)).take (fld r.pay 2 2)
      let next := fld r.pay 0 2 + l.length
      le 2 l.length ++ le 2 (if next < (holdList u).length then next else 0xFFFF) ++ le 4 0 ++ l.flatMap holdBytes)
    (fun _ u => u)

/-! ### Domain commands (chapter 11) -/

/-- The domain commands complete (rows of R459 to R465). -/
def Obligations.DomainCommandsComplete : Prop :=
  Completes .domainConfig cmdDomainConfig (fun _ u => ¬ (u.sys.role = 2 ∧ u.dom.holdover.isSome = true)) (fun _ _ => [])
    (fun r u =>
      let p := r.pay
      setCfg (fun c => { c with
          propagate := bit (fld p 0 1) 0, accept := bit (fld p 0 1) 1, holdoverUs := fld p 4 4, silenceUs := fld p 8 4
          tunnelMs := fld p 12 4 })
        (updDom (fun d => { d with
          propagate := bit (fld p 0 1) 0, accept := bit (fld p 0 1) 1, holdoverUs := fld p 4 4, silenceUs := fld p 8 4
          tunnelMs := fld p 12 4 }) u)) ∧
  Completes .domainStatus cmdDomainStatus (fun _ _ => True)
    (fun _ u =>
      let d := u.dom
      let fl := b1 (u.clasp false).up + 2 * b1 (u.clasp true).up + 4 * b1 d.mgrUp + 8 * b1 d.holdover.isSome + 16 * b1 d.conflict
      le 1 (if u.sys.role = 3 then 0xFF else u.sys.role) ++ le 1 d.number ++ le 1 d.ring ++ le 1 fl
        ++ le 2 (if u.sys.role = 2 then d.mgrMembers else if u.sys.role = 0 then 1 else membersMask u)
        ++ le 2 (if d.ring ≠ 2 then 0xFFFF else if u.sys.role = 2 then farthest u false + 256 * farthest u true else d.brk) ++ timeLe ((d.holdover.map (·.2)).getD 0)) (fun _ u => u) ∧
  Completes .domainMembers cmdDomainMembers (fun _ u => u.sys.role ≠ 2) (fun _ u => (List.range 16).flatMap (memberBytes u)) (fun _ u => u) ∧
  Refuses .domainMembers cmdDomainMembers (fun _ u => u.sys.role = 2) empty ∧
  Completes .domainMemberEdit cmdDomainMemberEdit
    (fun r u =>
      let n := fld r.pay 0 1
      (u.member n).admitted = true → dregime u (2 * n) = 0 ∧ dregime u (2 * n + 1) = 0)
    (fun _ _ => [])
    (fun r u =>
      let n := fld r.pay 0 1
      let id := if fld r.pay 1 1 = 1 then fld r.pay 4 8 else 0
      setCfg (fun c => { c with members := tset 0 c.members n id })
        (u.updMember n (fun m => { m with identity := id }))) ∧
  Completes .domainSetRole cmdDomainSetRole (fun _ u => u.allIdle = true) (fun _ _ => [])
    (fun r u => setCfg (fun c => { c with role := fld r.pay 0 1 + 1 }) u) ∧
  Refuses .domainSetRole cmdDomainSetRole (fun _ u => u.allIdle = false) busyLit ∧
  Completes .domainEvents cmdDomainEvents (fun r u => u.dom.log.take (fld r.pay 0 2) ≠ [])
    (fun r u => le 2 (u.dom.log.take (fld r.pay 0 2)).length ++ le 2 u.dom.lost ++ (u.dom.log.take (fld r.pay 0 2)).flatMap evBytes)
    (fun r u => updDom (fun d => { d with log := d.log.drop (u.dom.log.take (fld r.pay 0 2)).length, lost := 0 }) u) ∧
  Completes .domainCounters cmdDomainCounters (fun _ _ => True)
    (fun r u => (List.range 6).flatMap (fun i => le 4 (tget 0 (u.clasp (fld r.pay 0 1 == 1)).counters i)))
    (fun r u => if fld r.pay 1 1 = 1 then u.updClasp (fld r.pay 0 1 == 1) (fun c => { c with counters := [] }) else u)

/-! ### Calibration commands (chapter 12) -/

/-- The calibration commands complete (rows of R531 to R537). -/
def Obligations.CalibrationCommandsComplete : Prop :=
  Completes .calCommission cmdCalCommission
    (fun r u =>
      let p := fld r.pay 0 1
      runConflict u p = none ∧ (u.plane p).regime = 0 ∧ (∀ l ∈ u.linksOf p, (u.link l).st = 2 ∧ refMissing u l = false) ∧
        (u.plane p).parked = true ∧ phasesReady (phasesDone u p) (fld r.pay 1 1) = true ∧ ((u.ptemp p).st = 0 ∨ (u.ptemp p).st = 2) ∧
        u.cal.run = none ∧ storing u = false)
    (fun _ _ => [])
    (fun r u =>
      let p := fld r.pay 0 1
      let dflt := fun (o d : Nat) => if fld r.pay o 2 = 0 then d else fld r.pay o 2
      let run : CalRun := { plane := p, phases := fld r.pay 1 1, asked := fld r.pay 1 1, avgN := dflt 4 64, wp := dflt 6 40
                            xtMin := dflt 8 33, work := workSet u }
      let s := updCal (fun k => { k with
        run := some run, visit := if (k.visit.map (fun m => (u.monAt m).plane == p)).getD false then none else k.visit }) u
      each (onLinks s p 1152) s (fun c s => s.updCtx c (fun x => { x with cal := true }))) ∧
  Completes .calBackground cmdCalBackground (fun _ u => u.planeIds.any (commissioned u) = true) (fun _ _ => [])
    (fun r u =>
      let p := r.pay
      let s := updCal (fun k => { k with
        bg := fld p 0 1 == 1, bgFlags := fld p 1 1, retrim := fld p 4 4, drift := fld p 8 2
        visit := if fld p 0 1 = 1 then k.visit else none }) u
      if s.cal.visit.isNone then updCal (fun k => { k with visit := nextVisit s 5119 }) s else s) ∧
  Completes .calStatus cmdCalStatus (fun _ _ => True)
    (fun _ u =>
      let c := u.cal
      let good := fun (b : Option (Nat × Cal)) => (b.map (fun x => calOk u x.2)).getD false
      let run := c.run.getD {}
      le 1 (if c.run.isSome then 1 else if storing u then 2 else 0) ++ le 1 run.plane ++ le 1 (lowPhase run.phases)
        ++ le 1 (b1 c.unsaved + 2 * b1 c.bg + 4 * b1 (good u.nvm.cal.a) + 8 * b1 (good u.nvm.cal.b) + 16 * b1 c.bankB)
        ++ le 4 ((c.cal.map (·.gen)).getD 0)
        ++ le 2 (if c.run.isSome then 1000 * (phaseCount run.asked - phaseCount run.phases) / max 1 (phaseCount run.asked) else 0)
        ++ le 2 (failedCells u) ++ le 4 (if c.run.isSome then u.draw.1 else 0) ++ le 4 c.badRecord)
    (fun _ u => if u.cal.run.isSome then u.draw.2 else u) ∧
  Completes .calRead cmdCalRead
    (fun r u =>
      let t := fld r.pay 0 1
      let p := fld r.pay 1 1
      (t = 1 ∨ t = 6 → u.planeIds.contains p = true ∧ commissioned u p = true) ∧ (t ≠ 7 → u.cal.cal.isSome = true) ∧
        (t ≠ 0 → t ≠ 6 → fld r.pay 2 2 < calTable u t p ∧ fld r.pay 2 2 + fld r.pay 4 2 ≤ calTable u t p))
    (fun r u =>
      let t := fld r.pay 0 1
      let p := fld r.pay 1 1
      if t = 0 then calHeader (calNow u) else if t = 6 then planeSummary u p
        else (range' (fld r.pay 2 2) (fld r.pay 4 2)).flatMap (calRecord u t p)) (fun _ u => u) ∧
  Completes .calStore cmdCalStore (fun _ u => u.cal.unsaved = true ∧ u.cal.run = none ∧ storing u = false) (fun _ _ => [])
    (fun _ u => startJob (.cal (workSet u)) u) ∧
  (∀ img, Completes .calSelect cmdCalSelect
    (fun r u => u.allIdle = true ∧ (u.cal.unsaved = true → fld r.pay 1 1 ≠ 0) ∧
      ((if fld r.pay 0 1 = 1 then u.nvm.cal.b else u.nvm.cal.a).map (·.2)).filter (calOk u) = some img ∧ u.cal.run = none ∧ storing u = false)
    (fun _ _ => []) (fun r u => announceCal u (calTake u.planeIds (fromFlash img)
      (updCal (fun k => { k with unsaved := false, bankB := fld r.pay 0 1 == 1 }) u)))) ∧
  Completes .calRefTrim cmdCalRefTrim (fun r _ => fld r.pay 1 1 = 0)
    (fun r u => le 2 (refOf (workSet u) (fld r.pay 0 1) % 4096) ++ le 2 (refOf (workSet u) (fld r.pay 0 1) / 4096 % 65536)) (fun _ u => u) ∧
  Completes .calRefTrim cmdCalRefTrim
    (fun r u => fld r.pay 1 1 ≠ 0 ∧ (∀ p, u.linkPlane (fld r.pay 0 1) = some p → u.lit p = false))
    (fun r _ =>
      let w := fld r.pay 2 2 + fld r.pay 4 2 * 4096
      le 2 (w % 4096) ++ le 2 (w / 4096 % 65536))
    (fun r u =>
      let l := fld r.pay 0 1
      let w := fld r.pay 2 2 + fld r.pay 4 2 * 4096
      let refs := tset 0 (workSet u).refs l (if w = factoryRef l then 0 else w + 1)
      let s := updCal (fun k => { k with
        cal := k.cal.map (fun x => { x with refs := refs }), refs := if k.cal.isNone then refs else k.refs, unsaved := true }) u
      s.updSense l (fun k => if k.refOn then { k with refAt := s.time.mono, refReady := false } else k))

/-! ### Fault commands (chapter 13) -/

/-- The fault commands complete (rows of R563, R565 to R570). -/
def Obligations.FaultCommandsComplete : Prop :=
  Completes .faultStatus cmdFaultStatus (fun _ _ => True)
    (fun r u =>
      let l := u.flt.records.filter (fun x => decide (fld r.pay 0 2 ≤ x.event))
      let n := min (fld r.pay 2 2) l.length
      le 2 n ++ le 2 (((l.drop n).head?.map (·.event)).getD 0xFFFF) ++ le 4 0 ++ (l.take n).flatMap (recordBytes u)) (fun _ u => u) ∧
  Completes .faultAck cmdFaultAck (fun r u => namedRecords u (fld r.pay 0 2) ≠ [])
    (fun r u => le 2 (namedRecords u (fld r.pay 0 2)).length ++ le 2 0) (fun r u => each (namedRecords u (fld r.pay 0 2)) u ackRecord) ∧
  Refuses .faultAck cmdFaultAck (fun r u => namedRecords u (fld r.pay 0 2) = []) empty ∧
  Completes .faultClear cmdFaultClear
    (fun r u =>
      let e := fld r.pay 0 2
      e = 0xFFFF ∨ (namedRecords u e ≠ [] ∧ (∀ x ∈ namedRecords u e, x.acked = true) ∧ causePresent u e = false))
    (fun r u =>
      let l := (namedRecords u (fld r.pay 0 2)).filter (clearable u)
      le 2 l.length ++ le 2 (reState (each l u clearRecord)).flt.records.length)
    (fun r u => reState (each ((namedRecords u (fld r.pay 0 2)).filter (clearable u)) u clearRecord)) ∧
  Completes .faultSetSeverity cmdFaultSetSeverity (fun _ _ => True)
    (fun r u =>
      let e := fld r.pay 0 2
      let v := fld r.pay 2 1
      let row := (faultRow e).getD ⟨0, 0, 7, 0, 0, false⟩
      let s := if v = 0xFF then u else
        faultLog e v 4 false false {} (setCfg (fun c => { c with severity := tput c.severity e (v + 1) })
          { u with flt := { u.flt with severity := tput u.flt.severity e v } })
      le 1 (severityOf s e) ++ le 1 row.dflt ++ le 1 row.floor ++ le 1 0)
    (fun r u =>
      let e := fld r.pay 0 2
      let v := fld r.pay 2 1
      if v = 0xFF then u else
        faultLog e v 4 false false {} (setCfg (fun c => { c with severity := tput c.severity e (v + 1) })
          { u with flt := { u.flt with severity := tput u.flt.severity e v } })) ∧
  Completes .faultConfig cmdFaultConfig (fun _ _ => True) (fun _ _ => [])
    (fun r u => notify u (setCfg (fun c => { c with faultNSev := fld r.pay 0 1 })
      { u with flt := { u.flt with faultNSev := fld r.pay 0 1, fwWdogMs := fld r.pay 2 2 } })) ∧
  Completes .faultInject cmdFaultInject (fun _ u => injectOk u = true) (fun _ _ => [])
    (fun r u => occurrence { inj := true, prop := !bit (fld r.pay 2 1) 0 } (fld r.pay 0 2) (dataAt r.pay 8)
      { u with flt := { u.flt with injected := u.flt.injected ++ [(fld r.pay 0 2, u.time.mono + ms (fld r.pay 4 4))] } }) ∧
  Refuses .faultInject cmdFaultInject (fun _ u => injectOk u = false) authFail ∧
  Completes .faultLog cmdFaultLog (fun r u => u.flt.log.take (fld r.pay 0 2) ≠ [])
    (fun r u =>
      let l := u.flt.log.take (fld r.pay 0 2)
      le 2 l.length ++ le 2 u.flt.logLost ++ l.flatMap faultLogBytes)
    (fun r u => { u with flt := { u.flt with log := u.flt.log.drop (u.flt.log.take (fld r.pay 0 2)).length, logLost := 0 } })

/-! ### Test commands (chapter 14) -/

/-- The lane test commands and the built-in self-test complete (rows of R608 to R611). -/
def Obligations.TestCommandsComplete : Prop :=
  Completes .testLanePattern cmdTestLanePattern
    (fun r u =>
      let n := fld r.pay 0 2
      (∀ x ∈ laneRefusals r u n true true, x.1 = false) ∧
        (upLane n = true → laneTestTaken u n = true → fld r.pay 2 1 = 0 ∧ (u.lane n).tx = 0))
    (fun _ _ => [])
    (fun r u =>
      let n := fld r.pay 0 2
      let pat := fld r.pay 2 1
      let set := fun (s : State) => s.updLane n (fun x => { x with
        tx := pat, txInv := bit (fld r.pay 3 1) 0, txUser := fld r.pay 4 5, txGen := none
        uses := if pat = 0 then x.uses &&& 30 else x.uses ||| 1 })
      if pat = 0 then set u
      else if upLane n then askLaneTest n (n % 5 + 16 * pat + fld r.pay 4 5 * 2 ^ 32) (set (laneSession n u))
      else set (laneSession n u)) ∧
  Completes .testLaneCheck cmdTestLaneCheck (fun r u => ∀ x ∈ laneRefusals r u (fld r.pay 0 2) true true, x.1 = false)
    (fun _ _ => [])
    (fun r u =>
      let n := fld r.pay 0 2
      let pat := fld r.pay 2 1
      (if pat = 0 then u else laneSession n u).updLane n (fun x => { x with
        rx := pat, rxInv := bit (fld r.pay 3 1) 0, rxUser := fld r.pay 4 5, locked := false
        uses := if pat = 0 then x.uses &&& 29 else x.uses ||| 2 })) ∧
  Completes .testLoopback cmdTestLoopback
    (fun r u =>
      let n := fld r.pay 0 2
      let mode := fld r.pay 2 1
      let far := mode == 2 && downLane n
      (∀ x ∈ laneRefusals r u n true true, x.1 = false) ∧
        (far = true → u.leases.any (fun x => x.cls == 6 && x.use == 6 && x.covers (n / 5 * 5 + 3) && decide (u.time.mono < x.due)) = true) ∧
        (downLane n = true → laneTestTaken u n = true → far = false ∧ (mode = 0 → bit (u.lane n).uses 3 = false)))
    (fun _ _ => [])
    (fun r u =>
      let n := fld r.pay 0 2
      let mode := fld r.pay 2 1
      let set := fun (s : State) => s.updLane n (fun x => { x with
        uses := (x.uses &&& 19) ||| (if mode = 1 then 4 else if mode = 2 then 8 else 0) })
      if mode = 0 then set u
      else if mode = 2 ∧ downLane n = true then askLaneTest n (n % 5 + 256) (set (laneSession n u))
      else set (laneSession n u)) ∧
  Completes .testMarginScan cmdTestMarginScan
    (fun r u =>
      let n := fld r.pay 0 2
      let k := u.link (n / 5)
      let served := bezelLane n && k.st == 2
      (∀ x ∈ laneRefusals r u n false (!(!(fld r.pay 2 1 == 1) && served && k.active != n % 5)), x.1 = false) ∧
        (fld r.pay 2 1 = 1 → (u.lane n).locked = true) ∧ (fld r.pay 2 1 ≠ 1 → served = true → k.active ≠ n % 5))
    (fun _ _ => [])
    (fun r u => u.updLane (fld r.pay 0 2) (fun x => { x with
      uses := x.uses ||| 16, scan := some (fld r.pay 2 1 == 1, fld r.pay 4 4, []), dwell := fld r.pay 3 1 })) ∧
  Completes .testCounters cmdTestCounters (fun r _ => fld r.pay 2 1 = 1 → r.lease ≠ 0)
    (fun r u => laneBytes (laneCount64 (fld r.pay 0 2) u) (fld r.pay 0 2))
    (fun r u =>
      let s := laneCount64 (fld r.pay 0 2) u
      if fld r.pay 2 1 = 1 then s.updLane (fld r.pay 0 2) (fun x => { x with losses := 0, bits := 0, errors := 0 }) else s) ∧
  Completes .testBist cmdTestBist (fun r _ => fld r.pay 1 1 = 1)
    (fun r u =>
      let b := bistOf u (fld r.pay 0 1)
      le 1 b.st ++ le 3 0 ++ le 4 b.fails ++ le 8 b.first ++ timeLe b.at') (fun _ u => u) ∧
  Completes .testBist cmdTestBist
    (fun r u => fld r.pay 1 1 ≠ 1 ∧ u.allIdle = true ∧ (∀ x ∈ bistConflict u (fld r.pay 0 1), x.1 = false)) (fun _ _ => [])
    (fun r u => bistWipes (fld r.pay 0 1)
      { u with bists := tset {} u.bists (fld r.pay 0 1) { bistOf u (fld r.pay 0 1) with st := 1 } })

/-! ### Loupe and snapshot commands (chapter 14) -/

/-- The loupe commands and the snapshot commands complete (rows of R612 to R618). -/
def Obligations.LoupeAndSnapCommandsComplete : Prop :=
  Completes .loupeRingConfig cmdLoupeRingConfig
    (fun r u =>
      let p := r.pay
      let others := u.loupe.rings.filter (fun e => e.1 != fld p 0 1 && e.2.mode != 0)
      (fld p 1 1 ≠ 0 → fld p 4 4 + fld p 8 4 ≤ loupeGib u * 1024 ∧ 0 < fld p 8 4 ∧
        ∀ e ∈ others, ringsMeet (fld p 4 4) (fld p 8 4) e.2 = false ∧ e.2.types &&& fld p 2 2 = 0) ∧
      ∀ t ∈ range' 1 8, bit (ringNo (loupeWrite u) (fld p 0 1)).types t = true → typeOn (loupeWrite u) t = false)
    (fun _ _ => [])
    (fun r u =>
      let p := r.pay
      let s := loupeWrite u
      let d := (ringNo s (fld p 0 1)).dirSeq
      updRing (fld p 0 1) (fun _ => if fld p 1 1 = 0 then { dirSeq := d } else
        { mode := fld p 1 1, types := fld p 2 2, base := fld p 4 4, size := fld p 8 4, dirSeq := d }) s) ∧
  Completes .loupeEnable cmdLoupeEnable (fun r u => (ringOf u (fld r.pay 0 1)).isSome = true) (fun _ _ => [])
    (fun r u =>
      let src : LSrc := { on := fld r.pay 1 1 == 1, div := fld r.pay 2 2, first := fld r.pay 4 2, count := fld r.pay 6 2 }
      { u with loupe := { u.loupe with srcs := tset {} u.loupe.srcs (fld r.pay 0 1) src } }) ∧
  Refuses .loupeEnable cmdLoupeEnable (fun r u => ringOf u (fld r.pay 0 1) = none) notReady ∧
  Completes .loupeStatus cmdLoupeStatus (fun _ _ => True) (fun r u => dirEntry u (fld r.pay 0 1)) (fun _ u => u) ∧
  (∀ m r s, accepts cmdLoupeExport m r s = true → 16 ≤ rspRoom r →
    exec (.loupeExport r) s = .next
      (let u := started cmdLoupeExport m r s
       let ring := ringNo u (fld r.pay 0 1)
       let pos := fld r.pay 4 8
       let n := min (fld r.pay 12 8) (ring.pos - pos)
       answerOk 0x1304 r {
         pay := le 8 n ++ le 1 (b1 (decide (0 < n) && decide (pos + ring.size * 1048576 < ring.pos))) ++ le 7 0
         addr := fld r.pay 20 8, data := ringBytes u ring pos n } u)) ∧
  Completes .loupeFreeze cmdLoupeFreeze (fun _ _ => True) (fun _ _ => [])
    (fun r u =>
      let p := r.pay
      let t := fld p 4 1
      if t = 3 then
        each ((List.range 32).filter (fun i => bit (fld p 0 4) i)) (loupeWrite u) (fun i s =>
          updRing i (fun x => { x with frozen := false, frozenAt := 0 }) s)
      else
        { u with loupe := { u.loupe with freezes := u.loupe.freezes ++ [
          { rings := fld p 0 4, trigger := t, event := fld p 6 2, postUs := fld p 8 4, at' := timeAt p 12
            stop := if t = 0 then some (u.time.mono + us (fld p 8 4)) else none }] } }) ∧
  Completes .snapAt cmdSnapAt
    (fun r u =>
      let t := if timeAt r.pay 4 = 0 then ceilTo (u.time.now + us 10) (us 1) else timeAt r.pay 4
      (u.snap (fld r.pay 0 1)).st = 0 ∧ u.time.now + us (if fld r.pay 1 1 = 1 then 50 else 10) ≤ t)
    (fun _ _ => [])
    (fun r u =>
      let b := fld r.pay 0 1
      let t := if timeAt r.pay 4 = 0 then ceilTo (u.time.now + us 10) (us 1) else timeAt r.pay 4
      let s := u.updSnap b (fun _ => { st := 1, domain := fld r.pay 1 1 == 1, t := t, devs := if fld r.pay 1 1 == 1 then snapMissing u else [] })
      if fld r.pay 1 1 = 1 then claspSend 0x30 0xFF (le 1 0 ++ le 1 b ++ le 2 0 ++ timeLe t) s else s) ∧
  Refuses .snapAt cmdSnapAt (fun r u => (u.snap (fld r.pay 0 1)).st ≠ 0) busy ∧
  Completes .snapRead cmdSnapRead
    (fun r u => (u.snap (fld r.pay 0 1)).st = 2 ∧ (schedules u = true ∨ (fld r.pay 1 1 ≠ 8 ∧ fld r.pay 1 1 ≠ 9)))
    (fun r u => (range' (fld r.pay 2 2) (fld r.pay 4 2)).flatMap (fun i =>
      snapRec (fld r.pay 1 1) i (shown (u.snap (fld r.pay 0 1)).copy (4096 * fld r.pay 1 1 + 4 * i) u)))
    (fun _ u => u) ∧
  Completes .snapStatus cmdSnapStatus (fun _ _ => True)
    (fun r u =>
      let x := u.snap (fld r.pay 0 1)
      le 1 x.st ++ le 1 (b1 x.domain) ++ le 2 0 ++ timeLe x.t
        ++ (List.range 16).flatMap (fun n => le 1 (match tget 0 x.devs n with | 0 => 0xFF | v + 1 => v)))
    (fun _ u => u) ∧
  Completes .snapRelease cmdSnapRelease (fun _ _ => True) (fun _ _ => [])
    (fun r u =>
      let b := fld r.pay 0 1
      let x := u.snap b
      let s := u.updSnap b (fun _ => {})
      if x.domain ∧ u.sys.role = 1 then claspSend 0x30 0xFF (le 1 2 ++ le 1 b ++ le 2 0 ++ timeLe x.t) s else s)

/-! ### Power commands (chapter 15) -/

/-- The power commands complete (rows of R642 to R646). -/
def Obligations.PowerCommandsComplete : Prop :=
  Completes .powerStatus cmdPowerStatus (fun _ _ => True)
    (fun _ u =>
      let w := u.pwr
      let m := leastSlack u
      let out := w.railOut.foldl (fun a k => a + 2 ^ k) 0
      le 1 w.avs ++ le 1 (b1 w.raise.isSome + 2 * b1 w.lowering + 4 * b1 (out != 0))
        ++ le 2 (if w.avs = 0 then 0 else w.req) ++ le 2 w.meas ++ le 2 (modeFloor u) ++ le 2 (uns 16 m.2) ++ le 1 m.1
        ++ le 1 out ++ le 4 w.dieMw ++ le 4 w.hbmMw ++ (List.range 8).flatMap (fun k => le 2 (w.rails.getD k 0))
        ++ le 4 w.raises ++ le 4 w.paceLow) (fun _ u => u) ∧
  Completes .powerAvsConfig cmdPowerAvsConfig
    (fun r u => ¬ (fld r.pay 0 1 ≠ 1 ∧ u.pwr.avs = 2) ∧ modeFloor u ≤ fld r.pay 6 2 ∧ u.pwr.raise = none)
    (fun _ _ => [])
    (fun r u =>
      let p := r.pay
      let s := setCfg (fun c => { c with
        avsOn := fld p 0 1 == 1, rail := fld p 1 1, slack := fld p 2 2, minMv := fld p 4 2, maxMv := fld p 6 2, toUs := fld p 8 2
        holdMs := fld p 10 2 }) u
      let w : Pwr := { s.pwr with
        rail := fld p 1 1, slackMargin := fld p 2 2, minMv := fld p 4 2, maxMv := fld p 6 2, toUs := fld p 8 2, holdMs := fld p 10 2 }
      if fld p 0 1 ≠ 1 then { s with pwr := { w with avs := 0, lowering := false, step := none, below := none } }
      else if u.pwr.avs ≠ 0 then raiseTo u.pwr.req { s with pwr := w }
      else
        let s := { s with pwr := { w with avs := 1, req := u.pwr.meas } }
        raiseTo (modeFloor s) s) ∧
  Completes .powerMode cmdPowerMode
    (fun r u => fld r.pay 0 1 = 1 → u.pwr.avs = 2 ∨ (u.pwr.avs = 1 ∧ ecoBlocked u = false)) (fun _ _ => [])
    (fun r u =>
      if u.pwr.avs = 0 then u
      else if fld r.pay 0 1 = 1 then { u with pwr := { u.pwr with avs := 2 } }
      else
        let t := { u with pwr := { u.pwr with avs := 1 } }
        raiseTo (modeFloor t) t) ∧
  Completes .powerTemps cmdPowerTemps (fun _ _ => True)
    (fun r u =>
      let p := r.pay
      let d := if bit (fld p 2 1) 0 then fld p 4 1 else u.pwr.dieWarn
      let h := if bit (fld p 2 1) 1 then fld p 5 1 else u.pwr.hbmWarn
      let x := if bit (fld p 2 1) 2 then fld p 6 1 else u.pwr.xcheck
      let s := { u with pwr := { u.pwr with dieWarn := d, hbmWarn := h, xcheck := x } }
      let s := if fld p 2 1 % 8 = 0 then s else setCfg (fun c => { c with dieWarn := d, hbmWarn := h, xcheck := x }) s
      tempBytes (tempDie s) ++ tempBytes (tempHbm s) ++ (List.range 8).flatMap (fun l => tempBytes (tempBezel s l)) ++ le 4 0
        ++ (range' (fld p 0 1) (fld p 1 1)).flatMap (fun i =>
          le 1 i ++ le 1 (sensorState s i) ++ tempBytes (s.sensor i).val
            ++ tempBytes (reference s i ((s.sensor i).val.getD 0)) ++ le 1 (sensorGroup i) ++ le 1 0))
    (fun r u =>
      let p := r.pay
      let d := if bit (fld p 2 1) 0 then fld p 4 1 else u.pwr.dieWarn
      let h := if bit (fld p 2 1) 1 then fld p 5 1 else u.pwr.hbmWarn
      let x := if bit (fld p 2 1) 2 then fld p 6 1 else u.pwr.xcheck
      let s := { u with pwr := { u.pwr with dieWarn := d, hbmWarn := h, xcheck := x } }
      if fld p 2 1 % 8 = 0 then s else setCfg (fun c => { c with dieWarn := d, hbmWarn := h, xcheck := x }) s) ∧
  (∀ t, Completes .powerPlaneTemp cmdPowerPlaneTemp
    (fun r u =>
      let p := r.pay
      let q := fld p 0 1
      let act := fld p 1 1
      (u.desc q).aux ≠ 0 ∧ (act = 1 → fld p 2 2 = 0x8000 → (u.desc q).tSet ≠ 0x8000) ∧
        (act = 1 ∨ act = 2 ∨ (act = 3 ∧ fld p 2 2 ≠ (u.ptemp q).tSet) →
          (u.plane q).regime = 0 ∧ (∀ x, u.cal.run = some x → x.plane ≠ q)) ∧
        t = (if act = 1 then
            (if (u.ptemp q).st = 0 then
              startReg q ((u.updPtemp q (tuneReg p true)).updPtemp q (fun x => { x with integ := 0, out := 0 }))
            else u.updPtemp q (tuneReg p true))
          else if act = 2 then u.updPtemp q (fun x => { x with st := 0, inBand := none, satSince := none })
          else if act = 3 then u.updPtemp q (tuneReg p true)
          else u))
    (fun r _ => planeTempBytes t (fld r.pay 0 1)) (fun _ _ => t))

/-! ### Security commands (chapter 16) -/

/-- The security commands complete (rows of R672 to R678): where a check is cryptographic, the row completes whichever way the check goes,
with the effect on the one side and the refusal on the other. -/
def Obligations.SecurityCommandsComplete : Prop :=
  Completes .secAttest cmdSecAttest (fun _ _ => True)
    (fun r u => attestBody (r.pay.take 32) u ++ slice (Config.rsaSign (attestBody (r.pay.take 32) u)) 0 512)
    (fun _ u => { u with free := u.free + 4 }) ∧
  Completes .secCertRead cmdSecCertRead (fun _ _ => True)
    (fun r u => le 4 u.nvm.certs.length ++ le 1 u.nvm.certCount ++ le 3 0 ++ slice u.nvm.certs (fld r.pay 0 4) (fld r.pay 4 2))
    (fun _ u => u) ∧
  Completes .secFwUpdate cmdSecFwUpdate (fun _ u => nvmBusy u = false) (fun _ _ => [])
    (fun r u => startJob (.fw (updateBank u) (hostRead r (fld r.pay 8 4))) u) ∧
  Refuses .secFwUpdate cmdSecFwUpdate (fun _ u => nvmBusy u = true) busy ∧
  Completes .secFwSelect cmdSecFwSelect (fun r u => fwCheck u (fwBank u (fld r.pay 0 1 == 1)) = 0 ∧ nvmBusy u = false) (fun _ _ => [])
    (fun r u =>
      let t := setCfg (fun c => { c with image := fld r.pay 0 1 == 1 }) u
      if fld r.pay 1 1 = 1 then { t with nvm := { t.nvm with secCounter := max t.nvm.secCounter t.sec.secVersion } } else t) ∧
  Refuses .secFwSelect cmdSecFwSelect (fun r u => fwCheck u (fwBank u (fld r.pay 0 1 == 1)) ≠ 0) empty ∧
  Completes .secOwnerSet cmdSecOwnerSet (fun r _ => fld r.pay 0 1 = 0) (fun _ u => le 32 u.draw.1)
    (fun _ u => { u.draw.2 with sec := { u.draw.2.sec with challenge := some (le 32 u.draw.1) } }) ∧
  (∀ m r s, accepts cmdSecOwnerSet m r s = true → fld r.pay 0 1 = 1 → (started cmdSecOwnerSet m r s).nvm.lifecycle = 0 →
    (started cmdSecOwnerSet m r s).allIdle = true →
    exec (.secOwnerSet r) s = .next
      (let u := started cmdSecOwnerSet m r s
       if ownerSigOk (keyAt r.pay 4) (fwBank u u.sys.cfg.image) = true then
         answerOk 0x1405 r {} (setLifecycle 1 { u with nvm := { u.nvm with ownerHash := sha (keyAt r.pay 4) } })
       else refuseReq 0x1405 r (conflict 0) u)) ∧
  (∀ m r s, accepts cmdSecOwnerSet m r s = true → fld r.pay 0 1 = 2 → (started cmdSecOwnerSet m r s).nvm.lifecycle = 1 →
    (started cmdSecOwnerSet m r s).allIdle = true →
    exec (.secOwnerSet r) s = .next
      (let u := started cmdSecOwnerSet m r s
       let none' := fun (x : State) => { x with sec := { x.sec with challenge := none } }
       if ownerSigOk (keyAt r.pay 4) (fwBank u u.sys.cfg.image) = false then refuseReq 0x1405 r (conflict 0) u
       else if ownerSigned u 1 (some (keyAt r.pay 4)) (slice r.pay 520 512) = true then
         answerOk 0x1405 r {} (setLifecycle 1 (let t := none' u
           { t with nvm := { t.nvm with ownerHash := sha (keyAt r.pay 4) } }))
       else refuseReq 0x1405 r authFail (raiseFault 412 {} (none' u)))) ∧
  Completes .secLifecycle cmdSecLifecycle (fun r _ => fld r.pay 0 1 = 0) (fun _ u => le 32 u.draw.1)
    (fun _ u => { u.draw.2 with sec := { u.draw.2.sec with challenge := some (le 32 u.draw.1) } }) ∧
  Completes .secLifecycle cmdSecLifecycle
    (fun r u => fld r.pay 0 1 ≠ 0 ∧ u.allIdle = true ∧ u.nvm.lifecycle ≠ 1 ∧ bit (u.sec.token.getD 0) 1 = true)
    (fun r _ => le 1 (fld r.pay 1 1) ++ le 3 0) (fun r u => setLifecycle (fld r.pay 1 1) u) ∧
  (∀ m r s, accepts cmdSecLifecycle m r s = true → fld r.pay 0 1 ≠ 0 → (started cmdSecLifecycle m r s).nvm.lifecycle = 1 →
    (started cmdSecLifecycle m r s).allIdle = true → 4 ≤ rspRoom r →
    exec (.secLifecycle r) s = .next
      (let u := started cmdSecLifecycle m r s
       if ownerSigned u (fld r.pay 1 1) none (slice r.pay 4 512) = true then
         answerOk 0x1406 r { pay := le 1 (fld r.pay 1 1) ++ le 3 0 } (setLifecycle (fld r.pay 1 1)
           { u with sec := { u.sec with challenge := none }, nvm := { u.nvm with ownerHash := [] } })
       else refuseReq 0x1406 r authFail (raiseFault 412 {} { u with sec := { u.sec with challenge := none } }))) ∧
  Completes .secFactoryToken cmdSecFactoryToken (fun r u => u.sys.testMode = true ∧ fld r.pay 0 1 = 0) (fun _ u => le 32 u.draw.1)
    (fun _ u => { u.draw.2 with sec := { u.draw.2.sec with challenge := some (le 32 u.draw.1) } }) ∧
  (∀ m r s, accepts cmdSecFactoryToken m r s = true → fld r.pay 0 1 ≠ 0 → (started cmdSecFactoryToken m r s).sys.testMode = true →
    4 ≤ rspRoom r →
    exec (.secFactoryToken r) s = .next
      (let u := started cmdSecFactoryToken m r s
       if tokenOk u (slice r.pay 4 576) = true then
         answerOk 0x1407 r { pay := le 4 (fld r.pay 44 4) } { u with sec := { u.sec with challenge := none, token := some (fld r.pay 44 4) } }
       else refuseReq 0x1407 r authFail (raiseFault 412 {} { u with sec := { u.sec with challenge := none } }))) ∧
  Refuses .secFactoryToken cmdSecFactoryToken (fun _ u => u.sys.testMode = false) notReady

/-! ### Rows of the device itself: reset, boot, clock, supply (chapters 15 and 17) -/

/-- The rows of power, reset and start-up complete (rows of R468, R664, R680, R682, R683, R687, R693, R701). -/
def Obligations.ResetAndStartRowsComplete : Prop :=
  (∀ s, exec .porstAssert s = .next (porstLow s)) ∧
  (∀ s, exec .powerUp s = .next (porstLow s)) ∧
  (∀ role s, s.sys.porst = true → exec (.porstRelease role) s = .next { s with
    sys := { s.sys with porst := false, st := 2, strap := role % 4, upAt := s.time.mono }
    time := { s.time with now := 65536000000000, released := s.time.mono }
    sec := { s.sec with procs := 1 } }) ∧
  Runs .perstAssert (fun _ => True) functionReset ∧
  Runs .functionLevelReset (fun _ => True) functionReset ∧
  (∀ s, s.sys.porst = false → 2 < s.sys.st → exec (.testModeChange true) s = .next (testPin { s with sys := { s.sys with testMode := true } })) ∧
  (∀ s, s.sys.porst = false → 2 < s.sys.st → exec (.testModeChange false) s = .next
    (testPin { s with sys := { s.sys with testMode := false }, sec := { s.sec with token := none } })) ∧
  Runs .brownOut (fun _ => True) (fun s => each (List.range 8) s scanLow) ∧
  Runs .bootImageVerify (fun s => s.sys.st = 2 ∧ s.sec.running = false ∧ s.sys.recovery = false)
    (fun s =>
      let sel := imageSelect s
      if fwCheck s (fwBank s sel) = 0 then bootBank sel false s
      else if fwCheck s (fwBank s (!sel)) = 0 then bootBank (!sel) true s
      else enterRecovery s) ∧
  (∀ bist, Runs (.bootComplete bist) (fun s => s.sys.st = 2 ∧ s.sec.running = true ∧ s.sys.recovery = false) (bootComplete bist)) ∧
  Runs .linkingComplete (fun s => s.sys.st = 3 ∧ s.mappedLinks.all (linkReady s) = true ∧ discReady s = true)
    (fun s =>
      let t := notify s { s with sys := { s.sys with st := 4 } }
      parkingCheck (each [0, 1] (each t.planeIds t (fun p u =>
        if u.sys.park.isSome then startRamp p 1 (rampTicks 250 (u.plane p).tickUs) true u else u)) parkReg)) ∧
  Acts .warmHoldExpiry 2 (fun p s => s.sys.st = 5 ∧ (s.ptemp p).st = 0 ∧ (s.plane p).warmAt + ms 100 ≤ s.time.mono)
    (fun p s => warmCheck (s.updPlane p (fun q => { q with warmed := true }))) ∧
  Acts .sysWarmTimeout 2
    (fun p s => s.sys.st = 5 ∧ (s.ptemp p).st ≠ 0 ∧ (s.ptemp p).st ≠ 2 ∧ (s.plane p).warmHeld = false ∧
      (s.plane p).warmAt + 900 * oneSecond ≤ s.time.mono)
    (fun p s => warmCheck (raiseEvent 49 { plane := p } (s.updPlane p (fun q => { q with warmHeld := true })))) ∧
  Runs .shutdownRampDone (fun s => s.sys.shutdown = true ∧ s.sys.shutDone = false ∧ ∀ e ∈ s.drives, e.2.code = 0)
    (fun s =>
      let t := each (List.range 8) s (fun l u =>
        refSet false l (dropCmds l (bzDrive l false (u.updLink l (fun k => { k with st := 0, relockAt := none })))))
      let t := each t.planeIds t (fun p u => u.updPlane p (fun q => { q with ramp := none }))
      raiseEvent 50 {} { t with sys := { t.sys with shutDone := true } })

/-- The rows of the supply, the clocks and the trip input complete (rows of R112, R473, R483, R541, R632, R637, R710). -/
def Obligations.SupplyAndClockRowsComplete : Prop :=
  (∀ mv, Runs (.railSample mv) (fun _ => True)
    (fun s => each (List.range (min 8 mv.length)) { s with pwr := { s.pwr with rails := mv.take 8, meas := mv.getD 0 s.pwr.meas } }
      (fun k => railSample k (mv.getD k 0)))) ∧
  Runs .refclkLoss (fun _ => True) (fun s => raiseCond 34 0 {} { s with sys := { s.sys with refclkBad := true } }) ∧
  Runs .refclkReturn (fun _ => True) (fun s => endCond 34 0 { s with sys := { s.sys with refclkBad := false } }) ∧
  Runs .dpllUnlock (fun _ => True) (fun s => raiseCond 35 0 {} { s with sys := { s.sys with dpllBad := true } }) ∧
  Runs .dpllRelock (fun _ => True) (fun s => endCond 35 0 { s with sys := { s.sys with dpllBad := false } }) ∧
  (∀ s, exec .analogueThermtrip s = .next
    { s with pwr := { s.pwr with anaTrip := true }, pins := { s.pins with therm := true, light := 0 } }) ∧
  (∀ s, exec .analogueTripRelease s = .next
    { s with pwr := { s.pwr with anaTrip := false }, pins := { s.pins with therm := s.pwr.trip } }) ∧
  Runs .fwHeartbeatTick (fun s => s.sec.running = true ∧ s.hi.heartbeatAt + ms 1 ≤ s.time.mono)
    (fun s => { s with
      hi := { s.hi with heartbeat := (s.hi.heartbeat + 1) % 2 ^ 32, heartbeatAt := s.time.mono }
      flt := { s.flt with fwWdogLast := s.time.mono } }) ∧
  Runs .timeMirrorUpdate (fun _ => True)
    (fun s => { s with hi := { s.hi with
      mirrorSeq := (s.hi.mirrorSeq + 2) % 2 ^ 32, mirrorTime := s.time.now, mirrorSource := s.time.source
      mirrorState := s.time.st, mirrorAt := s.time.mono } }) ∧
  Runs .modulatorTick (fun _ => True) (fun s =>
    let t := each (List.range 8) s linkTick
    { t with time := timeTick t.time })

/-! ### Rows of the bezel links and of the bezel (chapter 2) -/

/-- The rows of a bezel link's training and running complete (rows of R63, R74, R75, R85 to R87, R555). -/
def Obligations.LinkRowsComplete : Prop :=
  (∀ a b f rest, Acts (fun l => .upFrameCheck l a b) 8
    (fun l s => (s.link l).sent = f :: rest ∧ (s.link l).st = 2 ∧ laneOk 3 (some f.seq) a = true ∧ laneOk 4 (some f.seq) b = true ∧
      payloadOf 3 a = payloadOf 4 b)
    (fun l s => upTaken l f (upOf (payloadOf 3 a)) (laneCount l true true (s.updLink l (fun k => { k with sent := rest }))))) ∧
  Acts .heaterStatusPoll 8 (fun l s => (s.link l).htrAny = true ∧ (s.link l).htrPoll + ms 10 ≤ s.time.mono)
    (fun l s => s.updLink l (fun k => { k with poll := heaterAddrs, htrPoll := s.time.mono })) ∧
  Acts .bzRstHoldExpiry 8
    (fun l s => (s.link l).st = 1 ∧ (s.link l).step = 1 ∧ (s.link l).rstAt + us 10 ≤ s.time.mono ∧ s.pins.scan = false)
    (fun l s => ((bzDrive l true s).updLink l (fun k => { k with step := 2 })).updBezel l (fun b =>
      { bezelReset b with rstN := true, rstAt := s.time.mono })) ∧
  Acts (fun l => .upLaneLock l 3) 8 (fun l s => (s.link l).st = 1 ∧ ((s.link l).step = 2 ∨ (s.link l).step = 3) ∧ 8 ≤ (s.link l).good3)
    (fun l s => queueBezel l 1 0 [] none (s.updLink l (fun k => { k with step := 4, tries := 1, active := 3, pass := 0, badActive := 0 }))) ∧
  Acts (fun l => .upLaneLock l 4) 8 (fun l s => (s.link l).st = 1 ∧ ((s.link l).step = 2 ∨ (s.link l).step = 3) ∧ 8 ≤ (s.link l).good4)
    (fun l s => queueBezel l 1 0 [] none (s.updLink l (fun k => { k with step := 4, tries := 1, active := 4, pass := 0, badActive := 0 }))) ∧
  (∀ x c, Acts (fun l => .bezelResponse l x) 8
    (fun l s => (s.link l).cmds.find? (fun c => c.sentAt.isSome && c.cmd.tag == x.tag && c.cmd.op == x.op) = some c)
    (fun l s =>
      let t := s.updLink l (fun k => { k with cmds := k.cmds.filter (fun y => !(y.cmd.tag == x.tag && y.sentAt.isSome)) })
      match c.req with
      | some q => answerOk 0x0403 q { pay := le 1 x.status ++ le 3 0 ++ (List.range 4).flatMap (fun i => le 4 (x.data.getD i 0)) } t
      | none => ownResponse l c.cmd x t)) ∧
  (∀ tag, Acts (fun l => .bezelCmdRetry l tag) 8
    (fun l s => (s.link l).cmds.any (cmdOverdue s.time.mono tag) = true ∧ ((s.link l).st = 2 ∨ (s.link l).tries < 3))
    (fun l s => s.updLink l (fun k => { k with
      tries := if k.st = 1 ∧ k.step = 4 then k.tries + 1 else k.tries
      cmds := k.cmds.map (fun c => if cmdOverdue s.time.mono tag c then { c with sentAt := none } else c) }))) ∧
  (∀ tag, Acts (fun l => .bezelCmdRetry l tag) 8
    (fun l s => (s.link l).cmds.any (cmdOverdue s.time.mono tag) = true ∧ (s.link l).st = 1 ∧ (s.link l).step = 4 ∧ 3 ≤ (s.link l).tries)
    trainFailed) ∧
  Acts .trainTimeout 8 (fun l s => (s.link l).st = 1 ∧ (s.link l).rstAt + ms 1 ≤ s.time.mono) trainFailed ∧
  (∀ t, Acts .relockTimeout 8 (fun l s => (s.link l).relockAt = some t ∧ (s.link l).st = 3 ∧ t + ms 1 ≤ s.time.mono) startTraining) ∧
  Acts .lightEnRise 8 (fun l s => lightAllowed s l = true ∧ s.lightOn l = false)
    (fun l s => ({ s with pins := { s.pins with light := s.pins.light ||| (1#8 <<< l) } }).updBezel l (fun b =>
      { b with lightPin := true, lightAt := s.time.mono, qualified := false, lowSeen := true }))

/-- The rows of the bezel complete (rows of R61, R74, R77 to R79, R81 to R83, R85). -/
def Obligations.BezelRowsComplete : Prop :=
  (∀ f0 f1 f2 env, Acts (fun l => .bezelApplyTick l f0 f1 f2 env) 8
    (fun l s =>
      let b := (bezelFeels l env s).bezel l
      b.rstN = true ∧ s.bzHigh l = true ∧ b.test = false ∧ b.locked = true ∧ b.hold = false ∧
      laneOk 0 b.seq f0 = true ∧ laneOk 1 b.seq f1 = true ∧ laneOk 2 b.seq f2 = true ∧ f0.seq = f1.seq ∧ f1.seq = f2.seq)
    (fun l s =>
      let s1 := bezelFeels l env s
      let f := downOf f0.seq (payloadOf 0 f0) (payloadOf 1 f1) (payloadOf 2 f2)
      let r := bezelApply (gateOpen s1 l) f (s1.bezel l)
      let s2 := s1.updBezel l (fun _ => { r.1 with seq := some ((f0.seq + 1) % 16) })
      bezelSend l f0.seq (bezelUp s2 l env r.2.1 f.segment r.2.2) s2)) ∧
  (∀ ohm c t, Acts (fun l => .bezelCommandComplete l ohm) 8
    (fun l s => (s.bezel l).cmds = c :: t ∧ (s.bezel l).resp.op = 0 ∧ (s.bezel l).test = false)
    (fun l s => s.updBezel l (fun b =>
      let r := bezelExec s l ohm c { b with cmds := t }
      { r.2 with resp := r.1 }))) ∧
  (∀ lanes, Acts (fun l => .bezelLostDownFrame l lanes) 8 
    (fun l s => (s.bezel l).rstN = true ∧ s.bzHigh l = true ∧ (s.bezel l).locked = true ∧ (s.bezel l).test = false)
    (fun l s =>
      let b := s.bezel l
      let d := (s.updBezel l (bezelLost lanes)).draw
      bezelSend l (b.seq.getD 0) (bezelUp d.2 l { mon := BitVec.ofNat 640 d.1, rb := BitVec.ofNat 8 (d.1 / 2 ^ 640), temps := b.up.temps
                                                  htrOpen := b.htrOpen, htrShort := b.htrShort, vhtr := b.vhtr
                                                  refOk := b.up.status.getLsbD 18 } [] none false) d.2)) ∧
  Acts .bezelHoldExit 8 (fun l s => (s.bezel l).hold = true ∧ (s.bezel l).test = false ∧ 8 ≤ (s.bezel l).good)
    (fun l s => s.updBezel l (leaveHold (s.lightOn l))) ∧
  Acts .bezelLightEnFall 8 (fun l s => s.lightOn l = false)
    (fun l s => s.updBezel l (fun b => { b with lightPin := false, qualified := false, lowSeen := true })) ∧
  Acts .bezelLightEnQualify 8
    (fun l s => s.lightOn l = true ∧ (s.bezel l).lightPin = true ∧ (s.bezel l).lightAt + us 1 ≤ s.time.mono)
    (fun l s => s.updBezel l (fun b => { b with qualified := true, latched := b.latched && !b.lowSeen })) ∧
  Acts .bezelReset 8 (fun l s => s.bzHigh l = false ∧ (s.link l).rstAt + us 1 ≤ s.time.mono) (fun l s => s.updBezel l bezelReset) ∧
  Acts .bezelSupplyLoss 8 (fun _ _ => True)
    (fun l s => s.updBezel l (fun b => { b with supplyOk := false, powered := false, supplyAt := s.time.mono })) ∧
  Acts .bezelSupplyRecover 8 (fun l s => (s.bezel l).supplyOk = false ∧ (s.bezel l).supplyAt + ms 1 ≤ s.time.mono)
    (fun l s => s.updBezel l (fun b => { b with
      supplyOk := true, supplyAt := s.time.mono, powered := heaterOn s l { b with supplyOk := true } })) ∧
  Acts .bezelDownLaneLock 8 (fun l s => (s.bezel l).rstN = true ∧ (s.bezel l).locked = false ∧ 8 ≤ (s.bezel l).good)
    (fun l s => (s.updBezel l (fun b => { b with
      locked := true, lostRun := 0, powered := heaterOn s l b })).updLink l (fun k =>
        if k.st = 1 ∧ k.step = 2 then { k with step := 3 } else k))

/-! ### Rows of the drive, sense and loop engines (chapters 3 to 5) -/

/-- The rows of the drive paths complete (rows of R98, R101, R116, R123, R125, R126, R156, R158). -/
def Obligations.DriveRowsComplete : Prop :=
  Acts .updateTick 2 (fun p s => atBoundary s p = true) (fun p s => loopMarks p (updateTick p (loopTicks p s))) ∧
  (∀ e, Acts .preEmphasisEnd 9216
    (fun ch s =>
      let a := governs s ch
      (s.ctx a).holdUntil = some e ∧ e ≤ s.time.now ∧ (s.ctx a).force = none ∧ (s.drive (corrArm s a)).loopCode = none)
    (fun ch s => (softArms 1 (governs s ch) s).updCtx (governs s ch) (fun x => { x with waiting := true }))) ∧
  (∀ r, Acts .rampComplete 2
    (fun p s => (s.plane p).ramp = some r ∧ r.shutdown = false ∧ r.ticks ≤ r.done ∧
      (s.planeChs p false).all (fun ch => (s.drive ch).code == (s.drive ch).rampB || forced s ch) = true)
    (fun p s => parkingCheck (raiseEvent 184 { plane := p }
      (s.updPlane p (fun q => { q with ramp := none, parked := r.dest == 1 && s.sys.park.isSome }))))) ∧
  Acts .rangeRampDownDone 9216 (fun ch s => ∀ c ∈ rangeChs s ch, (s.drive c).rcStep = 1 ∧ (s.drive c).code = 0 ∧ (s.drive c).rcZero = true)
    (fun ch s => each (rangeChs s ch) s (fun c u => setRangeBit c (u.drive c).rcHigh (u.updDrive c (fun d => { d with rcStep := 2 })))) ∧
  Acts .rangeSegApplied 9216
    (fun ch s => ∀ c ∈ rangeChs s ch, (s.drive c).rcStep = 2 ∧ (s.link (c / 1152)).changed.contains (segOf (c % 1152 / 2)) = false)
    (fun ch s => each (rangeChs s ch) s rangeApply) ∧
  Acts .rangeChangeDone 9216 (fun ch s => ∀ c ∈ rangeChs s ch, (s.drive c).rcStep = 3 ∧ (s.drive c).code = rangeEnd (s.drive c))
    (fun ch s =>
      let l := rangeChs s ch
      let t := each l s (fun c u =>
        let rg := (u.drive c).rcRegime
        let v := u.updDrive c (fun d => { d with rcStep := 0, rcCode := 0, rcRegime := 0 })
        if rg = 0 then v else v.updCtx c (fun x => { x with
          pending := some { regime := rg, tick := x.pairedTick, base := x.injBase, filter := x.injFilter } }))
      raiseEvent 185 { plane := (t.elemAt ch).plane, link := ch / 1152, chan := l.headD ch } t) ∧
  (∀ j u t, j < 8 → Acts (fun l => .readbackStart l j) 8
    (fun l s =>
      let m := tget ({} : RbMod) (s.link l).mods j
      (s.link l).st = 2 ∧ m.cur = none ∧ m.urgent = u :: t ∧ u.sync = false)
    (fun l s => beginConv l j u { tget ({} : RbMod) (s.link l).mods j with urgent := t } s)) ∧
  (∀ j, j < 8 → Acts (fun l => .readbackStart l j) 8
    (fun l s =>
      let m := tget ({} : RbMod) (s.link l).mods j
      (s.link l).st = 2 ∧ m.cur = none ∧ m.urgent = [] ∧ (s.link l).rbScan = true ∧ ∃ n, m.sinceEvent = some n ∧ (s.link l).rbDelay ≤ n)
    (fun l s =>
      let m := tget ({} : RbMod) (s.link l).mods j
      beginConv l j { chan := m.next % 144 } m s)) ∧
  (∀ j c, j < 8 → Acts (fun l => .readbackComplete l j) 8
    (fun l s => (tget ({} : RbMod) (s.link l).mods j).cur = some c ∧ 64 ≤ c.ticks ∧ c.req = none ∧
      0 ≤ measuredPower s (l * 1152 + 144 * j + c.chan) c)
    (fun l s =>
      let m := tget ({} : RbMod) (s.link l).mods j
      let ch := l * 1152 + 144 * j + c.chan
      let mp := measuredPower s ch c
      let cp := commandedPower s ch c
      let m := { m with cur := none, idle := 0, sinceEvent := none, next := if c.urgent then m.next else (c.chan + 1) % 144 }
      let t := s.updLink l (fun k => { k with cConv := (k.cConv + 1) % 2 ^ 32, mods := tset {} k.mods j m })
      let t := t.updDrive ch (fun d => { d with rbPower := mp.toNat, rbCmd := cp })
      let t := if sourceOn t 4 l then stageRec 4 ch (le 4 mp.toNat ++ le 4 cp) t else t
      superviseConv l j ch mp cp t)) ∧
  (∀ j c r, j < 8 → Acts (fun l => .readbackComplete l j) 8
    (fun l s => (tget ({} : RbMod) (s.link l).mods j).cur = some c ∧ 64 ≤ c.ticks ∧ c.req = some r ∧
      0 ≤ measuredPower s (l * 1152 + 144 * j + c.chan) c)
    (fun l s =>
      let m := tget ({} : RbMod) (s.link l).mods j
      let ch := l * 1152 + 144 * j + c.chan
      let mp := measuredPower s ch c
      let cp := commandedPower s ch c
      let m := { m with cur := none, idle := 0, sinceEvent := none, next := if c.urgent then m.next else (c.chan + 1) % 144 }
      let t := s.updLink l (fun k => { k with cConv := (k.cConv + 1) % 2 ^ 32, mods := tset {} k.mods j m })
      let t := t.updDrive ch (fun d => { d with rbPower := mp.toNat, rbCmd := cp })
      let t := if sourceOn t 4 l then stageRec 4 ch (le 4 mp.toNat ++ le 4 cp) t else t
      let t := superviseConv l j ch mp cp t
      let t := if (tget ({} : RbMod) (t.link l).mods j).urgent.any (·.req.isSome) = true then t else dropImplicit 3 2 (l * 8 + j) t
      answerOk 0x0509 r { pay := le 4 mp.toNat ++ le 4 cp ++ le 1 c.restarts ++ le 3 0 } t)) ∧
  Acts .filterSwitch 5120
    (fun m s =>
      let k := s.sense (m / 640)
      wantedFilter s m ≠ (s.mon m).filter ∧
        ((s.mon m).live = false ∨
          (onBoundary (wantedFilter s m) (s.link (m / 640)).runTick k.tick k.start = true ∧ (s.mon m).askAt ≤ k.start + modTick)))
    (fun m s =>
      let t := s.updMon m (clearFilter (wantedFilter s m))
      match monCtx s m with
      | some c => if (s.mon m).live = true ∧ (s.mon m).filter = 2 ∧ (s.ctx c).regime = 2 then missSample c t else t
      | none => t) ∧
  (∀ n l, Acts (fun p => .launchFastLead p n) 2
    (fun p s => (s.plane p).accepted.find? (fun x => x.id == n) = some l ∧ l.at' ≤ s.time.now + us 3)
    (fun p s => takeMons l.id (leadMons s p l) (max (l.at' - us 3) l.acceptAt) s))

/-- The rows of the sense and loop engines complete (rows of R143, R162, R166, R191, R195, R202, R205, R216). -/
def Obligations.SenseAndLoopRowsComplete : Prop :=
  (∀ x rest, Acts .sampleDeliver 5120 (fun m s => (s.mon m).ready = x :: rest ∧ x.absent = false ∧ x.counted = false)
    (fun m s =>
      let t := accumulate m x (countSample (m / 640) x (s.updMon m (fun y => { y with ready := rest })))
      let e := t.monAt m
      if e.kind = 1 then
        settleSample m x (match monCtx t m with
          | some c => loopSample (filterSpan x.filter * modTick) x c t
          | none => t)
      else if e.kind = 2 then verifySample m x t
      else t)) ∧
  Acts .refWarmupDone 8
    (fun l s => (s.sense l).refOn = true ∧ (s.sense l).refReady = false ∧ (s.sense l).refAt + ms 5 ≤ s.time.mono)
    (fun l s => raiseEvent 186 { plane := (s.linkPlane l).getD 0xFF, link := l } (s.updSense l (fun k => { k with refReady := true }))) ∧
  Acts .accBlockDone 5120 (fun c s => (s.mon c).mode = 2 ∧ (s.mon c).blockN ≤ (s.mon c).acc.count)
    (fun c s =>
      let m := s.mon c
      let t := s.updMon c (fun m => { m with block := some m.acc, blocks := (m.blocks + 1) % 65536, acc := {} })
      let t := if bit m.flags 0 then stageRec 2 c (blockRec m m.acc) t else t
      if bit m.flags 1 then raiseEvent 187 { plane := (t.monAt c).plane, link := c / 640, chan := c } t else t) ∧
  (∀ x, Acts .bankSwapAt 9216
    (fun c s => (s.ctx c).swap = some x ∧ x.2.1 ≤ s.time.now ∧ ((s.ctx c).regime = 0 ∨ (s.ctx c).waiting = true))
    (fun c s => doSwap c none s)) ∧
  (∀ u, Acts .loopPaceOverrun 9216 (fun c s => (s.ctx c).undo = some u)
    (fun c s =>
      let t := unswap c u s
      let t := t.updCtx c (fun x => { x with
        sp := u.sp, integ := u.integ, output := u.output, saturated := u.saturated, limited := u.limited
        waiting := u.waiting, eBlk := u.eBlk, eAcc := u.eAcc, missRun := sat 16 (u.missRun + 1)
        starved := u.starved, measOvr := u.measOvr, ovrAt := u.ovrAt, updates := u.updates, cap := uncapture u.cap x.cap
        outs := x.outs.filter (fun o => decide (o.2 < u.due)), undo := none })
      let t := if u.starved = true then { t with flt := { t.flt with conds := if t.flt.conds.contains (200 + c / 1152, c) = true then
        t.flt.conds else t.flt.conds ++ [(200 + c / 1152, c)] } } else t
      let t := t.updEngine (c / 36) (fun k => { k with
        missed := (k.missed + 1) % 2 ^ 32, overrun := (k.overrun + 1) % 2 ^ 32
        updates := if u.counted = true then (k.updates + 2 ^ 32 - 1) % 2 ^ 32 else k.updates })
      raiseFault (192 + c / 1152) { plane := (t.elemAt c).plane, link := c / 1152, chan := c } (starveCheck c t))) ∧
  Acts .loopSampleStarved 9216
    (fun c s => (s.ctx c).missLimit ≠ 0 ∧ (s.ctx c).missLimit ≤ (s.ctx c).missRun ∧ (s.ctx c).starved = false)
    (fun c s =>
      let t := s.updCtx c (fun x => { x with starved := true })
      let t := t.updEngine (c / 36) (fun k => { k with starved := (k.starved + 1) % 2 ^ 32 })
      raiseCond (200 + c / 1152) c { plane := (t.elemAt c).plane, link := c / 1152, chan := c } t) ∧
  (∀ a b t rest, Acts .injectionStart 9216 (fun c s => (s.ctx c).genNext = (a, b, t) :: rest ∧ t ≤ s.time.now)
    (fun c s =>
      let run := (s.ctx c).cap.running
      let seed := 1 + s.draw.1 % (2 ^ (prbsTaps a.poly).1 - 1)
      let u := s.draw.2.updCtx c (fun x => { x with
        genNext := rest, gen := { c0 := a, c1 := b, seed := seed, on := true }
        cap := if run then endCapture true x.cap else x.cap })
      if run then captureEnded c u else u)) ∧
  Acts .captureDone 9216
    (fun c s =>
      let x := s.ctx c
      let per := filterPeriod (((ctxMon s c).map (fun m => (s.mon m).filter)).getD 1)
      x.cap.running = true ∧ x.cap.n + x.cap.missed ≠ 0 ∧ inWindow (us (s.plane (s.elemAt c).plane).tickUs) x (x.cap.tEnd + per) = false)
    (fun c s => captureEnded c (s.updCtx c (fun x => { x with cap := endCapture false x.cap })))

/-! ### Rows of facets, chains and the scheduler (chapters 6 and 7) -/

/-- The rows of launches complete (rows of R235, R239, R241, R242, R252, R253). -/
def Obligations.LaunchRowsComplete : Prop :=
  (∀ b t n hit v, Acts .facetBuildDone 2
    (fun p s => (s.plane p).builds = b :: t ∧ lookup p b.perm true (s.updPlane p (fun q => { q with builds := t })) = .ok (n, hit, v))
    (fun p _ => pipeAccept p n hit b.at' b.pipe v)) ∧
  (∀ l t, Acts (fun p => .launchTime p l.id) 2
    (fun p s => (s.plane p).accepted = l :: t ∧ l.at' ≤ s.time.now ∧ ∀ k ∈ s.linksOf p, frozen s (k * 1152) = false)
    (fun p s => beginLaunch p l s)) ∧
  (∀ l t, Acts (fun p => .launchTime p l.id) 2
    (fun p s => (s.plane p).accepted = l :: t ∧ l.at' ≤ s.time.now ∧ l.void = false ∧ ∃ k ∈ s.linksOf p, frozen s (k * 1152) = true)
    (fun p s => raiseFault (222 + p) { plane := p, value := l.id } (s.updPlane p (fun q => { q with
      accepted := q.accepted.map (fun a => if a.id = l.id then { a with void := true } else a) })))) ∧
  (∀ l c cell, Acts (fun p => .settleTimeout p cell) 2
    (fun p s => (s.plane p).cur = some l ∧ tfind l.cells cell = some c ∧ c.lit = true ∧ c.settled = none ∧ c.timedOut = false ∧
      l.at' + us (s.plane p).cfg.settleUs ≤ s.time.now)
    (fun p s => cellTimeout p cell s)) ∧
  (∀ l c i, Acts (fun p => .verifyTimeout p i) 2
    (fun p s => (s.plane p).cur = some l ∧ tfind l.checks i = some c ∧ c.verified = false ∧ c.suspect = false ∧
      l.at' + us (s.plane p).cfg.verifyUs ≤ s.time.now)
    (fun p s => launchCheck p (suspectCircuit p i c.out s))) ∧
  (∀ t n settled nx f, Acts .learnRead 2
    (fun p s => (s.plane p).showing = some (t, n, settled) ∧ (s.plane p).accepted.head? = some nx ∧ (s.plane p).force = some f ∧
      nx.at' ≤ s.time.now + us 3 ∧ (s.plane p).cfg.lambda ≠ 0 ∧ slotValid s p n = true ∧ (s.slot p n).learnOff = false)
    (fun p s =>
      let cells := (litCells (s.ports p) f).filter (mayFold s p t settled)
      s.updPlane p (fun q => { q with
        learn := cells.filterMap (fun i => (s.armCh p i false).map (fun a => (a, (s.ctx a).integ, (s.ctx a).regime == 3)))
        learnOut := readOuts q
        learnSlot := n, showing := none }))) ∧
  Acts .learnFoldWrite 2
    (fun p s => ((s.plane p).learn ≠ [] ∨ (s.plane p).learnOut ≠ []) ∧ slotValid s p (s.plane p).learnSlot = true)
    (fun p s =>
      let q := s.plane p
      let r := q.learn.foldl (fun t x => foldCell s p x t) ((s.slot p q.learnSlot).facet.entries, false)
      let t := q.learnOut.foldl (fun t x => foldOut s p x t) r.1
      let u := s.updSlot p q.learnSlot (fun x => { x with facet := { x.facet with entries := t }, folds := (x.folds + 1) % 2 ^ 32 })
      let u := planeCount p 5 (u.updPlane p (fun q => { q with learn := [], learnOut := [] }))
      if r.2 then raiseFault (226 + p) { plane := p, value := q.learnSlot } u else u)

/-- The rows of chains and of the slot pipeline complete (rows of R266, R275, R276, R278, R279, R284, R287, R289, R291, R292, R297, R333).
-/
def Obligations.ChainAndSchedulerRowsComplete : Prop :=
  (∀ r p, Acts .chainStepStage 32
    (fun d s => localOf s d = some p ∧ (s.chainPlane d).run = some r ∧ stageDue s r ((s.chainPlane d).pend.map (·.start)) = true)
    (fun d s => stageStep d p r (s.updChainPlane d (fun c => { c with run := some (nextStepOf s r) })))) ∧
  (∀ q, Acts .chainStartTime 32 (fun d s => (s.chainPlane d).pend = some q ∧ q.start ≤ s.time.now)
    (fun d s => enterRegime d (if (chainOf s q.chain).fill then 4 else 2) (s.updChainPlane d (fun c => { c with
      run := some (match c.run with | some r => heldStop r q | none => q), pend := none })))) ∧
  (∀ r b, Acts .chainStopBoundary 32
    (fun d s => (s.chainPlane d).run = some r ∧ r.stopAt = some b ∧ b ≤ s.time.now ∧ dregimeAt s d = none)
    (fun d s => takeRegime d (if (chainOf s r.chain).endIdle then 0 else 1) (s.updChainPlane d (fun c => { c with run := none })))) ∧
  (∀ r, Acts .chainEnd 32
    (fun d s => (s.chainPlane d).run = some r ∧ r.chain < 256 ∧ (chainOf s r.chain).rep ≠ 0 ∧
      ((s.chainPlane d).pend = none ∨ ∃ q, (s.chainPlane d).pend = some q ∧
        r.start + (chainOf s r.chain).rep * ns (chainPeriod s r.chain) < q.start) ∧
      r.start + (chainOf s r.chain).rep * ns (chainPeriod s r.chain) ≤ s.time.now)
    (fun d s =>
      let g := if (chainOf s r.chain).endIdle = true then 0 else 1
      let t := s.updChainPlane d (fun c => { c with run := none })
      takeRegime d g (raiseEvent (299 + d % 2) { plane := d % 2 } (if (localOf t d).isNone = true then orderRegime d g 0 none t else t)))) ∧
  (∀ r, Acts .schedRegimeAt 32 (fun d s => dregimeAt s d = some r ∧ r.at' ≤ s.time.now)
    (fun d s => takeRegime d r.regime (setDregimeAt d none s))) ∧
  (∀ slot cut margin iter b, Runs .gridChangeAt (fun s => s.sched.gridAt = some (slot, cut, margin, iter, b) ∧ b ≤ s.time.now)
    (updSched (fun c => { c with
      slotNs := slot, cutoffNs := cut, marginNs := margin, iter := iter, epoch := b, gridAt := none, lastCut := 0, samNext := 0 }))) ∧
  Runs .slotCutoff
    (fun s => schedules s = true ∧ s.sched.epoch ≤ s.time.now ∧ s.sched.lastCut ≤ slotNow s ∧
      slotStart s (slotNow s) + ns s.sched.cutoffNs ≤ s.time.now)
    (fun s => beginMatch (slotNow s) (overrunMatch s)) ∧
  (∀ q, Runs .matchingComplete (fun s => s.sched.matching = some q)
    (fun s =>
      let took := (s.time.mono - s.sched.matchAt) / 65536
      let t := updSched (fun c => { c with
        demand := tmap {} (writeContext (servedOf s q) s.sched.requested q.slot) c.demand
        matching := none, requested := [], pipes := c.pipes ++ [q]
        counters := tset 0 (tinc c.counters 0) 5 (max (tget 0 c.counters 5) (sat 16 took)) }) s
      betweenMatchings (each q.planes t (sendRecord q)))) ∧
  (∀ slot q, Runs (.grantMarginExpiry slot)
    (fun s => pipeOf s slot = some q ∧ q.sent = false ∧ q.at' ≤ s.time.now + ns s.sched.marginNs) (sendGrants slot)) ∧
  (∀ slot q x, Acts (fun d => .pipeLateDeadline d slot) 32
    (fun d s => localOf s d = none ∧ pipeOf s slot = some q ∧ q.planes.find? (fun x => x.dplane == d) = some x ∧ x.status = 0 ∧
      q.at' + answerTime s d ≤ s.time.now + us 3)
    (fun d s => raiseFault (256 + d) { plane := d } (schedCount 3 1 (addBack d x (updPipePlane slot d (fun y => { y with status := 2 }) s))))) ∧
  (∀ slot q, Runs (.grantSlotEnd slot) (fun s => pipeOf s slot = some q ∧ q.at' + ns q.slotNs ≤ s.time.now) (grantSlotEnd slot)) ∧
  Runs .samplerPass (fun s => s.sched.samInterval ≠ 0 ∧ s.sched.samNext ≤ slotNow s ∧ s.sched.samBusy ≤ s.time.mono)
    (fun s =>
      let u := updSched (fun c => { c with
        samNext := c.samNext + c.samInterval * ((slotNow s - c.samNext) / c.samInterval + 1) }) s
      let l := sampled u
      let t := updSched (fun c => { c with
        samBusy := s.time.mono + us (ceilDiv l.length 64), samPasses := (c.samPasses + 1) % 2 ^ 32 }) u
      each l t (fun i u => stageRec 6 (u.demand i).age (le 8 (slotNow s) ++ le 4 i ++ le 4 0 ++ le 8 (u.demand i).depth) u)) ∧
  Runs .samplerPass (fun s => s.sched.samInterval ≠ 0 ∧ s.sched.samNext ≤ slotNow s ∧ s.time.mono < s.sched.samBusy)
    (fun s => raiseEvent 302 {} (updSched (fun c => { c with
      samSkipped := (c.samSkipped + 1) % 2 ^ 32
      samNext := c.samNext + c.samInterval * ((slotNow s - c.samNext) / c.samInterval + 1) }) s))

/-! ### Rows of endpoints and of network time (chapters 8 and 9) -/

/-- The rows of the endpoint protocol complete (rows of R316, R323, R324, R326, R335). -/
def Obligations.EndpointRowsComplete : Prop :=
  (∀ f, Acts (fun l => .helloReceive l f) 8 (fun _ s => schedules s = true ∧ s.sched.matching = none) (fun l s => epTake l f s)) ∧
  (∀ f, Acts (fun l => .demandReceive l f) 8 (fun _ s => schedules s = true ∧ s.sched.matching = none) (fun l s => epTake l f s)) ∧
  (∀ f a p, Acts (fun l => .demandReceive l f) 8
    (fun l s => schedules s = true ∧ s.sched.matching.isSome = true ∧ epParse s l f = some (a, p) ∧ epBad s p = false ∧ fld p 1 1 ≠ 1)
    (fun _ s => { s with eps := { s.eps with held := s.eps.held ++ [.msg a p s.time.mono] } })) ∧
  (∀ d, Acts (fun l => .arpRequestReceive l d) 8
    (fun _ s =>
      let o := payOfs d
      etype d = 0x0806 ∧ fldBe d o 2 = 1 ∧ fldBe d (o + 2) 2 = 0x0800 ∧ fldBe d (o + 4) 2 = 0x0604 ∧ fldBe d (o + 6) 2 = 1 ∧
        fldBe d (o + 24) 4 = s.eps.cfg.ipv4 ∧ schedules s = true)
    (fun l s => inject 14 s.relay.epClass [l]
      (l2 (fldBe d (payOfs d + 8) 6) s.relay.mac (if tagged d then some (fldBe d 14 2) else none) 0x0806
        (be 2 1 ++ be 2 0x0800 ++ be 2 0x0604 ++ be 2 2 ++ be 6 s.relay.mac ++ be 4 s.eps.cfg.ipv4 ++ slice d (payOfs d + 8) 10)) false s)) ∧
  Acts .endpointLiveTimeout 512
    (fun e s => s.sched.matching = none ∧ (s.ep e).st ≠ 0 ∧ (s.ep e).heardAt + us (s.ep e).liveUs ≤ s.time.mono)
    (fun e s => leaveEp e none s) ∧
  Acts .endpointLiveTimeout 512
    (fun e s => s.sched.matching.isSome = true ∧ (s.ep e).st ≠ 0 ∧ (s.ep e).heardAt + us (s.ep e).liveUs ≤ s.time.mono)
    (fun e s => { s with eps := { s.eps with held := s.eps.held ++ [.lost e s.time.mono] } }) ∧
  Runs .announceTimer (fun s => s.eps.announceAt + us s.eps.cfg.announceUs ≤ s.time.mono)
    (fun s => { announce s with eps := { (announce s).eps with announceAt := s.time.mono } })

/-- The rows of network time complete (rows of R350, R352, R354, R357, R358, R360, R362, R363, R366 to R368, R439). -/
def Obligations.TimeRowsComplete : Prop :=
  (∀ f rx o, Acts (fun l => .ptpMessageReceive l f rx) 8
    (fun l s => ptpOfs f = some o ∧ s.time.source = 1 ∧ s.time.ptp.on = true ∧ s.time.ptp.port = l / 2) (fun _ s => ptpTake f o rx s)) ∧
  Runs (.ptpIntervalTimer 0)
    (fun s => s.time.source = 1 ∧ s.time.ptp.on = true ∧ s.time.ptp.portState = 6 ∧ ptpDue s 0 s.time.ptp.logSync = true)
    (fun s =>
      let q := ptpSeq 0 s
      ptpSend true false (ptpMsg s 0 0x0200 q.1 0 s.time.ptp.logSync (List.replicate 10 0)) q.2) ∧
  Runs .slewDone (fun s => s.time.slew.natAbs ≤ (slewTick s.time).natAbs) (updTime (fun t => { t with slew := 0 })) ∧
  Runs .timeSourceLoss (fun s => s.time.st = 2 ∧ sourceSilent s = true) (fun s => ptpTimeout (holdover s)) ∧
  (∀ b t d, Runs .timeStepApply (fun s => s.time.step = some (b, some t, d) ∧ b ≤ s.time.now) (stepBy ((t : Int) - b))) ∧
  (∀ b d, Runs .timeStepApply (fun s => s.time.step = some (b, none, d) ∧ b ≤ s.time.now)
    (stepBy d)) ∧
  Runs .realignDone (fun s => s.time.st = 4 ∧ s.time.phase = 0) (updTime (fun t => { t with st := if t.source = 0 then 0 else 1 })) ∧
  Runs .claspTimeSend (fun s => s.dom.timeAt ≤ s.time.mono)
    (fun s => each [false, true] (updDom (fun d => { d with timeAt := s.time.mono + us 8 }) s) (fun w u =>
      let c := u.clasp w
      if c.up = false then u
      else (u.emit (.ctrl w (ctrlUnit 1 (timeBody u c)))).updClasp w (fun c => { c with
        seq := (c.seq + 1) % 65536, txPrev := u.time.now
        sent := (tput c.sent c.seq u.time.now).filter (fun e => decide ((c.seq + 65536 - e.1) % 65536 < 16)) }))) ∧
  (∀ w unit b rx, Runs (.claspTimeReceive w unit rx) (fun _ => ctrlBody 1 unit = some b) (timeTake w b rx)) ∧
  Runs .claspTimeSilence (fun s => s.sys.role = 2 ∧ s.time.source = 3 ∧ s.time.heard + us 100 ≤ s.time.mono)
    (fun s => managerLost (raiseCond 324 0 {} (if s.time.st = 1 ∨ s.time.st = 2 then holdover s else s))) ∧
  Acts .tcMatchTimeout 4 (fun _ _ => True)
    (fun p s =>
      let l := tget [] s.time.tc p
      let t := each (l.filter (fun m => decide (m.at' + oneSecond ≤ s.time.mono))) s (fun _ s => tcLost s)
      { t with time := { t.time with tc := tset [] t.time.tc p (l.filter (fun m => !decide (m.at' + oneSecond ≤ t.time.mono))) } }) ∧
  (∀ f, Runs (.tcHoldTimeout f) (fun _ => True)
    (fun s =>
      let due := fun (h : TcHold) => h.frame == f && decide (h.at' + ms 1 ≤ s.time.mono)
      let t := each (s.time.tcHold.filter due) s (fun _ s => tcLost s)
      { t with time := { t.time with tcHold := t.time.tcHold.filter (fun h => !due h) } })) ∧
  Acts .toutEdge 4 (fun _ _ => True)
    (fun p s => updTime (fun t => { t with tout := tset {} t.tout p (toutEdge t.now (tget {} t.tout p)) }) s) ∧
  (∀ t, Acts (fun i => .tcapEdge i false t) 2
    (fun i s =>
      let x := tget {} s.time.tcap i
      (x.edge = 1 ∨ x.edge = 3) ∧ (∀ l, x.last = some l → l + ns 80 ≤ t) ∧ x.queue.length < 16)
    (fun i s =>
      let x := tget {} s.time.tcap i
      updTime (fun k => { k with tcap := tset {} k.tcap i { x with
        queue := x.queue ++ [{ time := t, fall := false, stepped := x.stepped, lost := x.lost }]
        lost := false, stepped := false, last := some t } }) s))

/-! ### Rows of the relay and of the host's frame queues (chapter 10) -/

/-- The rows that take a frame through the relay complete (rows of R382, R388, R392, R395, R398, R413, R489). -/
def Obligations.RelayFrameRowsComplete : Prop :=
  (∀ head rx b k s t, k < 8 → s.sys.porst = false → linkUp s k = true → receiving s k 0 = none → etype head ≠ 0x8808 →
    (classify s k head).2.1 ≠ [] →
    allocBuf 0 (k / 2) (classify s k head).2.1.length (if (classify s k head).2.2 = true then relayCount k 12 1 s else s) = (some b, t) →
    exec (.frameHeadArrive k head rx) s = .next
      (let c := classify s k head
       let u := if c.2.2 = true then relayCount k 12 1 s else s
       flow (pushFrame { ing := k, cls := c.1, dests := c.2.1, data := head, bufs := [b], rx := rx
                         mc := toGroup u head && c.2.1 == (tableDests u k head).1
                         cut := (fdbOf u head).kind == 1 && (match c.2.1 with | [d] => cutOk u k d | _ => false) } 1 t))) ∧
  (∀ unit rx k s, k = 8 ∨ k = 10 → s.sys.porst = false → linkUp s k = true → cellOk unit = true → bit (fld unit 1 1) 3 = true →
    bit (fld unit 1 1) 6 = false → receiving s k (cellClass unit) = none →
    exec (.frameHeadArrive k unit rx) s = .next (headTake k (cellClass unit) (unitBody unit) rx s)) ∧
  (∀ head rx k s, k < 8 → s.sys.porst = false → linkUp s k = true → receiving s k 0 = none → etype head = 0x8808 →
    fldBe head 14 2 = 1 → exec (.frameHeadArrive k head rx) s = .next (relayCount k 7 1 s)) ∧
  (∀ head rx k s, k < 12 → k ≠ 9 → k ≠ 11 → s.sys.porst = false → exec (.frameHeadArrive k head rx) s = .next (headArrive k head rx s)) ∧
  (∀ frame f l k s t, k < 8 → s.sys.porst = false → linkUp s k = true →
    receiving (relayCount k 2 1 (relayCount k 0 (frame.length + 4) s)) k 0 = some f → f.dests ≠ [] → 60 ≤ frame.length → frame.length ≤ 9212 →
    allocBufs 0 (k / 2) f.dests.length (ceilDiv (frame.length + 4) 256 - 1) (relayCount k 2 1 (relayCount k 0 (frame.length + 4) s)) = (some l, t) →
    exec (.frameReceiveEnd k [frame] (fcsOf frame)) s = .next
      (let u := updFrame f.id (fun x => { x with
         data := frame, len := some (frame.length + 4), bufs := x.bufs ++ l
         cells := x.dests.foldl (fun (c : Tab Nat) d => tset 0 c d (tget 0 c d + (ceilDiv (frame.length + 4) 64 - 1))) x.cells }) t
       each f.dests (flow (match frameOf u f.id with
         | some x => mirror false k (mirrorEgress x) x.rx x u
         | none => u)) (arriveInside f.id))) ∧
  (∀ frame fcs f k s, k < 8 → s.sys.porst = false → linkUp s k = true → 60 ≤ frame.length → frame.length ≤ 9212 →
    fcs ≠ fcsOf frame → fcs ≠ fcsOf frame ^^^ 0xFFFFFFFF →
    receiving (relayCount k 4 1 (relayCount k 2 1 (relayCount k 0 (frame.length + 4) s))) k 0 = some f →
    exec (.frameReceiveEnd k [frame] fcs) s = .next
      (badFrame f frame (frame.length + 4) (relayCount k 4 1 (relayCount k 2 1 (relayCount k 0 (frame.length + 4) s))))) ∧
  (∀ cells fcs k s, k = 8 ∨ k = 10 → s.sys.porst = false → linkUp s k = true →
    exec (.frameReceiveEnd k cells fcs) s = .next (match frameOfCells cells with
      | some (false, d) => frameEnd k (cellsClass cells) (d.take (d.length - 4)) (unle (d.drop (d.length - 4))) s
      | some (true, _) => s
      | none => cellsAborted k cells s)) ∧
  (∀ frame fcs k s, k < 12 → k ≠ 9 → k ≠ 11 → s.sys.porst = false →
    exec (.frameReceiveEnd k frame fcs) s = .next (receiveEnd k frame fcs s)) ∧
  Runs .crossbarCellTime (fun _ => True)
    (fun s =>
      let s := retryWaiting s
      let m := xIter s false (xIter s false (xIter s true { optr := s.relay.optr, iptr := s.relay.iptr }))
      each m.pairs { s with relay := { s.relay with optr := m.optr, iptr := m.iptr } } moveCell) ∧
  (∀ f k s t, k < 12 → k ≠ 9 → k ≠ 11 → s.sys.porst = false → linkUp s k = true → (s.rlink k).tx = none →
    t = each (List.range 8) (shapeLink k (newSlopes k s)) (fun c s => countHeld k c (tidyHead k c (s.relay.frames.length + 1) s)) →
    ((List.range 8).reverse.find? (eligible t k)).bind (headOf t k) = some f →
    exec (.egressFrameStart k) s = .next
      (let u := updFrame f.id (fun x => { x with cut := x.len.isNone }) t
       let u := if k < 8 then u else setCredit (k == 10) f.cls (creditOf u (k == 10) f.cls - claspNeed f) u
       let u := u.updRlink k (fun l => { l with tx := some (f.id, u.time.now) })
       if f.len.isNone = true then relayCount k 10 1 u else mirror true k (mirrorLink k) u.time.now { f with cut := false } u)) ∧
  (∀ k s, k < 12 → k ≠ 9 → k ≠ 11 → s.sys.porst = false → linkUp s k = false →
    exec (.egressFrameStart k) s = .next
      (each (s.relay.frames.filter (fun f => f.dests.contains k)) s (fun f s => relayCount k 15 1 (served f.id k s)))) ∧
  (∀ id t f n k s, k < 12 → k ≠ 9 → k ≠ 11 → s.sys.porst = false → (s.rlink k).tx = some (id, t) → frameOf s id = some f → f.len = some n →
    (cellsLeft f k = 0 ∨ f.bad = true) →
    exec (.egressFrameDone k) s = .next
      (let p := tcLeave k t f s
       let u := relayCount k 3 1 (relayCount k 1 n (leaveFrame k p.1 f p.2))
       let u := if f.bad = true then relayCount k 11 1 u else u
       let u := if f.cut = true then mirror true k (mirrorLink k) t f u else u
       let u := if f.cut = true ∧ 8 ≤ k then setCredit (k == 10) f.cls (creditOf u (k == 10) f.cls + 36 - claspNeed f) u else u
       let u := served id k (newSlopes k ((spendShaper k f.cls n (shapeLink k u)).updRlink k (fun l => { l with tx := none })))
       stackSent k t f (if k < 8 then pfcRefresh k u else u))) ∧
  (∀ pool addr src dst b s, s.sys.porst = false → pool < 2 → src < poolReqs pool → dst < poolReqs pool → addr % bufBytes pool = 0 →
    addr < poolSize pool * bufBytes pool → tfind (s.pool pool).bufs (addr / bufBytes pool) = some b → b.owner = src →
    exec (.bufferTransfer pool addr src dst) s = .next
      (let p := s.pool pool
       let x := poolReq p pool src
       let q := setReq pool src { x with u := x.u - 1 } p
       let y := poolReq q pool dst
       let q := setReq pool dst { y with u := y.u + 1 } q
       flow (s.updPool pool (fun _ => { q with bufs := tput q.bufs (addr / bufBytes pool) { b with owner := dst } })))) ∧
  (∀ desc data, Runs (.hostTxFrame desc data)
    (fun s => s.hi.txEn = true ∧ s.hi.busMaster = true ∧ s.hi.txHead ≠ s.hi.txTail ∧
      ((slice data 0 (fld desc 8 2)).length < 60 ∨ 9212 < (slice data 0 (fld desc 8 2)).length))
    (fun s => txDone (relayCount 18 6 1 s))) ∧
  (∀ desc data l t, Runs (.hostTxFrame desc data)
    (fun s =>
      let d := slice data 0 (fld desc 8 2)
      s.hi.txEn = true ∧ s.hi.busMaster = true ∧ s.hi.txHead ≠ s.hi.txTail ∧ 60 ≤ d.length ∧ d.length ≤ 9212 ∧
        hostRefused s desc d = [] ∧ (hostDests s desc d).1 ≠ [] ∧ (hostDests s desc d).2 = false ∧
        allocBufs 0 9 (hostDests s desc d).1.length (ceilDiv (d.length + 4) 256) s = (some l, t))
    (fun s =>
      let d := slice data 0 (fld desc 8 2)
      let f : RFrame := { ing := 18, cls := fld desc 10 1 % 8, dests := (hostDests s desc d).1, data := d, len := some (d.length + 4)
                          mc := !bit (fld desc 11 1) 7 && toGroup s d, bufs := l, rx := s.time.now, stack := s.time.source == 2 && ptpEvent d }
      txDone (flow (mirror false 18 (mirrorEgress f) s.time.now f
        (pushFrame f (ceilDiv (d.length + 4) 64) (relayCount 18 2 1 (relayCount 18 0 (d.length + 4) t))))))) ∧
  (∀ desc f, Runs (.hostRxDeliver desc)
    (fun s => s.hi.rxEn = true ∧ s.hi.busMaster = true ∧ s.hi.rxHead ≠ s.hi.rxTail ∧ hostFrame s = some f)
    (fun s =>
      let ev := decide (f.ing < 8) && ptpEvent f.data
      let t := dmaWrite (fld desc 0 8) f.data s
      let t := dmaWrite (t.hi.rxBase + 32 * t.hi.rxHead + 8)
        (le 2 f.data.length ++ le 1 f.cls ++ le 1 (mirrorLink f.ing) ++ le 2 (1 + 2 * b1 ev) ++ le 2 0
          ++ (if ev = true then timeLe f.rx else le 12 0) ++ le 4 0) t
      let t := { t with hi := { t.hi with rxHead := (t.hi.rxHead + 1) % max 1 t.hi.rxSize } }
      let t := mirror true 18 (mirrorLink 18) t.time.now f t
      sendVector 16 (served f.id 18 (relayCount 18 3 1 (relayCount 18 1 f.length t)))))

/-- The rows of the relay's flow control, links, gates and fences complete (rows of R390, R400, R402 to R404, R421). -/
def Obligations.RelayLinkRowsComplete : Prop :=
  (∀ classes quanta, Acts (fun l => .pfcReceive l classes quanta) 8 (fun l s => linkUp s l = true)
    (fun l s => (relayCount l 8 1 s).updRlink l (fun k => (List.range 8).foldl (fun k c =>
      if !(bit classes c && bit k.pfc c) then k
      else if quanta.getD c 0 = 0 then { k with paused := k.paused &&& (255 - 2 ^ c), pauseTo := tdel k.pauseTo c }
      else { k with paused := k.paused ||| 2 ^ c
                    pauseTo := tput k.pauseTo c (s.time.mono + quanta.getD c 0 % 65536 * quantum s l) }) k))) ∧
  (∀ c t, c < 8 → Acts (fun l => .pauseExpiry l c) 8 (fun l s => tfind (s.rlink l).pauseTo c = some t ∧ t ≤ s.time.mono)
    (fun l s => s.updRlink l (fun k => { k with paused := k.paused &&& (255 - 2 ^ c), pauseTo := tdel k.pauseTo c }))) ∧
  (∀ due, due ≠ [] → Acts .pfcRefresh 8 (fun l s => (s.rlink l).up = true ∧ (s.rlink l).tx = none ∧
      due = (List.range 8).filter (fun c => bit (s.rlink l).xoff c &&
        decide (tget 0 (s.rlink l).xoffAt c + 0x7FFF * quantum s l ≤ s.time.mono)))
    (fun l s => (relayCount l 9 1 (s.emit (.pfc l (due.foldl (fun a c => a + 2 ^ c) 0) true))).updRlink l
      (fun k => { k with xoffAt := due.foldl (fun t c => tset 0 t c s.time.mono) k.xoffAt }))) ∧
  Acts .ethLinkDown 8 (fun l s => (s.rlink l).up = true) (fun l s => raiseCond (331 + l) 0 {} (relayLinkDown l s)) ∧
  Acts .ethLinkUp 8
    (fun l s => (s.rlink l).up = false ∧ (portLinks s (l / 2)).contains l = true ∧ (ethLanes s l).any (fun n => (s.lane n).test) = false)
    (fun l s => raiseEvent (365 + l) {} (flow (endCond (331 + l) 0
      (s.updRlink l (fun k => { k with up := true, creditAt := s.time.mono }))))) ∧
  Acts .gateEntryBoundary 8 (fun _ _ => True) (fun l s => s.updRlink l (fun k => { k with gate := gateMask k s.time.now })) ∧
  (∀ g, Acts .gateListTakeEffect 8 (fun l s => (s.rlink l).gatesAt = some g ∧ g.at' ≤ s.time.now)
    (fun l s => s.updRlink l (fun k =>
      let k := { k with gates := g, gatesAt := none }
      { k with gate := gateMask k s.time.now }))) ∧
  Runs .fenceComplete (fun _ => True) (fun s => endFences (fun e => earlier s e.ver == 0) (fun e => answerOk 0x0D07 e.req {}) s) ∧
  Runs .fenceTimeout (fun _ => True)
    (fun s => endFences (fun e => decide (e.due ≤ s.time.mono)) (fun e u => if earlier u e.ver = 0 then answerOk 0x0D07 e.req {} u
      else answer 0x0D07 e.req 1 0 0 { pay := le 4 (earlier u e.ver) } u) s)

/-! ### Rows of the domain (chapter 11) -/

/-- The rows of the clasp ports and of discovery complete (rows of R405, R432, R433, R435, R442, R449, R455, R456). -/
def Obligations.ClaspRowsComplete : Prop :=
  (∀ w, Runs (.claspLinkUp w true) (fun s => ringed s = true ∧ (s.clasp w).up = false)
    (fun s => raiseCond (407 + b1 w) 0 {} (s.updClasp w (fun c => { c with up := false, miswired := true })))) ∧
  (∀ w, Runs (.claspLinkUp w false)
    (fun s => ringed s = true ∧ (s.clasp w).up = false ∧ (s.lane (48 + 2 * b1 w)).test = false ∧ (s.lane (49 + 2 * b1 w)).test = false)
    (claspLinkUp w false)) ∧
  (∀ w, Runs (.claspLinkDown w) (fun s => (s.clasp w).up = true) (claspLinkDown w)) ∧
  (∀ w unit b, Runs (.claspCreditReceive w unit) (fun s => (s.clasp w).up = true ∧ ctrlBody 4 unit = some b)
    (fun s => each (List.range 8) s (fun c s => setCredit w c (creditOf s w c + fld b (2 * c) 2) s))) ∧
  (∀ w unit, Runs (.claspCreditReceive w unit) (fun _ => ctrlBody 4 unit = none) (fun s => s)) ∧
  Runs .heartbeatSend (fun s => ringed s = true ∧ s.dom.hbAt + us 10 ≤ s.time.mono)
    (fun s => claspSend 0x03 0xFF (heartbeatBody s) (updDom (fun d => { d with hbAt := s.time.mono }) s)) ∧
  Acts .workerSilence 16
    (fun n s => s.sys.role = 1 ∧ n ≠ 0 ∧ (s.member n).admitted = true ∧ (s.member n).heard + us 100 ≤ s.time.mono)
    (fun n s => dropDplane (2 * n + 1) (dropDplane (2 * n)
      (raiseCond (388 + n) n { device := n } (s.updMember n (fun m => { m with admitted := false, reachable := false }))))) ∧
  Runs .managerSilence (fun s => s.dom.mgrHeard + us s.dom.silenceUs ≤ s.time.mono) managerLost ∧
  (∀ t c, Runs .holdoverEnd (fun s => s.dom.holdover = some (t, c) ∧ t ≤ s.time.mono)
    (fun s =>
      let u := updDom (fun d => { d with holdover := none }) s
      each (u.planeIds.filter (fun p => scheduling (u.plane p).regime)) u (fun p s => raiseCond (387 + p) 0 { plane := p } s))) ∧
  Runs .discoveryComplete (fun s => s.sys.role = 1 ∧ s.dom.disc = true ∧ (s.dom.closed = true ∨ s.dom.discAt + ms 1 ≤ s.time.mono))
    discoveryComplete ∧
  (∀ u dst seq, Runs (.claspResendTimeout dst seq)
    (fun s => s.dom.unacked.find? (fun u => u.msg.dst == dst && u.msg.seq == seq) = some u ∧ u.at' + us 20 ≤ s.time.mono ∧
      forlorn s u = false)
    (fun s =>
      let w := if (s.clasp (!u.west)).up then !u.west else u.west
      let ways := if dst = 0xFF ∧ u.msg.code ≠ 0x10 then [false, true] else [w]
      let t := setUnacked dst seq (fun x => { x with msg := { x.msg with resent := true }, west := w, at' := s.time.mono }) s
      each (ways.filter (fun w => (t.clasp w).up)) t (fun w t => claspCount w 1 (claspOut w (again w u.msg) t)))) ∧
  (∀ w unit b o i, Runs (.claspDarkReceive w unit false) (fun s => ctrlBody 2 unit = some b ∧ fld b 0 1 = o ∧ fld b 2 2 = i ∧
      (s.clasp w).up = true ∧ o ≠ s.dom.number ∧ darkKnown s o i = false)
    (fun s =>
      let t := darkOut o i (!w) (updDom (fun d => { d with darkMem := d.darkMem ++ [(o, i, s.time.mono)] }) s)
      if t.dom.accept then occurrence { rem := true, prop := false } 410 { device := o } (claspCount w 4 t) else t)) ∧
  (∀ o i, Runs (.darkMemoryExpiry o i) (fun _ => True)
    (fun s => updDom (fun d => { d with
      darkMem := d.darkMem.filter (fun x => !(x.1 == o && x.2.1 == i && decide (x.2.2 + ms 1 ≤ s.time.mono))) }) s))

/-- The rows that receive domain messages complete (rows of R291, R435, R441 to R443, R445, R447, R448, R450, R452). -/
def Obligations.DomainMessageRowsComplete : Prop :=
  Arrives .heartbeatReceive 0x03 heartbeatTake ∧
  Arrives .numberReceive 0x11 (fun _ => numberTake) ∧
  Arrives .claspAckReceive 0x12 (fun _ => ackTake) ∧
  Arrives .facetRecReceive 0x20 (fun _ => facetRec) ∧
  Arrives .facetAckReceive 0x21 (fun _ => facetAck) ∧
  Arrives .noticeReceive 0x22 (fun _ => noticeTake) ∧
  Arrives .schedCmdReceive 0x23 (fun _ => schedTake) ∧
  Arrives .snapReceive 0x30 (fun _ => snapTake) ∧
  Arrives .eventMsgReceive 0x31 (fun _ => eventTake) ∧
  Arrives .tunnelReqReceive 0x40 (fun _ => tunnelReqTake) ∧
  Arrives .tunnelRspReceive 0x41 (fun _ => tunnelRspTake) ∧
  (∀ w cells d m, Runs (.discoverReceive w cells)
    (fun s => linkUp s (claspKey w) = true ∧ frameOfCells cells = some (true, d) ∧ msgOf d = some m ∧ m.code = 0x10 ∧ m.dst = 0xFF ∧
      (s.sys.role = 1 → (discEntries m.body).head?.map (·.1) ≠ some Config.identity))
    (fun s =>
      let t := relayCount (claspKey w) 2 1 (relayCount (claspKey w) 0 d.length s)
      actOn w m (discoverOn w m) (oweCredits w (cellsClass cells) (ceilDiv (16 + m.body.length) 256) t))) ∧
  (∀ tag t, Runs (.tunnelTimeout tag)
    (fun s => s.dom.tunnels.find? (fun t => t.tag == tag && decide (t.due ≤ s.time.mono)) = some t ∧ t.own = false)
    (fun s => refuseReq t.req.resv { t.req with resv := 0 } (unreachableT t.dev)
      (claspCount (wayTo s t.dev) 5 (updDom (fun d => { d with tunnels := d.tunnels.filter (fun x => x.tag != tag) }) s))))

/-! ### Rows of faults, calibration, test, loupe and snapshots (chapters 12 to 14) -/

/-- The rows of faults and of calibration complete (rows of R477, R486, R512, R519, R520, R525, R548, R550, R562). -/
def Obligations.FaultAndCalibrationRowsComplete : Prop :=
  (∀ dma dmaIn m rest, Runs (.commandStart dma dmaIn) (fun s => s.hi.queue = m :: rest ∧ s.sched.loading = [])
    (fun s => runOp (reqOf m (getBytes (s.mbox m).req 0 4096) dma dmaIn).1 (reqOf m (getBytes (s.mbox m).req 0 4096) dma dmaIn).2
      { s with hi := { s.hi with queue := rest } })) ∧
  Runs .faultFirmwareReaction (fun _ => True) runTasks ∧
  Runs .fwWdogExpiry (fun s => s.sec.running = true ∧ s.flt.fwWdogLast + ms s.flt.fwWdogMs ≤ s.time.mono)
    (fun s => if s.sys.shutdown then raiseFault 2 {} s else warmReset (raiseFault 2 {} s)) ∧
  (∀ t, Runs .hostWdogExpiry (fun s => s.em.wdogAt = some t ∧ t ≤ s.time.mono)
    (fun s => raiseCond 1 0 {} (notify s { s with em := { s.em with expired := true, wdogAt := none } }))) ∧
  (∀ e, Runs (.injectHoldExpiry e) (fun _ => True)
    (fun s => { s with flt := { s.flt with injected := s.flt.injected.filter (fun c => !(c.1 == e && decide (c.2 ≤ s.time.mono))) } })) ∧
  (∀ meas r, Runs (.calPhaseDone meas) (fun s => s.cal.run = some r ∧ r.phases ≠ 0) (calPhase meas)) ∧
  (∀ r, Runs .calRunDone (fun s => s.cal.run = some r ∧ r.phases = 0)
    (fun s =>
      let p := r.plane
      let ph := tget 0 r.work.phases p ||| r.asked
      let c := { r.work with
        gen := (newestGen s + 1) % 2 ^ 32, mapGen := (s.sys.map.map (·.gen)).getD 0, written := s.time.now
        phases := tset 0 r.work.phases p ph, planes := if ph = 15 then r.work.planes ||| 2 ^ p else r.work.planes }
      let u := endCalLeases p (updCal (fun k => { k with
        run := none, unsaved := true, wp := if bit r.asked 2 then r.wp else k.wp }) s)
      let t := calTake [p] c u
      raiseEvent 51 { plane := p } (if u.planeIds.any (fun q => allowNs t q != allowNs u q) = true then announce t else t))) ∧
  (∀ acc i m, Runs (.calBackgroundVisitDone acc i)
    (fun s => s.cal.bg = true ∧ s.cal.visit = some m ∧ visitable s m = true ∧ commissioned s (s.monAt m).plane = true ∧ inHold s m = true)
    (fun s =>
      let t := updCal (fun k => { k with visit := none }) (visitHold m acc i s)
      updCal (fun k => { k with visit := nextVisit t m }) t)) ∧
  (∀ ok j t, Runs (.nvmWriteDone ok) (fun s => s.nvm.jobs = j :: t) (fun s => writeDone ok j { s with nvm := { s.nvm with jobs := t } }))

/-- The rows of test, loupe, snapshots and leases complete (rows of R583, R592, R595 to R597, R599, R600, R606, R616). -/
def Obligations.TestAndLoupeRowsComplete : Prop :=
  (∀ e a b pts, Acts (fun n => .marginPointDone n e) 52 (fun n s => (s.lane n).scan = some (a, b, pts) ∧ pts.length < 64)
    (fun n s => s.updLane n (fun x => { x with scan := some (a, b, pts ++ [e]) }))) ∧
  (∀ e a b pts, Acts (fun n => .marginPointDone n e) 52 (fun n s => (s.lane n).scan = some (a, b, pts) ∧ 64 ≤ pts.length)
    (fun n s =>
      let x := smallestEye b (pts ++ [e])
      let t := s.updLane n (fun k => { k with scan := none, uses := k.uses &&& 15, left := x.2.1, right := x.2.2 })
      raiseEvent 37 { chan := n } (updCal (fun k => { k with
        eye := tset 0 k.eye n (eyeMui x), scanned := tset 0 k.scanned n t.time.now }) t))) ∧
  (∀ fails first, Acts (fun t => .bistDone t fails first) 10 (fun t s => (bistOf s t).st = 1)
    (fun t s =>
      let b : Bist := { st := if fails = 0 then 2 else 3, fails := sat 32 fails, first := first, at' := s.time.now }
      raiseEvent 38 { value := t } (bistWipes t { s with bists := tset {} s.bists t b }))) ∧
  Acts .checkerLocked 52 (fun n s => bit (s.lane n).uses 1 = true)
    (fun n s => s.updLane n (fun x => if x.locked then x else { x with locked := true, lockAt := s.time.mono })) ∧
  (∀ b e, Acts (fun n => .checkerLockLoss n b e) 52 (fun _ _ => True)
    (fun n s => s.updLane n (fun x => if x.locked = false then x else { x with
      locked := false, losses := (x.losses + 1) % 2 ^ 32, bits := (x.bits + b) % 2 ^ 64, errors := (x.errors + e) % 2 ^ 64 }))) ∧
  (∀ code, Runs (.jtagInstructionUpdate code) (fun _ => True)
    (fun s =>
      let c := jtagCode s code
      let t := { s with sec := { s.sec with jtag := c }, pins := { s.pins with scan := takesPins c } }
      let u := if c = 0 ∨ c = 2 then t.emit (.idcode 0xB0512F4B) else t
      if takesPins c then each (List.range 8) u scanLow else if s.pins.scan then each (List.range 8) u scanBack else u)) ∧
  Runs .loupeDirUpdate (fun s => loupeGib s ≠ 0) (fun s => each (List.range 32) (loupeWrite s) dirWrite) ∧
  Runs .timeBaseDue (fun _ => True)
    (fun s =>
      let t := loupeWrite s
      each (t.loupe.rings.map (·.1)) t (fun i u =>
        let rb := timeBase u.time.now (ringNo u i, u.loupe.mem)
        { u with loupe := { u.loupe with rings := tset {} u.loupe.rings i rb.1, mem := rb.2 } })) ∧
  (∀ e, Runs (.loupeFreezeTrigger e) (fun _ => True)
    (fun s => { s with loupe := { s.loupe with freezes := s.loupe.freezes.map (fun f =>
      if freezeFires e s.time.now f then { f with stop := some (s.time.mono + us f.postUs) } else f) } })) ∧
  Runs .loupeFreezeStop (fun s => s.loupe.freezes.filter (freezeOver s.time.mono) ≠ [])
    (fun s =>
      let due := s.loupe.freezes.filter (freezeOver s.time.mono)
      let t := loupeWrite s
      each due { t with loupe := { t.loupe with freezes := t.loupe.freezes.filter (fun f => !freezeOver t.time.mono f) } } freezeRings) ∧
  Acts .snapStrobe 2 (fun b s => (s.snap b).st = 1 ∧ (s.snap b).t ≤ s.time.now ∧ (s.snap b).domain = false)
    (fun b s =>
      let u := each (s.mons.map (·.1)) s flushReady
      let t := { u with free := u.free + 65536 }
      raiseEvent 40 { value := b } (t.updSnap b (fun x => { x with
        st := 2, copy := copyOf u, devs := tset 0 x.devs (snapSelf t) 1 }))) ∧
  (∀ id l, Runs (.leaseExpiry id) (fun s => leaseOf s id = some l ∧ l.due ≤ s.time.mono)
    (fun s => raiseEvent 36 { value := id } (leaseOver l s)))

/-! ### Rows of power and temperature (chapter 15) -/

/-- The rows of voltage scaling and of temperature complete (rows of R621, R624, R625, R633, R635, R638 to R640, R655). -/
def Obligations.PowerRowsComplete : Prop :=
  (∀ slack, Runs (.paceMonitorSample slack)
    (fun s => s.pwr.avs = 0 ∧ ∀ x ∈ paceInUse { s with pwr := { s.pwr with slack := slack } }, 20 ≤ x.2)
    (fun s => trackBelow { s with pwr := { s.pwr with slack := slack } })) ∧
  (∀ v t rep meas, Runs (.avsPoll rep meas) (fun s => s.pwr.raise = some (v, t) ∧ confirms v rep meas = true)
    (fun s => each s.pwr.waiting (endCond 15 0 { s with pwr := { s.pwr with
      meas := meas, req := v, raise := none, waiting := [], raises := s.pwr.raises + 1 } }) (fun x => runWaiting x.1 x.2))) ∧
  (∀ v t rep meas, Runs (.avsPoll rep meas) (fun s => s.pwr.raise = some (v, t) ∧ confirms v rep meas = false)
    (fun s => { s with pwr := { s.pwr with meas := meas } })) ∧
  (∀ v t, Runs .avsRaiseTimeout (fun s => s.pwr.raise = some (v, t) ∧ t ≤ s.time.mono)
    (fun s =>
      let u := raiseCond 15 0 {} s
      let u := { u with pwr := { u.pwr with waiting := [], raise := some (v, u.time.mono + us u.pwr.toUs) } }
      (each s.pwr.waiting u (fun x => refuseReq x.1 x.2 notReady)).emit (.avs v))) ∧
  (∀ t, Runs .avsDownHoldExpiry
    (fun s => s.pwr.below = some t ∧ t + ms s.pwr.holdMs ≤ s.time.mono ∧ s.pwr.raise = none ∧ s.pwr.avs ≠ 0 ∧ modeFloor s < s.pwr.req)
    (fun s => { s with pwr := { s.pwr with lowering := true } })) ∧
  (∀ v rep meas, Runs (.avsLowerStep rep meas)
    (fun s => s.pwr.avs ≠ 0 ∧ s.pwr.lowering = true ∧ s.pwr.step = some v ∧ confirms v rep meas = false)
    (fun s => { s with pwr := { s.pwr with meas := meas } })) ∧
  (∀ v rep meas, Runs (.avsLowerStep rep meas)
    (fun s => s.pwr.avs ≠ 0 ∧ s.pwr.lowering = true ∧ s.pwr.step = some v ∧ confirms v rep meas = true ∧
      s.time.mono < s.pwr.stepAt + ms 1)
    (fun s =>
      let u := { s with pwr := { s.pwr with meas := meas, req := v, step := none } }
      if v ≤ stepDown u then { u with pwr := { u.pwr with lowering := false, below := none } } else u)) ∧
  (∀ rep meas, Runs (.avsLowerStep rep meas)
    (fun s => s.pwr.avs ≠ 0 ∧ s.pwr.lowering = true ∧ s.pwr.step = none ∧ stepDown s < s.pwr.req ∧
      s.pwr.stepAt + ms 1 ≤ s.time.mono)
    (fun s =>
      let u := { s with pwr := { s.pwr with meas := meas } }
      if Config.freeValue s.free % 2 = 0 then
        { u with free := s.free + 1, pwr := { u.pwr with lowering := false, below := none } }
      else
        ({ u with free := s.free + 1, pwr := { u.pwr with step := some (stepDown s), stepAt := s.time.mono } }).emit
          (.avs (stepDown s)))) ∧
  (∀ rep meas, Runs (.avsLowerStep rep meas) (fun s => s.pwr.avs ≠ 0 ∧ s.pwr.lowering = true) (lowerStep rep meas)) ∧
  (∀ d h, Runs (.powerEstimate d h) (fun _ => True) (fun s => { s with pwr := { s.pwr with dieMw := d, hbmMw := h } })) ∧
  (∀ t, Acts (fun i => .tempSensorUpdate i t) 60 (fun _ _ => True)
    (fun i s => thresholds (crossCheck (sensorGroup i) (sensorCheck i t (s.updSensor i (fun x => { x with val := some t })))))) ∧
  (∀ t, Acts .sensorRecover 60
    (fun i s => (s.sensor i).okSince = some t ∧ (s.sensor i).suspect = true ∧ t + oneSecond ≤ s.time.mono)
    (fun i s => thresholds (crossCheck (sensorGroup i) (s.updSensor i (fun x => { x with suspect := false, bad := 0 }))))) ∧
  Runs .tempCompTick (fun _ => True) (fun s => driveVref (each [0, 1, 2] s compTick)) ∧
  Acts .planeTempTick 2 (fun p s => regRuns s p = true ∧ 2 ≤ (planeSensors s p).length)
    (fun p s => regulate p (planeSensors s p).length ((planeSensors s p).foldl (fun a i => a + (s.sensor i).val.getD 0) 0) s) ∧
  (∀ t, Acts .planeTempSettled 2
    (fun p s => (s.ptemp p).inBand = some t ∧ regRuns s p = true ∧ ((s.ptemp p).st = 1 ∨ (s.ptemp p).st = 3) ∧ t + oneSecond ≤ s.time.mono)
    (fun p s =>
      let u := raiseEvent 44 { plane := p } (s.updPtemp p (fun x => { x with st := 2, settledAt := s.time.mono }))
      warmCheck (reState (u.updPlane p (fun q => { q with warmHeld := false }))))) ∧
  (∀ t, Acts .planeTempSaturated 2
    (fun p s => (s.ptemp p).satSince = some t ∧ regRuns s p = true ∧ (s.ptemp p).st = 1 ∧ t + 10 * oneSecond ≤ s.time.mono)
    (fun p s => raiseEvent 45 { plane := p } (s.updPtemp p (fun x => { x with st := 3 })))) ∧
  (∀ sram stack, stack < 4 → Runs (.patrolScrub sram stack true false) (fun _ => True)
    (fun s => raiseFault (if sram then 25 else 20 + stack) {} { s with pwr := { s.pwr with scrubAt := s.time.mono } })) ∧
  (∀ sram stack, stack < 4 → Runs (.patrolScrub sram stack false true) (fun _ => True)
    (fun s => raiseFault (if sram then 24 else 16 + stack) {} { s with pwr := { s.pwr with scrubAt := s.time.mono } })) ∧
  (∀ sram stack, stack < 4 → Runs (.patrolScrub sram stack false false) (fun _ => True)
    (fun s => { s with pwr := { s.pwr with scrubAt := s.time.mono } }))

/-! ### Rows of the host register block and of SMBus (chapter 13) -/

/-- The rows of the register block complete (rows of R470, R475 to R477, R481, R485, R487). -/
def Obligations.RegisterRowsComplete : Prop :=
  (∀ v, Runs (.emergencyDark v) (fun _ => bits v 31 16 = 0xDA2C ∧ v.testBit 0 = true) hostDark) ∧
  (∀ v, Runs (.emergencyRelease v) (fun _ => bits v 31 16 = 0xDA2C ∧ v.testBit 0 = false ∧ v.testBit 1 = true)
    (fun s => reState (releaseDark (endCond 0 0 (notify s { s with em := { s.em with hostDark := false } }))))) ∧
  (∀ v, Runs (.emergencyDark v) (fun _ => bits v 31 16 ≠ 0xDA2C) (fun s => s)) ∧
  (∀ v, Runs (.wdogTimeoutWrite v) (fun _ => True)
    (fun s => endCond 1 0 (notify s { s with em := { s.em with
      wdogMs := v % 65536, expired := false, wdogAt := if v % 65536 = 0 then none else some (s.time.mono + ms (v % 65536)) } }))) ∧
  (∀ v, Runs (.wdogKick v) (fun _ => True)
    (fun s => { s with em := { s.em with wdogAt := s.em.wdogAt.map (fun _ => s.time.mono + ms s.em.wdogMs) } })) ∧
  (∀ v, Acts (fun m => .mailboxRing m v) 16 (fun m s => v.testBit 0 = true ∧ (s.mbox m).busy = false ∧ (s.mbox m).enabled = true)
    (fun m s =>
      let t := acceptBell m (unle (getBytes (s.mbox m).req 2 2)) s
      { t with hi := { t.hi with queue := t.hi.queue ++ [m] } })) ∧
  (∀ o v, Acts (fun m => .requestAreaWrite m o v) 16 (fun m s => o % 4 = 0 ∧ o < 4096 ∧ (s.mbox m).busy = false)
    (fun m s => s.updMbox m (fun b => { b with req := putBytes b.req o (le 4 v) }))) ∧
  (∀ o v, Acts (fun m => .requestAreaWrite m o v) 16 (fun m s => o % 4 = 0 ∧ o < 4096 ∧ (s.mbox m).busy = true)
    (fun m s => s.updMbox m (fun b => { b with rejected := true }))) ∧
  (∀ w v l, w < 16 → Runs (.pendingClear w v l) (fun _ => True)
    (fun s =>
      let t := { s with ev := { s.ev with pending := s.ev.pending &&& ~~~(setWord512 0 w v) } }
      each l (each (activeVectors t.ev) t sendVector) (fun e s => raiseEvent e {} s))) ∧
  (∀ v, Runs (.irqEnWrite v) (fun _ => True) (evUpdate (fun e => { e with irqEn := v.testBit 0 }))) ∧
  (∀ w v, w < 16 → Runs (.eventMaskWrite w v) (fun _ => True) (evUpdate (fun e => { e with mask := setWord512 e.mask w v }))) ∧
  (∀ w v, w < 128 → Runs (.eventVectorWrite w v) (fun _ => True)
    (evUpdate (fun e => { e with vector := (List.range 4).foldl (fun t k =>
      tset (19 + (4 * w + k) / 64) t (4 * w + k) (bits v (8 * k + 5) (8 * k))) e.vector }))) ∧
  (∀ v, Runs (.txTailWrite v) (fun _ => True) (fun s => { s with hi := { s.hi with txTail := v % 65536 } })) ∧
  (∀ v, Runs (.rxTailWrite v) (fun _ => True) (fun s => { s with hi := { s.hi with rxTail := v % 65536 } })) ∧
  (∀ o v, Runs (.registerWrite .bar0 o 4 v) (fun _ => o % 4 = 0) (bar0Write o (v % 2 ^ 32))) ∧
  (∀ o v, Runs (.registerWrite .bar0 o 8 v) (fun _ => o % 8 = 0)
    (fun s => bar0Write (o + 4) (v / 2 ^ 32 % 2 ^ 32) (bar0Write o (v % 2 ^ 32) s))) ∧
  (∀ o n v, Runs (.registerWrite .bar2 o n v) (fun _ => True) (fun s => s))

/-- The SMBus commands complete: each answers one value and changes nothing else (R712). -/
def Obligations.SmbusRowsComplete : Prop :=
  Runs .smbState (fun _ => True) (fun s => s.emit (.smb (some (le 1 s.sys.st)))) ∧
  Runs .smbMaxSev (fun s => s.flt.records = []) (fun s => s.emit (.smb (some (le 1 7)))) ∧
  Runs .smbMaxSev (fun s => s.flt.records ≠ []) (fun s => s.emit (.smb (some (le 1 (s.flt.records.foldl (fun a r => max a r.sev) 0))))) ∧
  Runs .smbLightEn (fun _ => True) (fun s => s.emit (.smb (some (le 1 s.pins.light.toNat)))) ∧
  Runs .smbPlaneDark (fun _ => True) (fun s => s.emit (.smb (some (le 1 (b1 (planeDarkBit s 0) + 2 * b1 (planeDarkBit s 1)))))) ∧
  Runs .smbTempDie (fun _ => True) (fun s => s.emit (.smb (some (tempBytes (maxReading s (List.range 24)))))) ∧
  Runs .smbTempHbm (fun _ => True) (fun s => s.emit (.smb (some (tempBytes (maxReading s (range' 24 4)))))) ∧
  Runs .smbVcoreMv (fun _ => True) (fun s => s.emit (.smb (some (le 2 s.pwr.meas)))) ∧
  Runs .smbDiePowerW (fun s => 2 < s.sys.st) (fun s => s.emit (.smb (some (le 2 (s.pwr.dieMw / 1000))))) ∧
  Runs .smbIdentity (fun _ => True) (fun s => s.emit (.smb (some (le 8 Config.identity)))) ∧
  Runs .smbAlertResponse (fun s => s.sys.smbAlert = true)
    (fun s => ({ s with sys := { s.sys with smbAlert := false } }).emit (.smb (some (le 1 (2 * s.sys.cfg.smb))))) ∧
  Runs .smbAlertResponse (fun s => s.sys.smbAlert = false) (fun s => s.emit (.smb none)) ∧
  (∀ c, Runs (.smbUnknown c) (fun _ => True) (fun s => s.emit (.smb none)))

/-! ### The step and the queue -/

/-- A step runs the step at the front of the queue, with the queue's rest. The queue is the model's own (log entry 11, DESIGN CHOICE). -/
def Obligations.StepRunsFrontOfQueue : Prop :=
  ∀ c rest s, s.pending = c :: rest → step s = exec c { s with pending := rest }

/-- On an empty queue the block idles, which is the model's own choice (log entry 4, DESIGN CHOICE), and no step adds to the queue or takes from it: what
is left after a step is the rest that it was given (log entry 11, DESIGN CHOICE). -/
def Obligations.QueueMovesOnlyByTheStep : Prop :=
  (∀ s, s.pending = [] → step s = .next s) ∧
  (∀ i s t, exec i s = .next t → t.pending = s.pending) ∧
  (∀ c rest s t, s.pending = c :: rest → step s = .next t → t.pending = rest)

/-- Every well-formed step has a next state, in every state. A step stops only when it names a unit that the device does not have
(R10, R484, R590): the model's own fault. None is refused. -/
def Obligations.OnlyMissingUnitsStopAStep : Prop :=
  (∀ i s, i.wf = true → ∃ t, exec i s = .next t) ∧
  (∀ i s, (∃ t, exec i s = .next t) ∨ exec i s = .fault .noSuchUnit) ∧
  (∀ k s, 8 ≤ k → exec (.lightEnRise k) s = .fault .noSuchUnit) ∧
  (∀ k s, 2 ≤ k → exec (.updateTick k) s = .fault .noSuchUnit) ∧
  (∀ k s, 9216 ≤ k → exec (.preEmphasisEnd k) s = .fault .noSuchUnit) ∧
  (∀ k s, 5120 ≤ k → exec (.filterSwitch k) s = .fault .noSuchUnit) ∧
  (∀ k s, 32 ≤ k → exec (.chainEnd k) s = .fault .noSuchUnit) ∧
  (∀ k s, 512 ≤ k → exec (.endpointLiveTimeout k) s = .fault .noSuchUnit) ∧
  (∀ k v s, 16 ≤ k → exec (.mailboxRing k v) s = .fault .noSuchUnit)

/-! ### Reset -/

/-- What the manual gives for reset, and that the reset state meets the invariants: it is dark under the latch, its memories are canonical and no
command waits (R68, R96, R105, R156, R161, R209, R264, R347, R389, R474, R478, R480). -/
def Obligations.ResetLeavesStatedValues : Prop :=
  State.reset.pending = [] ∧ State.reset.time.now = timeOf 1 0 0 ∧ State.reset.relay.version = 1 ∧
  State.reset.em.hostDark = false ∧ State.reset.em.wdogMs = 0 ∧ State.reset.em.expired = false ∧
  emergencyStatus State.reset = 7 * 2 ^ 24 + 3 * 2 ^ 8 ∧
  State.reset.pins.light = 0 ∧ State.reset.pins.bz = 0 ∧
  State.reset.ev.irqEn = false ∧ State.reset.ev.pending = 0 ∧ State.reset.ev.mask = BitVec.allOnes 512 ∧
  (∀ e, vectorOf State.reset.ev e = 19 + e / 64) ∧
  (∀ l, (State.reset.bezel l).latched = true ∧ (State.reset.bezel l).resetSeen = true) ∧
  (∀ l w, (w < 576 → imageWord (State.reset.bezel l).image w = 128 * 65536 + 128) ∧
    (576 ≤ w → w < 1216 → imageWord (State.reset.bezel l).image w = 128) ∧
    (1216 ≤ w → w < 1360 → imageWord (State.reset.bezel l).image w = 648 * 1024 + 158) ∧
    (1360 ≤ w → imageWord (State.reset.bezel l).image w = 0)) ∧
  (∀ p, (State.reset.plane p).regime = 0 ∧ (State.reset.plane p).tickUs = 1) ∧
  (∀ p k, slewOf State.reset p k 0 = { step := 5, rate := 1 } ∧ slewOf State.reset p k 1 = { step := 0xFFFFF, rate := 1 }) ∧
  (∀ c, (State.reset.drive c).code = 0 ∧ (State.reset.drive c).winLo = 0 ∧ (State.reset.drive c).winHi = 0xFFFFF) ∧
  (∀ c, (State.reset.ctx c).regime = 0 ∧ (State.reset.ctx c).integ = 0 ∧ (State.reset.ctx c).missLimit = 16) ∧
  (∀ m, (State.reset.mon m).setting = 3) ∧
  State.reset.leases = [] ∧ State.reset.flt.records = [] ∧ DarkHeld State.reset ∧ MemoryOk State.reset

/-- PORST_N low (R682): LIGHT_EN and BZ_RST_N go low, every heater of every bezel is at zero power, every state of the device is lost,
the HOST_DARK latch and every lease among it, and the device is in RESET. What stays is no state of the device's logic: flash, the
on-die reading of VCORE and the analogue trip, the TEST_MODE level at its pin, elapsed time, and the model's own fields. -/
def Obligations.PowerOnResetLosesState : Prop :=
  ∀ s, ∃ t, exec .porstAssert s = .next t ∧ t.pins.light = 0 ∧ t.pins.bz = 0 ∧ (∀ l c, bezelPower t l c = 0) ∧
    t.em.hostDark = false ∧ t.leases = [] ∧ t.sys.st = 1 ∧
    ({ t with
      pending := [], free := 0, out := [], nvm := State.reset.nvm, time := State.reset.time, bezels := []
      sys := { t.sys with testMode := false, upAt := 0 }, pins := { t.pins with therm := false }
      pwr := { t.pwr with anaTrip := false, meas := State.reset.pwr.meas, req := State.reset.pwr.req } } : State) = State.reset ∧
    t.time = { State.reset.time with mono := s.time.mono, released := s.time.mono }

/-! ### Mailboxes -/

/-- A mailbox transaction (R485, R493, R494). A doorbell on a busy or disabled mailbox sets REJECTED and nothing else; an accepted one sets BUSY, clears
DONE and latches TAG. While BUSY is 1 a write to the request area is discarded and sets REJECTED, and a write to the response area, which is
read-only, has no effect. The response is written, BUSY clears and
DONE is set in one step, and vector m is sent unless NO_IRQ is set. The response is a header that echoes TAG and OPCODE, and the payload;
under INDIRECT the payload goes to RSP_ADDR first and the response area holds only the header. The response of a command that was running
when the function was reset is discarded (R468). -/
def Obligations.MailboxTransactionSteps : Prop :=
  (∀ m v s, m < 16 → s.sys.porst = false → v % 2 = 1 → ((s.mbox m).busy = true ∨ (s.mbox m).enabled = false) →
    exec (.mailboxRing m v) s = .next (s.updMbox m (fun b => { b with rejected := true }))) ∧
  (∀ m v s, m < 16 → s.sys.porst = false → v % 2 = 1 → (s.mbox m).busy = false → (s.mbox m).enabled = true →
    exec (.mailboxRing m v) s = .next
      (let t := s.updMbox m (fun b => { b with busy := true, done := false, tag := unle (getBytes b.req 2 2) })
       { t with hi := { t.hi with queue := s.hi.queue ++ [m] } })) ∧
  (∀ m v s, m < 16 → s.sys.porst = false → v % 2 = 0 → exec (.mailboxRing m v) s = .next s) ∧
  (∀ m o v s, m < 16 → s.sys.porst = false → o % 4 = 0 → o < 4096 → (s.mbox m).busy = true →
    exec (.requestAreaWrite m o v) s = .next (s.updMbox m (fun b => { b with rejected := true }))) ∧
  (∀ m o v s, m < 16 → s.sys.porst = false → o % 4 = 0 → o < 4096 → (s.mbox m).busy = false →
    exec (.requestAreaWrite m o v) s = .next (s.updMbox m (fun b => { b with req := putBytes b.req o (le 4 v) }))) ∧
  (∀ o v s, s.sys.porst = false → o % 4 = 0 → 0x20000 ≤ o → o < 0x30000 → exec (.registerWrite .bar0 o 4 v) s = .next s) ∧
  (∀ m flags rsp s, finishMbox m flags rsp s =
      (let t := s.updMbox m (fun b => { b with rsp := rsp ++ b.rsp.drop rsp.length, busy := false, done := true })
       if flags / 2 % 2 = 1 then t else sendVector m t)) ∧
  (∀ op r m st d0 d1 pay s, r.origin = .mailbox m → r.flags % 2 = 0 → (s.mbox m).discard ≠ some r.tag →
    answer op r st d0 d1 { pay := pay } s = finishMbox m r.flags
      (le 2 r.tag ++ le 2 st ++ le 2 pay.length ++ le 2 op ++ le 4 d0 ++ le 4 d1 ++ pay) s) ∧
  (∀ op r m st d0 d1 pay s, r.origin = .mailbox m → r.flags % 2 = 1 → pay ≠ [] → ((unstage m s).mbox m).discard ≠ some r.tag →
    answer op r st d0 d1 { pay := pay } s = finishMbox m r.flags
      (le 2 r.tag ++ le 2 st ++ le 2 pay.length ++ le 2 op ++ le 4 d0 ++ le 4 d1)
      ((unstage m s).emit (.dma (r.ind.getD {}).rspAddr pay))) ∧
  (∀ op r m st d0 d1 pay s, r.origin = .mailbox m → r.flags % 2 = 0 → (s.mbox m).discard = some r.tag →
    answer op r st d0 d1 { pay := pay } s = s.updMbox m (fun b => { b with discard := none }))

/-- Where several refusals apply, the first in the order of R497 is returned. Step 1 is the opcode, steps 2 and 3 the header and TARGET,
steps 4 to 6 the LEASE field, the payload and the holders, step 7 the command's own refusals; a tunnelled request passes steps 4 to 7 on
the worker, but for a refusal that its own chapter lays on the manager (R332, R354). The device is outside recovery, whose own rule comes before the list (R665), and may master the bus; an INDIRECT request states
at most 65,535 bytes for its answer. -/
def Obligations.RefusalsComeInOrder : Prop :=
  (∀ op r s, bilekCmd op = none → runOp op r s = refuseReq op r noCap s) ∧
  (∀ op c r s, bilekCmd op = some c → runOp op r s = runCmd c r s) ∧
  (∀ c r s, s.sys.recovery = false →
    (3 < r.flags ∨ r.resv ≠ 0 ∨ 4080 < r.len ∨ (r.flags % 2 = 1 ∧ (r.len ≠ 24 ∨ 65535 < (r.ind.getD {}).reqLen))) →
    runCmd c r s = refuseReq c.op r badHeader s) ∧
  (∀ c r s, s.sys.recovery = false → headerBad r = false → targetBad c.op r s = true →
    runCmd c r s = refuseReq c.op r (unreachableT r.target) s ∨
      ∃ w, runCmd c r s = refuseReq c.op r (unreachableT r.target) (claspCount w 5 s)) ∧
  (∀ c r s, s.sys.recovery = false → headerBad r = false → targetBad c.op r s = false → targetSelf s r.target = true →
    runCmd c r s = runLocal c r s) ∧
  (∀ c r s, s.sys.recovery = false → headerBad r = false → targetBad c.op r s = false → targetSelf s r.target = false →
    s.hi.busMaster = true → firstOf (c.passing r.pay r.target s) = none → runCmd c r s = tunnelOut c.op c.host r s) ∧
  (∀ c r s e, s.sys.recovery = false → headerBad r = false → targetBad c.op r s = false → targetSelf s r.target = false →
    s.hi.busMaster = true → firstOf (c.passing r.pay r.target s) = some e → runCmd c r s = refuseReq c.op r e s) ∧
  (∀ c r s, leaseOk s (c.need r.pay s) r.lease = false → runLocal c r s = refuseReq c.op r badHeader s) ∧
  (∀ c r s e, (r.flags % 2 = 1 → (r.ind.getD {}).rspMax ≤ 65535) →
    leaseOk s (c.need r.pay s) r.lease = true → firstOf (c.checks r.pay s) = some e → runLocal c r s = refuseReq c.op r e s) ∧
  (∀ c r s n e, (r.flags % 2 = 1 → (r.ind.getD {}).rspMax ≤ 65535) → (answersLate c.op = true → replyMax c.op r.pay ≤ rspRoom r) →
    leaseOk s (c.need r.pay s) r.lease = true → firstOf (c.checks r.pay s) = none → c.need r.pay s = some n → holderRefusal s n r.lease = some e → runLocal c r s = refuseReq c.op r e s) ∧
  (∀ c r s, localRefusal c r s = none → (stage r s).1 = false → runLocal c r s = refuseReq c.op r busy (stage r s).2) ∧
  (∀ c r s e, localRefusal c r s = none → (stage r s).1 = true → c.run r (stage r s).2 = .error e →
    runLocal c r s = refuseReq c.op r e (stage r s).2)

/-- A command that is refused has no effect: nothing but its mailbox, the pending bits of MSI-X and what leaves the device differs. An
INDIRECT request that its own rules refuse has taken message-pool buffers for its payload, which return with the answer (R414, R493). -/
def Obligations.RefusedCommandChangesNothing : Prop :=
  (∀ c m r s e, r.origin = .mailbox m → r.flags % 2 = 0 →
    (localRefusal c r s = some e ∨ (localRefusal c r s = none ∧ c.run r s = .error e)) →
    runLocal c r s = refuseReq c.op r e s ∧ SameButMail s (refuseReq c.op r e s)) ∧
  (∀ c m r s e, r.origin = .mailbox m → localRefusal c r s = some e →
    runLocal c r s = refuseReq c.op r e s ∧ SameButMail (if r.indirect = true then unstage m s else s) (refuseReq c.op r e s)) ∧
  (∀ c m r s e, r.origin = .mailbox m → r.flags % 2 = 1 → localRefusal c r s = none → (stage r s).1 = true →
    c.run r (stage r s).2 = .error e →
    runLocal c r s = refuseReq c.op r e (stage r s).2 ∧ SameButMail (unstage m (stage r s).2) (refuseReq c.op r e (stage r s).2))

/-- Commands that only read leave the device as it was (R132, R207, R218, R259, R263, R301, R302, R311, R456, R457, R502, R504, R505): nothing but
the mailbox, the pending bits of MSI-X and what leaves the device differs, whether they are answered or refused, and under INDIRECT the
message-pool buffers that the payload takes and returns (R414). `sched.demand_read` reads
between two matchings, and waits while one runs. -/
def Obligations.ReadingCommandsLeaveState : Prop :=
  OnlyReads .sysInfo cmdSysInfo ∧ OnlyReads .sysEcho cmdSysEcho ∧ OnlyReads .capWalk cmdCapWalk ∧
  OnlyReads .planeMapRead cmdPlaneMapRead ∧ OnlyReads .linkStatus cmdLinkStatus ∧ OnlyReads .driveReadState cmdDriveReadState ∧
  OnlyReads .driveParkRead cmdDriveParkRead ∧ OnlyReads .loopTableRead cmdLoopTableRead ∧ OnlyReads .loopCaptureRead cmdLoopCaptureRead ∧
  OnlyReads .facetRead cmdFacetRead ∧ OnlyReads .facetRoute cmdFacetRoute ∧ OnlyReads .facetReport cmdFacetReport ∧
  OnlyReads .chainRead cmdChainRead ∧ OnlyReads .chainStatus cmdChainStatus ∧
  (∀ m r s, accepts cmdSchedDemandRead m r s = true → (started cmdSchedDemandRead m r s).sched.matching = none →
    ∃ t, exec (.schedDemandRead r) s = .next t ∧ SameButMail (unstaged cmdSchedDemandRead m r s) t) ∧
  OnlyReads .endpointRead cmdEndpointRead ∧ OnlyReads .timeRead cmdTimeRead ∧ OnlyReads .timePtpStatus cmdTimePtpStatus ∧
  OnlyReads .relayFdbRead cmdRelayFdbRead ∧ OnlyReads .domainStatus cmdDomainStatus ∧
  OnlyReads .domainMembers cmdDomainMembers ∧ OnlyReads .faultStatus cmdFaultStatus ∧ OnlyReads .loupeStatus cmdLoupeStatus ∧
  OnlyReads .snapRead cmdSnapRead ∧ OnlyReads .snapStatus cmdSnapStatus ∧ OnlyReads .powerStatus cmdPowerStatus ∧
  OnlyReads .secCertRead cmdSecCertRead ∧ OnlyReads .calRead cmdCalRead ∧ OnlyReads .leaseList cmdLeaseList

/-- A request that the host writes is the request that the device reads: no bit of a header, of a payload or of the INDIRECT fields is
dropped, whatever stands in the rest of the request area (R492, R493). -/
def Obligations.RequestRoundTrip : Prop :=
  ∀ m op r rest, op < 2 ^ 16 → r.wf = true → r.origin = .mailbox m →
    (r.flags % 2 = 1 → r.ind.isSome = true) → (r.flags % 2 = 0 → r.ind = none ∧ r.payload.length = r.len ∧ r.len ≤ 4080) →
    ∃ q, reqOf m (reqBytes op r ++ rest) r.payload r.dmaIn = (op, q) ∧ q.pay = r.pay ∧
      ({ q with payload := r.payload } : Req) = r

/-! ### Emergency, events and light -/

/-- A write to EMERGENCY offset 0x004 (R475, R476): with KEY 0xDA2C and DARK = 1 the latch is set and every LIGHT_EN output is low, RELEASE
or not; with RELEASE alone the latch is clear and nothing is lit; with another KEY nothing changes. -/
def Obligations.EmergencyWriteActs : Prop :=
  (∀ v s, s.sys.porst = false → v / 65536 % 65536 = 0xDA2C → v % 2 = 1 →
    ∃ t, exec (.emergencyDark v) s = .next t ∧ t.em.hostDark = true ∧ t.pins.light = 0) ∧
  (∀ v s, s.sys.porst = false → v / 65536 % 65536 = 0xDA2C → v % 2 = 0 → v / 2 % 2 = 1 →
    ∃ t, exec (.emergencyRelease v) s = .next t ∧ t.em.hostDark = false ∧ NoNewLight s t) ∧
  (∀ v s, s.sys.porst = false → v / 65536 % 65536 ≠ 0xDA2C → exec (.emergencyDark v) s = .next s ∧ exec (.emergencyRelease v) s = .next s)

/-- A raised event sets its PENDING bit whether or not it is masked, and its detail goes to the event log; an event that is raised in the
access that clears its bit stays pending (R479). -/
def Obligations.RaisedEventIsPendingAndLogged : Prop :=
  (∀ e d s, e < 512 → (raiseEvent e d s).ev.pending = s.ev.pending ||| (1#512 <<< e) ∧
    (raiseEvent e d s).ev.pending.getLsbD e = true ∧
    ({ device := s.dom.number, event := e, time := s.time.now, data := d } : EvRec) ∈ (raiseEvent e d s).ev.log ∧
    (raiseEvent e d s).ev.mask = s.ev.mask) ∧
  (∀ w v raised s e, w < 16 → s.sys.porst = false → e ∈ raised → e < 512 →
    ∃ t, exec (.pendingClear w v raised) s = .next t ∧ t.ev.pending.getLsbD e = true)

/-- LIGHT_EN rises by its own row alone: after any other step the outputs that are high were high before. By that row one output rises, its
own, and only under the conditions of R87 and in the device states of R690. -/
def Obligations.LightRisesOnlyByItsRow : Prop :=
  (∀ i s t, (∀ k, i ≠ .lightEnRise k) → exec i s = .next t → NoNewLight s t) ∧
  (∀ k s t, exec (.lightEnRise k) s = .next t → t.pins.light ≠ s.pins.light →
    t.pins.light = s.pins.light ||| (1#8 <<< k) ∧ (s.link k).st = 2 ∧ 128 ≤ (s.link k).clean ∧ (s.link k).status.getLsbD 23 = true ∧
      (s.link k).status.getLsbD 18 = true ∧ s.em.hostDark = false ∧ (s.sys.st = 6 ∨ s.sys.st = 7 ∨ s.sys.st = 8) ∧
      ∃ p, s.linkPlane k = some p ∧ darkCovered s p = false)

/-- While HOST_DARK is latched every LIGHT_EN output is low, and every step keeps it so (R475, R476). -/
def Obligations.HostDarkHoldsLightLow : Prop := ∀ s t, DarkHeld s → step s = .next t → DarkHeld t

/-- The loupe memory and the request areas keep their canonical form in every step: addresses strictly rising, no cell equal to what an
unlisted address reads as (R469, R598; log entry 1). -/
def Obligations.MemoryStaysCanonical : Prop := ∀ s t, MemoryOk s → step s = .next t → MemoryOk t

/-! ### Drive and matcher -/

/-- The slew limiter (R106, R107). Only every RATE update ticks does the code move, toward the shaped target and by at most STEP; a move
of less than the whole distance sets LIMITED, which clears when the code equals the target; under the HOLD set the goal is the target
clamped to the hold window, so that a code inside the window stays inside it, and under TRANSITION no window applies. That the count of
RATE starts again when the code equals the target is the model's choice (log entry 162, DESIGN CHOICE). -/
def Obligations.SlewLimiterKeepsStepAndWindow : Prop :=
  ∀ sl target d, d.winLo ≤ d.winHi →
    let e := limit sl target true d
    let goal := if d.trans = true then target else if target < d.winLo then d.winLo else if d.winHi < target then d.winHi else target
    e.code ≤ d.code + sl.step ∧ d.code ≤ e.code + sl.step ∧
    (d.trans = false → d.winLo ≤ d.code → d.code ≤ d.winHi → d.winLo ≤ e.code ∧ e.code ≤ d.winHi) ∧
    (¬ (d.code = target ∧ goal = target) → d.rate + 1 < sl.rate → e.code = d.code ∧ e.rate = d.rate + 1 ∧ e.limited = d.limited) ∧
    (sl.rate ≤ d.rate + 1 → e.rate = 0 ∧
      (e.code = goal ∨ e.code = d.code + sl.step ∨ e.code + sl.step = d.code) ∧
      (d.code ≤ goal → d.code ≤ e.code ∧ e.code ≤ goal) ∧ (goal ≤ d.code → goal ≤ e.code ∧ e.code ≤ d.code) ∧
      (e.limited = true ↔ e.code ≠ target)) ∧
    (d.code = target → goal = target → e.code = target ∧ e.rate = 0 ∧ e.limited = false)

/-- The matcher pairs each input with at most one output and each output with at most one input, and pairs only what was requested
(R287). -/
def Obligations.MatchingIsOneToOne : Prop :=
  ∀ n reqs k g a,
    let m := matchIters n reqs true k { g := g, a := a }
    (∀ i o, tfind m.mi i = some o ↔ tfind m.mo o = some i) ∧
    (∀ i o, tfind m.mi i = some o → ∃ key, (i, o, key) ∈ reqs) ∧
    m.mi.Pairwise (fun x y => x.1 < y.1) ∧ m.mo.Pairwise (fun x y => x.1 < y.1)
end

