-- ==== Sys2Proof/Laws/Bytes.lean ====
section
/-! SUPPORT. Laws of little-endian fields: lengths, and that a field reads back what was laid out (R7, R8). -/

namespace Sys2Proof.Machine

@[simp] theorem le_length (n v : Nat) : (le n v).length = n := by
  induction n generalizing v with
  | zero => rfl
  | succ n ih => simp [le, ih]

@[simp] theorem be_length (n v : Nat) : (be n v).length = n := by simp [be]

@[simp] theorem timeLe_length (t : NetTime) : (timeLe t).length = 12 := by simp [timeLe]

/-- `n` little-endian bytes hold the low `8 n` bits of a number. -/
theorem unle_le (n v : Nat) : unle (le n v) = v % 256 ^ n := by
  induction n generalizing v with
  | zero => simp [le, unle, Nat.mod_one]
  | succ n ih =>
    have h2 : (BitVec.ofNat 8 v).toNat = v % 256 := by simp
    rw [le, unle, ih, h2, Nat.pow_succ, Nat.mul_comm (256 ^ n) 256, Nat.mod_mul]

/-- A number that fits reads back. -/
theorem unle_le_of_lt {n v : Nat} (h : v < 256 ^ n) : unle (le n v) = v := by rw [unle_le, Nat.mod_eq_of_lt h]

/-- Bytes inside a list are taken as they stand. -/
theorem slice_of_le {p : Bytes} {o n : Nat} (h : o + n ≤ p.length) : slice p o n = (p.drop o).take n := by
  have : ((p.drop o).take n).length = n := by simp; omega
  simp [slice, this]

/-- The bytes laid out after a prefix of `o` bytes are those of the slice at `o`. -/
theorem slice_append {a b c : Bytes} {o n : Nat} (ha : a.length = o) (hb : b.length = n) : slice (a ++ b ++ c) o n = b := by
  subst ha hb
  rw [slice_of_le (by simp)]
  simp

/-- The field laid out after a prefix of `o` bytes reads back. -/
theorem fld_append {a c : Bytes} {o n v : Nat} (ha : a.length = o) (hv : v < 256 ^ n) : fld (a ++ le n v ++ c) o n = v := by
  rw [fld, slice_append ha (le_length n v), unle_le_of_lt hv]

end Sys2Proof.Machine
end

