-- ==== Sys2Proof/Laws/Bilek.lean ====
section
/-! SUPPORT. What a mailbox transaction comes to once its request is accepted (R485, R497), and how completions follow from the run of a
command. -/

namespace Sys2Proof.Machine

theorem each_nil {α σ : Type} (s : σ) (f : α → σ → σ) : each [] s f = s := rfl

theorem each_cons {α σ : Type} (a : α) (l : List α) (s : σ) (f : α → σ → σ) : each (a :: l) s f = each l (f a s) f := rfl

/-- A refusal whose condition fails is passed over. -/
theorem guarded_skip {x : Bool × Refuse} {l : List (Bool × Refuse)} {k : Ran} (h : x.1 = false) : guarded (x :: l) k = guarded l k := by
  obtain ⟨c, e⟩ := x
  simp only at h
  simp only [guarded, firstOf, h, Bool.false_eq_true, if_false]

/-- The first refusal whose condition holds is the one answered. -/
theorem guarded_stop {x : Bool × Refuse} {l : List (Bool × Refuse)} {k : Ran} (h : x.1 = true) : guarded (x :: l) k = .error x.2 := by
  obtain ⟨c, e⟩ := x
  simp only at h
  simp only [guarded, firstOf, h, if_true]

/-- When every condition fails, no refusal is answered. -/
theorem guarded_all {l : List (Bool × Refuse)} {k : Ran} (h : ∀ x ∈ l, x.1 = false) : guarded l k = k := by
  induction l with
  | nil => rfl
  | cons x l ih =>
    rw [guarded_skip (h x (List.mem_cons_self ..))]
    exact ih (fun y hy => h y (List.mem_cons_of_mem _ hy))

theorem guarded_nil {k : Ran} : guarded [] k = k := rfl

theorem launchReply_ok {n : Nat} {t : State} {l : Launch} :
    launchReply n (.ok (t, l)) = ok t (le 4 l.id ++ le 2 n ++ le 1 (b1 l.hit + 2 * b1 l.rounded) ++ le 1 0 ++ timeLe l.at') := rfl

theorem builtLaunch_ok {p n : Nat} {t : NetTime} {hit : Bool} {s : State} :
    builtLaunch p t (.ok (n, hit, s)) = launchReply n (acceptLaunch p n t (us 20) hit none s) := rfl

/-- What `accepts` says, one fact at a time. -/
theorem accepts_facts {c : Cmd} {m : Nat} {r : Req} {s : State} (h : accepts c m r s = true) :
    r.origin = .mailbox m ∧ m < 16 ∧ s.sys.porst = false ∧ (s.mbox m).enabled = true ∧ (s.mbox m).busy = false ∧ s.hi.queue = [] ∧
      s.sched.loading = [] ∧ s.sys.recovery = false ∧ headerBad r = false ∧ targetSelf (rung c m r s) r.target = true ∧
      targetBad c.op r (rung c m r s) = false ∧ localRefusal c r (rung c m r s) = none ∧ (stage r (rung c m r s)).1 = true ∧
      c.floor r.pay (started c m r s) ≤ vcore (started c m r s) := by
  simp only [accepts, Bool.and_eq_true, Bool.not_eq_true', beq_iff_eq, decide_eq_true_eq, List.isEmpty_iff, Option.isNone_iff_eq_none] at h
  obtain ⟨⟨⟨⟨⟨⟨⟨⟨⟨⟨⟨⟨⟨a, b⟩, d⟩, e⟩, f⟩, g⟩, q⟩, i⟩, j⟩, k⟩, l⟩, n⟩, z⟩, o⟩ := h
  exact ⟨a, b, d, e, f, g, q, i, j, k, l, n, z, o⟩

/-- An accepted request runs on the device in the state in which it starts. -/
theorem command_accepted {c : Cmd} {m : Nat} {r : Req} {s : State} (h : accepts c m r s = true) :
    command c r s = .next (runNow c r (started c m r s)) := by
  obtain ⟨ho, hm, hp, he, hb, hq, hl, hr, hh, ht, hbad, hn, hz, -⟩ := accepts_facts h
  have hq' : (rung c m r s).hi.queue = [] := hq
  have hl' : (rung c m r s).sched.loading = [] := hl
  have hr' : (rung c m r s).sys.recovery = false := hr
  have ht' : transact c m r s = runNow c r (started c m r s) := by
    unfold transact
    simp only [hb, he, Bool.not_true, Bool.or_self, Bool.false_eq_true, if_false]
    have : acceptBell m r.tag (s.updMbox m (fun b => { b with req := putBytes b.req 0 (reqBytes c.op r) })) = rung c m r s := rfl
    rw [this]
    simp only [hq', hl', and_self, if_true, runCmd, hr', hh, hbad, ht, Bool.false_and, Bool.false_eq_true, if_false, runLocal, hn, hz,
      started]
  simp only [command, ho, onUnit, hm, if_true, hp, Bool.false_eq_true, if_false, ht']

/-- The run of an accepted request, with its answer. -/
theorem runLocal_accepted {c : Cmd} {m : Nat} {r : Req} {s : State} (h : accepts c m r s = true) {t : State} {p : Reply}
    (hr : c.run r (started c m r s) = .ok (t, some p)) (hl : p.pay.length ≤ rspRoom r) :
    command c r s = .next (answerOk c.op r p t) := by
  obtain ⟨-, -, -, -, -, -, -, -, -, -, -, -, -, hv⟩ := accepts_facts h
  rw [command_accepted h]
  simp only [runNow, hr, Nat.not_lt.mpr hv, if_false, Nat.not_lt.mpr hl, answerFit]

/-- A command completes when its run answers. -/
theorem completes_of {i : Req → Instr} {c : Cmd} {cond : Req → State → Prop} {pay : Req → State → Bytes} {eff : Req → State → State}
    (hi : ∀ r s, exec (i r) s = command c r s) (h : ∀ r u, cond r u → c.run r u = ok (eff r u) (pay r u)) :
    Completes i c cond pay eff := by
  intro m r s ha hc hl
  rw [hi, runLocal_accepted ha (h r _ hc) hl]

/-- The run of an accepted request that is answered later, or has answered itself. -/
theorem runLocal_later {c : Cmd} {m : Nat} {r : Req} {s : State} (h : accepts c m r s = true) {t : State}
    (hr : c.run r (started c m r s) = later t) : command c r s = .next t := by
  obtain ⟨-, -, -, -, -, -, -, -, -, -, -, -, -, hv⟩ := accepts_facts h
  rw [command_accepted h]
  simp only [runNow, hr, later, Nat.not_lt.mpr hv, if_false]

/-- The run of an accepted request that its own rule refuses. -/
theorem runLocal_refused {c : Cmd} {m : Nat} {r : Req} {s : State} (h : accepts c m r s = true) {e : Refuse}
    (hr : c.run r (started c m r s) = .error e) : command c r s = .next (refuseReq c.op r e (started c m r s)) := by
  rw [command_accepted h]
  simp only [runNow, hr]

/-- A command whose answer comes later. -/
theorem defers_of {i : Req → Instr} {c : Cmd} {cond : Req → State → Prop} {eff : Req → State → State}
    (hi : ∀ r s, exec (i r) s = command c r s) (h : ∀ r u, cond r u → c.run r u = later (eff r u)) : Defers i c cond eff := by
  intro m r s ha hc
  rw [hi, runLocal_later ha (h r _ hc)]

/-- A command that its own rule refuses. -/
theorem refuses_of {i : Req → Instr} {c : Cmd} {cond : Req → State → Prop} {e : Refuse}
    (hi : ∀ r s, exec (i r) s = command c r s) (h : ∀ r u, cond r u → c.run r u = .error e) : Refuses i c cond e := by
  intro m r s ha hc
  rw [hi, runLocal_refused ha (h r _ hc)]

/-- A row on a unit acts when PORST_N is high. -/
theorem acts_of {i : Nat → Instr} {n : Nat} {cond : Nat → State → Prop} {eff g : Nat → State → State}
    (hi : ∀ k s, exec (i k) s = onUnit k n s (g k s)) (h : ∀ k s, cond k s → g k s = eff k s) : Acts i n cond eff := by
  intro k s hk hp hc
  simp only [hi, onUnit, hk, if_true, hp, Bool.false_eq_true, if_false, h k s hc]

/-- A row that names no unit runs when PORST_N is high. -/
theorem runs_of {i : Instr} {cond : State → Prop} {eff g : State → State}
    (hi : ∀ s, exec i s = live s (g s)) (h : ∀ s, cond s → g s = eff s) : Runs i cond eff := by
  intro s hp hc
  simp only [hi, live, hp, Bool.false_eq_true, if_false, h s hc]

/-- The first refusal of two lists after another. -/
theorem firstOf_append (l k : List (Bool × Refuse)) : firstOf (l ++ k) = (firstOf l).or (firstOf k) := by
  induction l with
  | nil => rfl
  | cons x l ih =>
    obtain ⟨b, e⟩ := x
    cases b
    · exact ih
    · rfl

/-- Nothing is staged for a request without INDIRECT. -/
theorem stage_direct {r : Req} (s : State) (h : r.indirect = false) : stage r s = (true, s) := by
  unfold stage
  split <;> simp [h]

/-- A row that receives a message. -/
theorem arrives_of {i : Bool → List Bytes → Instr} {code : Nat} {act : Bool → Msg → State → State}
    (hi : ∀ w cells s, exec (i w cells) s = live s (arrive code w cells (act w) s)) : Arrives i code act := by
  intro w cells d m s hp hu hd hm hc
  simp only [hi, live, hp, arrive, claspIn, hu, hd, hm, hc, taken, Bool.not_true, Bool.false_eq_true, ne_eq, not_true_eq_false, if_false]

end Sys2Proof.Machine
end

