-- ==== Sys2Proof/Laws/Tab.lean ====
section
/-! SUPPORT. Laws of sparse tables: every operation keeps the canonical form, a read after a write to the same key gives what was written,
and a write leaves every other key alone. -/

namespace Sys2Proof.Machine

variable {α : Type}

/-- Keys strictly rising and above a bound, none equal to the default: the canonical form as a recursion on the list. -/
def Tab.above [DecidableEq α] (d : α) (b : Option Nat) : Tab α → Prop
  | [] => True
  | (i, v) :: t => (∀ k ∈ b, k < i) ∧ v ≠ d ∧ Tab.above d (some i) t

theorem Tab.above_weaken [DecidableEq α] {d : α} {b : Option Nat} {t : Tab α} (h : Tab.above d b t) : Tab.above d none t := by
  cases t with
  | nil => trivial
  | cons e t => exact ⟨by simp, h.2.1, h.2.2⟩

theorem Tab.above_le [DecidableEq α] {d : α} {i j : Nat} {t : Tab α} (h : Tab.above d (some i) t) (hj : j ≤ i) : Tab.above d (some j) t := by
  cases t with
  | nil => trivial
  | cons e t =>
    obtain ⟨h1, h2, h3⟩ := h
    refine ⟨?_, h2, h3⟩
    intro k hk
    have := h1 i rfl
    cases hk
    omega

/-- The canonical form as `Tab.wf` tests it. -/
theorem Tab.wf_iff [DecidableEq α] {d : α} {t : Tab α} : Tab.wf d t = true ↔ Tab.above d none t := by
  induction t with
  | nil => simp [Tab.wf, Tab.above]
  | cons e t ih =>
    obtain ⟨i, v⟩ := e
    cases t with
    | nil => simp [Tab.wf, Tab.above]
    | cons f t =>
      obtain ⟨j, w⟩ := f
      simp only [Tab.wf, Bool.and_eq_true, decide_eq_true_eq, ih, Tab.above, Option.mem_def]
      constructor
      · rintro ⟨⟨a, b⟩, -, c, e⟩
        exact ⟨by simp, b, fun k hk => by cases hk; exact a, c, e⟩
      · rintro ⟨-, b, a, c, e⟩
        exact ⟨⟨a i rfl, b⟩, by simp, c, e⟩

/-- A key below every listed key reads as the default. -/
theorem tget_above [DecidableEq α] {d : α} {i k : Nat} {t : Tab α} (h : Tab.above d (some i) t) (hk : k ≤ i) : tget d t k = d := by
  cases t with
  | nil => rfl
  | cons e t =>
    obtain ⟨j, w⟩ := e
    have : i < j := h.1 i rfl
    have h1 : j ≠ k := by omega
    have h2 : k < j := by omega
    simp [tget, h1, h2]

theorem tdel_above [DecidableEq α] {d : α} {b : Option Nat} {t : Tab α} (k : Nat) (h : Tab.above d b t) : Tab.above d b (tdel t k) := by
  induction t generalizing b with
  | nil => trivial
  | cons e t ih =>
    obtain ⟨i, v⟩ := e
    obtain ⟨h1, h2, h3⟩ := h
    simp only [tdel]
    split
    · cases b with
      | none => exact Tab.above_weaken h3
      | some j => exact Tab.above_le h3 (Nat.le_of_lt (h1 j rfl))
    · split
      · exact ⟨h1, h2, h3⟩
      · exact ⟨h1, h2, ih h3⟩

theorem tput_above [DecidableEq α] {d : α} {b : Option Nat} {t : Tab α} {k : Nat} {v : α} (hv : v ≠ d) (hk : ∀ j ∈ b, j < k)
    (h : Tab.above d b t) : Tab.above d b (tput t k v) := by
  induction t generalizing b with
  | nil => exact ⟨hk, hv, trivial⟩
  | cons e t ih =>
    obtain ⟨i, w⟩ := e
    obtain ⟨h1, h2, h3⟩ := h
    simp only [tput]
    split
    · rename_i hi
      subst hi
      exact ⟨h1, hv, h3⟩
    · split
      · rename_i hlt
        exact ⟨hk, hv, fun j hj => by cases hj; exact hlt, h2, h3⟩
      · rename_i hne hnl
        exact ⟨h1, h2, ih (fun j hj => by cases hj; omega) h3⟩

/-- Removing a key keeps the canonical form. -/
theorem tdel_wf [DecidableEq α] {d : α} {t : Tab α} (k : Nat) (h : Tab.wf d t = true) : Tab.wf d (tdel t k) = true :=
  Tab.wf_iff.2 (tdel_above k (Tab.wf_iff.1 h))

/-- Writing a key keeps the canonical form. -/
theorem tset_wf [DecidableEq α] {d : α} {t : Tab α} (k : Nat) (v : α) (h : Tab.wf d t = true) : Tab.wf d (tset d t k v) = true := by
  unfold tset
  split
  · exact tdel_wf k h
  · rename_i hv
    exact Tab.wf_iff.2 (tput_above hv (by simp) (Tab.wf_iff.1 h))

/-- Counting at a key keeps the canonical form. -/
theorem tinc_wf {t : Tab Nat} (k : Nat) (h : Tab.wf 0 t = true) : Tab.wf 0 (tinc t k) = true := tset_wf k _ h

theorem tget_tdel [DecidableEq α] {d : α} {b : Option Nat} {t : Tab α} (k j : Nat) (h : Tab.above d b t) :
    tget d (tdel t k) j = if j = k then d else tget d t j := by
  induction t generalizing b with
  | nil => simp [tdel, tget]
  | cons e t ih =>
    obtain ⟨i, w⟩ := e
    obtain ⟨h1, h2, h3⟩ := h
    simp only [tdel]
    by_cases hik : i = k
    · subst hik
      rw [if_pos rfl]
      by_cases hj : j = i
      · rw [if_pos hj, tget_above h3 (by omega)]
      · rw [if_neg hj, tget, if_neg (fun h => hj h.symm)]
        split
        · exact tget_above h3 (by omega)
        · rfl
    · rw [if_neg hik]
      by_cases hki : k < i
      · rw [if_pos hki]
        by_cases hj : j = k
        · rw [if_pos hj, tget, if_neg (by omega), if_pos (by omega)]
        · rw [if_neg hj]
      · rw [if_neg hki, tget, tget]
        by_cases hji : i = j
        · rw [if_pos hji, if_pos hji, if_neg (by omega)]
        · rw [if_neg hji, if_neg hji]
          by_cases hlt : j < i
          · rw [if_pos hlt, if_pos hlt]; simp
          · rw [if_neg hlt, if_neg hlt, ih h3]

theorem tget_tput {d : α} {t : Tab α} (k j : Nat) (v : α) : tget d (tput t k v) j = if j = k then v else tget d t j := by
  induction t with
  | nil =>
    simp only [tput, tget]
    by_cases h : k = j
    · simp [h]
    · simp [h, Ne.symm h]
  | cons e t ih =>
    obtain ⟨i, w⟩ := e
    simp only [tput]
    by_cases hik : i = k
    · subst hik
      rw [if_pos rfl, tget, tget]
      by_cases h : i = j
      · rw [if_pos h, if_pos h.symm]
      · rw [if_neg h, if_neg h, if_neg (Ne.symm h)]
    · rw [if_neg hik]
      by_cases hki : k < i
      · rw [if_pos hki, tget]
        by_cases h : k = j
        · rw [if_pos h, if_pos h.symm]
        · rw [if_neg h, if_neg (Ne.symm h)]
          by_cases hlt : j < k
          · rw [if_pos hlt, tget, if_neg (by omega), if_pos (by omega)]
          · rw [if_neg hlt]
      · rw [if_neg hki, tget, tget]
        by_cases hji : i = j
        · rw [if_pos hji, if_pos hji, if_neg (by omega)]
        · rw [if_neg hji, if_neg hji]
          by_cases hlt : j < i
          · rw [if_pos hlt, if_pos hlt, if_neg (by omega)]
          · rw [if_neg hlt, if_neg hlt, ih]

/-- Read after write, on a table in canonical form. -/
theorem tget_tset [DecidableEq α] {d : α} {t : Tab α} (k j : Nat) (v : α) (h : Tab.wf d t = true) :
    tget d (tset d t k v) j = if j = k then v else tget d t j := by
  unfold tset
  split
  · rename_i hv
    subst hv
    exact tget_tdel k j (Tab.wf_iff.1 h)
  · exact tget_tput k j v

end Sys2Proof.Machine
end

