-- ==== Sys2Proof/Laws/Quiet.lean ====
section
/-! SUPPORT. Quiet functions: they leave the queue and the HOST_DARK latch as they were, drive no LIGHT_EN output high, and keep every
memory in canonical form. The lemmas here say how quiet functions combine. -/

namespace Sys2Proof.Machine

/-- From `s` to `t` the HOST_DARK latch and the queue stay, no LIGHT_EN output rises, and canonical memories stay canonical. -/
structure Quiet (s t : State) : Prop where
  dark : t.em.hostDark = s.em.hostDark
  light : t.pins.light &&& ~~~s.pins.light = 0
  queue : t.pending = s.pending
  mem : MemoryOk s → Memory.wf t.loupe.mem = true
  mail : MemoryOk s → t.mboxes.all (fun e => Memory.wf e.2.req) = true

variable {s0 s t : State} {α β γ : Type}

theorem quiet_refl (s : State) : Quiet s s :=
  ⟨rfl, by simp, rfl, fun h => h.1, fun h => h.2⟩

theorem quiet_ite {c : Prop} [Decidable c] {a b : State} (ha : Quiet s0 a) (hb : Quiet s0 b) : Quiet s0 (if c then a else b) := by
  split <;> assumption

theorem quiet_each {l : List α} {f : α → State → State} (h : Quiet s0 s) (hf : ∀ a t, Quiet s0 t → Quiet s0 (f a t)) :
    Quiet s0 (each l s f) := by
  induction l generalizing s with
  | nil => exact h
  | cons a l ih => exact ih (hf a s h)

theorem quiet_foldl {l : List α} {f : State → α → State} (h : Quiet s0 s) (hf : ∀ a t, Quiet s0 t → Quiet s0 (f t a)) :
    Quiet s0 (l.foldl f s) := by
  induction l generalizing s with
  | nil => exact h
  | cons a l ih => exact ih (hf a s h)

theorem quiet_each_snd {l : List α} {x : β × State} {f : α → β × State → β × State} (h : Quiet s0 x.2)
    (hf : ∀ a y, Quiet s0 y.2 → Quiet s0 (f a y).2) : Quiet s0 (each l x f).2 := by
  induction l generalizing x with
  | nil => exact h
  | cons a l ih => exact ih (hf a x h)

theorem quiet_foldl_snd {l : List α} {x : β × State} {f : β × State → α → β × State} (h : Quiet s0 x.2)
    (hf : ∀ a y, Quiet s0 y.2 → Quiet s0 (f y a).2) : Quiet s0 (l.foldl f x).2 := by
  induction l generalizing x with
  | nil => exact h
  | cons a l ih => exact ih (hf a x h)

theorem quiet_foldl_thd {l : List α} {x : β × γ × State} {f : β × γ × State → α → β × γ × State} (h : Quiet s0 x.2.2)
    (hf : ∀ a y, Quiet s0 y.2.2 → Quiet s0 (f y a).2.2) : Quiet s0 (l.foldl f x).2.2 := by
  induction l generalizing x with
  | nil => exact h
  | cons a l ih => exact ih (hf a x h)

theorem quiet_foldl_fst {l : List α} {x : State × β} {f : State × β → α → State × β} (h : Quiet s0 x.1)
    (hf : ∀ a y, Quiet s0 y.1 → Quiet s0 (f y a).1) : Quiet s0 (l.foldl f x).1 := by
  induction l generalizing x with
  | nil => exact h
  | cons a l ih => exact ih (hf a x h)

/-- A state written as a record is quiet when its latch, its light, its queue, its loupe and its mailboxes are. -/
theorem quiet_mk {a02 a03 a04 a05 a08 a09 a10 a12 a13 a14 a15 a16 a17 a18 a19 a20 a21 a22 a23 a24 a25 a26 a27 a28 a29 a30 a31 a32 a33
    a35 a36 a37 a38 a39 a40 a41} {p : List Instr} {pins : Pins} {em : Emergency} {mb : Tab Mbox} {lo : Loupe}
    (h1 : em.hostDark = s0.em.hostDark) (h2 : pins.light &&& ~~~s0.pins.light = 0) (h3 : p = s0.pending)
    (h4 : MemoryOk s0 → Memory.wf lo.mem = true) (h5 : MemoryOk s0 → mb.all (fun e => Memory.wf e.2.req) = true) :
    Quiet s0 (State.mk p a02 a03 a04 a05 pins em a08 a09 a10 mb a12 a13 a14 a15 a16 a17 a18 a19 a20 a21 a22 a23 a24 a25 a26 a27 a28 a29
    a30 a31 a32 a33 lo a35 a36 a37 a38 a39 a40 a41) :=
  ⟨h1, h2, h3, h4, h5⟩

/-- A state written as a record over `u` is quiet when `u` is and the fields that matter are those of `u`. -/
theorem quiet_with {u : State} {a02 a03 a04 a05 a08 a09 a10 a12 a13 a14 a15 a16 a17 a18 a19 a20 a21 a22 a23 a24 a25 a26 a27 a28 a29 a30
    a31 a32 a33 a35 a36 a37 a38 a39 a40 a41} (h : Quiet s0 u) :
        Quiet s0 (State.mk u.pending a02 a03 a04 a05 u.pins u.em a08 a09 a10 u.mboxes a12 a13 a14 a15 a16 a17 a18 a19 a20 a21 a22 a23
    a24 a25 a26 a27 a28 a29 a30 a31 a32 a33 u.loupe a35 a36 a37 a38 a39 a40 a41) :=
  ⟨h.dark, h.light, h.queue, h.mem, h.mail⟩

theorem tdel_all {P : Nat × α → Bool} {t : Tab α} (k : Nat) (h : t.all P = true) : (tdel t k).all P = true := by
  induction t with
  | nil => rfl
  | cons e t ih =>
    obtain ⟨i, v⟩ := e
    simp only [List.all_cons, Bool.and_eq_true] at h
    unfold tdel
    split
    · exact h.2
    · split
      · simp only [List.all_cons, Bool.and_eq_true]; exact h
      · simp only [List.all_cons, Bool.and_eq_true]; exact ⟨h.1, ih h.2⟩

theorem tput_all {P : Nat × α → Bool} {t : Tab α} {k : Nat} {v : α} (hv : P (k, v) = true) (h : t.all P = true) :
    (tput t k v).all P = true := by
  induction t with
  | nil => simp [tput, hv]
  | cons e t ih =>
    obtain ⟨i, w⟩ := e
    simp only [List.all_cons, Bool.and_eq_true] at h
    unfold tput
    split
    · simp only [List.all_cons, Bool.and_eq_true]; exact ⟨hv, h.2⟩
    · split
      · simp only [List.all_cons, Bool.and_eq_true]; exact ⟨hv, h⟩
      · simp only [List.all_cons, Bool.and_eq_true]; exact ⟨h.1, ih h.2⟩

theorem tset_all [DecidableEq α] {P : Nat × α → Bool} {t : Tab α} {d : α} {k : Nat} {v : α} (hv : P (k, v) = true) (h : t.all P = true) :
    (tset d t k v).all P = true := by
  unfold tset; split
  · exact tdel_all k h
  · exact tput_all hv h

theorem tget_all {Q : α → Bool} {t : Tab α} {d : α} {k : Nat} (hd : Q d = true) (h : t.all (fun e => Q e.2) = true) :
    Q (tget d t k) = true := by
  induction t with
  | nil => exact hd
  | cons e t ih =>
    obtain ⟨i, w⟩ := e
    simp only [List.all_cons, Bool.and_eq_true] at h
    unfold tget
    split
    · exact h.1
    · split
      · exact hd
      · exact ih h.2

/-- Changing a mailbox is quiet when its request area stays canonical. -/
theorem quiet_updMbox {m : Nat} {f : Mbox → Mbox} (h : Quiet s0 s) (hf : ∀ b, Memory.wf b.req = true → Memory.wf (f b).req = true) :
    Quiet s0 (s.updMbox m f) :=
  ⟨h.dark, h.light, h.queue, h.mem, fun k => by
    have e : (s.updMbox m f).mboxes = tset {} s.mboxes m (f (s.mbox m)) := rfl
    rw [e]
    exact tset_all (hf _ (tget_all (Q := fun (b : Mbox) => Memory.wf b.req) rfl (h.mail k))) (h.mail k)⟩

/-- Writing a byte is setting an entry of the table of bytes that are not 0. -/
theorem putByte_eq (m : List Host.Cell) (a : Nat) (b : Byte) : putByte m a b = tset 0 m a b := by
  induction m with
  | nil => unfold putByte tset; split <;> rfl
  | cons e t ih =>
    obtain ⟨i, w⟩ := e
    unfold putByte tset
    by_cases h0 : b = 0
    · simp only [h0, if_true, tdel]
      rw [h0, tset, if_pos rfl] at ih
      rw [ih]
    · simp only [h0, if_false, tput]
      rw [tset, if_neg h0] at ih
      rw [ih]

/-- Writing bytes keeps the canonical form. -/
theorem putBytes_wf {m : List Host.Cell} {a : Nat} {p : Bytes} (h : Memory.wf m = true) : Memory.wf (putBytes m a p) = true := by
  induction p generalizing m a with
  | nil => exact h
  | cons b p ih =>
    refine ih ?_
    rw [putByte_eq]
    exact tset_wf a b h

/-- What a run of a command may come to: an answer or a later answer in a state that is quiet, or a refusal. -/
def QuietRan (s0 : State) (x : Ran) : Prop := ∀ t p, x = .ok (t, p) → Quiet s0 t

theorem quietRan_ok {b : Bytes} (h : Quiet s0 s) : QuietRan s0 (ok s b) := by
  intro t p e; cases e; exact h

theorem quietRan_later (h : Quiet s0 s) : QuietRan s0 (later s) := by
  intro t p e; cases e; exact h

theorem quietRan_pair {p : Option Reply} (h : Quiet s0 s) : QuietRan s0 (.ok (s, p)) := by
  intro t p e; cases e; exact h

theorem quietRan_error {e : Refuse} : QuietRan s0 (.error e) := by
  intro t p h; cases h

/-- The same for a run that answers something with a state in it, which `g` picks out. -/
def QuietEx (g : α → State) (s0 : State) (x : Except Refuse α) : Prop := ∀ y, x = .ok y → Quiet s0 (g y)

theorem quietEx_ok {g : α → State} {y : α} (h : Quiet s0 (g y)) : QuietEx g s0 (.ok y) := by
  intro z e; cases e; exact h

theorem quietEx_error {g : α → State} {e : Refuse} : QuietEx g s0 (.error e) := by
  intro z h; cases h

theorem quietRan_guarded {l : List (Bool × Refuse)} {k : Ran} (h : QuietRan s0 k) : QuietRan s0 (guarded l k) := by
  unfold guarded; split
  · exact quietRan_error
  · exact h

end Sys2Proof.Machine
end

