-- ==== Sys2Proof/Laws/QuietOps.lean ====
section
/-! SUPPORT. Quiet functions (`Quiet` of Laws/Quiet.lean): the shared operations, faults, pools, leases and the host block. -/

namespace Sys2Proof.Machine

theorem quiet_updLink {s0 s : State} (l : Nat) (f : Link → Link) (h : Quiet s0 s) : Quiet s0 (State.updLink s l f) := by
  delta State.updLink
  with_reducible exact quiet_with ‹_›

theorem quiet_updSense {s0 s : State} (l : Nat) (f : SenseLink → SenseLink) (h : Quiet s0 s) : Quiet s0 (State.updSense s l f) := by
  delta State.updSense
  with_reducible exact quiet_with ‹_›

theorem quiet_updBezel {s0 s : State} (l : Nat) (f : Bezel → Bezel) (h : Quiet s0 s) : Quiet s0 (State.updBezel s l f) := by
  delta State.updBezel
  with_reducible exact quiet_with ‹_›

theorem quiet_updDrive {s0 s : State} (c : Nat) (f : Drive → Drive) (h : Quiet s0 s) : Quiet s0 (State.updDrive s c f) := by
  delta State.updDrive
  with_reducible exact quiet_with ‹_›

theorem quiet_updMon {s0 s : State} (m : Nat) (f : Mon → Mon) (h : Quiet s0 s) : Quiet s0 (State.updMon s m f) := by
  delta State.updMon
  with_reducible exact quiet_with ‹_›

theorem quiet_updCtx {s0 s : State} (c : Nat) (f : Ctx → Ctx) (h : Quiet s0 s) : Quiet s0 (State.updCtx s c f) := by
  delta State.updCtx
  with_reducible exact quiet_with ‹_›

theorem quiet_updEngine {s0 s : State} (e : Nat) (f : Engine → Engine) (h : Quiet s0 s) : Quiet s0 (State.updEngine s e f) := by
  delta State.updEngine
  with_reducible exact quiet_with ‹_›

theorem quiet_updPlane {s0 s : State} (p : Nat) (f : Plane → Plane) (h : Quiet s0 s) : Quiet s0 (State.updPlane s p f) := by
  delta State.updPlane
  with_reducible exact quiet_with ‹_›

theorem quiet_updSlot {s0 s : State} (p : Nat) (n : Nat) (f : Slot → Slot) (h : Quiet s0 s) : Quiet s0 (State.updSlot s p n f) := by
  delta State.updSlot
  with_reducible exact quiet_with ‹_›


theorem quiet_updLane {s0 s : State} (n : Nat) (f : Lane → Lane) (h : Quiet s0 s) : Quiet s0 (State.updLane s n f) := by
  delta State.updLane
  with_reducible exact quiet_with ‹_›

theorem quiet_updSnap {s0 s : State} (b : Nat) (f : SnapBank → SnapBank) (h : Quiet s0 s) : Quiet s0 (State.updSnap s b f) := by
  delta State.updSnap
  with_reducible exact quiet_with ‹_›

theorem quiet_updDplane {s0 s : State} (d : Nat) (f : DPlane → DPlane) (h : Quiet s0 s) : Quiet s0 (State.updDplane s d f) := by
  delta State.updDplane
  repeat' (first
    | lift_lets -underBinder | (intro y; clear_value y) | with_reducible exact quiet_with ‹_›)

theorem quiet_updChainPlane {s0 s : State} (d : Nat) (f : ChainPlane → ChainPlane) (h : Quiet s0 s) : Quiet s0
    (State.updChainPlane s d f) := by
  delta State.updChainPlane
  repeat' (first
    | lift_lets -underBinder | (intro y; clear_value y) | with_reducible exact quiet_with ‹_›)

theorem quiet_updEp {s0 s : State} (e : Nat) (f : Endpoint → Endpoint) (h : Quiet s0 s) : Quiet s0 (State.updEp s e f) := by
  delta State.updEp
  repeat' (first
    | lift_lets -underBinder | (intro y; clear_value y) | with_reducible exact quiet_with ‹_›)

theorem quiet_updDemand {s0 s : State} (i : Nat) (f : Demand → Demand) (h : Quiet s0 s) : Quiet s0 (State.updDemand s i f) := by
  delta State.updDemand
  repeat' (first
    | lift_lets -underBinder | (intro y; clear_value y) | with_reducible exact quiet_with ‹_›)

theorem quiet_updRlink {s0 s : State} (k : Nat) (f : RLink → RLink) (h : Quiet s0 s) : Quiet s0 (State.updRlink s k f) := by
  delta State.updRlink
  repeat' (first
    | lift_lets -underBinder | (intro y; clear_value y) | with_reducible exact quiet_with ‹_›)

theorem quiet_updClasp {s0 s : State} (w : Bool) (f : Clasp → Clasp) (h : Quiet s0 s) : Quiet s0 (State.updClasp s w f) := by
  delta State.updClasp
  repeat' (first
    | lift_lets -underBinder | (intro y; clear_value y) | with_reducible exact quiet_with ‹_›)

theorem quiet_updMember {s0 s : State} (n : Nat) (f : Member → Member) (h : Quiet s0 s) : Quiet s0 (State.updMember s n f) := by
  delta State.updMember
  repeat' (first
    | lift_lets -underBinder | (intro y; clear_value y) | with_reducible exact quiet_with ‹_›)

theorem quiet_updPtemp {s0 s : State} (p : Nat) (f : PlaneTemp → PlaneTemp) (h : Quiet s0 s) : Quiet s0 (State.updPtemp s p f) := by
  delta State.updPtemp
  repeat' (first
    | lift_lets -underBinder | (intro y; clear_value y) | with_reducible exact quiet_with ‹_›)

theorem quiet_updSensor {s0 s : State} (i : Nat) (f : Sensor → Sensor) (h : Quiet s0 s) : Quiet s0 (State.updSensor s i f) := by
  delta State.updSensor
  repeat' (first
    | lift_lets -underBinder | (intro y; clear_value y) | with_reducible exact quiet_with ‹_›)

theorem quiet_draw {s0 s : State} (h : Quiet s0 s) : Quiet s0 (s.draw).2 := by
  delta State.draw
  exact ⟨h.dark, h.light, h.queue, h.mem, h.mail⟩

theorem quiet_emit {s0 s : State} (o : Output) (h : Quiet s0 s) : Quiet s0 (State.emit s o) := by
  delta State.emit
  with_reducible exact quiet_with ‹_›

theorem quiet_sendVector {s0 s : State} (v : Nat) (h : Quiet s0 s) : Quiet s0 (sendVector v s) := by
  delta sendVector
  repeat' (first
    | lift_lets -underBinder | (intro y; clear_value y)
    | with_reducible (first | assumption | apply quiet_emit | apply quiet_ite | exact quiet_with ‹_›))

theorem quiet_dmaWrite {s0 s : State} (addr : Nat) (data : Bytes) (h : Quiet s0 s) : Quiet s0 (dmaWrite addr data s) := by
  delta dmaWrite
  repeat' (first
    | lift_lets -underBinder | with_reducible (first | assumption | apply quiet_emit | apply quiet_ite))

theorem quiet_stageRec {s0 s : State} (t : Nat) (x : Nat) (body : Bytes) (h : Quiet s0 s) : Quiet s0 (stageRec t x body s) := by
  delta stageRec
  repeat' (first
    | lift_lets -underBinder | (intro (y : Loupe); dsimp -zeta only [y]; clear y)
    | with_reducible (first
      | assumption | apply quiet_ite
      | exact quiet_mk (Quiet.dark ‹_›) (Quiet.light ‹_›) (Quiet.queue ‹_›) (Quiet.mem ‹_›) (Quiet.mail ‹_›))
    | split)

theorem ringPut_wf {rb : Ring × List Host.Cell} {bs : Bytes} (h : Memory.wf rb.2 = true) : Memory.wf (ringPut rb bs).2 = true := by
  unfold ringPut
  dsimp only
  split
  · exact h
  · split
    · exact h
    · exact putBytes_wf h

theorem ringBase_wf {now : NetTime} {rb : Ring × List Host.Cell} (h : Memory.wf rb.2 = true) : Memory.wf (ringBase now rb).2 = true := by
  unfold ringBase
  dsimp only
  split
  · exact ringPut_wf h
  · exact h

theorem wf_ite {c : Prop} [Decidable c] {a b : Ring × List Host.Cell} (ha : Memory.wf a.2 = true) (hb : Memory.wf b.2 = true) :
    Memory.wf (if c then a else b).2 = true := by
  split <;> assumption

theorem ringWrite_wf {x : LRec} {rb : Ring × List Host.Cell} (h : Memory.wf rb.2 = true) : Memory.wf (ringWrite x rb).2 = true := by
  unfold ringWrite
  dsimp only
  refine wf_ite h (ringPut_wf (wf_ite (ringPut_wf ?_) ?_)) <;> exact ringBase_wf (wf_ite (ringPut_wf h) h)

theorem quiet_drainLoupe {s0 s : State} (h : Quiet s0 s) : Quiet s0 (drainLoupe s) := by
  refine ⟨h.dark, h.light, h.queue, fun k => ?_, h.mail⟩
  have key : ∀ (l : List LRec) (a : Tab Ring × List Host.Cell), Memory.wf a.2 = true →
      Memory.wf (l.foldl (fun (a : Tab Ring × List Host.Cell) (x : LRec) =>
        match a.1.find? (fun r => r.2.mode != 0 && bit r.2.types x.type) with
        | none => a
        | some r => (tput a.1 r.1 (ringWrite x (r.2, a.2)).1, (ringWrite x (r.2, a.2)).2)) a).2 = true := by
    intro l
    induction l with
    | nil => intro a ha; exact ha
    | cons x l ih =>
      intro a ha
      refine ih _ ?_
      dsimp only
      split
      · exact ha
      · exact ringWrite_wf ha
  exact key _ _ (h.mem k)

theorem quiet_setImage {s0 s : State} (l : Nat) (w : Nat) (v : Nat) (h : Quiet s0 s) : Quiet s0 (setImage l w v s) := by
  delta setImage
  repeat' (first
    | lift_lets -underBinder | with_reducible (first | assumption | apply quiet_updLink | apply quiet_ite))

theorem quiet_setElemHalf {s0 s : State} (ch : Nat) (v : Nat) (h : Quiet s0 s) : Quiet s0 (setElemHalf ch v s) := by
  delta setElemHalf
  repeat' (first
    | lift_lets -underBinder | (intro y; clear_value y) | with_reducible (first | assumption | apply quiet_setImage))

theorem quiet_setRangeBit {s0 s : State} (ch : Nat) (high : Bool) (h : Quiet s0 s) : Quiet s0 (setRangeBit ch high s) := by
  delta setRangeBit
  repeat' (first
    | lift_lets -underBinder | with_reducible (first | assumption | apply quiet_setElemHalf))

theorem quiet_setFsTrim {s0 s : State} (ch : Nat) (v : Nat) (h : Quiet s0 s) : Quiet s0 (setFsTrim ch v s) := by
  delta setFsTrim
  repeat' (first
    | lift_lets -underBinder | with_reducible (first | assumption | apply quiet_setElemHalf))

theorem quiet_setMonBit {s0 s : State} (m : Nat) (en : Bool) (h : Quiet s0 s) : Quiet s0 (setMonBit m en s) := by
  delta setMonBit
  repeat' (first
    | lift_lets -underBinder | (intro y; clear_value y) | with_reducible (first | assumption | apply quiet_setImage))

theorem quiet_setMonTrim {s0 s : State} (m : Nat) (ofs : Int) (gain : Nat) (h : Quiet s0 s) : Quiet s0 (setMonTrim m ofs gain s) := by
  delta setMonTrim
  repeat' (first
    | lift_lets -underBinder | (intro y; clear_value y)
    | with_reducible (first | assumption | apply quiet_setImage | apply quiet_updMon | apply quiet_ite))

theorem quiet_setRatio {s0 s : State} (l : Nat) (g : Nat) (r13 : Nat) (r23 : Nat) (h : Quiet s0 s) : Quiet s0 (setRatio l g r13 r23 s) := by
  delta setRatio
  repeat' (first
    | lift_lets -underBinder | with_reducible (first | assumption | apply quiet_setImage))

theorem quiet_loadTrims {s0 s : State} (old : Cal) (new : Cal) (h : Quiet s0 s) : Quiet s0 (loadTrims old new s) := by
  delta loadTrims
  repeat' (first
    | lift_lets -underBinder | (intro y; refine (fun (hy : Quiet s0 y) => ?_) ?_ <;> [clear_value y; dsimp -zeta only [y]])
    | with_reducible (first
      | assumption | apply quiet_setFsTrim | apply quiet_setMonTrim | apply quiet_setRatio | refine quiet_each ?_ (fun a t ht => ?_)))

theorem quiet_dropRunTrims {s0 s : State} (h : Quiet s0 s) : Quiet s0 (dropRunTrims s) := by
  delta dropRunTrims
  repeat' (first
    | lift_lets -underBinder | with_reducible (first | assumption | apply quiet_loadTrims) | split)

theorem quiet_relayCount {s0 s : State} (k : Nat) (i : Nat) (n : Nat) (h : Quiet s0 s) : Quiet s0 (relayCount k i n s) := by
  delta relayCount
  repeat' (first
    | lift_lets -underBinder | (intro y; clear_value y) | with_reducible (first | assumption | apply quiet_updRlink))

theorem quiet_setCredit {s0 s : State} (west : Bool) (cls : Nat) (n : Nat) (h : Quiet s0 s) : Quiet s0 (setCredit west cls n s) := by
  delta setCredit
  repeat' (first
    | lift_lets -underBinder | (intro y; clear_value y) | with_reducible exact quiet_with ‹_›)

theorem quiet_claspOut {s0 s : State} (west : Bool) (m : Msg) (h : Quiet s0 s) : Quiet s0 (claspOut west m s) := by
  delta claspOut
  repeat' (first
    | lift_lets -underBinder | (intro y; clear_value y)
    | with_reducible (first | assumption | apply quiet_relayCount | apply quiet_ite | exact quiet_with ‹_›))

theorem quiet_awaitAck {s0 s : State} (m : Msg) (west : Bool) (want : List Nat) (h : Quiet s0 s) : Quiet s0 (awaitAck m west want s) := by
  delta awaitAck
  repeat' (first
    | lift_lets -underBinder | (intro y; clear_value y) | with_reducible exact quiet_with ‹_›)

theorem quiet_claspSend {s0 s : State} (code : Nat) (dst : Nat) (body : Bytes) (h : Quiet s0 s) : Quiet s0 (claspSend code dst body s) := by
  delta claspSend
  repeat' (first
    | lift_lets -underBinder | (intro y; refine (fun (hy : Quiet s0 y) => ?_) ?_ <;> [clear_value y; dsimp -zeta only [y]])
    | (intro y; clear_value y)
    | with_reducible (first
      | assumption | apply quiet_claspOut | apply quiet_awaitAck | apply quiet_ite | exact quiet_with ‹_›))

theorem quiet_notice {s0 s : State} (kind : Nat) (p : Nat) (e : Nat) (inp : Nat) (out : Nat) (t : NetTime) (launch : Nat) (h
    : Quiet s0 s) : Quiet s0 (notice kind p e inp out t launch s) := by
  delta notice
  repeat' (first
    | lift_lets -underBinder | with_reducible (first | assumption | apply quiet_claspSend | apply quiet_ite))

theorem quiet_claspCount {s0 s : State} (west : Bool) (i : Nat) (h : Quiet s0 s) : Quiet s0 (claspCount west i s) := by
  delta claspCount
  repeat' (first
    | lift_lets -underBinder | with_reducible (first | assumption | apply quiet_updClasp))

theorem quiet_darkOut {s0 s : State} (origin : Nat) (ident : Nat) (west : Bool) (h : Quiet s0 s) : Quiet s0 (darkOut origin ident west s)
    := by
  delta darkOut
  repeat' (first
    | lift_lets -underBinder | with_reducible (first | assumption | apply quiet_claspCount | apply quiet_emit | apply quiet_ite))

theorem quiet_sendDark {s0 s : State} (h : Quiet s0 s) : Quiet s0 (sendDark s) := by
  delta sendDark
  repeat' (first
    | lift_lets -underBinder | (intro y; refine (fun (hy : Quiet s0 y) => ?_) ?_ <;> [clear_value y; dsimp -zeta only [y]])
    | (intro y; clear_value y) | with_reducible (first | assumption | apply quiet_darkOut | exact quiet_with ‹_›))

theorem quiet_evUpdate {s0 s : State} (f : Events → Events) (h : Quiet s0 s) : Quiet s0 (evUpdate f s) := by
  delta evUpdate
  repeat' (first
    | lift_lets -underBinder | (intro y; refine (fun (hy : Quiet s0 y) => ?_) ?_ <;> [clear_value y; dsimp -zeta only [y]])
    | (intro y; clear_value y)
    | with_reducible (first
      | assumption | apply quiet_sendVector | exact quiet_with ‹_› | refine quiet_each ?_ (fun a t ht => ?_)))

theorem quiet_forwardEvent {s0 s : State} (e : Nat) (d : EvData) (h : Quiet s0 s) : Quiet s0 (forwardEvent e d s) := by
  delta forwardEvent
  repeat' (first
    | lift_lets -underBinder | (intro y; clear_value y)
    | with_reducible (first | assumption | apply quiet_claspSend | apply quiet_ite | exact quiet_with ‹_›))

theorem quiet_raiseEvent {s0 s : State} (e : Nat) (d : EvData) (h : Quiet s0 s) : Quiet s0 (raiseEvent e d s) := by
  delta raiseEvent
  repeat' (first
    | lift_lets -underBinder | (intro y; refine (fun (hy : Quiet s0 y) => ?_) ?_ <;> [clear_value y; dsimp -zeta only [y]])
    | with_reducible (first
      | assumption | apply quiet_evUpdate | apply quiet_stageRec | apply quiet_forwardEvent | apply quiet_ite))

theorem quiet_notify {s0 s : State} {old : State} (h : Quiet s0 s) : Quiet s0 (notify old s) := by
  have h1 : Quiet s0 (if maxSev old ≠ maxSev s ∨ old.sys.st ≠ s.sys.st then { s with sys := { s.sys with smbAlert := true } } else s) :=
    quiet_ite ⟨h.dark, h.light, h.queue, h.mem, h.mail⟩ h
  exact quiet_ite (quiet_sendVector 18 h1) h1

theorem quiet_enterState {s0 s : State} (n : Nat) (h : Quiet s0 s) : Quiet s0 (enterState n s) := by
  delta enterState
  repeat' (first
    | lift_lets -underBinder | (intro y; clear_value y)
    | with_reducible (first
      | assumption | apply quiet_raiseEvent | apply quiet_notify | apply quiet_ite | exact quiet_with ‹_›))

theorem quiet_reState {s0 s : State} (h : Quiet s0 s) : Quiet s0 (reState s) := by
  delta reState
  repeat' (first
    | lift_lets -underBinder | with_reducible (first | assumption | apply quiet_enterState | apply quiet_ite))

theorem quiet_restartConvs {s0 s : State} (l : Nat) (lost : Bool) (f : Nat → Bool) (h : Quiet s0 s) : Quiet s0 (restartConvs l lost f s)
    := by
  delta restartConvs
  repeat' (first
    | lift_lets -underBinder | with_reducible (first | assumption | apply quiet_updLink))

theorem quiet_fzRestart {s0 s : State} {old : State} (h : Quiet s0 s) : Quiet s0 (fzRestart old s) := by
  unfold fzRestart
  exact quiet_each h (fun a t ht => quiet_restartConvs _ _ _ ht)

theorem quiet_askFilter {s0 s : State} (c : Nat) (h : Quiet s0 s) : Quiet s0 (askFilter c s) := by
  delta askFilter
  repeat' (first
    | lift_lets -underBinder | with_reducible (first | assumption | apply quiet_updMon) | split)

theorem quiet_dropImplicit {s0 s : State} (cls : Nat) (use : Nat) (first : Nat) (h : Quiet s0 s) : Quiet s0
    (dropImplicit cls use first s) := by
  delta dropImplicit
  repeat' (first
    | with_reducible (first | assumption | exact quiet_with ‹_›) | split)

theorem quiet_captureEnded {s0 s : State} (c : Nat) (h : Quiet s0 s) : Quiet s0 (captureEnded c s) := by
  delta captureEnded
  repeat' (first
    | lift_lets -underBinder | with_reducible (first | assumption | apply quiet_raiseEvent | apply quiet_dropImplicit))

theorem quiet_stopCapture {s0 s : State} (c : Nat) (h : Quiet s0 s) : Quiet s0 (stopCapture c s) := by
  delta stopCapture
  repeat' (first
    | lift_lets -underBinder | with_reducible (first | assumption | apply quiet_captureEnded | apply quiet_updCtx | apply quiet_ite))

theorem quiet_goOpen {s0 s : State} (c : Nat) (h : Quiet s0 s) : Quiet s0 (goOpen c s) := by
  delta goOpen
  repeat' (first
    | lift_lets -underBinder | (intro y; refine (fun (hy : Quiet s0 y) => ?_) ?_ <;> [clear_value y; dsimp -zeta only [y]])
    | with_reducible (first
      | assumption | apply quiet_askFilter | apply quiet_updCtx | apply quiet_updDrive | apply quiet_captureEnded | apply quiet_ite
      | refine quiet_each ?_ (fun a t ht => ?_)))

theorem quiet_forceZero {s0 s : State} (ch : Nat) (mark : Drive → Drive) (h : Quiet s0 s) : Quiet s0 (forceZero ch mark s) := by
  delta forceZero
  repeat' (first
    | lift_lets -underBinder | (intro y; refine (fun (hy : Quiet s0 y) => ?_) ?_ <;> [clear_value y; dsimp -zeta only [y]])
    | with_reducible (first | assumption | apply quiet_restartConvs | apply quiet_goOpen | apply quiet_updDrive))

theorem light_and {a b x : BitVec 8} (h : a &&& ~~~x = 0) : a &&& b &&& ~~~x = 0 := by
  rw [BitVec.and_assoc, BitVec.and_comm b, ← BitVec.and_assoc, h]; simp

theorem light_fold {l : List Nat} {a x : BitVec 8} (h : a &&& ~~~x = 0) :
    l.foldl (fun (b : BitVec 8) l => b &&& ~~~(1#8 <<< l)) a &&& ~~~x = 0 := by
  induction l generalizing a with
  | nil => exact h
  | cons n l ih => exact ih (light_and h)

theorem quiet_hwDarkPlane {s0 s : State} (p : Nat) (h : Quiet s0 s) : Quiet s0 (hwDarkPlane p s) := by
  obtain ⟨x, hx⟩ : ∃ x : State, x = { s with pins := { s.pins with
      light := (s.linksOf p).foldl (fun (b : BitVec 8) l => b &&& ~~~(1#8 <<< l)) s.pins.light } } := ⟨_, rfl⟩
  have h1 : Quiet s0 x := by
    rw [hx]
    exact ⟨h.dark, light_fold h.light, h.queue, h.mem, h.mail⟩
  have h2 : Quiet s0 (each (s.linksOf p) x (fun l => restartConvs l false (fun c => x.isShutter c && !forced x c))) :=
    quiet_each h1 (fun a t ht => quiet_restartConvs _ _ _ ht)
  rw [hx] at h2
  unfold hwDarkPlane
  refine quiet_updPlane p _ ?_
  exact quiet_mk h2.dark h2.light h2.queue h2.mem h2.mail

theorem quiet_hwDarkAll {s0 s : State} (h : Quiet s0 s) : Quiet s0 (hwDarkAll s) := by
  have h1 := quiet_each (l := s.planeIds) h (f := hwDarkPlane) (fun a t ht => quiet_hwDarkPlane a ht)
  exact ⟨h1.dark, by show (0 : BitVec 8) &&& _ = 0; simp, h1.queue, h1.mem, h1.mail⟩

theorem quiet_lightOff {s0 s : State} (l : Nat) (h : Quiet s0 s) : Quiet s0 (lightOff l s) :=
  ⟨h.dark, light_and h.light, h.queue, h.mem, h.mail⟩

theorem quiet_addTask {s0 s : State} (t : FwTask) (h : Quiet s0 s) : Quiet s0 (addTask t s) := by
  delta addTask
  repeat' (first
    | lift_lets -underBinder | (intro y; clear_value y) | with_reducible (first | assumption | apply quiet_ite | exact quiet_with ‹_›))

theorem quiet_contain {s0 s : State} (p : Nat) (inp : Nat) (out : Nat) (e : Nat) (h : Quiet s0 s) : Quiet s0 (contain p inp out e s) := by
  delta contain
  repeat' (first
    | lift_lets -underBinder | (intro y; refine (fun (hy : Quiet s0 y) => ?_) ?_ <;> [clear_value y; dsimp -zeta only [y]])
    | with_reducible (first | assumption | apply quiet_forceZero | apply quiet_updPlane | apply quiet_addTask) | split)

theorem quiet_calAbort {s0 s : State} (p : Nat) (e : Nat) (h : Quiet s0 s) : Quiet s0 (calAbort p e s) := by
  delta calAbort
  repeat' (first
    | lift_lets -underBinder | (intro y; refine (fun (hy : Quiet s0 y) => ?_) ?_ <;> [clear_value y; dsimp -zeta only [y]])
    | (intro y; clear_value y)
    | with_reducible (first
      | assumption | apply quiet_dropRunTrims | apply quiet_raiseEvent | apply quiet_ite | exact quiet_with ‹_›)
    | split)

theorem quiet_react {s0 s : State} (sev : Nat) (e : Nat) (scope : List EvData) (prop : Bool) (h : Quiet s0 s) : Quiet s0
    (react sev e scope prop s) := by
  delta react
  repeat' (first
    | lift_lets -underBinder | (intro y; refine (fun (hy : Quiet s0 y) => ?_) ?_ <;> [clear_value y; dsimp -zeta only [y]])
    | with_reducible (first
      | assumption | apply quiet_contain | apply quiet_forceZero | apply quiet_addTask | apply quiet_calAbort | apply quiet_hwDarkPlane
      | apply quiet_hwDarkAll | apply quiet_sendDark | apply quiet_ite | refine quiet_each ?_ (fun a t ht => ?_)))

theorem quiet_faultLog {s0 s : State} (e : Nat) (sev : Nat) (action : Nat) (inj : Bool) (rem : Bool) (d : EvData) (h : Quiet s0 s)
    : Quiet s0 (faultLog e sev action inj rem d s) := by
  delta faultLog
  repeat' (first
    | lift_lets -underBinder | (intro y; clear_value y) | with_reducible exact quiet_with ‹_›)

theorem quiet_setRecord {s0 s : State} (r : FaultRec) (h : Quiet s0 s) : Quiet s0 (setRecord r s) := by
  delta setRecord
  repeat' (first
    | lift_lets -underBinder | (intro y; clear_value y) | with_reducible (first | apply quiet_notify | exact quiet_with ‹_›))

theorem quiet_occur {s0 s : State} (c : Cause) (e : Nat) (d : EvData) (h : Quiet s0 s) : Quiet s0 (occur c e d s) := by
  delta occur
  repeat' (first
    | lift_lets -underBinder | (intro y; refine (fun (hy : Quiet s0 y) => ?_) ?_ <;> [clear_value y; dsimp -zeta only [y]])
    | (intro y; clear_value y) | with_reducible (first | assumption | apply quiet_setRecord | apply quiet_react | apply quiet_faultLog)
    | split)

theorem quiet_mergeOcc {s0 s : State} (c : Cause) (e : Nat) (d : EvData) (h : Quiet s0 s) : Quiet s0 (mergeOcc c e d s) := by
  delta mergeOcc
  repeat' (first
    | lift_lets -underBinder | with_reducible (first | assumption | apply quiet_react | apply quiet_setRecord | apply quiet_ite) | split)

theorem quiet_occurrence {s0 s : State} (c : Cause) (e : Nat) (d : EvData) (h : Quiet s0 s) : Quiet s0 (occurrence c e d s) := by
  delta occurrence
  repeat' (first
    | lift_lets -underBinder | (intro y; refine (fun (hy : Quiet s0 y) => ?_) ?_ <;> [clear_value y; dsimp -zeta only [y]])
    | (intro y; clear_value y)
    | with_reducible (first
      | assumption | apply quiet_reState | apply quiet_mergeOcc | apply quiet_raiseEvent | apply quiet_faultLog | apply quiet_occur
      | apply quiet_ite | exact quiet_with ‹_›)
    | split)

theorem quiet_raiseFault {s0 s : State} (e : Nat) (d : EvData) (h : Quiet s0 s) : Quiet s0 (raiseFault e d s) := by
  delta raiseFault
  repeat' (first
    | lift_lets -underBinder | with_reducible (first | assumption | apply quiet_occurrence))

theorem quiet_raiseCondBy {s0 s : State} (c : Cause) (e : Nat) (inst : Nat) (d : EvData) (h : Quiet s0 s) : Quiet s0
    (raiseCondBy c e inst d s) := by
  delta raiseCondBy
  repeat' (first
    | lift_lets -underBinder | (intro y; clear_value y)
    | with_reducible (first | assumption | apply quiet_occurrence | apply quiet_ite | exact quiet_with ‹_›))

theorem quiet_raiseCond {s0 s : State} (e : Nat) (inst : Nat) (d : EvData) (h : Quiet s0 s) : Quiet s0 (raiseCond e inst d s) := by
  delta raiseCond
  repeat' (first
    | lift_lets -underBinder | with_reducible (first | assumption | apply quiet_raiseCondBy))

theorem quiet_endCond {s0 s : State} (e : Nat) (inst : Nat) (h : Quiet s0 s) : Quiet s0 (endCond e inst s) := by
  delta endCond
  repeat' (first
    | lift_lets -underBinder | (intro y; clear_value y) | with_reducible (first | assumption | apply quiet_ite | exact quiet_with ‹_›))

theorem quiet_setCond {s0 s : State} (b : Bool) (e : Nat) (inst : Nat) (d : EvData) (h : Quiet s0 s) : Quiet s0 (setCond b e inst d s) := by
  delta setCond
  repeat' (first
    | lift_lets -underBinder | with_reducible (first | assumption | apply quiet_raiseCond | apply quiet_endCond | apply quiet_ite))

theorem quiet_releaseDark {s0 s : State} (h : Quiet s0 s) : Quiet s0 (releaseDark s) := by
  delta releaseDark
  repeat' (first
    | lift_lets -underBinder
    | with_reducible (first
      | assumption | apply quiet_fzRestart | apply quiet_updPlane | apply quiet_ite | refine quiet_each ?_ (fun a t ht => ?_)))

theorem quiet_clearRecord {s0 s : State} (r : FaultRec) (h : Quiet s0 s) : Quiet s0 (clearRecord r s) := by
  delta clearRecord
  repeat' (first
    | lift_lets -underBinder | (intro y; refine (fun (hy : Quiet s0 y) => ?_) ?_ <;> [clear_value y; dsimp -zeta only [y]])
    | (intro y; clear_value y)
    | with_reducible (first
      | assumption | apply quiet_faultLog | apply quiet_notify | apply quiet_fzRestart | apply quiet_updDrive | apply quiet_releaseDark
      | apply quiet_ite | exact quiet_with ‹_› | refine quiet_each ?_ (fun a t ht => ?_)))

theorem quiet_holdImplicit {s0 s : State} (cls : Nat) (use : Nat) (first : Nat) (count : Nat) (h : Quiet s0 s) : Quiet s0
    (holdImplicit cls use first count s) := by
  delta holdImplicit
  with_reducible exact quiet_with ‹_›

theorem quiet_updPool {s0 s : State} (n : Nat) (f : Pool → Pool) (h : Quiet s0 s) : Quiet s0 (State.updPool s n f) := by
  delta State.updPool
  with_reducible exact quiet_with ‹_›

theorem quiet_restage {s0 s : State} (n : Nat) (h : Quiet s0 s) : Quiet s0 (restage n s) := by
  delta restage
  repeat' (first
    | lift_lets -underBinder | (intro y; clear_value y)
    | with_reducible (first | assumption | apply quiet_raiseEvent | apply quiet_updPool | apply quiet_ite))

theorem quiet_allocBuf {s0 s : State} (n r refs : Nat) (h : Quiet s0 s) : Quiet s0 (allocBuf n r refs s).2 := by
  delta allocBuf
  lift_lets
  repeat' (first
    | lift_lets -underBinder | (intro y; refine (fun (hy : Quiet s0 y.2) => ?_) ?_ <;> [clear_value y; dsimp -zeta only [y]])
    | (intro y; clear_value y) | with_reducible (first | assumption | apply quiet_updPool | apply quiet_restage) | split)

theorem quiet_allocBuf_eq {s0 s t : State} {n r refs : Nat} {o : Option Nat} (e : allocBuf n r refs s = (o, t)) (h : Quiet s0 s) :
    Quiet s0 t := by
  have := quiet_allocBuf n r refs h
  rw [e] at this
  exact this

theorem quiet_allocSome {s0 s : State} {n r refs k : Nat} {x : List Nat × State} (e : allocSome n r refs k s = some x)
    (h : Quiet s0 s) : Quiet s0 x.2 := by
  induction k generalizing s x with
  | zero => cases e; exact h
  | succ k ih =>
    unfold allocSome at e
    split at e
    · cases e
    · next b t e1 =>
      have h1 : Quiet s0 t := quiet_allocBuf_eq e1 h
      cases e2 : allocSome n r refs k t with
      | none => rw [e2] at e; cases e
      | some y => rw [e2] at e; cases e; exact ih (x := y) e2 h1

theorem quiet_allocBufs {s0 s : State} (n r refs k : Nat) (h : Quiet s0 s) : Quiet s0 (allocBufs n r refs k s).2 := by
  unfold allocBufs
  split
  · next x e => exact quiet_allocSome e h
  · exact quiet_updPool _ _ h

theorem quiet_allocBufs_eq {s0 s t : State} {n r refs k : Nat} {o : Option (List Nat)}
    (e : allocBufs n r refs k s = (o, t)) (h : Quiet s0 s) : Quiet s0 t := by
  have := quiet_allocBufs n r refs k h
  rw [e] at this
  exact this

theorem quiet_freeAddr {s0 s : State} (n : Nat) (addr : Nat) (by' : Nat) (h : Quiet s0 s) : Quiet s0 (freeAddr n addr by' s) := by
  delta freeAddr
  repeat' (first
    | lift_lets -underBinder | (intro y; clear_value y)
    | with_reducible (first
      | assumption | apply quiet_raiseFault | apply quiet_updPool | apply quiet_restage | apply quiet_ite)
    | split)

theorem quiet_freeBufNo {s0 s : State} (n : Nat) (k : Nat) (by' : Nat) (h : Quiet s0 s) : Quiet s0 (freeBufNo n k by' s) := by
  delta freeBufNo
  repeat' (first
    | lift_lets -underBinder | with_reducible (first | assumption | apply quiet_freeAddr))

theorem quiet_freeBufs {s0 s : State} (n : Nat) (l : List Nat) (by' : Nat) (h : Quiet s0 s) : Quiet s0 (freeBufs n l by' s) := by
  delta freeBufs
  repeat' (first
    | lift_lets -underBinder | with_reducible (first | assumption | apply quiet_freeBufNo | refine quiet_each ?_ (fun a t ht => ?_)))

theorem quiet_finishMbox {s0 s : State} (m : Nat) (flags : Nat) (rsp : Bytes) (h : Quiet s0 s) : Quiet s0 (finishMbox m flags rsp s) := by
  delta finishMbox
  repeat' (first
    | lift_lets -underBinder | (intro y; refine (fun (hy : Quiet s0 y) => ?_) ?_ <;> [clear_value y; dsimp -zeta only [y]])
    | with_reducible (first | assumption | apply quiet_updMbox | apply quiet_sendVector) | (intro b hb; with_reducible exact hb)
    | with_reducible apply quiet_ite)

theorem quiet_stage {s0 s : State} (r : Req) (h : Quiet s0 s) : Quiet s0 (stage r s).2 := by
  unfold stage
  split
  · exact h
  · split
    · exact h
    · split
      · next e => exact quiet_allocBufs_eq e h
      · next l t e =>
        have h1 := quiet_allocBufs_eq e h
        exact quiet_updMbox (f := fun b => { b with bufs := b.bufs ++ l }) h1 (fun b hb => hb)

theorem quiet_unstage {s0 s : State} (m : Nat) (h : Quiet s0 s) : Quiet s0 (unstage m s) := by
  delta unstage
  repeat' (first
    | lift_lets -underBinder | with_reducible (first | assumption | apply quiet_freeBufs | apply quiet_updMbox)
    | (intro b hb; with_reducible exact hb) | with_reducible apply quiet_ite)

theorem quiet_answer {s0 s : State} (op : Nat) (r : Req) (st : Nat) (d0 : Nat) (d1 : Nat) (p : Reply) (h : Quiet s0 s) : Quiet s0
    (answer op r st d0 d1 p s) := by
  delta answer
  repeat' (first
    | lift_lets -underBinder | (intro y; refine (fun (hy : Quiet s0 y) => ?_) ?_ <;> [clear_value y; dsimp -zeta only [y]])
    | with_reducible (first
      | assumption | apply quiet_unstage | apply quiet_updMbox | apply quiet_dmaWrite | apply quiet_finishMbox | apply quiet_claspSend)
    | (intro b hb; with_reducible exact hb) | with_reducible (first | apply quiet_ite | refine quiet_each ?_ (fun a t ht => ?_)) | split)

theorem quiet_refuseReq {s0 s : State} (op : Nat) (r : Req) (e : Refuse) (h : Quiet s0 s) : Quiet s0 (refuseReq op r e s) := by
  delta refuseReq
  repeat' (first
    | lift_lets -underBinder | with_reducible (first | assumption | apply quiet_answer))

theorem quiet_answerOk {s0 s : State} (op : Nat) (r : Req) (p : Reply) (h : Quiet s0 s) : Quiet s0 (answerOk op r p s) := by
  delta answerOk
  repeat' (first
    | lift_lets -underBinder | with_reducible (first | assumption | apply quiet_answer))

theorem quiet_answerFit {s0 s : State} (op : Nat) (r : Req) (p : Reply) (h : Quiet s0 s) : Quiet s0 (answerFit op r p s) := by
  delta answerFit
  repeat' (first
    | lift_lets -underBinder | with_reducible (first | assumption | apply quiet_refuseReq | apply quiet_answerOk | apply quiet_ite))

theorem quiet_startRaise {s0 s : State} (mv : Nat) (h : Quiet s0 s) : Quiet s0 (startRaise mv s) := by
  delta startRaise
  repeat' (first
    | lift_lets -underBinder | (intro y; clear_value y)
    | with_reducible (first | assumption | apply quiet_emit | apply quiet_ite | exact quiet_with ‹_›) | split)

theorem quiet_runNow {s0 s : State} (c : Cmd) (r : Req) (hc : ∀ s0 s r, Quiet s0 s → QuietRan s0 (c.run r s)) (h : Quiet s0 s) :
    Quiet s0 (runNow c r s) := by
  unfold runNow
  split
  · exact quiet_refuseReq _ _ _ h
  · next t rep he =>
    have ht : Quiet s0 t := hc s0 s r h t rep he
    split
    · split
      · exact quiet_refuseReq _ _ _ h
      · split
        · exact quiet_refuseReq _ _ _ h
        · have h1 := quiet_startRaise (c.floor r.pay s) h
          exact quiet_mk h1.dark h1.light h1.queue h1.mem h1.mail
    · split
      · exact ht
      · split
        · exact quiet_answerFit _ _ _ h
        · exact quiet_answerFit _ _ _ ht

/-- Every run of a command is quiet. -/
def QuietCmd (c : Cmd) : Prop := ∀ s0 s r, Quiet s0 s → QuietRan s0 (c.run r s)

theorem quiet_runLocal {s0 s : State} (c : Cmd) (r : Req) (hc : QuietCmd c) (h : Quiet s0 s) : Quiet s0 (runLocal c r s) := by
  unfold runLocal
  split
  · exact quiet_refuseReq _ _ _ h
  · exact quiet_ite (quiet_runNow c r hc (quiet_stage r h)) (quiet_refuseReq _ _ _ (quiet_stage r h))

theorem quiet_runAgain {s0 s : State} (c : Cmd) (r : Req) (hc : QuietCmd c) (h : Quiet s0 s) : Quiet s0 (runAgain c r s) := by
  unfold runAgain
  split
  · exact quiet_refuseReq _ _ _ h
  · exact quiet_runNow c r hc h

theorem quiet_tunnelOut {s0 s : State} (op : Nat) (host : Option Nat) (r : Req) (h : Quiet s0 s) : Quiet s0 (tunnelOut op host r s) := by
  delta tunnelOut
  repeat' (first
    | lift_lets -underBinder | (intro y; refine (fun (hy : Quiet s0 y) => ?_) ?_ <;> [clear_value y; dsimp -zeta only [y]])
    | (intro y; clear_value y)
    | with_reducible (first
      | assumption | apply quiet_refuseReq | apply quiet_stage | apply quiet_claspSend | apply quiet_ite | exact quiet_with ‹_›
      | refine quiet_each ?_ (fun a t ht => ?_)))

theorem quiet_runCmd {s0 s : State} (c : Cmd) (r : Req) (hc : QuietCmd c) (h : Quiet s0 s) : Quiet s0 (runCmd c r s) := by
  unfold runCmd
  split
  · exact quiet_refuseReq _ _ _ h
  · split
    · exact quiet_refuseReq _ _ _ h
    · split
      · dsimp only
        refine quiet_refuseReq _ _ _ ?_
        exact quiet_ite (quiet_claspCount _ _ h) h
      · split
        · exact quiet_runLocal c r hc h
        · split
          · exact quiet_refuseReq _ _ _ h
          · split
            · exact quiet_refuseReq _ _ _ h
            · exact quiet_tunnelOut _ _ _ h

theorem quiet_acceptBell {s0 s : State} (m : Nat) (tag : Nat) (h : Quiet s0 s) : Quiet s0 (acceptBell m tag s) := by
  delta acceptBell
  repeat' (first
    | lift_lets -underBinder | with_reducible (first | assumption | apply quiet_updMbox) | (intro b hb; with_reducible exact hb))

theorem quiet_transact {s0 s : State} (c : Cmd) (m : Nat) (r : Req) (hc : QuietCmd c) (h : Quiet s0 s) : Quiet s0 (transact c m r s) := by
  delta transact
  repeat' (first
    | lift_lets -underBinder | (intro y; refine (fun (hy : Quiet s0 y) => ?_) ?_ <;> [clear_value y; dsimp -zeta only [y]])
    | (intro y; clear_value y)
    | with_reducible (first
      | assumption | refine quiet_runCmd _ _ hc ?_ | apply quiet_acceptBell | apply quiet_updMbox)
    | (intro b hb; with_reducible exact hb) | (intro b hb; with_reducible exact putBytes_wf hb)
    | with_reducible (first | apply quiet_ite | exact quiet_with ‹_›))

theorem quiet_setCfg {s0 s : State} (f : Cfg → Cfg) (h : Quiet s0 s) : Quiet s0 (setCfg f s) := by
  delta setCfg
  repeat' (first
    | lift_lets -underBinder | (intro y; clear_value y) | with_reducible exact quiet_with ‹_›)

theorem quiet_startJob {s0 s : State} (j : NvmJob) (h : Quiet s0 s) : Quiet s0 (startJob j s) := by
  delta startJob
  repeat' (first
    | lift_lets -underBinder | (intro y; clear_value y) | with_reducible exact quiet_with ‹_›)

theorem quiet_cmdFaultStatus {s0 s : State} (r : Req) (h : Quiet s0 s) : QuietRan s0 (cmdFaultStatus.run r s) := by
  dsimp -zeta only [cmdFaultStatus]
  repeat' (first
    | lift_lets -underBinder | (intro y; clear_value y) | with_reducible (first | assumption | refine quietRan_ok ?_))

theorem quiet_ackRecord {s0 s : State} (r : FaultRec) (h : Quiet s0 s) : Quiet s0 (ackRecord r s) := by
  delta ackRecord
  repeat' (first
    | lift_lets -underBinder | (intro y; clear_value y) | with_reducible (first | apply quiet_faultLog | exact quiet_with ‹_›))

theorem quiet_cmdFaultAck {s0 s : State} (r : Req) (h : Quiet s0 s) : QuietRan s0 (cmdFaultAck.run r s) := by
  dsimp -zeta only [cmdFaultAck]
  repeat' (first
    | lift_lets -underBinder | (intro y; clear_value y)
    | with_reducible (first
      | assumption | apply quiet_ackRecord | refine quietRan_ok ?_ | refine quietRan_guarded ?_ | refine quiet_each ?_ (fun a t ht => ?_)))

theorem quiet_cmdFaultClear {s0 s : State} (r : Req) (h : Quiet s0 s) : QuietRan s0 (cmdFaultClear.run r s) := by
  dsimp -zeta only [cmdFaultClear]
  repeat' (first
    | lift_lets -underBinder | (intro y; refine (fun (hy : Quiet s0 y) => ?_) ?_ <;> [clear_value y; dsimp -zeta only [y]])
    | (intro y; refine (fun (hy : QuietRan s0 y) => ?_) ?_ <;> [clear_value y; dsimp -zeta only [y]]) | (intro y; clear_value y)
    | with_reducible (first
      | assumption | apply quiet_reState | apply quiet_clearRecord | refine quietRan_ok ?_ | refine quietRan_guarded ?_
      | refine quiet_each ?_ (fun a t ht => ?_))
    | split)

theorem quiet_cmdFaultSetSeverity {s0 s : State} (r : Req) (h : Quiet s0 s) : QuietRan s0 (cmdFaultSetSeverity.run r s) := by
  dsimp -zeta only [cmdFaultSetSeverity]
  repeat' (first
    | lift_lets -underBinder | (intro y; refine (fun (hy : Quiet s0 y) => ?_) ?_ <;> [clear_value y; dsimp -zeta only [y]])
    | (intro y; clear_value y)
    | with_reducible (first
      | assumption | apply quiet_faultLog | apply quiet_setCfg | refine quietRan_ok ?_ | apply quiet_ite | exact quiet_with ‹_›))

theorem quiet_cmdFaultConfig {s0 s : State} (r : Req) (h : Quiet s0 s) : QuietRan s0 (cmdFaultConfig.run r s) := by
  dsimp -zeta only [cmdFaultConfig]
  repeat' (first
    | lift_lets -underBinder | (intro y; refine (fun (hy : Quiet s0 y) => ?_) ?_ <;> [clear_value y; dsimp -zeta only [y]])
    | (intro y; clear_value y)
    | with_reducible (first
      | assumption | apply quiet_setCfg | apply quiet_notify | refine quietRan_ok ?_ | exact quiet_with ‹_›))

theorem quiet_cmdFaultInject {s0 s : State} (r : Req) (h : Quiet s0 s) : QuietRan s0 (cmdFaultInject.run r s) := by
  dsimp -zeta only [cmdFaultInject]
  repeat' (first
    | lift_lets -underBinder | (intro y; clear_value y)
    | with_reducible (first
      | apply quiet_occurrence | refine quietRan_ok ?_ | refine quietRan_guarded ?_ | exact quiet_with ‹_›))

theorem quiet_cmdFaultLog {s0 s : State} (r : Req) (h : Quiet s0 s) : QuietRan s0 (cmdFaultLog.run r s) := by
  dsimp -zeta only [cmdFaultLog]
  repeat' (first
    | lift_lets -underBinder | (intro y; clear_value y)
    | with_reducible (first | refine quietRan_ok ?_ | refine quietRan_guarded ?_ | exact quiet_with ‹_›))

theorem quiet_pfcLink {s0 s : State} (want : Nat) (k : Nat) (h : Quiet s0 s) : Quiet s0 (pfcLink want k s) := by
  delta pfcLink
  repeat' (first
    | lift_lets -underBinder | (intro y; refine (fun (hy : Quiet s0 y) => ?_) ?_ <;> [clear_value y; dsimp -zeta only [y]])
    | (intro y; clear_value y)
    | with_reducible (first
      | assumption | apply quiet_relayCount | apply quiet_emit | apply quiet_updRlink | apply quiet_ite))

theorem quiet_payCredits {s0 s : State} (west : Bool) (h : Quiet s0 s) : Quiet s0 (payCredits west s) := by
  delta payCredits
  repeat' (first
    | lift_lets -underBinder | (intro y; clear_value y)
    | with_reducible (first | assumption | apply quiet_emit | apply quiet_ite | exact quiet_with ‹_›))

theorem quiet_flow {s0 s : State} (h : Quiet s0 s) : Quiet s0 (flow s) := by
  delta flow
  repeat' (first
    | lift_lets -underBinder | (intro y; refine (fun (hy : Quiet s0 y) => ?_) ?_ <;> [clear_value y; dsimp -zeta only [y]])
    | with_reducible (first
      | assumption | apply quiet_pfcLink | apply quiet_payCredits | refine quiet_each ?_ (fun a t ht => ?_)))

theorem quiet_oweCredits {s0 s : State} (west : Bool) (cls : Nat) (n : Nat) (h : Quiet s0 s) : Quiet s0 (oweCredits west cls n s) := by
  delta oweCredits
  repeat' (first
    | lift_lets -underBinder | (intro y; clear_value y) | with_reducible (first | apply quiet_payCredits | exact quiet_with ‹_›))

theorem quiet_cmdPoolConfig {s0 s : State} (r : Req) (h : Quiet s0 s) : QuietRan s0 (cmdPoolConfig.run r s) := by
  dsimp -zeta only [cmdPoolConfig]
  repeat' (first
    | lift_lets -underBinder | (intro y; clear_value y)
    | with_reducible (first
      | assumption | apply quiet_flow | apply quiet_restage | apply quiet_updPool | refine quietRan_ok ?_ | refine quietRan_guarded ?_))

theorem quiet_cmdPoolStatus {s0 s : State} (r : Req) (h : Quiet s0 s) : QuietRan s0 (cmdPoolStatus.run r s) := by
  dsimp -zeta only [cmdPoolStatus]
  repeat' (first
    | lift_lets -underBinder | (intro y; refine (fun (hy : Quiet s0 y) => ?_) ?_ <;> [clear_value y; dsimp -zeta only [y]])
    | (intro y; clear_value y) | with_reducible (first | assumption | apply quiet_updPool | refine quietRan_ok ?_ | apply quiet_ite))

theorem quiet_grantLease {s0 s : State} (r : Req) (cls : Nat) (use : Nat) (first : Nat) (count : Nat) (ttl : Nat) (h : Quiet s0 s)
    : QuietRan s0 (grantLease r cls use first count ttl s) := by
  delta grantLease
  repeat' (first
    | lift_lets -underBinder | (intro y; clear_value y) | with_reducible (first | refine quietRan_ok ?_ | exact quiet_with ‹_›))

theorem quiet_cmdLeaseTake {s0 s : State} (r : Req) (h : Quiet s0 s) : QuietRan s0 (cmdLeaseTake.run r s) := by
  dsimp -zeta only [cmdLeaseTake]
  repeat' (first
    | lift_lets -underBinder | (intro y; clear_value y)
    | with_reducible (first
      | assumption | exact (quiet_allocBufs_eq ‹_› ‹_›) | apply quiet_grantLease | refine quietRan_guarded ?_ | exact quietRan_error)
    | split)

theorem quiet_stopLaneUse {s0 s : State} (use : Nat) (n : Nat) (h : Quiet s0 s) : Quiet s0 (stopLaneUse use n s) := by
  delta stopLaneUse
  repeat' (first
    | lift_lets -underBinder | with_reducible (first | assumption | apply quiet_updLane))

theorem quiet_leaseEnded {s0 s : State} (l : Lease) (h : Quiet s0 s) : Quiet s0 (leaseEnded l s) := by
  delta leaseEnded
  repeat' (first
    | lift_lets -underBinder
    | with_reducible (first
      | assumption | apply quiet_stopLaneUse | apply quiet_freeBufs | apply quiet_holdImplicit | apply quiet_ite
      | refine quiet_each ?_ (fun a t ht => ?_)))

theorem quiet_endLease {s0 s : State} (l : Lease) (h : Quiet s0 s) : Quiet s0 (endLease l s) := by
  delta endLease
  repeat' (first
    | lift_lets -underBinder | with_reducible (first | apply quiet_leaseEnded | exact quiet_with ‹_›))

theorem quiet_cmdLeaseRenew {s0 s : State} (r : Req) (h : Quiet s0 s) : QuietRan s0 (cmdLeaseRenew.run r s) := by
  dsimp -zeta only [cmdLeaseRenew]
  repeat' (first
    | lift_lets -underBinder | (intro y; clear_value y)
    | with_reducible (first | refine quietRan_ok ?_ | exact quietRan_error | exact quiet_with ‹_›) | split)

theorem quiet_cmdLeaseList {s0 s : State} (r : Req) (h : Quiet s0 s) : QuietRan s0 (cmdLeaseList.run r s) := by
  dsimp -zeta only [cmdLeaseList]
  repeat' (first
    | lift_lets -underBinder | (intro y; clear_value y) | with_reducible (first | assumption | refine quietRan_ok ?_))

theorem quiet_wdogWrite {s0 s : State} (v : Nat) (h : Quiet s0 s) : Quiet s0 (wdogWrite v s) := by
  delta wdogWrite
  repeat' (first
    | lift_lets -underBinder | (intro (y : Emergency); dsimp -zeta only [y]; clear y)
    | (intro y; refine (fun (hy : Quiet s0 y) => ?_) ?_ <;> [clear_value y; dsimp -zeta only [y]]) | (intro y; clear_value y)
    | with_reducible (first
      | assumption | apply quiet_notify | apply quiet_endCond
      | exact quiet_mk (Quiet.dark ‹_›) (Quiet.light ‹_›) (Quiet.queue ‹_›) (Quiet.mem ‹_›) (Quiet.mail ‹_›)))

theorem quiet_wdogKick {s0 s : State} (h : Quiet s0 s) : Quiet s0 (wdogKick s) := by
  delta wdogKick
  repeat' (first
    | lift_lets -underBinder | (intro (y : Emergency); dsimp -zeta only [y]; clear y)
    | with_reducible exact quiet_mk (Quiet.dark ‹_›) (Quiet.light ‹_›) (Quiet.queue ‹_›) (Quiet.mem ‹_›) (Quiet.mail ‹_›))

theorem quiet_pendingClear {s0 s : State} (w : Nat) (v : Nat) (raised : List Nat) (h : Quiet s0 s) : Quiet s0 (pendingClear w v raised s)
    := by
  delta pendingClear
  repeat' (first
    | lift_lets -underBinder | (intro y; refine (fun (hy : Quiet s0 y) => ?_) ?_ <;> [clear_value y; dsimp -zeta only [y]])
    | (intro y; clear_value y)
    | with_reducible (first
      | assumption | apply quiet_sendVector | apply quiet_raiseEvent | exact quiet_with ‹_› | refine quiet_each ?_ (fun a t ht => ?_)))

theorem quiet_irqEnWrite {s0 s : State} (v : Nat) (h : Quiet s0 s) : Quiet s0 (irqEnWrite v s) := by
  delta irqEnWrite
  repeat' (first
    | lift_lets -underBinder | with_reducible (first | assumption | apply quiet_evUpdate))

theorem quiet_maskWrite {s0 s : State} (w : Nat) (v : Nat) (h : Quiet s0 s) : Quiet s0 (maskWrite w v s) := by
  delta maskWrite
  repeat' (first
    | lift_lets -underBinder | with_reducible (first | assumption | apply quiet_evUpdate))

theorem quiet_vectorWrite {s0 s : State} (n : Nat) (v : Nat) (h : Quiet s0 s) : Quiet s0 (vectorWrite n v s) := by
  delta vectorWrite
  repeat' (first
    | lift_lets -underBinder | with_reducible (first | assumption | apply quiet_evUpdate))

theorem quiet_mailboxRing {s0 s : State} (m : Nat) (v : Nat) (h : Quiet s0 s) : Quiet s0 (mailboxRing m v s) := by
  delta mailboxRing
  repeat' (first
    | lift_lets -underBinder | (intro y; refine (fun (hy : Quiet s0 y) => ?_) ?_ <;> [clear_value y; dsimp -zeta only [y]])
    | (intro y; clear_value y) | with_reducible (first | assumption | apply quiet_updMbox | apply quiet_acceptBell)
    | (intro b hb; with_reducible exact hb) | with_reducible (first | apply quiet_ite | exact quiet_with ‹_›))

theorem quiet_requestWrite {s0 s : State} (m : Nat) (o : Nat) (v : Nat) (h : Quiet s0 s) : Quiet s0 (requestWrite m o v s) := by
  delta requestWrite
  repeat' (first
    | lift_lets -underBinder | with_reducible (first | assumption | apply quiet_updMbox) | (intro b hb; with_reducible exact hb)
    | (intro b hb; with_reducible exact putBytes_wf hb) | with_reducible apply quiet_ite)

theorem quiet_flushPba {s0 s : State} (h : Quiet s0 s) : Quiet s0 (flushPba s) := by
  delta flushPba
  repeat' (first
    | lift_lets -underBinder | (intro y; clear_value y)
    | with_reducible (first
      | assumption | apply quiet_emit | apply quiet_ite | exact quiet_with ‹_› | refine quiet_foldl ?_ (fun a t ht => ?_)))

theorem quiet_configWrite {s0 s : State} (o : Nat) (v : Nat) (h : Quiet s0 s) : Quiet s0 (configWrite o v s) := by
  delta configWrite
  repeat' (first
    | lift_lets -underBinder | (intro y; clear_value y)
    | with_reducible (first | assumption | apply quiet_flushPba | apply quiet_ite | exact quiet_with ‹_›))

end Sys2Proof.Machine
end

