-- ==== Sys2Proof/Laws/QuietPlane.lean ====
section
/-! SUPPORT. Quiet functions (`Quiet` of Laws/Quiet.lean): drive, sensing, the loop, facets and launches. -/

namespace Sys2Proof.Machine

theorem quiet_peLimited {s0 s : State} (ch : Nat) (h : Quiet s0 s) : Quiet s0 (peLimited ch s) := by
  delta peLimited
  repeat' (first
    | lift_lets -underBinder | (intro y; refine (fun (hy : Quiet s0 y) => ?_) ?_ <;> [clear_value y; dsimp -zeta only [y]])
    | (intro y; clear_value y) | with_reducible (first | assumption | apply quiet_updLink | apply quiet_updPlane | apply quiet_raiseFault))

theorem quiet_traceDrives {s0 s : State} (p : Nat) (h : Quiet s0 s) : Quiet s0 (traceDrives p s) := by
  delta traceDrives
  repeat' (first
    | lift_lets -underBinder | (intro y; clear_value y)
    | with_reducible (first
      | assumption | apply quiet_stageRec | apply quiet_ite | refine quiet_each ?_ (fun a t ht => ?_)))

theorem quiet_updateTick {s0 s : State} (p : Nat) (h : Quiet s0 s) : Quiet s0 (updateTick p s) := by
  delta updateTick
  repeat' (first
    | lift_lets -underBinder | (intro y; refine (fun (hy : Quiet s0 y) => ?_) ?_ <;> [clear_value y; dsimp -zeta only [y]])
    | (intro y; clear_value y)
    | with_reducible (first
      | assumption | apply quiet_updPlane | apply quiet_traceDrives | apply quiet_peLimited | exact quiet_with ‹_›
      | refine quiet_each ?_ (fun a t ht => ?_)))

theorem quiet_cmdDriveSetTarget {s0 s : State} (r : Req) (h : Quiet s0 s) : QuietRan s0 (cmdDriveSetTarget.run r s) := by
  dsimp -zeta only [cmdDriveSetTarget]
  repeat' (first
    | lift_lets -underBinder | (intro y; clear_value y)
    | with_reducible (first
      | assumption | apply quiet_updDrive | refine quietRan_ok ?_ | refine quietRan_guarded ?_))

theorem quiet_cmdDriveReadState {s0 s : State} (r : Req) (h : Quiet s0 s) : QuietRan s0 (cmdDriveReadState.run r s) := by
  dsimp -zeta only [cmdDriveReadState]
  repeat' (first
    | lift_lets -underBinder | (intro y; clear_value y) | with_reducible (first | assumption | refine quietRan_ok ?_))

theorem quiet_cmdDriveSetSlew {s0 s : State} (r : Req) (h : Quiet s0 s) : QuietRan s0 (cmdDriveSetSlew.run r s) := by
  dsimp -zeta only [cmdDriveSetSlew]
  repeat' (first
    | lift_lets -underBinder | (intro y; clear_value y)
    | with_reducible (first | refine quietRan_ok ?_ | refine quietRan_guarded ?_ | exact quiet_with ‹_›))

theorem quiet_cmdDriveSetTick {s0 s : State} (r : Req) (h : Quiet s0 s) : QuietRan s0 (cmdDriveSetTick.run r s) := by
  dsimp -zeta only [cmdDriveSetTick]
  repeat' (first
    | lift_lets -underBinder | (intro y; clear_value y)
    | with_reducible (first
      | assumption | apply quiet_updPlane | refine quietRan_ok ?_ | refine quietRan_guarded ?_))

theorem quiet_startRange {s0 s : State} (high : Bool) (ch : Nat) (h : Quiet s0 s) : Quiet s0 (startRange high ch s) := by
  delta startRange
  repeat' (first
    | lift_lets -underBinder | (intro y; refine (fun (hy : Quiet s0 y) => ?_) ?_ <;> [clear_value y; dsimp -zeta only [y]])
    | (intro y; clear_value y) | with_reducible (first | assumption | apply quiet_goOpen | apply quiet_updDrive))

theorem quiet_cmdDriveSetRange {s0 s : State} (r : Req) (h : Quiet s0 s) : QuietRan s0 (cmdDriveSetRange.run r s) := by
  dsimp -zeta only [cmdDriveSetRange]
  repeat' (first
    | lift_lets -underBinder | (intro y; refine (fun (hy : Quiet s0 y) => ?_) ?_ <;> [clear_value y; dsimp -zeta only [y]])
    | (intro y; clear_value y)
    | with_reducible (first
      | assumption | apply quiet_startRange | apply quiet_updDrive | refine quietRan_ok ?_ | refine quietRan_guarded ?_
      | refine quiet_each ?_ (fun a t ht => ?_))
    | split)

theorem quiet_rangeApply {s0 s : State} (ch : Nat) (h : Quiet s0 s) : Quiet s0 (rangeApply ch s) := by
  delta rangeApply
  repeat' (first
    | lift_lets -underBinder | (intro y; refine (fun (hy : Quiet s0 y) => ?_) ?_ <;> [clear_value y; dsimp -zeta only [y]])
    | (intro y; clear_value y)
    | with_reducible (first | assumption | apply quiet_restartConvs | apply quiet_updDrive | apply quiet_updCtx))

theorem quiet_cmdDriveParkLoad {s0 s : State} (r : Req) (h : Quiet s0 s) : QuietRan s0 (cmdDriveParkLoad.run r s) := by
  dsimp -zeta only [cmdDriveParkLoad]
  repeat' (first
    | lift_lets -underBinder | (intro y; refine (fun (hy : Quiet s0 y) => ?_) ?_ <;> [clear_value y; dsimp -zeta only [y]])
    | (intro y; clear_value y)
    | with_reducible (first
      | assumption | apply quiet_reState | apply quiet_endCond | apply quiet_startJob | refine quietRan_ok ?_ | refine quietRan_guarded ?_
      | exact quiet_with ‹_›))

theorem quiet_cmdDriveParkRead {s0 s : State} (r : Req) (h : Quiet s0 s) : QuietRan s0 (cmdDriveParkRead.run r s) := by
  dsimp -zeta only [cmdDriveParkRead]
  repeat' (first
    | lift_lets -underBinder | (intro y; clear_value y) | with_reducible (first | assumption | refine quietRan_ok ?_))

theorem quiet_startRamp {s0 s : State} (p : Nat) (dest : Nat) (ticks : Nat) (parking : Bool) (h : Quiet s0 s) : Quiet s0
    (startRamp p dest ticks parking s) := by
  delta startRamp
  repeat' (first
    | lift_lets -underBinder | (intro y; refine (fun (hy : Quiet s0 y) => ?_) ?_ <;> [clear_value y; dsimp -zeta only [y]])
    | (intro y; clear_value y)
    | with_reducible (first
      | assumption | apply quiet_updDrive | apply quiet_updPlane | refine quiet_each ?_ (fun a t ht => ?_)))

theorem quiet_cmdDriveRamp {s0 s : State} (r : Req) (h : Quiet s0 s) : QuietRan s0 (cmdDriveRamp.run r s) := by
  dsimp -zeta only [cmdDriveRamp]
  repeat' (first
    | lift_lets -underBinder | (intro y; clear_value y)
    | with_reducible (first
      | assumption | apply quiet_startRamp | refine quietRan_ok ?_ | refine quietRan_guarded ?_))

theorem quiet_cmdDriveSetReadback {s0 s : State} (r : Req) (h : Quiet s0 s) : QuietRan s0 (cmdDriveSetReadback.run r s) := by
  dsimp -zeta only [cmdDriveSetReadback]
  repeat' (first
    | lift_lets -underBinder | (intro y; refine (fun (hy : Quiet s0 y) => ?_) ?_ <;> [clear_value y; dsimp -zeta only [y]])
    | (intro y; clear_value y)
    | with_reducible (first
      | assumption | apply quiet_updLink | apply quiet_setCond | refine quietRan_ok ?_ | refine quiet_each ?_ (fun a t ht => ?_)))

theorem quiet_cmdDriveSetLinkLead {s0 s : State} (r : Req) (h : Quiet s0 s) : QuietRan s0 (cmdDriveSetLinkLead.run r s) := by
  dsimp -zeta only [cmdDriveSetLinkLead]
  repeat' (first
    | lift_lets -underBinder | with_reducible (first | assumption | apply quiet_updLink | refine quietRan_ok ?_))

theorem quiet_cmdDriveCounters {s0 s : State} (r : Req) (h : Quiet s0 s) : QuietRan s0 (cmdDriveCounters.run r s) := by
  dsimp -zeta only [cmdDriveCounters]
  repeat' (first
    | lift_lets -underBinder | (intro y; refine (fun (hy : Quiet s0 y) => ?_) ?_ <;> [clear_value y; dsimp -zeta only [y]])
    | (intro y; clear_value y) | with_reducible (first | assumption | apply quiet_updLink | refine quietRan_ok ?_ | apply quiet_ite))

theorem quiet_cmdDriveReadback {s0 s : State} (r : Req) (h : Quiet s0 s) : QuietRan s0 (cmdDriveReadback.run r s) := by
  dsimp -zeta only [cmdDriveReadback]
  repeat' (first
    | lift_lets -underBinder | (intro y; refine (fun (hy : Quiet s0 y) => ?_) ?_ <;> [clear_value y; dsimp -zeta only [y]])
    | (intro y; clear_value y)
    | with_reducible (first
      | assumption | apply quiet_updLink | apply quiet_holdImplicit | refine quietRan_guarded ?_ | refine quietRan_later ?_
      | apply quiet_ite))

theorem quiet_absentTick {s0 s : State} (l : Nat) (tick : Nat) (start : NetTime) (h : Quiet s0 s) : Quiet s0 (absentTick l tick start s)
    := by
  delta absentTick
  repeat' (first
    | lift_lets -underBinder | (intro y; clear_value y)
    | with_reducible (first
      | assumption | apply quiet_updMon | apply quiet_ite | refine quiet_each ?_ (fun a t ht => ?_)))

theorem quiet_senseFrame {s0 s : State} (l : Nat) (d : DownFrame) (u : Option UpFrame) (h : Quiet s0 s) : Quiet s0 (senseFrame l d u s)
    := by
  delta senseFrame
  repeat' (first
    | lift_lets -underBinder | (intro y; refine (fun (hy : Quiet s0 y) => ?_) ?_ <;> [clear_value y; dsimp -zeta only [y]])
    | (intro y; clear_value y)
    | with_reducible (first
      | assumption | apply quiet_absentTick | apply quiet_updSense | apply quiet_updMon | apply quiet_raiseFault | exact quiet_with ‹_›
      | refine quiet_each ?_ (fun a t ht => ?_)))

theorem quiet_senseUnechoed {s0 s : State} (l : Nat) (seg : Nat) (data : List Nat) (h : Quiet s0 s) : Quiet s0
    (senseUnechoed l seg data s) := by
  delta senseUnechoed
  repeat' (first
    | lift_lets -underBinder | (intro y; clear_value y)
    | with_reducible (first
      | assumption | apply quiet_updMon | apply quiet_ite | refine quiet_each ?_ (fun a t ht => ?_)))

theorem quiet_senseEcho {s0 s : State} (l : Nat) (seg : Nat) (tick : Nat) (data : List Nat) (h : Quiet s0 s) : Quiet s0
    (senseEcho l seg tick data s) := by
  delta senseEcho
  repeat' (first
    | lift_lets -underBinder | (intro y; refine (fun (hy : Quiet s0 y) => ?_) ?_ <;> [clear_value y; dsimp -zeta only [y]])
    | (intro y; clear_value y)
    | with_reducible (first
      | assumption | apply quiet_updMon | apply quiet_ite | refine quiet_each ?_ (fun a t ht => ?_)))

theorem quiet_senseReset {s0 s : State} (l : Nat) (h : Quiet s0 s) : Quiet s0 (senseReset l s) := by
  delta senseReset
  with_reducible exact quiet_with ‹_›

theorem quiet_latchBlock {s0 s : State} (c : Nat) (h : Quiet s0 s) : Quiet s0 (latchBlock c s) := by
  delta latchBlock
  repeat' (first
    | lift_lets -underBinder | (intro y; refine (fun (hy : Quiet s0 y) => ?_) ?_ <;> [clear_value y; dsimp -zeta only [y]])
    | (intro y; clear_value y)
    | with_reducible (first
      | assumption | apply quiet_updMon | apply quiet_stageRec | apply quiet_raiseEvent | apply quiet_ite))

theorem quiet_accumulate {s0 s : State} (c : Nat) (x : Sample) (h : Quiet s0 s) : Quiet s0 (accumulate c x s) := by
  delta accumulate
  repeat' (first
    | lift_lets -underBinder | (intro y; refine (fun (hy : Quiet s0 y) => ?_) ?_ <;> [clear_value y; dsimp -zeta only [y]])
    | (intro y; clear_value y)
    | with_reducible (first
      | assumption | apply quiet_latchBlock | apply quiet_updMon | apply quiet_raiseEvent | apply quiet_ite))

theorem quiet_flushReady {s0 s : State} (m : Nat) (h : Quiet s0 s) : Quiet s0 (flushReady m s) := by
  delta flushReady
  repeat' (first
    | lift_lets -underBinder | (intro y; refine (fun (hy : Quiet s0 y) => ?_) ?_ <;> [clear_value y; dsimp -zeta only [y]])
    | with_reducible (first
      | assumption | apply quiet_accumulate | apply quiet_updMon | refine quiet_each ?_ (fun a t ht => ?_)))

theorem quiet_countSample {s0 s : State} (l : Nat) (x : Sample) (h : Quiet s0 s) : Quiet s0 (countSample l x s) := by
  delta countSample
  repeat' (first
    | lift_lets -underBinder | with_reducible (first | assumption | apply quiet_updSense))

theorem quiet_refSet {s0 s : State} (on : Bool) (l : Nat) (h : Quiet s0 s) : Quiet s0 (refSet on l s) := by
  delta refSet
  repeat' (first
    | lift_lets -underBinder | with_reducible (first | assumption | apply quiet_updSense))

theorem quiet_cmdSenseRefEnable {s0 s : State} (r : Req) (h : Quiet s0 s) : QuietRan s0 (cmdSenseRefEnable.run r s) := by
  dsimp -zeta only [cmdSenseRefEnable]
  repeat' (first
    | lift_lets -underBinder | (intro y; clear_value y)
    | with_reducible (first
      | assumption | apply quiet_refSet | refine quietRan_ok ?_ | refine quietRan_guarded ?_ | refine quiet_each ?_ (fun a t ht => ?_)))

theorem quiet_cmdSenseSetChannel {s0 s : State} (r : Req) (h : Quiet s0 s) : QuietRan s0 (cmdSenseSetChannel.run r s) := by
  dsimp -zeta only [cmdSenseSetChannel]
  repeat' (first
    | lift_lets -underBinder | (intro y; refine (fun (hy : Quiet s0 y) => ?_) ?_ <;> [clear_value y; dsimp -zeta only [y]])
    | (intro y; clear_value y)
    | with_reducible (first
      | assumption | apply quiet_updMon | apply quiet_setMonBit | refine quietRan_ok ?_ | refine quietRan_guarded ?_ | apply quiet_ite
      | refine quiet_each ?_ (fun a t ht => ?_)))

theorem quiet_cmdSenseAccConfig {s0 s : State} (r : Req) (h : Quiet s0 s) : QuietRan s0 (cmdSenseAccConfig.run r s) := by
  dsimp -zeta only [cmdSenseAccConfig]
  repeat' (first
    | lift_lets -underBinder | (intro y; clear_value y)
    | with_reducible (first
      | assumption | apply quiet_flushReady | apply quiet_updMon | refine quietRan_ok ?_ | refine quietRan_guarded ?_
      | refine quiet_each ?_ (fun a t ht => ?_)))

theorem quiet_cmdSenseAccRead {s0 s : State} (r : Req) (h : Quiet s0 s) : QuietRan s0 (cmdSenseAccRead.run r s) := by
  dsimp -zeta only [cmdSenseAccRead]
  repeat' (first
    | lift_lets -underBinder | (intro y; refine (fun (hy : Quiet s0 y) => ?_) ?_ <;> [clear_value y; dsimp -zeta only [y]])
    | (intro y; clear_value y)
    | with_reducible (first
      | assumption | apply quiet_flushReady | apply quiet_updMon | refine quietRan_ok ?_ | refine quietRan_guarded ?_ | apply quiet_ite
      | refine quiet_each ?_ (fun a t ht => ?_)))

theorem quiet_cmdSenseMinmaxRead {s0 s : State} (r : Req) (h : Quiet s0 s) : QuietRan s0 (cmdSenseMinmaxRead.run r s) := by
  dsimp -zeta only [cmdSenseMinmaxRead]
  repeat' (first
    | lift_lets -underBinder | (intro y; refine (fun (hy : Quiet s0 y) => ?_) ?_ <;> [clear_value y; dsimp -zeta only [y]])
    | (intro y; clear_value y)
    | with_reducible (first
      | assumption | apply quiet_flushReady | apply quiet_updMon | refine quietRan_ok ?_ | refine quietRan_guarded ?_ | apply quiet_ite
      | refine quiet_each ?_ (fun a t ht => ?_)))

theorem quiet_cmdSenseStatus {s0 s : State} (r : Req) (h : Quiet s0 s) : QuietRan s0 (cmdSenseStatus.run r s) := by
  dsimp -zeta only [cmdSenseStatus]
  repeat' (first
    | lift_lets -underBinder | (intro y; refine (fun (hy : Quiet s0 y) => ?_) ?_ <;> [clear_value y; dsimp -zeta only [y]])
    | (intro y; clear_value y) | with_reducible (first | assumption | apply quiet_updSense | refine quietRan_ok ?_ | apply quiet_ite))

theorem quiet_softArms {s0 s : State} (cls : Nat) (c : Nat) (h : Quiet s0 s) : Quiet s0 (softArms cls c s) := by
  delta softArms
  repeat' (first
    | lift_lets -underBinder
    | with_reducible (first
      | assumption | apply quiet_updDrive | apply quiet_ite | refine quiet_each ?_ (fun a t ht => ?_)))

theorem quiet_applyPend {s0 s : State} (c : Nat) (h : Quiet s0 s) : Quiet s0 (applyPend c s) := by
  delta applyPend
  repeat' (first
    | lift_lets -underBinder | (intro y; refine (fun (hy : Quiet s0 y) => ?_) ?_ <;> [clear_value y; dsimp -zeta only [y]])
    | (intro y; clear_value y)
    | with_reducible (first
      | assumption | apply quiet_askFilter | apply quiet_stopCapture | apply quiet_updCtx | apply quiet_updDrive | apply quiet_softArms
      | apply quiet_ite | refine quiet_each ?_ (fun a t ht => ?_))
    | split)

theorem quiet_doSwap {s0 s : State} (c : Nat) (e : Option Int) (h : Quiet s0 s) : Quiet s0 (doSwap c e s) := by
  delta doSwap
  repeat' (first
    | lift_lets -underBinder | (intro y; refine (fun (hy : Quiet s0 y) => ?_) ?_ <;> [clear_value y; dsimp -zeta only [y]])
    | (intro y; clear_value y)
    | with_reducible (first
      | assumption | apply quiet_updCtx | apply quiet_updEngine | apply quiet_raiseEvent | apply quiet_ite | exact quiet_with ‹_›)
    | split)

theorem quiet_swapAt {s0 s : State} (c : Nat) (h : Quiet s0 s) : Quiet s0 (swapAt c s) := by
  delta swapAt
  repeat' (first
    | lift_lets -underBinder | (intro y; clear_value y) | with_reducible (first | assumption | apply quiet_doSwap | apply quiet_ite)
    | split)

theorem quiet_countUpdate {s0 s : State} (c : Nat) (h : Quiet s0 s) : Quiet s0 (countUpdate c s) := by
  delta countUpdate
  repeat' (first
    | lift_lets -underBinder | with_reducible (first | assumption | apply quiet_updEngine))

theorem quiet_softStart {s0 s : State} (y : Int) (c : Nat) (h : Quiet s0 s) : Quiet s0 (softStart y c s) := by
  delta softStart
  repeat' (first
    | lift_lets -underBinder | (intro y; clear_value y)
    | with_reducible (first | assumption | apply quiet_countUpdate | apply quiet_updCtx))

theorem quiet_loopUpdate {s0 s : State} (y : Int) (t : NetTime) (c : Nat) (h : Quiet s0 s) : Quiet s0 (loopUpdate y t c s) := by
  delta loopUpdate
  repeat' (first
    | lift_lets -underBinder | (intro y; refine (fun (hy : Quiet s0 y) => ?_) ?_ <;> [clear_value y; dsimp -zeta only [y]])
    | (intro y; clear_value y)
    | with_reducible (first
      | assumption | apply quiet_updCtx | apply quiet_doSwap | apply quiet_countUpdate | apply quiet_ite))

theorem quiet_starveCheck {s0 s : State} (c : Nat) (h : Quiet s0 s) : Quiet s0 (starveCheck c s) := by
  delta starveCheck
  repeat' (first
    | lift_lets -underBinder | (intro y; refine (fun (hy : Quiet s0 y) => ?_) ?_ <;> [clear_value y; dsimp -zeta only [y]])
    | (intro y; clear_value y)
    | with_reducible (first
      | assumption | apply quiet_updCtx | apply quiet_updEngine | apply quiet_raiseCond | apply quiet_ite))

theorem quiet_missSample {s0 s : State} (c : Nat) (h : Quiet s0 s) : Quiet s0 (missSample c s) := by
  delta missSample
  repeat' (first
    | lift_lets -underBinder | (intro y; refine (fun (hy : Quiet s0 y) => ?_) ?_ <;> [clear_value y; dsimp -zeta only [y]])
    | with_reducible (first | assumption | apply quiet_updCtx | apply quiet_starveCheck | apply quiet_updEngine))

theorem quiet_admitFlags {s0 s : State} (x : Sample) (c : Nat) (h : Quiet s0 s) : Quiet s0 (admitFlags x c s) := by
  delta admitFlags
  repeat' (first
    | lift_lets -underBinder | (intro y; refine (fun (hy : Quiet s0 y) => ?_) ?_ <;> [clear_value y; dsimp -zeta only [y]])
    | (intro y; clear_value y)
    | with_reducible (first
      | assumption | apply quiet_updCtx | apply quiet_endCond | apply quiet_raiseFault | apply quiet_ite))

theorem quiet_loopTrace {s0 s : State} (missed : Bool) (c : Nat) (h : Quiet s0 s) : Quiet s0 (loopTrace missed c s) := by
  delta loopTrace
  repeat' (first
    | lift_lets -underBinder | (intro y; clear_value y)
    | with_reducible (first | assumption | apply quiet_stageRec | apply quiet_updCtx | apply quiet_ite))

theorem quiet_loopSample {s0 s : State} (span : NetTime) (p : Sample) (c : Nat) (h : Quiet s0 s) : Quiet s0 (loopSample span p c s) := by
  delta loopSample
  repeat' (first
    | lift_lets -underBinder | (intro y; refine (fun (hy : Quiet s0 y) => ?_) ?_ <;> [clear_value y; dsimp -zeta only [y]])
    | (intro y; clear_value y)
    | with_reducible (first
      | assumption | apply quiet_updCtx | apply quiet_applyPend | apply quiet_loopTrace | apply quiet_missSample | apply quiet_admitFlags
      | apply quiet_softStart | apply quiet_doSwap | apply quiet_loopUpdate | apply quiet_ite)
    | split)

theorem quiet_unswap {s0 s : State} (c : Nat) (u : LoopVars) (h : Quiet s0 s) : Quiet s0 (unswap c u s) := by
  delta unswap
  repeat' (first
    | lift_lets -underBinder | (intro y; refine (fun (hy : Quiet s0 y) => ?_) ?_ <;> [clear_value y; dsimp -zeta only [y]])
    | with_reducible (first
      | assumption | apply quiet_updEngine | apply quiet_updCtx | apply quiet_ite | exact quiet_with ‹_›)
    | split)

theorem quiet_loopArms {s0 s : State} (c : Nat) (sig : Int) (h : Quiet s0 s) : Quiet s0 (loopArms c sig s).1 := by
  delta loopArms
  repeat' (first
    | lift_lets -underBinder | (intro y; clear_value y) | with_reducible (first | assumption | apply quiet_updDrive) | split)

theorem quiet_loopTick {s0 s : State} (c : Nat) (h : Quiet s0 s) : Quiet s0 (loopTick c s) := by
  delta loopTick
  repeat' (first
    | lift_lets -underBinder | (intro y; refine (fun (hy : Quiet s0 y) => ?_) ?_ <;> [clear_value y; dsimp -zeta only [y]])
    | (intro y; refine (fun (hy : Quiet s0 y.1) => ?_) ?_ <;> [clear_value y; dsimp -zeta only [y]]) | (intro y; clear_value y)
    | with_reducible (first | assumption | apply quiet_updCtx | apply quiet_loopArms | apply quiet_ite))

theorem quiet_loopTicks {s0 s : State} (p : Nat) (h : Quiet s0 s) : Quiet s0 (loopTicks p s) := by
  delta loopTicks
  repeat' (first
    | lift_lets -underBinder | with_reducible (first | assumption | apply quiet_loopTick | refine quiet_each ?_ (fun a t ht => ?_)))

theorem quiet_loopMarks {s0 s : State} (p : Nat) (h : Quiet s0 s) : Quiet s0 (loopMarks p s) := by
  delta loopMarks
  repeat' (first
    | lift_lets -underBinder
    | with_reducible (first
      | assumption | apply quiet_updCtx | apply quiet_ite | refine quiet_each ?_ (fun a t ht => ?_)))

theorem quiet_cmdLoopSetRegime {s0 s : State} (r : Req) (h : Quiet s0 s) : QuietRan s0 (cmdLoopSetRegime.run r s) := by
  dsimp -zeta only [cmdLoopSetRegime]
  repeat' (first
    | lift_lets -underBinder | (intro y; clear_value y)
    | with_reducible (first
      | assumption | apply quiet_goOpen | apply quiet_updCtx | refine quietRan_ok ?_ | refine quietRan_guarded ?_ | apply quiet_ite
      | refine quiet_each ?_ (fun a t ht => ?_)))

theorem quiet_cmdLoopSetGains {s0 s : State} (r : Req) (h : Quiet s0 s) : QuietRan s0 (cmdLoopSetGains.run r s) := by
  dsimp -zeta only [cmdLoopSetGains]
  repeat' (first
    | lift_lets -underBinder | (intro y; clear_value y)
    | with_reducible (first
      | assumption | apply quiet_updCtx | refine quietRan_ok ?_ | refine quietRan_guarded ?_ | refine quiet_each ?_ (fun a t ht => ?_)))

theorem quiet_cancelSwap {s0 s : State} (c : Nat) (h : Quiet s0 s) : Quiet s0 (cancelSwap c s) := by
  delta cancelSwap
  repeat' (first
    | lift_lets -underBinder | (intro y; refine (fun (hy : Quiet s0 y) => ?_) ?_ <;> [clear_value y; dsimp -zeta only [y]])
    | with_reducible (first | assumption | apply quiet_updCtx | exact quiet_with ‹_›) | split)

theorem quiet_cmdLoopSwapBank {s0 s : State} (r : Req) (h : Quiet s0 s) : QuietRan s0 (cmdLoopSwapBank.run r s) := by
  dsimp -zeta only [cmdLoopSwapBank]
  repeat' (first
    | lift_lets -underBinder | (intro y; refine (fun (hy : Quiet s0 y) => ?_) ?_ <;> [clear_value y; dsimp -zeta only [y]])
    | (intro y; clear_value y)
    | with_reducible (first
      | assumption | apply quiet_cancelSwap | apply quiet_swapAt | apply quiet_updCtx | refine quietRan_ok ?_ | refine quietRan_guarded ?_
      | exact quiet_with ‹_› | refine quiet_each ?_ (fun a t ht => ?_)))

theorem quiet_cmdLoopSetSetpoint {s0 s : State} (r : Req) (h : Quiet s0 s) : QuietRan s0 (cmdLoopSetSetpoint.run r s) := by
  dsimp -zeta only [cmdLoopSetSetpoint]
  repeat' (first
    | lift_lets -underBinder | (intro y; clear_value y)
    | with_reducible (first
      | assumption | apply quiet_updCtx | refine quietRan_ok ?_ | refine quietRan_guarded ?_ | refine quiet_each ?_ (fun a t ht => ?_)))

theorem quiet_cmdLoopSetLimits {s0 s : State} (r : Req) (h : Quiet s0 s) : QuietRan s0 (cmdLoopSetLimits.run r s) := by
  dsimp -zeta only [cmdLoopSetLimits]
  repeat' (first
    | lift_lets -underBinder | (intro y; clear_value y)
    | with_reducible (first
      | assumption | apply quiet_updCtx | refine quietRan_ok ?_ | refine quietRan_guarded ?_ | refine quiet_each ?_ (fun a t ht => ?_)))

theorem quiet_cmdLoopReadState {s0 s : State} (r : Req) (h : Quiet s0 s) : QuietRan s0 (cmdLoopReadState.run r s) := by
  dsimp -zeta only [cmdLoopReadState]
  repeat' (first
    | lift_lets -underBinder | (intro y; clear_value y)
    | with_reducible (first | assumption | apply quiet_updCtx | refine quietRan_ok ?_ | apply quiet_ite))

theorem quiet_cmdLoopTableLoad {s0 s : State} (r : Req) (h : Quiet s0 s) : QuietRan s0 (cmdLoopTableLoad.run r s) := by
  dsimp -zeta only [cmdLoopTableLoad]
  repeat' (first
    | lift_lets -underBinder | with_reducible (first | refine quietRan_ok ?_ | refine quietRan_guarded ?_ | exact quiet_with ‹_›))

theorem quiet_cmdLoopTableRead {s0 s : State} (r : Req) (h : Quiet s0 s) : QuietRan s0 (cmdLoopTableRead.run r s) := by
  dsimp -zeta only [cmdLoopTableRead]
  repeat' (first
    | lift_lets -underBinder | (intro y; clear_value y)
    | with_reducible (first | assumption | refine quietRan_ok ?_ | exact quietRan_error) | split)

theorem quiet_cmdLoopInject {s0 s : State} (r : Req) (h : Quiet s0 s) : QuietRan s0 (cmdLoopInject.run r s) := by
  dsimp -zeta only [cmdLoopInject]
  repeat' (first
    | lift_lets -underBinder | (intro y; clear_value y)
    | with_reducible (first | assumption | apply quiet_updCtx | refine quietRan_ok ?_ | refine quietRan_guarded ?_))

theorem quiet_cmdLoopCapture {s0 s : State} (r : Req) (h : Quiet s0 s) : QuietRan s0 (cmdLoopCapture.run r s) := by
  dsimp -zeta only [cmdLoopCapture]
  repeat' (first
    | lift_lets -underBinder | (intro y; refine (fun (hy : Quiet s0 y) => ?_) ?_ <;> [clear_value y; dsimp -zeta only [y]])
    | (intro y; clear_value y)
    | with_reducible (first
      | assumption | apply quiet_updCtx | apply quiet_holdImplicit | refine quietRan_ok ?_ | refine quietRan_guarded ?_ | apply quiet_ite))

theorem quiet_cmdLoopCaptureRead {s0 s : State} (r : Req) (h : Quiet s0 s) : QuietRan s0 (cmdLoopCaptureRead.run r s) := by
  dsimp -zeta only [cmdLoopCaptureRead]
  repeat' (first
    | lift_lets -underBinder | (intro y; clear_value y) | with_reducible (first | assumption | refine quietRan_ok ?_))

theorem quiet_uncounted {s0 s : State} (n : Nat) (h : Quiet s0 s) : Quiet s0 (uncounted n s) := by
  delta uncounted
  with_reducible exact quiet_with ‹_›

theorem quiet_cmdLoopCounters {s0 s : State} (r : Req) (h : Quiet s0 s) : QuietRan s0 (cmdLoopCounters.run r s) := by
  dsimp -zeta only [cmdLoopCounters]
  repeat' (first
    | lift_lets -underBinder | (intro y; refine (fun (hy : Quiet s0 y) => ?_) ?_ <;> [clear_value y; dsimp -zeta only [y]])
    | (intro y; refine (fun (hy : Quiet s0 y.2) => ?_) ?_ <;> [clear_value y; dsimp -zeta only [y]]) | (intro y; clear_value y)
    | with_reducible (first
      | assumption | apply quiet_draw | apply quiet_updEngine | apply quiet_uncounted | refine quietRan_ok ?_ | apply quiet_ite)
    | split)

theorem quiet_planeCount {s0 s : State} (p : Nat) (i : Nat) (h : Quiet s0 s) : Quiet s0 (planeCount p i s) := by
  delta planeCount
  repeat' (first
    | lift_lets -underBinder | with_reducible (first | assumption | apply quiet_updPlane))

theorem quiet_buildInto {s0 s : State} (p : Nat) (n : Nat) (perm : List Nat) (h : Quiet s0 s) : Quiet s0 (buildInto p n perm s) := by
  delta buildInto
  repeat' (first
    | lift_lets -underBinder | (intro y; refine (fun (hy : Quiet s0 y) => ?_) ?_ <;> [clear_value y; dsimp -zeta only [y]])
    | (intro y; clear_value y)
    | with_reducible (first
      | assumption | apply quiet_updSlot | apply quiet_planeCount | apply quiet_raiseFault | apply quiet_ite))

theorem quiet_lookup {s0 s : State} (p : Nat) (perm : List Nat) (build : Bool) (h : Quiet s0 s) : QuietEx (fun y => y.2.2) s0
    (lookup p perm build s) := by
  delta lookup
  repeat' (first
    | lift_lets -underBinder | (intro y; refine (fun (hy : Quiet s0 y) => ?_) ?_ <;> [clear_value y; dsimp -zeta only [y]])
    | with_reducible (first | assumption | exact quietEx_error) | (with_reducible refine quietEx_ok ?_ <;> dsimp -zeta only)
    | with_reducible (first
      | apply quiet_buildInto | apply quiet_planeCount | apply quiet_updSlot | apply quiet_raiseEvent)
    | split)

theorem quiet_lookup_eq {s0 s t : State} {p : Nat} {perm : List Nat} {build : Bool} {n : Nat} {hit : Bool} (e
    : lookup p perm build s = .ok (n, hit, t)) (h : Quiet s0 s) : Quiet s0 t :=
  quiet_lookup _ _ _ h _ e

theorem quiet_cmdFacetDefine {s0 s : State} (r : Req) (h : Quiet s0 s) : QuietRan s0 (cmdFacetDefine.run r s) := by
  dsimp -zeta only [cmdFacetDefine]
  repeat' (first
    | lift_lets -underBinder | (intro y; refine (fun (hy : Quiet s0 y) => ?_) ?_ <;> [clear_value y; dsimp -zeta only [y]])
    | (intro y; clear_value y)
    | with_reducible (first
      | assumption | exact (quiet_lookup_eq ‹_› ‹_›) | apply quiet_updSlot | refine quietRan_ok ?_ | refine quietRan_guarded ?_
      | exact quietRan_error)
    | split)

theorem quiet_cmdFacetLookup {s0 s : State} (r : Req) (h : Quiet s0 s) : QuietRan s0 (cmdFacetLookup.run r s) := by
  dsimp -zeta only [cmdFacetLookup]
  repeat' (first
    | lift_lets -underBinder | (intro y; clear_value y)
    | with_reducible (first
      | exact (quiet_lookup_eq ‹_› ‹_›) | refine quietRan_ok ?_ | refine quietRan_guarded ?_ | exact quietRan_error)
    | split)

theorem quiet_cmdFacetRoute {s0 s : State} (r : Req) (h : Quiet s0 s) : QuietRan s0 (cmdFacetRoute.run r s) := by
  dsimp -zeta only [cmdFacetRoute]
  repeat' (first
    | lift_lets -underBinder | with_reducible (first | assumption | refine quietRan_ok ?_))

theorem quiet_cmdFacetRead {s0 s : State} (r : Req) (h : Quiet s0 s) : QuietRan s0 (cmdFacetRead.run r s) := by
  dsimp -zeta only [cmdFacetRead]
  repeat' (first
    | lift_lets -underBinder | (intro y; clear_value y)
    | with_reducible (first | assumption | refine quietRan_ok ?_ | refine quietRan_guarded ?_))

theorem quiet_cmdFacetWrite {s0 s : State} (r : Req) (h : Quiet s0 s) : QuietRan s0 (cmdFacetWrite.run r s) := by
  dsimp -zeta only [cmdFacetWrite]
  repeat' (first
    | lift_lets -underBinder | (intro y; clear_value y)
    | with_reducible (first | assumption | apply quiet_updSlot | refine quietRan_ok ?_ | refine quietRan_guarded ?_))

theorem quiet_cmdFacetPin {s0 s : State} (r : Req) (h : Quiet s0 s) : QuietRan s0 (cmdFacetPin.run r s) := by
  dsimp -zeta only [cmdFacetPin]
  repeat' (first
    | lift_lets -underBinder | (intro y; clear_value y)
    | with_reducible (first | assumption | apply quiet_updSlot | refine quietRan_ok ?_ | refine quietRan_guarded ?_))

theorem quiet_cmdFacetStatus {s0 s : State} (r : Req) (h : Quiet s0 s) : QuietRan s0 (cmdFacetStatus.run r s) := by
  dsimp -zeta only [cmdFacetStatus]
  repeat' (first
    | lift_lets -underBinder | (intro y; clear_value y)
    | with_reducible (first | assumption | apply quiet_updPlane | refine quietRan_ok ?_ | apply quiet_ite))

theorem quiet_ownCell {s0 s : State} (p : Nat) (id : Nat) (take : Bool) (cell : Nat) (h : Quiet s0 s) : Quiet s0
    (ownCell p id take cell s) := by
  delta ownCell
  repeat' (first
    | lift_lets -underBinder | with_reducible (first | assumption | apply quiet_updCtx | refine quiet_each ?_ (fun a t ht => ?_)) | split)

theorem quiet_acceptLaunch {s0 s : State} (p n : Nat) (t : NetTime) (lead : NetTime) (hit : Bool) (pipe : Option Nat) (h : Quiet s0 s)
    : QuietEx (fun y => y.1) s0 (acceptLaunch p n t lead hit pipe s) := by
  delta acceptLaunch
  repeat' (first
    | lift_lets -underBinder | (intro y; refine (fun (hy : Quiet s0 y) => ?_) ?_ <;> [clear_value y; dsimp -zeta only [y]])
    | (intro y; clear_value y) | with_reducible (first | assumption | exact quietEx_error)
    | (with_reducible refine quietEx_ok ?_ <;> dsimp -zeta only)
    | with_reducible (first
      | apply quiet_ownCell | apply quiet_updMon | apply quiet_updPlane | exact quiet_with ‹_› | refine quiet_each ?_ (fun a t ht => ?_))
    | split)

theorem quiet_acceptLaunch_eq {s0 s t1 : State} {p n : Nat} {t : NetTime} {lead : NetTime} {hit : Bool} {pipe : Option Nat} {l : Launch}
    (e : acceptLaunch p n t lead hit pipe s = .ok (t1, l)) (h : Quiet s0 s) : Quiet s0 t1 :=
  quiet_acceptLaunch _ _ _ _ _ _ h _ e

theorem quiet_fileReport {s0 s : State} (p : Nat) (l : Launch) (h : Quiet s0 s) : Quiet s0 (fileReport p l s) := by
  delta fileReport
  repeat' (first
    | lift_lets -underBinder | (intro y; refine (fun (hy : Quiet s0 y) => ?_) ?_ <;> [clear_value y; dsimp -zeta only [y]])
    | with_reducible (first | assumption | apply quiet_updPlane | apply quiet_stageRec | apply quiet_ite))

theorem quiet_releaseLaunch {s0 s : State} (p : Nat) (l : Launch) (h : Quiet s0 s) : Quiet s0 (releaseLaunch p l s) := by
  delta releaseLaunch
  repeat' (first
    | lift_lets -underBinder | (intro y; refine (fun (hy : Quiet s0 y) => ?_) ?_ <;> [clear_value y; dsimp -zeta only [y]])
    | with_reducible (first | assumption | apply quiet_updPlane | exact quiet_with ‹_›))

theorem quiet_updLaunch {s0 s : State} (p : Nat) (f : Launch → Launch) (h : Quiet s0 s) : Quiet s0 (updLaunch p f s) := by
  delta updLaunch
  repeat' (first
    | lift_lets -underBinder | with_reducible (first | assumption | apply quiet_updPlane))

theorem quiet_holdReturn {s0 s : State} (p : Nat) (cell : Nat) (h : Quiet s0 s) : Quiet s0 (holdReturn p cell s) := by
  delta holdReturn
  repeat' (first
    | lift_lets -underBinder | (intro y; clear_value y) | with_reducible (first | assumption | apply quiet_updCtx | apply quiet_ite)
    | split)

theorem quiet_launchCheck {s0 s : State} (p : Nat) (h : Quiet s0 s) : Quiet s0 (launchCheck p s) := by
  delta launchCheck
  repeat' (first
    | lift_lets -underBinder | (intro y; refine (fun (hy : Quiet s0 y) => ?_) ?_ <;> [clear_value y; dsimp -zeta only [y]])
    | (intro y; clear_value y)
    | with_reducible (first
      | assumption | apply quiet_holdReturn | apply quiet_releaseLaunch | apply quiet_updLaunch | apply quiet_raiseEvent
      | apply quiet_fileReport | apply quiet_ite | refine quiet_each ?_ (fun a t ht => ?_))
    | split)

theorem quiet_suspectCircuit {s0 s : State} (p : Nat) (inp : Nat) (out : Nat) (h : Quiet s0 s) : Quiet s0 (suspectCircuit p inp out s) := by
  delta suspectCircuit
  repeat' (first
    | lift_lets -underBinder | (intro y; refine (fun (hy : Quiet s0 y) => ?_) ?_ <;> [clear_value y; dsimp -zeta only [y]])
    | (intro y; clear_value y)
    | with_reducible (first
      | assumption | apply quiet_updLaunch | apply quiet_updPlane | apply quiet_planeCount | apply quiet_contain | apply quiet_raiseFault
      | apply quiet_notice))

theorem quiet_cellTimeout {s0 s : State} (p : Nat) (cell : Nat) (h : Quiet s0 s) : Quiet s0 (cellTimeout p cell s) := by
  delta cellTimeout
  repeat' (first
    | lift_lets -underBinder | (intro y; refine (fun (hy : Quiet s0 y) => ?_) ?_ <;> [clear_value y; dsimp -zeta only [y]])
    | (intro y; clear_value y)
    | with_reducible (first
      | assumption | apply quiet_updLaunch | apply quiet_raiseFault | apply quiet_launchCheck | apply quiet_suspectCircuit
      | refine quiet_each ?_ (fun a t ht => ?_))
    | split)

theorem quiet_loadEntry {s0 s : State} (t : NetTime) (e : Entry) (code : Nat) (trans : Bool) (pe : Bool) (ch : Nat) (h : Quiet s0 s)
    : Quiet s0 (loadEntry t e code trans pe ch s) := by
  delta loadEntry
  repeat' (first
    | lift_lets -underBinder | (intro y; clear_value y) | with_reducible (first | assumption | apply quiet_updDrive | apply quiet_ite))

theorem quiet_startCell {s0 s : State} (t : NetTime) (e : NetTime) (expect : Int) (a : Nat) (h : Quiet s0 s) : Quiet s0
    (startCell t e expect a s) := by
  delta startCell
  repeat' (first
    | lift_lets -underBinder | (intro y; refine (fun (hy : Quiet s0 y) => ?_) ?_ <;> [clear_value y; dsimp -zeta only [y]])
    | (intro y; clear_value y)
    | with_reducible (first
      | assumption | apply quiet_goOpen | apply quiet_stopCapture | apply quiet_updCtx | apply quiet_updDrive | apply quiet_ite
      | refine quiet_each ?_ (fun a t ht => ?_)))

theorem quiet_takeMons {s0 s : State} (id : Nat) (mons : List Nat) (t : NetTime) (h : Quiet s0 s) : Quiet s0 (takeMons id mons t s) := by
  delta takeMons
  repeat' (first
    | lift_lets -underBinder | with_reducible (first | assumption | apply quiet_updMon | refine quiet_each ?_ (fun a t ht => ?_)))

theorem quiet_beginLaunch {s0 s : State} (p : Nat) (l : Launch) (h : Quiet s0 s) : Quiet s0 (beginLaunch p l s) := by
  delta beginLaunch
  repeat' (first
    | lift_lets -underBinder | (intro y; refine (fun (hy : Quiet s0 y) => ?_) ?_ <;> [clear_value y; dsimp -zeta only [y]])
    | (intro y; clear_value y)
    | with_reducible (first
      | assumption | apply quiet_releaseLaunch | apply quiet_fileReport | apply quiet_updCtx | apply quiet_startCell | apply quiet_goOpen
      | apply quiet_loadEntry | apply quiet_fzRestart | apply quiet_updDrive | apply quiet_forceZero | apply quiet_ownCell
      | apply quiet_takeMons | apply quiet_updMon | apply quiet_updSlot | apply quiet_planeCount | apply quiet_updPlane
      | apply quiet_launchCheck | apply quiet_ite | refine quiet_each ?_ (fun a t ht => ?_))
    | split)

theorem quiet_settleSample {s0 s : State} (m : Nat) (x : Sample) (h : Quiet s0 s) : Quiet s0 (settleSample m x s) := by
  delta settleSample
  repeat' (first
    | lift_lets -underBinder | (intro y; refine (fun (hy : Quiet s0 y) => ?_) ?_ <;> [clear_value y; dsimp -zeta only [y]])
    | (intro y; clear_value y)
    | with_reducible (first
      | assumption | apply quiet_updLaunch | apply quiet_updCtx | apply quiet_updPlane | apply quiet_launchCheck | apply quiet_ite)
    | split)

theorem quiet_verifySample {s0 s : State} (m : Nat) (x : Sample) (h : Quiet s0 s) : Quiet s0 (verifySample m x s) := by
  delta verifySample
  repeat' (first
    | lift_lets -underBinder | (intro y; clear_value y)
    | with_reducible (first
      | assumption | apply quiet_raiseCond | apply quiet_updPlane | apply quiet_endCond | apply quiet_launchCheck
      | apply quiet_suspectCircuit | apply quiet_updLaunch | apply quiet_updMon | apply quiet_ite)
    | split)

theorem quiet_deliver {s0 s : State} (m : Nat) (h : Quiet s0 s) : Quiet s0 (deliver m s) := by
  delta deliver
  repeat' (first
    | lift_lets -underBinder | (intro y; refine (fun (hy : Quiet s0 y) => ?_) ?_ <;> [clear_value y; dsimp -zeta only [y]])
    | (intro y; clear_value y)
    | with_reducible (first
      | assumption | apply quiet_updMon | apply quiet_countSample | apply quiet_accumulate | apply quiet_loopSample
      | apply quiet_settleSample | apply quiet_verifySample | apply quiet_ite)
    | split)

theorem quiet_launchReply {s0 : State} (n : Nat) {x : Except Refuse (State × Launch)} (h : QuietEx (fun y => y.1) s0 x) :
    QuietRan s0 (launchReply n x) := by
  unfold launchReply
  split
  · exact quietRan_error
  · exact quietRan_ok (h _ rfl)

theorem quiet_builtLaunch {s0 : State} (p : Nat) (t : NetTime) {x : Except Refuse (Nat × Bool × State)} (h : QuietEx
    (fun y => y.2.2) s0 x) :
    QuietRan s0 (builtLaunch p t x) := by
  unfold builtLaunch
  split
  · exact quietRan_error
  · exact quiet_launchReply _ (quiet_acceptLaunch _ _ _ _ _ _ (h _ rfl))

theorem quiet_cmdFacetLaunch {s0 s : State} (r : Req) (h : Quiet s0 s) : QuietRan s0 (cmdFacetLaunch.run r s) := by
  dsimp -zeta only [cmdFacetLaunch]
  repeat' (first
    | lift_lets -underBinder | (intro y; clear_value y)
    | with_reducible (first
      | assumption | apply quiet_launchReply | apply quiet_acceptLaunch | apply quiet_builtLaunch | apply quiet_lookup
      | refine quietRan_guarded ?_ | exact quietRan_error)
    | split)

theorem quiet_withdrawLaunch {s0 s : State} (p : Nat) (l : Launch) (h : Quiet s0 s) : Quiet s0 (withdrawLaunch p l s) := by
  delta withdrawLaunch
  repeat' (first
    | lift_lets -underBinder | (intro y; clear_value y)
    | with_reducible (first
      | assumption | apply quiet_fileReport | apply quiet_releaseLaunch | apply quiet_updPlane))

theorem quiet_cmdFacetCancel {s0 s : State} (r : Req) (h : Quiet s0 s) : QuietRan s0 (cmdFacetCancel.run r s) := by
  dsimp -zeta only [cmdFacetCancel]
  repeat' (first
    | lift_lets -underBinder | (intro y; clear_value y)
    | with_reducible (first
      | assumption | apply quiet_withdrawLaunch | refine quietRan_ok ?_ | exact quietRan_error)
    | split)

theorem quiet_cmdFacetReport {s0 s : State} (r : Req) (h : Quiet s0 s) : QuietRan s0 (cmdFacetReport.run r s) := by
  dsimp -zeta only [cmdFacetReport]
  repeat' (first
    | lift_lets -underBinder | (intro y; clear_value y)
    | with_reducible (first | assumption | refine quietRan_ok ?_ | exact quietRan_error) | split)

end Sys2Proof.Machine
end

