-- ==== Sys2Proof/Laws/QuietNet.lean ====
section
/-! SUPPORT. Quiet functions (`Quiet` of Laws/Quiet.lean): links, bezels, the relay and endpoints. -/

namespace Sys2Proof.Machine

theorem quiet_bzDrive {s0 s : State} (l : Nat) (high : Bool) (h : Quiet s0 s) : Quiet s0 (bzDrive l high s) := by
  delta bzDrive
  repeat' (first
    | lift_lets -underBinder | (intro (y : Pins); dsimp -zeta only [y]; clear y)
    | with_reducible exact quiet_mk (Quiet.dark ‹_›) (Quiet.light ‹_›) (Quiet.queue ‹_›) (Quiet.mem ‹_›) (Quiet.mail ‹_›))

theorem quiet_queueBezel {s0 s : State} (l : Nat) (op : Nat) (addr : Nat) (data : List Nat) (req : Option Req) (h : Quiet s0 s)
    : Quiet s0 (queueBezel l op addr data req s) := by
  delta queueBezel
  repeat' (first
    | lift_lets -underBinder | with_reducible (first | assumption | apply quiet_updLink))

theorem quiet_dropCmds {s0 s : State} (l : Nat) (h : Quiet s0 s) : Quiet s0 (dropCmds l s) := by
  delta dropCmds
  repeat' (first
    | lift_lets -underBinder | (intro y; refine (fun (hy : Quiet s0 y) => ?_) ?_ <;> [clear_value y; dsimp -zeta only [y]])
    | (intro y; clear_value y)
    | with_reducible (first
      | assumption | apply quiet_updLink | apply quiet_refuseReq | refine quiet_each ?_ (fun a t ht => ?_)))

theorem quiet_startAttempt {s0 s : State} (l : Nat) (n : Nat) (h : Quiet s0 s) : Quiet s0 (startAttempt l n s) := by
  delta startAttempt
  repeat' (first
    | lift_lets -underBinder | (intro y; refine (fun (hy : Quiet s0 y) => ?_) ?_ <;> [clear_value y; dsimp -zeta only [y]])
    | with_reducible (first
      | assumption | apply quiet_restartConvs | apply quiet_senseFrame | apply quiet_senseReset | apply quiet_dropCmds
      | apply quiet_bzDrive | apply quiet_lightOff | apply quiet_updLink | exact quiet_with ‹_› | refine quiet_each ?_ (fun a t ht => ?_)))

theorem quiet_startTraining {s0 s : State} (l : Nat) (h : Quiet s0 s) : Quiet s0 (startTraining l s) := by
  delta startTraining
  repeat' (first
    | lift_lets -underBinder | with_reducible (first | assumption | apply quiet_reState | apply quiet_startAttempt))

theorem quiet_trainFailed {s0 s : State} (l : Nat) (h : Quiet s0 s) : Quiet s0 (trainFailed l s) := by
  delta trainFailed
  repeat' (first
    | lift_lets -underBinder | (intro y; refine (fun (hy : Quiet s0 y) => ?_) ?_ <;> [clear_value y; dsimp -zeta only [y]])
    | (intro y; clear_value y)
    | with_reducible (first
      | assumption | apply quiet_startAttempt | apply quiet_reState | apply quiet_raiseCond | apply quiet_updLink | apply quiet_ite))

theorem quiet_enterRun {s0 s : State} (l : Nat) (h : Quiet s0 s) : Quiet s0 (enterRun l s) := by
  delta enterRun
  repeat' (first
    | lift_lets -underBinder | (intro y; refine (fun (hy : Quiet s0 y) => ?_) ?_ <;> [clear_value y; dsimp -zeta only [y]])
    | (intro y; clear_value y)
    | with_reducible (first
      | assumption | apply quiet_updLink | apply quiet_endCond | apply quiet_raiseFault | apply quiet_reState | apply quiet_ite))

theorem quiet_trainEcho {s0 s : State} (l : Nat) (seg : Nat) (bad' : Bool) (h : Quiet s0 s) : Quiet s0 (trainEcho l seg bad' s) := by
  delta trainEcho
  repeat' (first
    | lift_lets -underBinder | (intro y; clear_value y)
    | with_reducible (first
      | assumption | apply quiet_updLink | apply quiet_enterRun | apply quiet_trainFailed | apply quiet_ite))

theorem quiet_startPasses {s0 s : State} (l : Nat) (pass : Nat) (h : Quiet s0 s) : Quiet s0 (startPasses l pass s) := by
  delta startPasses
  repeat' (first
    | lift_lets -underBinder | with_reducible (first | assumption | apply quiet_updLink))

theorem quiet_heaterWords {s0 s : State} (l : Nat) (addr : Nat) (data : List Nat) (h : Quiet s0 s) : Quiet s0 (heaterWords l addr data s)
    := by
  delta heaterWords
  repeat' (first
    | lift_lets -underBinder | (intro y; refine (fun (hy : Quiet s0 y) => ?_) ?_ <;> [clear_value y; dsimp -zeta only [y]])
    | (intro y; clear_value y)
    | with_reducible (first
      | assumption | apply quiet_updLink | apply quiet_raiseCond | apply quiet_endCond | apply quiet_ite
      | refine quiet_each ?_ (fun a t ht => ?_)))

theorem quiet_ownResponse {s0 s : State} (l : Nat) (c : BezelCmd) (r : BezelResp) (h : Quiet s0 s) : Quiet s0 (ownResponse l c r s) := by
  delta ownResponse
  repeat' (first
    | lift_lets -underBinder | (intro y; refine (fun (hy : Quiet s0 y) => ?_) ?_ <;> [clear_value y; dsimp -zeta only [y]])
    | (intro y; refine (fun (hf : ∀ t, Quiet s0 t → Quiet s0 (y t)) => ?_) ?_ <;> [clear_value y; (intro t ht; dsimp -zeta only [y])])
    | (intro y; clear_value y)
    | with_reducible (first
      | assumption | apply hf | apply quiet_queueBezel | apply quiet_updLink | apply quiet_trainFailed | apply quiet_startPasses
      | apply quiet_heaterWords | apply quiet_ite))

theorem quiet_bezelResponse {s0 s : State} (l : Nat) (r : BezelResp) (h : Quiet s0 s) : Quiet s0 (bezelResponse l r s) := by
  delta bezelResponse
  repeat' (first
    | lift_lets -underBinder | (intro y; refine (fun (hy : Quiet s0 y) => ?_) ?_ <;> [clear_value y; dsimp -zeta only [y]])
    | with_reducible (first | assumption | apply quiet_updLink | apply quiet_answerOk | apply quiet_ownResponse) | split)

theorem quiet_emitLink {s0 s : State} (l : Nat) (h : Quiet s0 s) : Quiet s0 (emitLink l s).2.1 := by
  delta emitLink
  repeat' (first
    | lift_lets -underBinder | (intro y; clear_value y) | with_reducible exact quiet_with ‹_›)

theorem quiet_laneOut {s0 s : State} (n : Nat) (frame : Nat) (h : Quiet s0 s) : Quiet s0 (laneOut n frame s).2 := by
  delta laneOut
  repeat' (first
    | lift_lets -underBinder | (intro y; refine (fun (hy : Quiet s0 y.2) => ?_) ?_ <;> [clear_value y; dsimp -zeta only [y]])
    | (intro y; clear_value y) | with_reducible (first | assumption | apply quiet_draw | apply quiet_updLane | apply quiet_ite) | split)

theorem quiet_emitFrames {s0 s : State} (l : Nat) (f : DownFrame) (h : Quiet s0 s) : Quiet s0 (emitFrames l f s) := by
  delta emitFrames
  repeat' (first
    | lift_lets -underBinder | (intro y; refine (fun (hy : Quiet s0 y.2) => ?_) ?_ <;> [clear_value y; dsimp -zeta only [y]])
    | (intro y; clear_value y) | with_reducible (first | assumption | apply quiet_laneOut | apply quiet_emit))

theorem quiet_linkTick {s0 s : State} (l : Nat) (h : Quiet s0 s) : Quiet s0 (linkTick l s) := by
  delta linkTick
  repeat' (first
    | lift_lets -underBinder | (intro y; refine (fun (hy : Quiet s0 y) => ?_) ?_ <;> [clear_value y; dsimp -zeta only [y]])
    | (intro y; refine (fun (hy : Quiet s0 y.2.1) => ?_) ?_ <;> [clear_value y; dsimp -zeta only [y]]) | (intro y; clear_value y)
    | with_reducible (first
      | assumption | apply quiet_absentTick | apply quiet_emitLink | apply quiet_updLink | apply quiet_emitFrames | apply quiet_ite))

theorem quiet_convFrame {s0 s : State} (l : Nat) (f : DownFrame) (u : Option UpFrame) (h : Quiet s0 s) : Quiet s0 (convFrame l f u s) := by
  delta convFrame
  repeat' (first
    | lift_lets -underBinder | (intro y; clear_value y)
    | with_reducible (first | assumption | apply quiet_updLink | refine quiet_each ?_ (fun a t ht => ?_)) | split)

theorem quiet_beginConv {s0 s : State} (l : Nat) (j : Nat) (c : Conv) (m : RbMod) (h : Quiet s0 s) : Quiet s0 (beginConv l j c m s) := by
  delta beginConv
  repeat' (first
    | lift_lets -underBinder | with_reducible (first | assumption | apply quiet_updLink))

theorem quiet_superviseConv {s0 s : State} (l : Nat) (j : Nat) (ch : Nat) (m : Int) (c : Int) (h : Quiet s0 s) : Quiet s0
    (superviseConv l j ch m c s) := by
  delta superviseConv
  repeat' (first
    | lift_lets -underBinder | (intro y; refine (fun (hy : Quiet s0 y) => ?_) ?_ <;> [clear_value y; dsimp -zeta only [y]])
    | (intro y; clear_value y)
    | with_reducible (first
      | assumption | apply quiet_setCond | apply quiet_raiseCond | apply quiet_updDrive | apply quiet_updLink | apply quiet_endCond
      | apply quiet_ite))

theorem quiet_crcLoss {s0 s : State} (l : Nat) (h : Quiet s0 s) : Quiet s0 (crcLoss l s) := by
  delta crcLoss
  repeat' (first
    | lift_lets -underBinder | (intro y; refine (fun (hy : Quiet s0 y) => ?_) ?_ <;> [clear_value y; dsimp -zeta only [y]])
    | with_reducible (first
      | assumption | apply quiet_restartConvs | apply quiet_lightOff | apply quiet_updLink | apply quiet_reState | apply quiet_raiseCond))

theorem quiet_upLost {s0 s : State} (l : Nat) (f : DownFrame) (h : Quiet s0 s) : Quiet s0 (upLost l f s) := by
  delta upLost
  repeat' (first
    | lift_lets -underBinder | (intro y; refine (fun (hy : Quiet s0 y) => ?_) ?_ <;> [clear_value y; dsimp -zeta only [y]])
    | with_reducible (first
      | assumption | apply quiet_updLink | apply quiet_senseUnechoed | apply quiet_convFrame | apply quiet_senseFrame
      | apply quiet_crcLoss | apply quiet_ite)
    | split)

theorem quiet_bezelFault {s0 s : State} (l : Nat) (st : Word) (h : Quiet s0 s) : Quiet s0 (bezelFault l st s) := by
  delta bezelFault
  repeat' (first
    | lift_lets -underBinder | (intro y; refine (fun (hy : Quiet s0 y) => ?_) ?_ <;> [clear_value y; dsimp -zeta only [y]])
    | (intro y; clear_value y) | with_reducible (first | assumption | apply quiet_updLink | apply quiet_setCond))

theorem quiet_heaterStatus {s0 s : State} (l : Nat) (st : Word) (h : Quiet s0 s) : Quiet s0 (heaterStatus l st s) := by
  delta heaterStatus
  repeat' (first
    | lift_lets -underBinder | (intro y; refine (fun (hy : Quiet s0 y) => ?_) ?_ <;> [clear_value y; dsimp -zeta only [y]])
    | (intro y; clear_value y)
    | with_reducible (first
      | assumption | apply quiet_updLink | apply quiet_endCond | apply quiet_ite | refine quiet_each ?_ (fun a t ht => ?_)))

theorem quiet_statusActions {s0 s : State} (l : Nat) (old : Word) (own : List Nat) (f : DownFrame) (u : UpFrame) (h : Quiet s0 s)
    : Quiet s0 (statusActions l old own f u s) := by
  delta statusActions
  repeat' (first
    | lift_lets -underBinder | (intro y; refine (fun (hy : Quiet s0 y) => ?_) ?_ <;> [clear_value y; dsimp -zeta only [y]])
    | (intro y; clear_value y)
    | with_reducible (first
      | assumption | apply quiet_bezelFault | apply quiet_setCond | apply quiet_heaterStatus | apply quiet_endCond | apply quiet_raiseCond
      | apply quiet_raiseFault | apply quiet_startTraining | apply quiet_crcLoss | apply quiet_ite))

theorem quiet_echoFrame {s0 s : State} (l : Nat) (f : DownFrame) (u : UpFrame) (h : Quiet s0 s) : Quiet s0 (echoFrame l f u s) := by
  delta echoFrame
  repeat' (first
    | lift_lets -underBinder | (intro y; refine (fun (hy : Quiet s0 y) => ?_) ?_ <;> [clear_value y; dsimp -zeta only [y]])
    | (intro y; clear_value y) | with_reducible (first | assumption | apply quiet_updLink | apply quiet_trainEcho | apply quiet_ite))

theorem quiet_scanEnds {s0 s : State} (n : Nat) (h : Quiet s0 s) : Quiet s0 (scanEnds n s) := by
  delta scanEnds
  repeat' (first
    | lift_lets -underBinder | with_reducible (first | assumption | apply quiet_updLane | apply quiet_ite))

theorem quiet_laneTestSend {s0 s : State} (l : Nat) (st : Word) (h : Quiet s0 s) : Quiet s0 (laneTestSend l st s) := by
  delta laneTestSend
  repeat' (first
    | lift_lets -underBinder | with_reducible (first | assumption | apply quiet_queueBezel | apply quiet_updLink | apply quiet_ite)
    | split)

theorem quiet_upTaken {s0 s : State} (l : Nat) (f : DownFrame) (u : UpFrame) (h : Quiet s0 s) : Quiet s0 (upTaken l f u s) := by
  delta upTaken
  repeat' (first
    | lift_lets -underBinder | (intro y; refine (fun (hy : Quiet s0 y) => ?_) ?_ <;> [clear_value y; dsimp -zeta only [y]])
    | (intro y; clear_value y)
    | with_reducible (first
      | assumption | apply quiet_updLink | apply quiet_senseEcho | apply quiet_senseFrame | apply quiet_convFrame | apply quiet_echoFrame
      | apply quiet_laneTestSend | apply quiet_statusActions | apply quiet_startPasses | apply quiet_reState | apply quiet_endCond
      | apply quiet_bezelResponse | apply quiet_ite))

theorem quiet_laneCount {s0 s : State} (l : Nat) (ok3 : Bool) (ok4 : Bool) (h : Quiet s0 s) : Quiet s0 (laneCount l ok3 ok4 s) := by
  delta laneCount
  repeat' (first
    | lift_lets -underBinder | (intro y; refine (fun (hy : Quiet s0 y) => ?_) ?_ <;> [clear_value y; dsimp -zeta only [y]])
    | (intro y; clear_value y)
    | with_reducible (first
      | assumption | apply quiet_updLink | apply quiet_scanEnds | apply quiet_raiseFault | apply quiet_ite))

theorem quiet_upSeen {s0 s : State} (l : Nat) (f : DownFrame) (u : UpFrame) (h : Quiet s0 s) : Quiet s0 (upSeen l f u s) := by
  delta upSeen
  repeat' (first
    | lift_lets -underBinder | (intro y; refine (fun (hy : Quiet s0 y) => ?_) ?_ <;> [clear_value y; dsimp -zeta only [y]])
    | with_reducible (first
      | assumption | apply quiet_convFrame | apply quiet_senseFrame | apply quiet_updLink | apply quiet_bezelResponse | apply quiet_ite))

theorem quiet_cmdLinkStatus {s0 s : State} (r : Req) (h : Quiet s0 s) : QuietRan s0 (cmdLinkStatus.run r s) := by
  dsimp -zeta only [cmdLinkStatus]
  repeat' (first
    | lift_lets -underBinder | (intro y; clear_value y) | with_reducible (first | assumption | refine quietRan_ok ?_))

theorem quiet_cmdLinkRetrain {s0 s : State} (r : Req) (h : Quiet s0 s) : QuietRan s0 (cmdLinkRetrain.run r s) := by
  dsimp -zeta only [cmdLinkRetrain]
  repeat' (first
    | lift_lets -underBinder | (intro y; clear_value y)
    | with_reducible (first
      | assumption | apply quiet_startTraining | refine quietRan_ok ?_ | refine quietRan_guarded ?_))

theorem quiet_cmdLinkBezelCmd {s0 s : State} (r : Req) (h : Quiet s0 s) : QuietRan s0 (cmdLinkBezelCmd.run r s) := by
  dsimp -zeta only [cmdLinkBezelCmd]
  repeat' (first
    | lift_lets -underBinder | (intro y; clear_value y)
    | with_reducible (first
      | assumption | apply quiet_queueBezel | refine quietRan_guarded ?_ | refine quietRan_later ?_))

theorem quiet_bezelSend {s0 s : State} (l : Nat) (seq : Nat) (u : UpFrame) (h : Quiet s0 s) : Quiet s0 (bezelSend l seq u s) := by
  delta bezelSend
  repeat' (first
    | lift_lets -underBinder | (intro y; clear_value y) | with_reducible (first | assumption | apply quiet_updBezel | apply quiet_emit))

theorem quiet_bezelTestLanes {s0 s : State} (l : Nat) (f0 : LaneFrame) (f1 : LaneFrame) (f2 : LaneFrame) (h : Quiet s0 s) : Quiet s0
    (bezelTestLanes l f0 f1 f2 s) := by
  delta bezelTestLanes
  repeat' (first
    | lift_lets -underBinder | (intro y; refine (fun (hy : Quiet s0 y) => ?_) ?_ <;> [clear_value y; dsimp -zeta only [y]])
    | (intro y; refine (fun (hy : Quiet s0 y.2) => ?_) ?_ <;> [clear_value y; dsimp -zeta only [y]]) | (intro y; clear_value y)
    | with_reducible (first
      | assumption | apply quiet_draw | apply quiet_updBezel | apply quiet_emit | apply quiet_ite))

theorem quiet_bezelTest {s0 s : State} (l : Nat) (f0 : LaneFrame) (f1 : LaneFrame) (f2 : LaneFrame) (env : BezelEnv) (h : Quiet s0 s)
    : Quiet s0 (bezelTest l f0 f1 f2 env s) := by
  delta bezelTest
  repeat' (first
    | lift_lets -underBinder | (intro y; refine (fun (hy : Quiet s0 y) => ?_) ?_ <;> [clear_value y; dsimp -zeta only [y]])
    | (intro y; clear_value y)
    | with_reducible (first
      | assumption | apply quiet_updBezel | apply quiet_bezelSend | apply quiet_bezelTestLanes | apply quiet_ite))

theorem quiet_bezelFeels {s0 s : State} (l : Nat) (env : BezelEnv) (h : Quiet s0 s) : Quiet s0 (bezelFeels l env s) := by
  delta bezelFeels
  repeat' (first
    | lift_lets -underBinder | with_reducible (first | assumption | apply quiet_updBezel))

theorem quiet_bezelTick {s0 s : State} (l : Nat) (f0 : LaneFrame) (f1 : LaneFrame) (f2 : LaneFrame) (env : BezelEnv) (h : Quiet s0 s)
    : Quiet s0 (bezelTick l f0 f1 f2 env s) := by
  delta bezelTick
  repeat' (first
    | lift_lets -underBinder | (intro y; refine (fun (hy : Quiet s0 y) => ?_) ?_ <;> [clear_value y; dsimp -zeta only [y]])
    | (intro y; clear_value y)
    | with_reducible (first
      | assumption | apply quiet_bezelFeels | apply quiet_bezelTest | apply quiet_updBezel | apply quiet_bezelSend | apply quiet_ite))

theorem quiet_updFrame {s0 s : State} (id : Nat) (f : RFrame → RFrame) (h : Quiet s0 s) : Quiet s0 (updFrame id f s) := by
  delta updFrame
  repeat' (first
    | lift_lets -underBinder | (intro y; clear_value y) | with_reducible exact quiet_with ‹_›)

theorem quiet_removeFrame {s0 s : State} (id : Nat) (h : Quiet s0 s) : Quiet s0 (removeFrame id s) := by
  delta removeFrame
  repeat' (first
    | lift_lets -underBinder | (intro y; clear_value y) | with_reducible exact quiet_with ‹_›)

theorem quiet_shapeLink {s0 s : State} (k : Nat) (h : Quiet s0 s) : Quiet s0 (shapeLink k s) := by
  delta shapeLink
  repeat' (first
    | lift_lets -underBinder | (intro y; clear_value y) | with_reducible (first | assumption | apply quiet_updRlink))

theorem quiet_newSlopes {s0 s : State} (k : Nat) (h : Quiet s0 s) : Quiet s0 (newSlopes k s) := by
  delta newSlopes
  repeat' (first
    | lift_lets -underBinder | with_reducible (first | assumption | apply quiet_shapeLink | apply quiet_updRlink | apply quiet_ite))

theorem quiet_spendShaper {s0 s : State} (k : Nat) (c : Nat) (len : Nat) (h : Quiet s0 s) : Quiet s0 (spendShaper k c len s) := by
  delta spendShaper
  repeat' (first
    | lift_lets -underBinder | with_reducible (first | assumption | apply quiet_updRlink | apply quiet_ite))

theorem quiet_pushFrame {s0 s : State} (f : RFrame) (n : Nat) (h : Quiet s0 s) : Quiet s0 (pushFrame f n s) := by
  delta pushFrame
  repeat' (first
    | lift_lets -underBinder | (intro y; refine (fun (hy : Quiet s0 y) => ?_) ?_ <;> [clear_value y; dsimp -zeta only [y]])
    | (intro y; clear_value y)
    | with_reducible (first
      | assumption | apply quiet_shapeLink | exact quiet_with ‹_› | refine quiet_each ?_ (fun a t ht => ?_)))

theorem quiet_updMirror {s0 s : State} (n : Nat) (f : MirrorSes → MirrorSes) (h : Quiet s0 s) : Quiet s0 (updMirror n f s) := by
  delta updMirror
  repeat' (first
    | lift_lets -underBinder | (intro y; clear_value y) | with_reducible exact quiet_with ‹_›)

theorem quiet_mirrorCopy {s0 s : State} (n : Nat) (egr : Nat) (t : NetTime) (f : RFrame) (h : Quiet s0 s) : Quiet s0
    (mirrorCopy n egr t f s) := by
  delta mirrorCopy
  repeat' (first
    | lift_lets -underBinder | (intro y; clear_value y)
    | with_reducible (first
      | exact (quiet_allocBufs_eq ‹_› ‹_›) | exact quiet_with (quiet_allocBufs_eq ‹_› ‹_›) | apply quiet_flow | apply quiet_pushFrame
      | apply quiet_relayCount | apply quiet_updMirror)
    | split)

theorem quiet_mirror {s0 s : State} (egress : Bool) (k : Nat) (egr : Nat) (t : NetTime) (f : RFrame) (h : Quiet s0 s) : Quiet s0
    (mirror egress k egr t f s) := by
  delta mirror
  repeat' (first
    | lift_lets -underBinder | (intro y; clear_value y)
    | with_reducible (first
      | assumption | apply quiet_mirrorCopy | apply quiet_updMirror | apply quiet_ite | refine quiet_each ?_ (fun a t ht => ?_)))

theorem quiet_offer {s0 s : State} (f : RFrame) (h : Quiet s0 s) : Quiet s0 (offer f s) := by
  delta offer
  repeat' (first
    | lift_lets -underBinder | (intro y; refine (fun (hy : Quiet s0 y) => ?_) ?_ <;> [clear_value y; dsimp -zeta only [y]])
    | (intro y; clear_value y)
    | with_reducible (first
      | assumption | exact (quiet_allocBufs_eq ‹_› ‹_›) | exact quiet_with (quiet_allocBufs_eq ‹_› ‹_›) | apply quiet_relayCount
      | apply quiet_flow | apply quiet_mirror | apply quiet_pushFrame | apply quiet_ite | exact quiet_with ‹_›)
    | split)

theorem quiet_retryWaiting {s0 s : State} (h : Quiet s0 s) : Quiet s0 (retryWaiting s) := by
  delta retryWaiting
  repeat' (first
    | lift_lets -underBinder | (intro y; clear_value y)
    | with_reducible (first
      | assumption | apply quiet_offer | exact quiet_with ‹_› | refine quiet_each ?_ (fun a t ht => ?_)))

theorem quiet_inject {s0 s : State} (ing : Nat) (cls : Nat) (dests : List Nat) (data : Bytes) (stack : Bool) (h : Quiet s0 s) : Quiet s0
    (inject ing cls dests data stack s) := by
  delta inject
  repeat' (first
    | lift_lets -underBinder | (intro y; clear_value y) | with_reducible (first | assumption | apply quiet_offer | apply quiet_ite))

theorem quiet_oweBack {s0 s : State} (ing : Nat) (cls : Nat) (n : Nat) (h : Quiet s0 s) : Quiet s0 (oweBack ing cls n s) := by
  delta oweBack
  repeat' (first
    | lift_lets -underBinder | with_reducible (first | assumption | apply quiet_oweCredits | apply quiet_ite))

theorem quiet_served {s0 s : State} (id : Nat) (k : Nat) (h : Quiet s0 s) : Quiet s0 (served id k s) := by
  delta served
  repeat' (first
    | lift_lets -underBinder | (intro y; refine (fun (hy : Quiet s0 y) => ?_) ?_ <;> [clear_value y; dsimp -zeta only [y]])
    | (intro y; clear_value y)
    | with_reducible (first
      | assumption | apply quiet_freeBufs | apply quiet_oweBack | apply quiet_removeFrame | apply quiet_updFrame | apply quiet_flow
      | apply quiet_retryWaiting | apply quiet_ite)
    | split)

theorem quiet_dropFrame {s0 s : State} (id : Nat) (h : Quiet s0 s) : Quiet s0 (dropFrame id s) := by
  delta dropFrame
  repeat' (first
    | lift_lets -underBinder
    | with_reducible (first
      | assumption | apply quiet_removeFrame | apply quiet_served | apply quiet_ite | refine quiet_each ?_ (fun a t ht => ?_))
    | split)

theorem quiet_arriveInside {s0 s : State} (id : Nat) (d : Nat) (h : Quiet s0 s) : Quiet s0 (arriveInside id d s) := by
  delta arriveInside
  repeat' (first
    | lift_lets -underBinder | (intro y; refine (fun (hy : Quiet s0 y) => ?_) ?_ <;> [clear_value y; dsimp -zeta only [y]])
    | with_reducible (first
      | assumption | apply quiet_relayCount | apply quiet_mirror | apply quiet_stageRec | apply quiet_emit | apply quiet_served
      | apply quiet_ite)
    | split)

theorem quiet_badFrame {s0 s : State} (f : RFrame) (data : Bytes) (len : Nat) (h : Quiet s0 s) : Quiet s0 (badFrame f data len s) := by
  delta badFrame
  repeat' (first
    | lift_lets -underBinder | (intro y; clear_value y)
    | with_reducible (first
      | assumption | apply quiet_mirror | apply quiet_updFrame | apply quiet_dropFrame | apply quiet_ite))

theorem quiet_breakOff {s0 s : State} (k : Nat) (w : Nat) (h : Quiet s0 s) : Quiet s0 (breakOff k w s) := by
  delta breakOff
  repeat' (first
    | lift_lets -underBinder | with_reducible (first | assumption | apply quiet_badFrame | apply quiet_relayCount) | split)

theorem quiet_overrun {s0 s : State} (k : Nat) (h : Quiet s0 s) : Quiet s0 (overrun k s) := by
  delta overrun
  repeat' (first
    | lift_lets -underBinder | (intro y; refine (fun (hy : Quiet s0 y) => ?_) ?_ <;> [clear_value y; dsimp -zeta only [y]])
    | with_reducible (first | assumption | apply quiet_relayCount | apply quiet_raiseFault | apply quiet_ite))

theorem quiet_headTake {s0 s : State} (k : Nat) (w : Nat) (head : Bytes) (rx : NetTime) (h : Quiet s0 s) : Quiet s0
    (headTake k w head rx s) := by
  delta headTake
  repeat' (first
    | lift_lets -underBinder | (intro y; refine (fun (hy : Quiet s0 y) => ?_) ?_ <;> [clear_value y; dsimp -zeta only [y]])
    | (intro y; clear_value y)
    | with_reducible (first
      | assumption | apply quiet_relayCount | apply quiet_pushFrame | exact (quiet_allocBuf_eq ‹_› ‹_›) | apply quiet_overrun
      | apply quiet_flow | apply quiet_ite)
    | split)

theorem quiet_headArrive {s0 s : State} (k : Nat) (head : Bytes) (rx : NetTime) (h : Quiet s0 s) : Quiet s0 (headArrive k head rx s) := by
  delta headArrive
  repeat' (first
    | lift_lets -underBinder | (intro y; refine (fun (hy : Quiet s0 y) => ?_) ?_ <;> [clear_value y; dsimp -zeta only [y]])
    | with_reducible (first | assumption | apply quiet_headTake | apply quiet_breakOff | apply quiet_ite))

theorem quiet_frameGood {s0 s : State} (k : Nat) (frame : Bytes) (f : RFrame) (h : Quiet s0 s) : Quiet s0 (frameGood k frame f s) := by
  delta frameGood
  repeat' (first
    | lift_lets -underBinder | (intro y; refine (fun (hy : Quiet s0 y) => ?_) ?_ <;> [clear_value y; dsimp -zeta only [y]])
    | (intro y; clear_value y)
    | with_reducible (first
      | assumption | apply quiet_oweBack | apply quiet_mirror | apply quiet_removeFrame | exact (quiet_allocBufs_eq ‹_› ‹_›)
      | apply quiet_badFrame | apply quiet_overrun | apply quiet_updFrame | apply quiet_flow | apply quiet_arriveInside | apply quiet_ite
      | refine quiet_each ?_ (fun a t ht => ?_))
    | split)

theorem quiet_frameEnd {s0 s : State} (k : Nat) (w : Nat) (frame : Bytes) (fcs : Nat) (h : Quiet s0 s) : Quiet s0
    (frameEnd k w frame fcs s) := by
  delta frameEnd
  repeat' (first
    | lift_lets -underBinder | (intro y; refine (fun (hy : Quiet s0 y) => ?_) ?_ <;> [clear_value y; dsimp -zeta only [y]])
    | (intro y; clear_value y)
    | with_reducible (first
      | assumption | apply quiet_relayCount | apply quiet_oweBack | apply quiet_badFrame | apply quiet_frameGood | apply quiet_ite)
    | split)

theorem quiet_cellsAborted {s0 s : State} (k : Nat) (cells : List Bytes) (h : Quiet s0 s) : Quiet s0 (cellsAborted k cells s) := by
  delta cellsAborted
  repeat' (first
    | lift_lets -underBinder | (intro y; refine (fun (hy : Quiet s0 y) => ?_) ?_ <;> [clear_value y; dsimp -zeta only [y]])
    | (intro y; clear_value y) | with_reducible (first | assumption | apply quiet_relayCount | apply quiet_oweBack | apply quiet_badFrame)
    | split)

theorem quiet_receiveEnd {s0 s : State} (k : Nat) (frame : List Bytes) (fcs : Nat) (h : Quiet s0 s) : Quiet s0 (receiveEnd k frame fcs s)
    := by
  delta receiveEnd
  repeat' (first
    | lift_lets -underBinder | with_reducible (first | assumption | apply quiet_frameEnd | apply quiet_cellsAborted | apply quiet_ite)
    | split)

theorem quiet_moveCell {s0 s : State} (p : Nat × Nat) (h : Quiet s0 s) : Quiet s0 (moveCell p s) := by
  delta moveCell
  repeat' (first
    | lift_lets -underBinder | (intro y; clear_value y)
    | with_reducible (first
      | assumption | apply quiet_arriveInside | apply quiet_updFrame | apply quiet_shapeLink | apply quiet_ite)
    | split)

theorem quiet_cellTime {s0 s : State} (h : Quiet s0 s) : Quiet s0 (cellTime s) := by
  delta cellTime
  repeat' (first
    | lift_lets -underBinder | (intro y; refine (fun (hy : Quiet s0 y) => ?_) ?_ <;> [clear_value y; dsimp -zeta only [y]])
    | (intro y; clear_value y)
    | with_reducible (first
      | assumption | apply quiet_retryWaiting | apply quiet_moveCell | exact quiet_with ‹_› | refine quiet_each ?_ (fun a t ht => ?_)))

theorem quiet_tcLost {s0 s : State} (h : Quiet s0 s) : Quiet s0 (tcLost s) := by
  delta tcLost
  repeat' (first
    | lift_lets -underBinder | (intro y; clear_value y) | with_reducible exact quiet_with ‹_›)

theorem quiet_tcAdd {s0 s : State} (port : Nat) (key : Nat) (res : NetTime) (h : Quiet s0 s) : Quiet s0 (tcAdd port key res s) := by
  delta tcAdd
  repeat' (first
    | lift_lets -underBinder | (intro y; refine (fun (hy : Quiet s0 y) => ?_) ?_ <;> [clear_value y; dsimp -zeta only [y]])
    | (intro y; clear_value y) | with_reducible (first | assumption | apply quiet_tcLost | apply quiet_ite | exact quiet_with ‹_›))

theorem quiet_tcLeave {s0 s : State} (k : Nat) (t : NetTime) (f : RFrame) (h : Quiet s0 s) : Quiet s0 (tcLeave k t f s).2 := by
  delta tcLeave
  repeat' (first
    | lift_lets -underBinder | (intro y; clear_value y) | with_reducible (first | assumption | apply quiet_tcAdd | exact quiet_with ‹_›)
    | split)

theorem quiet_tcHoldFrame {s0 s : State} (k : Nat) (f : RFrame) (h : Quiet s0 s) : Quiet s0 (tcHoldFrame k f s) := by
  delta tcHoldFrame
  repeat' (first
    | lift_lets -underBinder | (intro y; refine (fun (hy : Quiet s0 y) => ?_) ?_ <;> [clear_value y; dsimp -zeta only [y]])
    | (intro y; clear_value y) | with_reducible (first | assumption | apply quiet_updFrame | exact quiet_with ‹_›))

theorem quiet_tidyHead {s0 s : State} (k c n : Nat) (h : Quiet s0 s) : Quiet s0 (tidyHead k c n s) := by
  induction n generalizing s with
  | zero => exact h
  | succ n ih =>
    unfold tidyHead
    split
    · exact h
    · split
      · exact ih (quiet_raiseFault _ _ (quiet_served _ _ (quiet_relayCount _ _ _ h)))
      · split
        · exact ih (quiet_tcHoldFrame _ _ h)
        · exact h

theorem quiet_countHeld {s0 s : State} (k : Nat) (c : Nat) (h : Quiet s0 s) : Quiet s0 (countHeld k c s) := by
  delta countHeld
  repeat' (first
    | lift_lets -underBinder | with_reducible (first | assumption | apply quiet_relayCount | apply quiet_updFrame | apply quiet_ite)
    | split)

theorem quiet_discardQueued {s0 s : State} (k : Nat) (h : Quiet s0 s) : Quiet s0 (discardQueued k s) := by
  delta discardQueued
  repeat' (first
    | lift_lets -underBinder
    | with_reducible (first
      | assumption | apply quiet_relayCount | apply quiet_served | refine quiet_each ?_ (fun a t ht => ?_)))

theorem quiet_beginSend {s0 s : State} (k : Nat) (f : RFrame) (h : Quiet s0 s) : Quiet s0 (beginSend k f s) := by
  delta beginSend
  repeat' (first
    | lift_lets -underBinder | (intro y; refine (fun (hy : Quiet s0 y) => ?_) ?_ <;> [clear_value y; dsimp -zeta only [y]])
    | with_reducible (first
      | assumption | apply quiet_updFrame | apply quiet_setCredit | apply quiet_updRlink | apply quiet_relayCount | apply quiet_mirror
      | apply quiet_ite))

theorem quiet_beginHead {s0 s : State} (k : Nat) (f : Option RFrame) (h : Quiet s0 s) : Quiet s0 (beginHead k f s) := by
  delta beginHead
  repeat' (first
    | lift_lets -underBinder | with_reducible (first | assumption | apply quiet_beginSend) | split)

theorem quiet_egressStart {s0 s : State} (k : Nat) (h : Quiet s0 s) : Quiet s0 (egressStart k s) := by
  delta egressStart
  repeat' (first
    | lift_lets -underBinder | (intro y; refine (fun (hy : Quiet s0 y) => ?_) ?_ <;> [clear_value y; dsimp -zeta only [y]])
    | with_reducible (first
      | assumption | apply quiet_discardQueued | apply quiet_shapeLink | apply quiet_newSlopes | apply quiet_countHeld
      | apply quiet_tidyHead | apply quiet_beginHead | apply quiet_ite | refine quiet_each ?_ (fun a t ht => ?_)))

theorem quiet_pushTxts {s0 s : State} (port : Nat) (x : TxTs) (h : Quiet s0 s) : Quiet s0 (pushTxts port x s) := by
  delta pushTxts
  repeat' (first
    | lift_lets -underBinder | (intro y; clear_value y)
    | with_reducible (first | apply quiet_raiseCond | apply quiet_ite | exact quiet_with ‹_›))

theorem quiet_stackSent {s0 s : State} (k : Nat) (t : NetTime) (f : RFrame) (h : Quiet s0 s) : Quiet s0 (stackSent k t f s) := by
  delta stackSent
  repeat' (first
    | lift_lets -underBinder | (intro y; clear_value y)
    | with_reducible (first
      | assumption | apply quiet_pushTxts | apply quiet_inject | apply quiet_ite | exact quiet_with ‹_›)
    | split)

theorem quiet_leaveFrame {s0 s : State} (k : Nat) (d : Bytes) (f : RFrame) (h : Quiet s0 s) : Quiet s0 (leaveFrame k d f s) := by
  delta leaveFrame
  repeat' (first
    | lift_lets -underBinder | with_reducible (first | assumption | apply quiet_emit | apply quiet_ite))

theorem quiet_pfcRefresh {s0 s : State} (k : Nat) (h : Quiet s0 s) : Quiet s0 (pfcRefresh k s) := by
  delta pfcRefresh
  repeat' (first
    | lift_lets -underBinder | (intro y; clear_value y)
    | with_reducible (first
      | assumption | apply quiet_relayCount | apply quiet_emit | apply quiet_updRlink | apply quiet_ite))

theorem quiet_egressDone {s0 s : State} (k : Nat) (h : Quiet s0 s) : Quiet s0 (egressDone k s) := by
  delta egressDone
  repeat' (first
    | lift_lets -underBinder | (intro y; refine (fun (hy : Quiet s0 y) => ?_) ?_ <;> [clear_value y; dsimp -zeta only [y]])
    | (intro y; refine (fun (hy : Quiet s0 y.2) => ?_) ?_ <;> [clear_value y; dsimp -zeta only [y]])
    | with_reducible (first
      | assumption | apply quiet_updRlink | apply quiet_tcLeave | apply quiet_leaveFrame | apply quiet_relayCount | apply quiet_mirror
      | apply quiet_setCredit | apply quiet_spendShaper | apply quiet_shapeLink | apply quiet_newSlopes | apply quiet_served
      | apply quiet_stackSent | apply quiet_pfcRefresh | apply quiet_ite)
    | split)

theorem quiet_relayLinkDown {s0 s : State} (k : Nat) (h : Quiet s0 s) : Quiet s0 (relayLinkDown k s) := by
  delta relayLinkDown
  repeat' (first
    | lift_lets -underBinder | (intro y; refine (fun (hy : Quiet s0 y) => ?_) ?_ <;> [clear_value y; dsimp -zeta only [y]])
    | with_reducible (first
      | assumption | apply quiet_updRlink | apply quiet_breakOff | apply quiet_discardQueued | refine quiet_each ?_ (fun a t ht => ?_)))

theorem quiet_ethDown {s0 s : State} (k : Nat) (h : Quiet s0 s) : Quiet s0 (ethDown k s) := by
  delta ethDown
  repeat' (first
    | lift_lets -underBinder | with_reducible (first | assumption | apply quiet_raiseCond | apply quiet_relayLinkDown | apply quiet_ite))

theorem quiet_claspCredit {s0 s : State} (west : Bool) (unit : Bytes) (h : Quiet s0 s) : Quiet s0 (claspCredit west unit s) := by
  delta claspCredit
  repeat' (first
    | lift_lets -underBinder
    | with_reducible (first
      | assumption | apply quiet_setCredit | apply quiet_ite | refine quiet_each ?_ (fun a t ht => ?_))
    | split)

theorem quiet_txDone {s0 s : State} (h : Quiet s0 s) : Quiet s0 (txDone s) := by
  delta txDone
  repeat' (first
    | lift_lets -underBinder | (intro y; refine (fun (hy : Quiet s0 y) => ?_) ?_ <;> [clear_value y; dsimp -zeta only [y]])
    | (intro y; clear_value y)
    | with_reducible (first | assumption | apply quiet_dmaWrite | apply quiet_sendVector | exact quiet_with ‹_›))

theorem quiet_hostTx {s0 s : State} (desc : Bytes) (data : Bytes) (h : Quiet s0 s) : Quiet s0 (hostTx desc data s) := by
  delta hostTx
  repeat' (first
    | lift_lets -underBinder
    | (intro y; refine (fun (hf : ∀ t, Quiet s0 t → Quiet s0 (y t)) => ?_) ?_ <;> [clear_value y; (intro t ht; dsimp -zeta only [y])])
    | (intro y; clear_value y)
    | with_reducible (first
      | assumption | apply hf | apply quiet_txDone | apply quiet_relayCount | apply quiet_mirror | exact (quiet_allocBufs_eq ‹_› ‹_›)
      | exact quiet_with (quiet_allocBufs_eq ‹_› ‹_›) | apply quiet_flow | apply quiet_pushFrame | apply quiet_ite
      | refine quiet_each ?_ (fun a t ht => ?_))
    | split)

theorem quiet_hostRx {s0 s : State} (desc : Bytes) (h : Quiet s0 s) : Quiet s0 (hostRx desc s) := by
  delta hostRx
  repeat' (first
    | lift_lets -underBinder | (intro y; refine (fun (hy : Quiet s0 y) => ?_) ?_ <;> [clear_value y; dsimp -zeta only [y]])
    | (intro y; clear_value y)
    | with_reducible (first
      | assumption | apply quiet_dmaWrite | apply quiet_mirror | apply quiet_sendVector | apply quiet_served | apply quiet_relayCount
      | apply quiet_ite | exact quiet_with ‹_›)
    | split)

theorem quiet_updRelay {s0 s : State} (f : Relay → Relay) (h : Quiet s0 s) : Quiet s0 (updRelay f s) := by
  delta updRelay
  with_reducible exact quiet_with ‹_›

theorem quiet_cmdRelayConfig {s0 s : State} (r : Req) (h : Quiet s0 s) : QuietRan s0 (cmdRelayConfig.run r s) := by
  dsimp -zeta only [cmdRelayConfig]
  repeat' (first
    | lift_lets -underBinder | (intro y; clear_value y)
    | with_reducible (first | assumption | apply quiet_updRelay | refine quietRan_ok ?_))

theorem quiet_cmdRelayPortConfig {s0 s : State} (r : Req) (h : Quiet s0 s) : QuietRan s0 (cmdRelayPortConfig.run r s) := by
  dsimp -zeta only [cmdRelayPortConfig]
  repeat' (first
    | lift_lets -underBinder | (intro y; refine (fun (hy : Quiet s0 y) => ?_) ?_ <;> [clear_value y; dsimp -zeta only [y]])
    | (intro y; clear_value y)
    | with_reducible (first
      | assumption | apply quiet_ethDown | apply quiet_updRelay | apply quiet_flow | apply quiet_updRlink | refine quietRan_ok ?_
      | refine quietRan_guarded ?_ | apply quiet_ite | refine quiet_each ?_ (fun a t ht => ?_)))

theorem quiet_fecSeen {s0 s : State} (n : Nat) (k : Nat) (h : Quiet s0 s) : Quiet s0 (fecSeen n k s) := by
  delta fecSeen
  repeat' (first
    | lift_lets -underBinder | (intro y; refine (fun (hy : Quiet s0 y) => ?_) ?_ <;> [clear_value y; dsimp -zeta only [y]])
    | (intro y; refine (fun (hy : Quiet s0 y.2) => ?_) ?_ <;> [clear_value y; dsimp -zeta only [y]])
    | with_reducible (first
      | assumption | apply quiet_draw | apply quiet_relayCount | apply quiet_raiseFault | apply quiet_ite))

theorem quiet_cmdRelayPortStatus {s0 s : State} (r : Req) (h : Quiet s0 s) : QuietRan s0 (cmdRelayPortStatus.run r s) := by
  dsimp -zeta only [cmdRelayPortStatus]
  repeat' (first
    | lift_lets -underBinder | (intro y; refine (fun (hy : Quiet s0 y) => ?_) ?_ <;> [clear_value y; dsimp -zeta only [y]])
    | (intro y; clear_value y) | with_reducible (first | assumption | apply quiet_fecSeen | refine quietRan_ok ?_))

theorem quiet_cmdRelayFdbWrite {s0 s : State} (r : Req) (h : Quiet s0 s) : QuietRan s0 (cmdRelayFdbWrite.run r s) := by
  dsimp -zeta only [cmdRelayFdbWrite]
  repeat' (first
    | lift_lets -underBinder | (intro y; clear_value y)
    | with_reducible (first
      | assumption | apply quiet_updRelay | refine quietRan_ok ?_ | refine quietRan_guarded ?_))

theorem quiet_cmdRelayFdbRead {s0 s : State} (r : Req) (h : Quiet s0 s) : QuietRan s0 (cmdRelayFdbRead.run r s) := by
  dsimp -zeta only [cmdRelayFdbRead]
  repeat' (first
    | lift_lets -underBinder | (intro y; clear_value y)
    | with_reducible (first | assumption | refine quietRan_ok ?_ | exact quietRan_error) | split)

theorem quiet_cmdRelayGroupWrite {s0 s : State} (r : Req) (h : Quiet s0 s) : QuietRan s0 (cmdRelayGroupWrite.run r s) := by
  dsimp -zeta only [cmdRelayGroupWrite]
  repeat' (first
    | lift_lets -underBinder | (intro y; clear_value y)
    | with_reducible (first | assumption | apply quiet_updRelay | refine quietRan_ok ?_))

theorem quiet_cmdRelayFence {s0 s : State} (r : Req) (h : Quiet s0 s) : QuietRan s0 (cmdRelayFence.run r s) := by
  dsimp -zeta only [cmdRelayFence]
  repeat' (first
    | lift_lets -underBinder | (intro y; clear_value y)
    | with_reducible (first | assumption | apply quiet_updRelay | refine quietRan_ok ?_ | refine quietRan_later ?_) | split)

theorem quiet_endFences {s0 s : State} (f : Fence → Bool) (ans : Fence → State → State) (h : Quiet s0 s) (hans
    : ∀ b t, Quiet s0 t → Quiet s0 (ans b t)) : Quiet s0 (endFences f ans s) := by
  delta endFences
  repeat' (first
    | lift_lets -underBinder | with_reducible assumption | apply hans
    | with_reducible (first | apply quiet_updRelay | refine quiet_each ?_ (fun a t ht => ?_)))

theorem quiet_cmdRelayGateLoad {s0 s : State} (r : Req) (h : Quiet s0 s) : QuietRan s0 (cmdRelayGateLoad.run r s) := by
  dsimp -zeta only [cmdRelayGateLoad]
  repeat' (first
    | lift_lets -underBinder | (intro y; clear_value y)
    | with_reducible (first
      | assumption | apply quiet_updRlink | refine quietRan_ok ?_ | refine quietRan_guarded ?_))

theorem quiet_cmdRelayShaper {s0 s : State} (r : Req) (h : Quiet s0 s) : QuietRan s0 (cmdRelayShaper.run r s) := by
  dsimp -zeta only [cmdRelayShaper]
  repeat' (first
    | lift_lets -underBinder | (intro y; refine (fun (hy : Quiet s0 y) => ?_) ?_ <;> [clear_value y; dsimp -zeta only [y]])
    | (intro y; clear_value y)
    | with_reducible (first
      | assumption | apply quiet_updRlink | apply quiet_newSlopes | refine quietRan_ok ?_ | apply quiet_ite))

theorem quiet_cmdRelayMirror {s0 s : State} (r : Req) (h : Quiet s0 s) : QuietRan s0 (cmdRelayMirror.run r s) := by
  dsimp -zeta only [cmdRelayMirror]
  repeat' (first
    | lift_lets -underBinder | (intro y; clear_value y)
    | with_reducible (first | assumption | apply quiet_updMirror | refine quietRan_ok ?_))

theorem quiet_cmdRelayCounters {s0 s : State} (r : Req) (h : Quiet s0 s) : QuietRan s0 (cmdRelayCounters.run r s) := by
  dsimp -zeta only [cmdRelayCounters]
  repeat' (first
    | lift_lets -underBinder | (intro y; clear_value y)
    | with_reducible (first | assumption | apply quiet_updRelay | apply quiet_updRlink | refine quietRan_ok ?_) | split)

theorem quiet_updSched {s0 s : State} (f : Sched → Sched) (h : Quiet s0 s) : Quiet s0 (updSched f s) := by
  delta updSched
  with_reducible exact quiet_with ‹_›

theorem quiet_moveAllow {s0 s : State} (d : Nat) (h : Quiet s0 s) : Quiet s0 (moveAllow d s) := by
  delta moveAllow
  repeat' (first
    | lift_lets -underBinder | with_reducible (first | assumption | apply quiet_updDplane))

theorem quiet_joinPlane {s0 s : State} (d : Nat) (h : Quiet s0 s) : Quiet s0 (joinPlane d s) := by
  delta joinPlane
  repeat' (first
    | lift_lets -underBinder | with_reducible (first | assumption | apply quiet_updDplane))

theorem quiet_sendTo {s0 s : State} (a : Endpoint) (msg : Bytes) (h : Quiet s0 s) : Quiet s0 (sendTo a msg s) := by
  delta sendTo
  repeat' (first
    | lift_lets -underBinder | (intro y; clear_value y)
    | with_reducible (first | assumption | apply quiet_inject | apply quiet_draw | apply quiet_ite))

theorem quiet_sendEp {s0 s : State} (e : Nat) (type : Nat) (body : Bytes) (h : Quiet s0 s) : Quiet s0 (sendEp e type body s) := by
  delta sendEp
  repeat' (first
    | lift_lets -underBinder | (intro y; clear_value y) | with_reducible (first | assumption | apply quiet_sendTo | apply quiet_updEp))

theorem quiet_epCount {s0 s : State} (e : Nat) (i : Nat) (n : Nat) (h : Quiet s0 s) : Quiet s0 (epCount e i n s) := by
  delta epCount
  repeat' (first
    | lift_lets -underBinder | (intro y; refine (fun (hy : Quiet s0 y) => ?_) ?_ <;> [clear_value y; dsimp -zeta only [y]])
    | (intro y; clear_value y) | with_reducible (first | assumption | apply quiet_updEp | apply quiet_ite | exact quiet_with ‹_›))

theorem quiet_announceGroup {s0 s : State} (a : Endpoint) (h : Quiet s0 s) : Quiet s0 (announceGroup a s) := by
  delta announceGroup
  repeat' (first
    | lift_lets -underBinder | (intro y; refine (fun (hy : Quiet s0 y) => ?_) ?_ <;> [clear_value y; dsimp -zeta only [y]])
    | (intro y; clear_value y)
    | with_reducible (first
      | assumption | apply quiet_inject | apply quiet_draw | apply quiet_ite | exact quiet_with ‹_›))

theorem quiet_announceTo {s0 s : State} (udp : Bool) (h : Quiet s0 s) : Quiet s0 (announceTo udp s) := by
  delta announceTo
  repeat' (first
    | lift_lets -underBinder
    | with_reducible (first
      | assumption | apply quiet_announceGroup | apply quiet_sendEp | apply quiet_ite | refine quiet_each ?_ (fun a t ht => ?_)))

theorem quiet_announce {s0 s : State} (h : Quiet s0 s) : Quiet s0 (announce s) := by
  delta announce
  repeat' (first
    | lift_lets -underBinder | with_reducible (first | assumption | apply quiet_announceTo | apply quiet_ite))

theorem quiet_revokeOf {s0 s : State} (t : NetTime) (hit : Held → Bool) (all : Bool) (reason : Nat) (e : Nat) (h : Quiet s0 s) : Quiet s0
    (revokeOf t hit all reason e s) := by
  delta revokeOf
  repeat' (first
    | lift_lets -underBinder | (intro y; refine (fun (hy : Quiet s0 y) => ?_) ?_ <;> [clear_value y; dsimp -zeta only [y]])
    | (intro y; clear_value y)
    | with_reducible (first
      | assumption | apply quiet_updEp | apply quiet_epCount | apply quiet_sendEp | apply quiet_ite))

theorem quiet_revokeCircuit {s0 s : State} (d : Nat) (i : Nat) (o : Nat) (reason : Nat) (t : NetTime) (h : Quiet s0 s) : Quiet s0
    (revokeCircuit d i o reason t s) := by
  delta revokeCircuit
  repeat' (first
    | lift_lets -underBinder | (intro y; refine (fun (hy : Quiet s0 y) => ?_) ?_ <;> [clear_value y; dsimp -zeta only [y]])
    | (intro y; clear_value y) | with_reducible (first | assumption | apply quiet_revokeOf | apply quiet_ite))

theorem quiet_revokePlane {s0 s : State} (d : Nat) (t : NetTime) (h : Quiet s0 s) : Quiet s0 (revokePlane d t s) := by
  delta revokePlane
  repeat' (first
    | lift_lets -underBinder | with_reducible (first | assumption | apply quiet_revokeOf | refine quiet_each ?_ (fun a t ht => ?_)))

theorem quiet_revokePeer {s0 s : State} (x : Nat) (h : Quiet s0 s) : Quiet s0 (revokePeer x s) := by
  delta revokePeer
  repeat' (first
    | lift_lets -underBinder | with_reducible (first | assumption | apply quiet_revokeOf | refine quiet_each ?_ (fun a t ht => ?_)))

theorem quiet_resetDemand {s0 s : State} (e : Nat) (h : Quiet s0 s) : Quiet s0 (resetDemand e s) := by
  delta resetDemand
  repeat' (first
    | lift_lets -underBinder | with_reducible (first | assumption | apply quiet_updSched))

theorem quiet_joinEp {s0 s : State} (e : Nat) (status : Nat) (h : Quiet s0 s) : Quiet s0 (joinEp e status s) := by
  delta joinEp
  repeat' (first
    | lift_lets -underBinder | (intro y; clear_value y) | with_reducible (first | assumption | apply quiet_sendEp))

theorem quiet_joinOther {s0 s : State} (a : Endpoint) (e : Nat) (status : Nat) (overhead : Nat) (h : Quiet s0 s) : Quiet s0
    (joinOther a e status overhead s) := by
  delta joinOther
  repeat' (first
    | lift_lets -underBinder | (intro y; clear_value y) | with_reducible (first | assumption | apply quiet_sendTo | apply quiet_draw))

theorem quiet_leaveEp {s0 s : State} (e : Nat) (status : Option Nat) (h : Quiet s0 s) : Quiet s0 (leaveEp e status s) := by
  delta leaveEp
  repeat' (first
    | lift_lets -underBinder | (intro y; refine (fun (hy : Quiet s0 y) => ?_) ?_ <;> [clear_value y; dsimp -zeta only [y]])
    | with_reducible (first
      | assumption | apply quiet_joinEp | apply quiet_revokePeer | apply quiet_resetDemand | apply quiet_endCond | apply quiet_updEp
      | apply quiet_raiseEvent | apply quiet_raiseFault | apply quiet_ite)
    | split)

theorem quiet_registerEp {s0 s : State} (e : Nat) (a : Endpoint) (p : Bytes) (t : NetTime) (h : Quiet s0 s) : Quiet s0
    (registerEp e a p t s) := by
  delta registerEp
  repeat' (first
    | lift_lets -underBinder | (intro y; refine (fun (hy : Quiet s0 y) => ?_) ?_ <;> [clear_value y; dsimp -zeta only [y]])
    | (intro y; clear_value y)
    | with_reducible (first
      | assumption | apply quiet_resetDemand | apply quiet_updEp | apply quiet_joinEp | apply quiet_raiseEvent | apply quiet_sendEp))

theorem quiet_helloEp {s0 s : State} (e : Nat) (a : Endpoint) (p : Bytes) (t : NetTime) (h : Quiet s0 s) : Quiet s0 (helloEp e a p t s)
    := by
  delta helloEp
  repeat' (first
    | lift_lets -underBinder | (intro y; refine (fun (hy : Quiet s0 y) => ?_) ?_ <;> [clear_value y; dsimp -zeta only [y]])
    | (intro y; refine (fun (hf : ∀ b t, Quiet s0 t → Quiet s0 (y b t)) => ?_) ?_ <;> [clear_value y; (intro b t ht; dsimp -zeta only [y])])
    | (intro y; clear_value y)
    | with_reducible (first
      | assumption | apply hf | apply quiet_updEp | apply quiet_joinEp | apply quiet_joinOther | apply quiet_leaveEp
      | apply quiet_raiseFault | apply quiet_endCond | apply quiet_registerEp | apply quiet_ite))

theorem quiet_demandEntry {s0 s : State} (e : Nat) (ack : Nat) (v : Nat) (h : Quiet s0 s) : Quiet s0 (demandEntry e ack v s) := by
  delta demandEntry
  repeat' (first
    | lift_lets -underBinder | (intro y; clear_value y)
    | with_reducible (first | assumption | apply quiet_epCount | apply quiet_updDemand | apply quiet_ite))

theorem quiet_ackGrants {s0 s : State} (e : Nat) (ack : Nat) (h : Quiet s0 s) : Quiet s0 (ackGrants e ack s) := by
  delta ackGrants
  repeat' (first
    | lift_lets -underBinder | (intro y; refine (fun (hy : Quiet s0 y) => ?_) ?_ <;> [clear_value y; dsimp -zeta only [y]])
    | (intro y; clear_value y) | with_reducible (first | assumption | apply quiet_updSched | apply quiet_updEp | apply quiet_ite))

theorem quiet_policed {s0 s : State} (e : Nat) (t' : NetTime) (h : Quiet s0 s) : Quiet s0 (policed e t' s) := by
  delta policed
  repeat' (first
    | lift_lets -underBinder | (intro y; refine (fun (hy : Quiet s0 y) => ?_) ?_ <;> [clear_value y; dsimp -zeta only [y]])
    | (intro y; clear_value y)
    | with_reducible (first
      | assumption | apply quiet_epCount | apply quiet_updEp | apply quiet_raiseFault | apply quiet_ite))

theorem quiet_demandEp {s0 s : State} (e : Nat) (a : Endpoint) (p : Bytes) (t : NetTime) (h : Quiet s0 s) : Quiet s0 (demandEp e a p t s)
    := by
  delta demandEp
  repeat' (first
    | lift_lets -underBinder | (intro y; refine (fun (hy : Quiet s0 y) => ?_) ?_ <;> [clear_value y; dsimp -zeta only [y]])
    | (intro y; clear_value y)
    | with_reducible (first
      | assumption | apply quiet_epCount | apply quiet_updEp | apply quiet_policed | apply quiet_demandEntry | apply quiet_ackGrants
      | apply quiet_ite | refine quiet_each ?_ (fun a t ht => ?_)))

theorem quiet_epApply {s0 s : State} (h_ : HeldEp) (h : Quiet s0 s) : Quiet s0 (epApply h_ s) := by
  delta epApply
  repeat' (first
    | lift_lets -underBinder | (intro y; clear_value y)
    | with_reducible (first
      | assumption | apply quiet_helloEp | apply quiet_demandEp | apply quiet_refuseReq | apply quiet_answerOk | apply quiet_leaveEp
      | apply quiet_ite)
    | split)

theorem quiet_epLater {s0 s : State} (h_ : HeldEp) (h : Quiet s0 s) : Quiet s0 (epLater h_ s) := by
  delta epLater
  repeat' (first
    | lift_lets -underBinder | (intro y; clear_value y)
    | with_reducible (first | assumption | apply quiet_epApply | apply quiet_ite | exact quiet_with ‹_›))

theorem quiet_epTake {s0 s : State} (link : Nat) (frame : Bytes) (h : Quiet s0 s) : Quiet s0 (epTake link frame s) := by
  delta epTake
  repeat' (first
    | lift_lets -underBinder | (intro y; refine (fun (hy : Quiet s0 y) => ?_) ?_ <;> [clear_value y; dsimp -zeta only [y]])
    | (intro y; clear_value y)
    | with_reducible (first
      | assumption | apply quiet_epCount | apply quiet_epLater | apply quiet_updEp | apply quiet_ite | exact quiet_with ‹_›)
    | split)

theorem quiet_epReceive {s0 s : State} (link : Nat) (frame : Bytes) (h : Quiet s0 s) : Quiet s0 (epReceive link frame s) := by
  delta epReceive
  repeat' (first
    | lift_lets -underBinder | with_reducible (first | assumption | apply quiet_epTake | apply quiet_ite))

theorem quiet_arpReply {s0 s : State} (link : Nat) (d : Bytes) (h : Quiet s0 s) : Quiet s0 (arpReply link d s) := by
  delta arpReply
  repeat' (first
    | lift_lets -underBinder | (intro y; clear_value y) | with_reducible (first | assumption | apply quiet_inject | apply quiet_ite))

theorem quiet_cmdEndpointAdmit {s0 s : State} (r : Req) (h : Quiet s0 s) : QuietRan s0 (cmdEndpointAdmit.run r s) := by
  dsimp -zeta only [cmdEndpointAdmit]
  repeat' (first
    | lift_lets -underBinder | (intro y; clear_value y)
    | with_reducible (first | refine quietRan_ok ?_ | refine quietRan_guarded ?_ | exact quiet_with ‹_›))

theorem quiet_cmdEndpointRead {s0 s : State} (r : Req) (h : Quiet s0 s) : QuietRan s0 (cmdEndpointRead.run r s) := by
  dsimp -zeta only [cmdEndpointRead]
  repeat' (first
    | lift_lets -underBinder | with_reducible (first | assumption | refine quietRan_ok ?_))

theorem quiet_cmdEndpointEvict {s0 s : State} (r : Req) (h : Quiet s0 s) : QuietRan s0 (cmdEndpointEvict.run r s) := by
  dsimp -zeta only [cmdEndpointEvict]
  repeat' (first
    | lift_lets -underBinder | (intro y; clear_value y)
    | with_reducible (first
      | assumption | apply quiet_epLater | apply quiet_leaveEp | refine quietRan_ok ?_ | refine quietRan_guarded ?_
      | refine quietRan_later ?_)
    | split)

theorem quiet_cmdEndpointCounters {s0 s : State} (r : Req) (h : Quiet s0 s) : QuietRan s0 (cmdEndpointCounters.run r s) := by
  dsimp -zeta only [cmdEndpointCounters]
  repeat' (first
    | lift_lets -underBinder | (intro y; refine (fun (hy : Quiet s0 y) => ?_) ?_ <;> [clear_value y; dsimp -zeta only [y]])
    | (intro y; clear_value y)
    | with_reducible (first
      | assumption | apply quiet_updEp | refine quietRan_ok ?_ | apply quiet_ite | exact quiet_with ‹_›))

end Sys2Proof.Machine
end

