-- ==== Sys2Proof/Laws/QuietSched.lean ====
section
/-! SUPPORT. Quiet functions (`Quiet` of Laws/Quiet.lean): planes, chains, the matcher and scheduling. -/

namespace Sys2Proof.Machine

theorem quiet_schedCmd {s0 s : State} (d : Nat) (action : Nat) (regime : Nat) (flags : Nat) (i : Nat) (o : Nat) (t : NetTime) (e : Nat)
    (h : Quiet s0 s) : Quiet s0 (schedCmd d action regime flags i o t e s) := by
  delta schedCmd
  repeat' (first
    | lift_lets -underBinder | with_reducible (first | assumption | apply quiet_claspSend))

theorem quiet_setDregime {s0 s : State} (d : Nat) (r : Nat) (h : Quiet s0 s) : Quiet s0 (setDregime d r s) := by
  delta setDregime
  repeat' (first
    | lift_lets -underBinder | with_reducible (first | assumption | apply quiet_updPlane | apply quiet_updDplane) | split)

theorem quiet_setDregimeAt {s0 s : State} (d : Nat) (r : Option RegimeAt) (h : Quiet s0 s) : Quiet s0 (setDregimeAt d r s) := by
  delta setDregimeAt
  repeat' (first
    | lift_lets -underBinder | with_reducible (first | assumption | apply quiet_updPlane | apply quiet_updDplane) | split)

theorem quiet_closeShutters {s0 s : State} (p : Nat) (h : Quiet s0 s) : Quiet s0 (closeShutters p s) := by
  delta closeShutters
  repeat' (first
    | lift_lets -underBinder | (intro y; clear_value y)
    | with_reducible (first | assumption | apply quiet_loadEntry | refine quiet_each ?_ (fun a t ht => ?_)) | split)

theorem quiet_enterIdleAt {s0 s : State} (p : Nat) (t : NetTime) (h : Quiet s0 s) : Quiet s0 (enterIdleAt p t s) := by
  delta enterIdleAt
  repeat' (first
    | lift_lets -underBinder | (intro y; refine (fun (hy : Quiet s0 y) => ?_) ?_ <;> [clear_value y; dsimp -zeta only [y]])
    | (intro y; clear_value y)
    | with_reducible (first
      | assumption | apply quiet_withdrawLaunch | apply quiet_fileReport | apply quiet_releaseLaunch | apply quiet_closeShutters
      | apply quiet_revokePlane | apply quiet_goOpen | apply quiet_updPlane | apply quiet_updChainPlane | apply quiet_reState
      | apply quiet_announce | apply quiet_ite | refine quiet_each ?_ (fun a t ht => ?_))
    | split)

theorem quiet_enterIdle {s0 s : State} (p : Nat) (h : Quiet s0 s) : Quiet s0 (enterIdle p s) := by
  delta enterIdle
  repeat' (first
    | lift_lets -underBinder | with_reducible (first | assumption | apply quiet_enterIdleAt))

theorem quiet_enterRegime {s0 s : State} (d : Nat) (r : Nat) (h : Quiet s0 s) : Quiet s0 (enterRegime d r s) := by
  delta enterRegime
  repeat' (first
    | lift_lets -underBinder | (intro y; refine (fun (hy : Quiet s0 y) => ?_) ?_ <;> [clear_value y; dsimp -zeta only [y]])
    | with_reducible (first
      | assumption | apply quiet_setDregime | apply quiet_updDplane | apply quiet_updChainPlane | apply quiet_reState
      | apply quiet_announce | apply quiet_ite))

theorem quiet_takeRegimeAt {s0 s : State} (d : Nat) (r : Nat) (t : NetTime) (h : Quiet s0 s) : Quiet s0 (takeRegimeAt d r t s) := by
  delta takeRegimeAt
  repeat' (first
    | lift_lets -underBinder | (intro y; refine (fun (hy : Quiet s0 y) => ?_) ?_ <;> [clear_value y; dsimp -zeta only [y]])
    | with_reducible (first
      | assumption | apply quiet_enterRegime | apply quiet_enterIdle | apply quiet_setDregime | apply quiet_revokePlane
      | apply quiet_updChainPlane | apply quiet_announce | apply quiet_ite)
    | split)

theorem quiet_takeRegime {s0 s : State} (d : Nat) (r : Nat) (h : Quiet s0 s) : Quiet s0 (takeRegime d r s) := by
  delta takeRegime
  repeat' (first
    | lift_lets -underBinder | with_reducible (first | assumption | apply quiet_takeRegimeAt))

theorem quiet_viewIdle {s0 s : State} (d : Nat) (h : Quiet s0 s) : Quiet s0 (viewIdle d s) := by
  delta viewIdle
  repeat' (first
    | lift_lets -underBinder
    | with_reducible (first
      | assumption | apply quiet_announce | apply quiet_setDregime | apply quiet_updChainPlane))

theorem quiet_changeRegime {s0 s : State} (p r : Nat) (t : NetTime) (h : Quiet s0 s) : QuietEx (fun y => y.2) s0 (changeRegime p r t s)
    := by
  delta changeRegime
  repeat' (first
    | lift_lets -underBinder | (intro y; refine (fun (hy : Quiet s0 y) => ?_) ?_ <;> [clear_value y; dsimp -zeta only [y]])
    | (intro y; clear_value y) | with_reducible (first | assumption | exact quietEx_error)
    | (with_reducible refine quietEx_ok ?_ <;> dsimp -zeta only)
    | with_reducible (first
      | apply quiet_setDregimeAt | apply quiet_enterIdle | apply quiet_announce | apply quiet_enterRegime | apply quiet_releaseDark
      | apply quiet_withdrawLaunch | apply quiet_updChainPlane | apply quiet_ite | refine quiet_each ?_ (fun a t ht => ?_))
    | split)

theorem quiet_changeRegime_eq {s0 s t1 : State} {p r : Nat} {t : NetTime} {b : NetTime} (e : changeRegime p r t s = .ok (b, t1)) (h
    : Quiet s0 s) : Quiet s0 t1 :=
  quiet_changeRegime _ _ _ h _ e

theorem quiet_regimeDue {s0 s : State} (d : Nat) (h : Quiet s0 s) : Quiet s0 (regimeDue d s) := by
  delta regimeDue
  repeat' (first
    | lift_lets -underBinder | with_reducible (first | assumption | apply quiet_takeRegime | apply quiet_setDregimeAt | apply quiet_ite)
    | split)

theorem quiet_withdrawPair {s0 s : State} (d : Nat) (i : Nat) (o : Nat) (h : Quiet s0 s) : Quiet s0 (withdrawPair d i o s) := by
  delta withdrawPair
  repeat' (first
    | lift_lets -underBinder | (intro y; refine (fun (hy : Quiet s0 y) => ?_) ?_ <;> [clear_value y; dsimp -zeta only [y]])
    | (intro y; clear_value y)
    | with_reducible (first
      | assumption | apply quiet_updDplane | apply quiet_raiseCond | apply quiet_raiseEvent | apply quiet_ite))

theorem quiet_restorePair {s0 s : State} (p : Nat) (i : Nat) (o : Nat) (h : Quiet s0 s) : Quiet s0 (restorePair p i o s) := by
  delta restorePair
  repeat' (first
    | lift_lets -underBinder | (intro y; refine (fun (hy : Quiet s0 y) => ?_) ?_ <;> [clear_value y; dsimp -zeta only [y]])
    | with_reducible (first | assumption | apply quiet_updPlane | apply quiet_updDrive | apply quiet_ite) | split)

theorem quiet_restoreLocal {s0 s : State} (p : Nat) (all : Bool) (i : Nat) (o : Nat) (h : Quiet s0 s) : Quiet s0
    (restoreLocal p all i o s) := by
  delta restoreLocal
  repeat' (first
    | lift_lets -underBinder
    | with_reducible (first
      | assumption | apply quiet_fzRestart | apply quiet_restorePair | refine quiet_each ?_ (fun a t ht => ?_)))

theorem quiet_parkCells {s0 s : State} (p : Nat) (inp : Nat) (h : Quiet s0 s) : Quiet s0 (parkCells p inp s) := by
  delta parkCells
  repeat' (first
    | lift_lets -underBinder | (intro y; refine (fun (hy : Quiet s0 y) => ?_) ?_ <;> [clear_value y; dsimp -zeta only [y]])
    | with_reducible (first
      | assumption | apply quiet_goOpen | apply quiet_loadEntry | apply quiet_ite | refine quiet_each ?_ (fun a t ht => ?_))
    | split)

theorem quiet_containTask {s0 s : State} (p : Nat) (i : Nat) (o : Nat) (e : Nat) (t : NetTime) (h : Quiet s0 s) : Quiet s0
    (containTask p i o e t s) := by
  delta containTask
  repeat' (first
    | lift_lets -underBinder | (intro y; refine (fun (hy : Quiet s0 y) => ?_) ?_ <;> [clear_value y; dsimp -zeta only [y]])
    | (intro y; clear_value y)
    | with_reducible (first
      | assumption | apply quiet_parkCells | apply quiet_revokeCircuit | apply quiet_withdrawPair | apply quiet_notice | apply quiet_ite))

theorem quiet_darkTask {s0 s : State} (p : Nat) (e : Nat) (t : NetTime) (h : Quiet s0 s) : Quiet s0 (darkTask p e t s) := by
  delta darkTask
  repeat' (first
    | lift_lets -underBinder | with_reducible (first | assumption | apply quiet_notice | apply quiet_enterIdleAt))

theorem quiet_orderRegime {s0 s : State} (d : Nat) (g : Nat) (t : NetTime) (r : Option Req) (h : Quiet s0 s) : Quiet s0
    (orderRegime d g t r s) := by
  delta orderRegime
  repeat' (first
    | lift_lets -underBinder | with_reducible (first | assumption | apply quiet_schedCmd | apply quiet_updSched))

theorem quiet_deviceTask {s0 s : State} (e : Nat) (t : NetTime) (h : Quiet s0 s) : Quiet s0 (deviceTask e t s) := by
  delta deviceTask
  repeat' (first
    | lift_lets -underBinder | (intro y; refine (fun (hy : Quiet s0 y) => ?_) ?_ <;> [clear_value y; dsimp -zeta only [y]])
    | with_reducible (first
      | assumption | apply quiet_darkTask | apply quiet_viewIdle | apply quiet_orderRegime | apply quiet_ite
      | refine quiet_each ?_ (fun a t ht => ?_)))

theorem quiet_containNamed {s0 s : State} (p : Nat) (i : Nat) (o : Nat) (e : Nat) (h : Quiet s0 s) : Quiet s0 (containNamed p i o e s) := by
  delta containNamed
  repeat' (first
    | lift_lets -underBinder | with_reducible (first | assumption | apply quiet_contain | refine quiet_each ?_ (fun a t ht => ?_)))

theorem quiet_darkLocal {s0 s : State} (p : Nat) (e : Nat) (h : Quiet s0 s) : Quiet s0 (darkLocal p e s) := by
  delta darkLocal
  repeat' (first
    | lift_lets -underBinder | with_reducible (first | assumption | apply quiet_addTask | apply quiet_calAbort | apply quiet_hwDarkPlane))

theorem quiet_containDplane {s0 s : State} (d : Nat) (i : Nat) (o : Nat) (e : Nat) (h : Quiet s0 s) : Quiet s0 (containDplane d i o e s)
    := by
  delta containDplane
  repeat' (first
    | lift_lets -underBinder | with_reducible (first | assumption | apply quiet_containNamed | apply quiet_schedCmd | apply quiet_ite)
    | split)

theorem quiet_darkDplane {s0 s : State} (d : Nat) (e : Nat) (h : Quiet s0 s) : Quiet s0 (darkDplane d e s) := by
  delta darkDplane
  repeat' (first
    | lift_lets -underBinder
    | with_reducible (first
      | assumption | apply quiet_darkLocal | apply quiet_viewIdle | apply quiet_schedCmd | apply quiet_ite)
    | split)

theorem quiet_coverPlane {s0 s : State} (e : Nat) (ep : Nat) (d : Nat) (h : Quiet s0 s) : Quiet s0 (coverPlane e ep d s) := by
  delta coverPlane
  repeat' (first
    | lift_lets -underBinder | (intro y; clear_value y) | with_reducible (first | assumption | apply quiet_ite | exact quiet_with ‹_›)
    | split)

theorem quiet_dplaneTask {s0 s : State} (sev : Nat) (d : Nat) (ep : Nat) (e : Nat) (h : Quiet s0 s) : Quiet s0 (dplaneTask sev d ep e s)
    := by
  delta dplaneTask
  repeat' (first
    | lift_lets -underBinder | (intro y; refine (fun (hy : Quiet s0 y) => ?_) ?_ <;> [clear_value y; dsimp -zeta only [y]])
    | (intro y; clear_value y)
    | with_reducible (first
      | assumption | apply quiet_coverPlane | apply quiet_darkDplane | apply quiet_containDplane | apply quiet_ite
      | refine quiet_each ?_ (fun a t ht => ?_)))

theorem quiet_runTask {s0 s : State} (t : FwTask × NetTime) (h : Quiet s0 s) : Quiet s0 (runTask t s) := by
  delta runTask
  repeat' (first
    | lift_lets -underBinder
    | with_reducible (first
      | assumption | apply quiet_containTask | apply quiet_darkTask | apply quiet_deviceTask | apply quiet_dplaneTask)
    | split)

theorem quiet_runTasks {s0 s : State} (h : Quiet s0 s) : Quiet s0 (runTasks s) := by
  delta runTasks
  repeat' (first
    | lift_lets -underBinder | (intro y; refine (fun (hy : Quiet s0 y) => ?_) ?_ <;> [clear_value y; dsimp -zeta only [y]])
    | (intro y; clear_value y)
    | with_reducible (first
      | assumption | apply quiet_runTask | exact quiet_with ‹_› | refine quiet_each ?_ (fun a t ht => ?_)))

theorem quiet_ownTunnel {s0 s : State} (op : Nat) (dev : Nat) (by' : NetTime) (pay : Bytes) (h : Quiet s0 s) : Quiet s0
    (ownTunnel op dev by' pay s) := by
  delta ownTunnel
  repeat' (first
    | lift_lets -underBinder | (intro y; refine (fun (hy : Quiet s0 y) => ?_) ?_ <;> [clear_value y; dsimp -zeta only [y]])
    | (intro y; clear_value y)
    | with_reducible (first
      | assumption | apply quiet_claspSend | exact quiet_with ‹_› | refine quiet_each ?_ (fun a t ht => ?_)))

theorem quiet_askPerm {s0 s : State} (h : Quiet s0 s) : Quiet s0 (askPerm s) := by
  delta askPerm
  repeat' (first
    | lift_lets -underBinder | with_reducible (first | assumption | apply quiet_ownTunnel) | split)

theorem quiet_cmdChainLoad {s0 s : State} (r : Req) (h : Quiet s0 s) : QuietRan s0 (cmdChainLoad.run r s) := by
  dsimp -zeta only [cmdChainLoad]
  repeat' (first
    | lift_lets -underBinder | (intro y; clear_value y)
    | with_reducible (first
      | assumption | apply quiet_askPerm | apply quiet_updSched | refine quietRan_ok ?_ | refine quietRan_guarded ?_
      | refine quietRan_later ?_)
    | split)

theorem quiet_permCame {s0 s : State} (rsp : Except Refuse (List Nat)) (h : Quiet s0 s) : Quiet s0 (permCame rsp s) := by
  delta permCame
  repeat' (first
    | lift_lets -underBinder
    | with_reducible (first
      | assumption | apply quiet_askPerm | apply quiet_refuseReq | apply quiet_updSched | apply quiet_answerOk | apply quiet_ite)
    | split)

theorem quiet_acceptStart {s0 s : State} (n : Nat) (start : NetTime) (m : Nat) (h : Quiet s0 s) : Quiet s0 (acceptStart n start m s) := by
  delta acceptStart
  repeat' (first
    | lift_lets -underBinder | (intro y; refine (fun (hy : Quiet s0 y) => ?_) ?_ <;> [clear_value y; dsimp -zeta only [y]])
    | (intro y; clear_value y)
    | with_reducible (first
      | assumption | apply quiet_updChainPlane | apply quiet_raiseFault | apply quiet_announce | apply quiet_ite))

theorem quiet_cmdChainStart {s0 s : State} (r : Req) (h : Quiet s0 s) : QuietRan s0 (cmdChainStart.run r s) := by
  dsimp -zeta only [cmdChainStart]
  repeat' (first
    | lift_lets -underBinder | (intro y; clear_value y)
    | with_reducible (first
      | assumption | apply quiet_acceptStart | apply quiet_orderRegime | refine quietRan_ok ?_ | refine quietRan_guarded ?_
      | exact quietRan_error | refine quietRan_later ?_)
    | split)

theorem quiet_cmdChainStop {s0 s : State} (r : Req) (h : Quiet s0 s) : QuietRan s0 (cmdChainStop.run r s) := by
  dsimp -zeta only [cmdChainStop]
  repeat' (first
    | lift_lets -underBinder | (intro y; refine (fun (hy : Quiet s0 y) => ?_) ?_ <;> [clear_value y; dsimp -zeta only [y]])
    | (intro y; clear_value y)
    | with_reducible (first
      | assumption | apply quiet_updChainPlane | apply quiet_orderRegime | apply quiet_announce | refine quietRan_ok ?_
      | exact quietRan_error | apply quiet_ite)
    | split)

theorem quiet_cmdChainUnload {s0 s : State} (r : Req) (h : Quiet s0 s) : QuietRan s0 (cmdChainUnload.run r s) := by
  dsimp -zeta only [cmdChainUnload]
  repeat' (first
    | lift_lets -underBinder | (intro y; clear_value y)
    | with_reducible (first
      | assumption | apply quiet_updSched | refine quietRan_ok ?_ | refine quietRan_guarded ?_))

theorem quiet_cmdChainRead {s0 s : State} (r : Req) (h : Quiet s0 s) : QuietRan s0 (cmdChainRead.run r s) := by
  dsimp -zeta only [cmdChainRead]
  repeat' (first
    | lift_lets -underBinder | (intro y; clear_value y)
    | with_reducible (first | assumption | refine quietRan_ok ?_ | refine quietRan_guarded ?_))

theorem quiet_cmdChainStatus {s0 s : State} (r : Req) (h : Quiet s0 s) : QuietRan s0 (cmdChainStatus.run r s) := by
  dsimp -zeta only [cmdChainStatus]
  repeat' (first
    | lift_lets -underBinder | (intro y; clear_value y) | with_reducible (first | assumption | refine quietRan_ok ?_))

theorem quiet_cmdChainConfig {s0 s : State} (r : Req) (h : Quiet s0 s) : QuietRan s0 (cmdChainConfig.run r s) := by
  dsimp -zeta only [cmdChainConfig]
  repeat' (first
    | lift_lets -underBinder
    | with_reducible (first
      | assumption | apply quiet_updSched | refine quietRan_ok ?_ | refine quietRan_guarded ?_))

theorem quiet_skipStep {s0 s : State} (d : Nat) (p : Nat) (h : Quiet s0 s) : Quiet s0 (skipStep d p s) := by
  delta skipStep
  repeat' (first
    | lift_lets -underBinder | with_reducible (first | assumption | apply quiet_raiseFault | apply quiet_updChainPlane))

theorem quiet_stageStep {s0 s : State} (d : Nat) (p : Nat) (r : ChainRun) (h : Quiet s0 s) : Quiet s0 (stageStep d p r s) := by
  delta stageStep
  repeat' (first
    | lift_lets -underBinder | (intro y; clear_value y)
    | with_reducible (first
      | assumption | apply quiet_skipStep | exact (quiet_acceptLaunch_eq ‹_› ‹_›) | apply quiet_ite)
    | split)

theorem quiet_chainStage {s0 s : State} (d : Nat) (h : Quiet s0 s) : Quiet s0 (chainStage d s) := by
  delta chainStage
  repeat' (first
    | lift_lets -underBinder | (intro y; clear_value y)
    | with_reducible (first | assumption | apply quiet_stageStep | apply quiet_updChainPlane | apply quiet_ite) | split)

theorem quiet_chainBegins {s0 s : State} (d : Nat) (h : Quiet s0 s) : Quiet s0 (chainBegins d s) := by
  delta chainBegins
  repeat' (first
    | lift_lets -underBinder | (intro y; clear_value y)
    | with_reducible (first | assumption | apply quiet_enterRegime | apply quiet_updChainPlane | apply quiet_ite) | split)

theorem quiet_chainStops {s0 s : State} (d : Nat) (h : Quiet s0 s) : Quiet s0 (chainStops d s) := by
  delta chainStops
  repeat' (first
    | lift_lets -underBinder
    | with_reducible (first
      | assumption | apply quiet_regimeDue | apply quiet_updChainPlane | apply quiet_takeRegime | apply quiet_ite)
    | split)

theorem quiet_chainEnds {s0 s : State} (d : Nat) (h : Quiet s0 s) : Quiet s0 (chainEnds d s) := by
  delta chainEnds
  repeat' (first
    | lift_lets -underBinder | (intro y; refine (fun (hy : Quiet s0 y) => ?_) ?_ <;> [clear_value y; dsimp -zeta only [y]])
    | (intro y; clear_value y)
    | with_reducible (first
      | assumption | apply quiet_updChainPlane | apply quiet_takeRegime | apply quiet_raiseEvent | apply quiet_orderRegime
      | apply quiet_ite)
    | split)

theorem quiet_matchPlane {s0 : State} (d : Nat) (t : NetTime) (slotNs : Nat) {w : List PipePlane × Tab Demand × State} (h
    : Quiet s0 w.2.2) :
    Quiet s0 (matchPlane d t slotNs w).2.2 := by
  delta matchPlane
  repeat' (first
    | lift_lets -underBinder | (intro y; refine (fun (hy : Quiet s0 y) => ?_) ?_ <;> [clear_value y; dsimp -zeta only [y]])
    | (intro y; clear_value y) | with_reducible (first | assumption | apply quiet_updDplane))

theorem quiet_beginMatch {s0 s : State} (k : Nat) (h : Quiet s0 s) : Quiet s0 (beginMatch k s) := by
  delta beginMatch
  repeat' (first
    | lift_lets -underBinder | (intro y; refine (fun (hy : Quiet s0 y) => ?_) ?_ <;> [clear_value y; dsimp -zeta only [y]])
    | (intro y; refine (fun (hy : Quiet s0 y.2.2) => ?_) ?_ <;> [clear_value y; dsimp -zeta only [y]]) | (intro y; clear_value y)
    | with_reducible (first
      | assumption | apply quiet_updSched | apply quiet_matchPlane | apply quiet_ite | refine quiet_foldl_thd ?_ (fun a t ht => ?_)))

theorem quiet_schedCount {s0 s : State} (i : Nat) (n : Nat) (h : Quiet s0 s) : Quiet s0 (schedCount i n s) := by
  delta schedCount
  repeat' (first
    | lift_lets -underBinder | with_reducible (first | assumption | apply quiet_updSched))

theorem quiet_updPipe {s0 s : State} (slot : Nat) (f : Pipe → Pipe) (h : Quiet s0 s) : Quiet s0 (updPipe slot f s) := by
  delta updPipe
  repeat' (first
    | lift_lets -underBinder | with_reducible (first | assumption | apply quiet_updSched))

theorem quiet_updPipePlane {s0 s : State} (slot : Nat) (d : Nat) (f : PipePlane → PipePlane) (h : Quiet s0 s) : Quiet s0
    (updPipePlane slot d f s) := by
  delta updPipePlane
  repeat' (first
    | lift_lets -underBinder | with_reducible (first | assumption | apply quiet_updPipe))

theorem quiet_addBack {s0 s : State} (d : Nat) (x : PipePlane) (h : Quiet s0 s) : Quiet s0 (addBack d x s) := by
  delta addBack
  repeat' (first
    | lift_lets -underBinder | with_reducible (first | assumption | apply quiet_updDemand | refine quiet_each ?_ (fun a t ht => ?_)))

theorem quiet_sendGrant {s0 s : State} (q : Pipe) (e : Nat) (l : List GrantEntry) (h : Quiet s0 s) : Quiet s0 (sendGrant q e l s) := by
  delta sendGrant
  repeat' (first
    | lift_lets -underBinder | (intro y; refine (fun (hy : Quiet s0 y) => ?_) ?_ <;> [clear_value y; dsimp -zeta only [y]])
    | (intro y; clear_value y)
    | with_reducible (first
      | assumption | apply quiet_epCount | apply quiet_sendEp | apply quiet_updEp | apply quiet_schedCount | apply quiet_updPipe))

theorem quiet_sendGrants {s0 s : State} (slot : Nat) (h : Quiet s0 s) : Quiet s0 (sendGrants slot s) := by
  delta sendGrants
  repeat' (first
    | lift_lets -underBinder | (intro y; refine (fun (hy : Quiet s0 y) => ?_) ?_ <;> [clear_value y; dsimp -zeta only [y]])
    | (intro y; clear_value y)
    | with_reducible (first
      | assumption | apply quiet_updPipe | apply quiet_sendGrant | refine quiet_each ?_ (fun a t ht => ?_))
    | split)

theorem quiet_pipeAnswer {s0 s : State} (d : Nat) (slot : Nat) (ok : Bool) (h : Quiet s0 s) : Quiet s0 (pipeAnswer d slot ok s) := by
  delta pipeAnswer
  repeat' (first
    | lift_lets -underBinder | (intro y; refine (fun (hy : Quiet s0 y) => ?_) ?_ <;> [clear_value y; dsimp -zeta only [y]])
    | with_reducible (first
      | assumption | apply quiet_updPipePlane | apply quiet_addBack | apply quiet_raiseFault | apply quiet_schedCount
      | apply quiet_sendGrants | apply quiet_ite)
    | split)

theorem quiet_pipeReport {s0 s : State} (d : Nat) (slot : Nat) (status : Nat) (flags : Nat) (id : Nat) (n : Nat) (h : Quiet s0 s)
    : Quiet s0 (pipeReport d slot status flags id n s) := by
  delta pipeReport
  repeat' (first
    | lift_lets -underBinder | with_reducible (first | assumption | apply quiet_pipeAnswer | apply quiet_claspSend | apply quiet_ite))

theorem quiet_pipeReply {s0 s : State} (p slot n : Nat) (hit : Bool) {x : Except Refuse (State × Launch)} (h : Quiet s0 s)
    (hx : QuietEx (fun y => y.1) s0 x) : Quiet s0 (pipeReply p slot n hit s x) := by
  cases x with
  | error e => exact quiet_pipeReport _ _ _ _ _ _ h
  | ok y => exact quiet_pipeReport _ _ _ _ _ _ (hx _ rfl)

theorem quiet_pipeAccept {s0 s : State} (p n : Nat) (hit : Bool) (t : NetTime) (slot : Nat) (h : Quiet s0 s) :
    Quiet s0 (pipeAccept p n hit t slot s) := by
  unfold pipeAccept
  exact quiet_pipeReply _ _ _ _ h (quiet_acceptLaunch _ _ _ _ _ _ h)

theorem quiet_pipeRecord {s0 s : State} (p : Nat) (perm : List Nat) (t : NetTime) (slot : Nat) (h : Quiet s0 s) : Quiet s0
    (pipeRecord p perm t slot s) := by
  delta pipeRecord
  repeat' (first
    | lift_lets -underBinder
    | with_reducible (first
      | assumption | apply quiet_pipeReport | exact (quiet_lookup_eq ‹_› ‹_›) | apply quiet_pipeAccept | apply quiet_updPlane
      | apply quiet_ite)
    | split)

theorem quiet_buildDone {s0 s : State} (p : Nat) (h : Quiet s0 s) : Quiet s0 (buildDone p s) := by
  delta buildDone
  repeat' (first
    | lift_lets -underBinder | (intro y; refine (fun (hy : Quiet s0 y) => ?_) ?_ <;> [clear_value y; dsimp -zeta only [y]])
    | with_reducible (first
      | assumption | apply quiet_updPlane | exact (quiet_lookup_eq ‹_› ‹_›) | apply quiet_pipeReport | apply quiet_pipeAccept)
    | split)

theorem quiet_sendRecord {s0 s : State} (q : Pipe) (x : PipePlane) (h : Quiet s0 s) : Quiet s0 (sendRecord q x s) := by
  delta sendRecord
  repeat' (first
    | lift_lets -underBinder | with_reducible (first | assumption | apply quiet_pipeRecord | apply quiet_claspSend) | split)

theorem quiet_betweenMatchings {s0 s : State} (h : Quiet s0 s) : Quiet s0 (betweenMatchings s) := by
  delta betweenMatchings
  repeat' (first
    | lift_lets -underBinder | (intro y; refine (fun (hy : Quiet s0 y) => ?_) ?_ <;> [clear_value y; dsimp -zeta only [y]])
    | (intro y; clear_value y)
    | with_reducible (first
      | assumption | apply quiet_updSched | apply quiet_answerFit | apply quiet_epApply | exact quiet_with ‹_›
      | refine quiet_each ?_ (fun a t ht => ?_)))

theorem quiet_completeMatch {s0 s : State} (h : Quiet s0 s) : Quiet s0 (completeMatch s) := by
  delta completeMatch
  repeat' (first
    | lift_lets -underBinder | (intro y; refine (fun (hy : Quiet s0 y) => ?_) ?_ <;> [clear_value y; dsimp -zeta only [y]])
    | (intro y; clear_value y)
    | with_reducible (first
      | assumption | apply quiet_updSched | apply quiet_betweenMatchings | apply quiet_sendRecord
      | refine quiet_each ?_ (fun a t ht => ?_))
    | split)

theorem quiet_overrunMatch {s0 s : State} (h : Quiet s0 s) : Quiet s0 (overrunMatch s) := by
  delta overrunMatch
  repeat' (first
    | lift_lets -underBinder | (intro y; refine (fun (hy : Quiet s0 y) => ?_) ?_ <;> [clear_value y; dsimp -zeta only [y]])
    | (intro y; refine (fun (hy : Quiet s0 y.2) => ?_) ?_ <;> [clear_value y; dsimp -zeta only [y]]) | (intro y; clear_value y)
    | with_reducible (first
      | assumption | apply quiet_draw | apply quiet_updSched | apply quiet_raiseFault | apply quiet_completeMatch | apply quiet_schedCount
      | refine quiet_each ?_ (fun a t ht => ?_))
    | split)

theorem quiet_slotCutoff {s0 s : State} (h : Quiet s0 s) : Quiet s0 (slotCutoff s) := by
  delta slotCutoff
  repeat' (first
    | lift_lets -underBinder | (intro y; clear_value y)
    | with_reducible (first | assumption | apply quiet_beginMatch | apply quiet_overrunMatch | apply quiet_ite))

theorem quiet_pipeLate {s0 s : State} (d : Nat) (slot : Nat) (h : Quiet s0 s) : Quiet s0 (pipeLate d slot s) := by
  delta pipeLate
  repeat' (first
    | lift_lets -underBinder | (intro y; refine (fun (hy : Quiet s0 y) => ?_) ?_ <;> [clear_value y; dsimp -zeta only [y]])
    | (intro y; clear_value y)
    | with_reducible (first
      | assumption | apply quiet_updPlane | apply quiet_pipeReport | apply quiet_updPipePlane | apply quiet_raiseFault
      | apply quiet_schedCount | apply quiet_addBack | apply quiet_ite)
    | split)

theorem quiet_grantUnacked {s0 s : State} (e : Nat) (h : Quiet s0 s) : Quiet s0 (grantUnacked e s) := by
  delta grantUnacked
  repeat' (first
    | lift_lets -underBinder | (intro y; refine (fun (hy : Quiet s0 y) => ?_) ?_ <;> [clear_value y; dsimp -zeta only [y]])
    | with_reducible (first
      | assumption | apply quiet_epCount | apply quiet_updEp | apply quiet_raiseCond | apply quiet_ite))

theorem quiet_grantSlotEnd {s0 s : State} (slot : Nat) (h : Quiet s0 s) : Quiet s0 (grantSlotEnd slot s) := by
  delta grantSlotEnd
  repeat' (first
    | lift_lets -underBinder | (intro y; refine (fun (hy : Quiet s0 y) => ?_) ?_ <;> [clear_value y; dsimp -zeta only [y]])
    | (intro y; clear_value y)
    | with_reducible (first
      | assumption | apply quiet_updDemand | apply quiet_grantUnacked | apply quiet_updEp | apply quiet_updSched | apply quiet_ite
      | refine quiet_each ?_ (fun a t ht => ?_))
    | split)

theorem quiet_facetAck {s0 s : State} (m : Msg) (h : Quiet s0 s) : Quiet s0 (facetAck m s) := by
  delta facetAck
  repeat' (first
    | lift_lets -underBinder | with_reducible (first | assumption | apply quiet_pipeAnswer | apply quiet_ite))

theorem quiet_facetRec {s0 s : State} (m : Msg) (h : Quiet s0 s) : Quiet s0 (facetRec m s) := by
  delta facetRec
  repeat' (first
    | lift_lets -underBinder | (intro y; refine (fun (hy : Quiet s0 y) => ?_) ?_ <;> [clear_value y; dsimp -zeta only [y]])
    | (intro y; clear_value y)
    | with_reducible (first
      | assumption | apply quiet_pipeReport | apply quiet_pipeRecord | apply quiet_ite | exact quiet_with ‹_›)
    | split)

theorem quiet_cmdSchedSetRegime {s0 s : State} (r : Req) (h : Quiet s0 s) : QuietRan s0 (cmdSchedSetRegime.run r s) := by
  dsimp -zeta only [cmdSchedSetRegime]
  repeat' (first
    | lift_lets -underBinder | (intro y; clear_value y)
    | with_reducible (first
      | assumption | exact (quiet_changeRegime_eq ‹_› ‹_›) | apply quiet_orderRegime | refine quietRan_ok ?_ | refine quietRan_guarded ?_
      | exact quietRan_error | refine quietRan_later ?_)
    | split)

theorem quiet_schedAnswered {s0 s : State} (d : Nat) (st : Nat) (t : NetTime) (h : Quiet s0 s) : Quiet s0 (schedAnswered d st t s) := by
  delta schedAnswered
  repeat' (first
    | lift_lets -underBinder | (intro y; refine (fun (hy : Quiet s0 y) => ?_) ?_ <;> [clear_value y; dsimp -zeta only [y]])
    | (intro y; clear_value y)
    | with_reducible (first
      | assumption | apply quiet_updSched | apply quiet_takeRegimeAt | apply quiet_refuseReq | apply quiet_answerOk
      | apply quiet_acceptStart | apply quiet_setDregimeAt | apply quiet_announce | apply quiet_updChainPlane | apply quiet_ite)
    | split)

theorem quiet_cmdSchedConfig {s0 s : State} (r : Req) (h : Quiet s0 s) : QuietRan s0 (cmdSchedConfig.run r s) := by
  dsimp -zeta only [cmdSchedConfig]
  repeat' (first
    | lift_lets -underBinder | (intro y; clear_value y)
    | with_reducible (first
      | assumption | apply quiet_announce | apply quiet_updSched | refine quietRan_ok ?_ | refine quietRan_guarded ?_)
    | split)

theorem quiet_gridChange {s0 s : State} (h : Quiet s0 s) : Quiet s0 (gridChange s) := by
  delta gridChange
  repeat' (first
    | lift_lets -underBinder | with_reducible (first | assumption | apply quiet_updSched | apply quiet_ite) | split)

theorem quiet_cmdSchedClassConfig {s0 s : State} (r : Req) (h : Quiet s0 s) : QuietRan s0 (cmdSchedClassConfig.run r s) := by
  dsimp -zeta only [cmdSchedClassConfig]
  repeat' (first
    | lift_lets -underBinder | (intro y; clear_value y)
    | with_reducible (first | assumption | apply quiet_updSched | refine quietRan_ok ?_))

theorem quiet_cmdSchedQueueConfig {s0 s : State} (r : Req) (h : Quiet s0 s) : QuietRan s0 (cmdSchedQueueConfig.run r s) := by
  dsimp -zeta only [cmdSchedQueueConfig]
  repeat' (first
    | lift_lets -underBinder
    | with_reducible (first
      | assumption | apply quiet_updDemand | refine quietRan_ok ?_ | refine quiet_each ?_ (fun a t ht => ?_)))

theorem quiet_cmdSchedDemandRead {s0 s : State} (r : Req) (h : Quiet s0 s) : QuietRan s0 (cmdSchedDemandRead.run r s) := by
  dsimp -zeta only [cmdSchedDemandRead]
  repeat' (first
    | lift_lets -underBinder
    | with_reducible (first | assumption | apply quiet_updSched | refine quietRan_ok ?_ | refine quietRan_later ?_) | split)

theorem quiet_cmdSchedPin {s0 s : State} (r : Req) (h : Quiet s0 s) : QuietRan s0 (cmdSchedPin.run r s) := by
  dsimp -zeta only [cmdSchedPin]
  repeat' (first
    | lift_lets -underBinder | (intro y; clear_value y)
    | with_reducible (first
      | assumption | apply quiet_updDplane | refine quietRan_ok ?_ | refine quietRan_guarded ?_)
    | split)

theorem quiet_cmdSchedRestore {s0 s : State} (r : Req) (h : Quiet s0 s) : QuietRan s0 (cmdSchedRestore.run r s) := by
  dsimp -zeta only [cmdSchedRestore]
  repeat' (first
    | lift_lets -underBinder | (intro y; refine (fun (hy : Quiet s0 y) => ?_) ?_ <;> [clear_value y; dsimp -zeta only [y]])
    | (intro y; clear_value y)
    | with_reducible (first
      | assumption | apply quiet_updDplane | apply quiet_endCond | apply quiet_restoreLocal | apply quiet_schedCmd | refine quietRan_ok ?_
      | refine quietRan_guarded ?_ | apply quiet_ite)
    | split)

theorem quiet_cmdSchedPlanePorts {s0 s : State} (r : Req) (h : Quiet s0 s) : QuietRan s0 (cmdSchedPlanePorts.run r s) := by
  dsimp -zeta only [cmdSchedPlanePorts]
  repeat' (first
    | lift_lets -underBinder | (intro y; clear_value y)
    | with_reducible (first
      | assumption | apply quiet_updDplane | refine quietRan_ok ?_ | refine quietRan_guarded ?_))

theorem quiet_cmdSchedSampler {s0 s : State} (r : Req) (h : Quiet s0 s) : QuietRan s0 (cmdSchedSampler.run r s) := by
  dsimp -zeta only [cmdSchedSampler]
  repeat' (first
    | lift_lets -underBinder | (intro y; clear_value y)
    | with_reducible (first | assumption | apply quiet_updSched | refine quietRan_ok ?_))

theorem quiet_samplerPass {s0 s : State} (h : Quiet s0 s) : Quiet s0 (samplerPass s) := by
  delta samplerPass
  repeat' (first
    | lift_lets -underBinder | (intro y; refine (fun (hy : Quiet s0 y) => ?_) ?_ <;> [clear_value y; dsimp -zeta only [y]])
    | (intro y; clear_value y)
    | with_reducible (first
      | assumption | apply quiet_updSched | apply quiet_raiseEvent | apply quiet_stageRec | apply quiet_ite
      | refine quiet_each ?_ (fun a t ht => ?_)))

theorem quiet_cmdSchedStatus {s0 s : State} (r : Req) (h : Quiet s0 s) : QuietRan s0 (cmdSchedStatus.run r s) := by
  dsimp -zeta only [cmdSchedStatus]
  repeat' (first
    | lift_lets -underBinder | (intro y; clear_value y)
    | with_reducible (first | assumption | apply quiet_updSched | refine quietRan_ok ?_ | apply quiet_ite))

theorem quiet_cmdEndpointConfig {s0 s : State} (r : Req) (h : Quiet s0 s) : QuietRan s0 (cmdEndpointConfig.run r s) := by
  dsimp -zeta only [cmdEndpointConfig]
  repeat' (first
    | lift_lets -underBinder | (intro y; refine (fun (hy : Quiet s0 y) => ?_) ?_ <;> [clear_value y; dsimp -zeta only [y]])
    | (intro y; clear_value y)
    | with_reducible (first
      | assumption | apply quiet_announce | refine quietRan_ok ?_ | refine quietRan_guarded ?_ | apply quiet_ite | exact quiet_with ‹_›))

theorem quiet_cmdFacetConfig {s0 s : State} (r : Req) (h : Quiet s0 s) : QuietRan s0 (cmdFacetConfig.run r s) := by
  dsimp -zeta only [cmdFacetConfig]
  repeat' (first
    | lift_lets -underBinder | (intro y; refine (fun (hy : Quiet s0 y) => ?_) ?_ <;> [clear_value y; dsimp -zeta only [y]])
    | (intro y; clear_value y)
    | with_reducible (first
      | assumption | apply quiet_updPlane | apply quiet_announce | refine quietRan_ok ?_ | refine quietRan_guarded ?_ | apply quiet_ite))

end Sys2Proof.Machine
end

