-- ==== Sys2Proof/Laws/QuietDomain.lean ====
section
/-! SUPPORT. Quiet functions (`Quiet` of Laws/Quiet.lean): time, the domain, calibration and test. -/

namespace Sys2Proof.Machine

theorem quiet_updTime {s0 s : State} (f : Time → Time) (h : Quiet s0 s) : Quiet s0 (updTime f s) := by
  delta updTime
  with_reducible exact quiet_with ‹_›

theorem quiet_acquiring {s0 s : State} (h : Quiet s0 s) : Quiet s0 (acquiring s) := by
  delta acquiring
  repeat' (first
    | lift_lets -underBinder | with_reducible (first | assumption | apply quiet_endCond | apply quiet_updTime | apply quiet_ite))

theorem quiet_measure {s0 s : State} (off : Int) (h : Quiet s0 s) : Quiet s0 (measure off s) := by
  delta measure
  repeat' (first
    | lift_lets -underBinder | (intro y; refine (fun (hy : Quiet s0 y) => ?_) ?_ <;> [clear_value y; dsimp -zeta only [y]])
    | (intro y; clear_value y)
    | with_reducible (first
      | assumption | apply quiet_updTime | apply quiet_acquiring | apply quiet_raiseEvent | apply quiet_ite))

theorem quiet_holdover {s0 s : State} (h : Quiet s0 s) : Quiet s0 (holdover s) := by
  delta holdover
  repeat' (first
    | lift_lets -underBinder | with_reducible (first | assumption | apply quiet_raiseCond | apply quiet_updTime))

theorem quiet_timeDoubt {s0 s : State} (rem : Bool) (h : Quiet s0 s) : Quiet s0 (timeDoubt rem s) := by
  delta timeDoubt
  repeat' (first
    | lift_lets -underBinder | with_reducible (first | assumption | apply quiet_raiseCondBy | refine quiet_each ?_ (fun a t ht => ?_)))

theorem quiet_doubtEnds {s0 s : State} (h : Quiet s0 s) : Quiet s0 (doubtEnds s) := by
  delta doubtEnds
  repeat' (first
    | lift_lets -underBinder | with_reducible (first | assumption | apply quiet_endCond | apply quiet_ite))

theorem quiet_refuseJump {s0 s : State} (off : Int) (h : Quiet s0 s) : Quiet s0 (refuseJump off s) := by
  delta refuseJump
  repeat' (first
    | lift_lets -underBinder | (intro y; refine (fun (hy : Quiet s0 y) => ?_) ?_ <;> [clear_value y; dsimp -zeta only [y]])
    | with_reducible (first
      | assumption | apply quiet_raiseCond | apply quiet_updTime | apply quiet_timeDoubt | apply quiet_schedCmd | apply quiet_ite
      | refine quiet_each ?_ (fun a t ht => ?_)))

theorem quiet_clearJump {s0 s : State} (h : Quiet s0 s) : Quiet s0 (clearJump s) := by
  delta clearJump
  repeat' (first
    | lift_lets -underBinder | with_reducible (first | assumption | apply quiet_doubtEnds | apply quiet_endCond | apply quiet_updTime))

theorem quiet_correct {s0 s : State} (off : Option Int) (freq : Option Int) (h : Quiet s0 s) : Quiet s0 (correct off freq s) := by
  delta correct
  repeat' (first
    | lift_lets -underBinder | (intro y; refine (fun (hy : Quiet s0 y) => ?_) ?_ <;> [clear_value y; dsimp -zeta only [y]])
    | with_reducible (first
      | assumption | apply quiet_updTime | apply quiet_measure | apply quiet_acquiring | apply quiet_refuseJump | apply quiet_clearJump
      | apply quiet_ite)
    | split)

theorem quiet_servoFreq {s0 s : State} (h : Quiet s0 s) : Quiet s0 (servoFreq s).2 := by
  delta servoFreq
  repeat' (first
    | lift_lets -underBinder | (intro y; refine (fun (hy : Quiet s0 y.2) => ?_) ?_ <;> [clear_value y; dsimp -zeta only [y]])
    | with_reducible (first | assumption | apply quiet_draw))

theorem quiet_servo {s0 s : State} (off : Int) (h : Quiet s0 s) : Quiet s0 (servo off s) := by
  delta servo
  repeat' (first
    | lift_lets -underBinder | (intro y; refine (fun (hy : Quiet s0 y.2) => ?_) ?_ <;> [clear_value y; dsimp -zeta only [y]])
    | with_reducible (first | assumption | apply quiet_servoFreq | apply quiet_correct))

theorem quiet_slewDone {s0 s : State} (h : Quiet s0 s) : Quiet s0 (slewDone s) := by
  delta slewDone
  repeat' (first
    | lift_lets -underBinder | with_reducible (first | assumption | apply quiet_updTime | apply quiet_ite))

theorem quiet_askStep {s0 s : State} (b : NetTime) (abs : Option NetTime) (delta : Int) (h : Quiet s0 s) : Quiet s0
    (askStep b abs delta s) := by
  delta askStep
  repeat' (first
    | lift_lets -underBinder | with_reducible (first | assumption | apply quiet_updTime))

theorem quiet_cancelCapture {s0 s : State} (c : Nat) (h : Quiet s0 s) : Quiet s0 (cancelCapture c s) := by
  delta cancelCapture
  repeat' (first
    | lift_lets -underBinder | with_reducible (first | assumption | apply quiet_captureEnded | apply quiet_updCtx))

theorem quiet_cancelSnap {s0 s : State} (b : Nat) (h : Quiet s0 s) : Quiet s0 (cancelSnap b s) := by
  delta cancelSnap
  repeat' (first
    | lift_lets -underBinder | (intro y; refine (fun (hy : Quiet s0 y) => ?_) ?_ <;> [clear_value y; dsimp -zeta only [y]])
    | (intro y; clear_value y) | with_reducible (first | assumption | apply quiet_updSnap | apply quiet_claspSend | apply quiet_ite))

theorem quiet_cancelTimed {s0 s : State} (h : Quiet s0 s) : Quiet s0 (cancelTimed s) := by
  delta cancelTimed
  repeat' (first
    | lift_lets -underBinder | (intro (y : Loupe); dsimp -zeta only [y]; clear y)
    | (intro y; refine (fun (hy : Quiet s0 y) => ?_) ?_ <;> [clear_value y; dsimp -zeta only [y]])
    | with_reducible (first
      | assumption | apply quiet_withdrawLaunch | apply quiet_updPlane | apply quiet_updSched | apply quiet_cancelSwap
      | apply quiet_updCtx | apply quiet_cancelCapture | apply quiet_cancelSnap | apply quiet_updTime | apply quiet_updRelay
      | exact quiet_mk (Quiet.dark ‹_›) (Quiet.light ‹_›) (Quiet.queue ‹_›) (Quiet.mem ‹_›) (Quiet.mail ‹_›)
      | refine quiet_each ?_ (fun a t ht => ?_)))

theorem quiet_carryAll {s0 s : State} (d : Int) (h : Quiet s0 s) : Quiet s0 (carryAll d s) := by
  delta carryAll
  repeat' (first
    | lift_lets -underBinder | (intro y; clear_value y) | with_reducible exact quiet_with ‹_›)

theorem quiet_dropExchanges {s0 s : State} (h : Quiet s0 s) : Quiet s0 (dropExchanges s) := by
  delta dropExchanges
  repeat' (first
    | lift_lets -underBinder | (intro y; refine (fun (hy : Quiet s0 y) => ?_) ?_ <;> [clear_value y; dsimp -zeta only [y]])
    | (intro y; clear_value y) | with_reducible (first | assumption | apply quiet_updTime | exact quiet_with ‹_›))

theorem quiet_stepBy {s0 s : State} (d : Int) (h : Quiet s0 s) : Quiet s0 (stepBy d s) := by
  delta stepBy
  repeat' (first
    | lift_lets -underBinder | (intro y; refine (fun (hy : Quiet s0 y) => ?_) ?_ <;> [clear_value y; dsimp -zeta only [y]])
    | (intro y; clear_value y)
    | with_reducible (first
      | assumption | apply quiet_raiseEvent | apply quiet_cancelTimed | apply quiet_dropExchanges | apply quiet_carryAll
      | apply quiet_betweenMatchings | apply quiet_updSched | apply quiet_updTime | apply quiet_endCond | apply quiet_clearJump))

theorem quiet_stepWorkers {s0 s : State} (b : NetTime) (d : Int) (h : Quiet s0 s) : Quiet s0 (stepWorkers b d s) := by
  delta stepWorkers
  repeat' (first
    | lift_lets -underBinder | with_reducible (first | assumption | apply quiet_ownTunnel | refine quiet_each ?_ (fun a t ht => ?_)))

theorem quiet_stepApply {s0 s : State} (h : Quiet s0 s) : Quiet s0 (stepApply s) := by
  delta stepApply
  repeat' (first
    | lift_lets -underBinder | with_reducible (first | assumption | apply quiet_stepBy | apply quiet_ite) | split)

theorem quiet_realignDone {s0 s : State} (h : Quiet s0 s) : Quiet s0 (realignDone s) := by
  delta realignDone
  repeat' (first
    | lift_lets -underBinder | with_reducible (first | assumption | apply quiet_updTime | apply quiet_ite))

theorem quiet_suspendAll {s0 s : State} (h : Quiet s0 s) : Quiet s0 (suspendAll s) := by
  delta suspendAll
  repeat' (first
    | lift_lets -underBinder | (intro y; refine (fun (hy : Quiet s0 y) => ?_) ?_ <;> [clear_value y; dsimp -zeta only [y]])
    | with_reducible (first
      | assumption | apply quiet_enterIdle | apply quiet_takeRegime | apply quiet_orderRegime | apply quiet_ite
      | refine quiet_each ?_ (fun a t ht => ?_)))

theorem quiet_updPtp {s0 s : State} (f : Ptp → Ptp) (h : Quiet s0 s) : Quiet s0 (updPtp f s) := by
  delta updPtp
  repeat' (first
    | lift_lets -underBinder | with_reducible (first | assumption | apply quiet_updTime))

theorem quiet_ptpSend {s0 s : State} (event : Bool) (peer : Bool) (msg : Bytes) (h : Quiet s0 s) : Quiet s0 (ptpSend event peer msg s) := by
  delta ptpSend
  repeat' (first
    | lift_lets -underBinder | (intro y; clear_value y) | with_reducible (first | assumption | apply quiet_inject))

theorem quiet_followMaster {s0 s : State} (f : Foreign) (h : Quiet s0 s) : Quiet s0 (followMaster f s) := by
  delta followMaster
  repeat' (first
    | lift_lets -underBinder | (intro y; refine (fun (hy : Quiet s0 y) => ?_) ?_ <;> [clear_value y; dsimp -zeta only [y]])
    | (intro y; clear_value y) | with_reducible (first | assumption | apply quiet_updTime | apply quiet_updPtp | apply quiet_ite))

theorem quiet_notSlave {s0 s : State} (st : Nat) (h : Quiet s0 s) : Quiet s0 (notSlave st s) := by
  delta notSlave
  repeat' (first
    | lift_lets -underBinder | with_reducible (first | assumption | apply quiet_updPtp))

theorem quiet_ptpDecide {s0 s : State} (h : Quiet s0 s) : Quiet s0 (ptpDecide s) := by
  delta ptpDecide
  repeat' (first
    | lift_lets -underBinder | (intro y; clear_value y)
    | with_reducible (first | assumption | apply quiet_followMaster | apply quiet_notSlave | apply quiet_ite) | split)

theorem quiet_ptpAnnounce {s0 s : State} (d : Bytes) (o : Nat) (h : Quiet s0 s) : Quiet s0 (ptpAnnounce d o s) := by
  delta ptpAnnounce
  repeat' (first
    | lift_lets -underBinder | (intro y; refine (fun (hy : Quiet s0 y) => ?_) ?_ <;> [clear_value y; dsimp -zeta only [y]])
    | (intro y; clear_value y) | with_reducible (first | assumption | apply quiet_updPtp | apply quiet_ptpDecide | apply quiet_ite))

theorem quiet_ptpSynced {s0 s : State} (t1 : Int) (t2 : Int) (h : Quiet s0 s) : Quiet s0 (ptpSynced t1 t2 s) := by
  delta ptpSynced
  repeat' (first
    | lift_lets -underBinder | (intro y; refine (fun (hy : Quiet s0 y) => ?_) ?_ <;> [clear_value y; dsimp -zeta only [y]])
    | (intro y; clear_value y) | with_reducible (first | assumption | apply quiet_updPtp | apply quiet_servo))

theorem quiet_ptpDelay {s0 s : State} (v : Int) (h : Quiet s0 s) : Quiet s0 (ptpDelay v s) := by
  delta ptpDelay
  repeat' (first
    | lift_lets -underBinder | with_reducible (first | assumption | apply quiet_updPtp))

theorem quiet_ptpTake {s0 s : State} (d : Bytes) (o : Nat) (rx : NetTime) (h : Quiet s0 s) : Quiet s0 (ptpTake d o rx s) := by
  delta ptpTake
  repeat' (first
    | lift_lets -underBinder | (intro y; clear_value y)
    | with_reducible (first
      | assumption | apply quiet_updPtp | apply quiet_ptpSynced | apply quiet_ptpSend | apply quiet_ptpDelay | apply quiet_ptpAnnounce
      | apply quiet_ite)
    | split)

theorem quiet_ptpReceive {s0 s : State} (link : Nat) (frame : Bytes) (rx : NetTime) (h : Quiet s0 s) : Quiet s0
    (ptpReceive link frame rx s) := by
  delta ptpReceive
  repeat' (first
    | lift_lets -underBinder
    | with_reducible (first
      | assumption | apply quiet_ptpTake | apply quiet_receiveEnd | apply quiet_headArrive | apply quiet_ite)
    | split)

theorem quiet_ptpSeq {s0 s : State} (kind : Nat) (h : Quiet s0 s) : Quiet s0 (ptpSeq kind s).2 := by
  delta ptpSeq
  repeat' (first
    | lift_lets -underBinder | (intro y; clear_value y) | with_reducible (first | assumption | apply quiet_updPtp))

theorem quiet_ptpTimer {s0 s : State} (kind : Nat) (h : Quiet s0 s) : Quiet s0 (ptpTimer kind s) := by
  delta ptpTimer
  repeat' (first
    | lift_lets -underBinder | (intro y; refine (fun (hy : Quiet s0 y) => ?_) ?_ <;> [clear_value y; dsimp -zeta only [y]])
    | (intro y; refine (fun (hy : Quiet s0 y.2) => ?_) ?_ <;> [clear_value y; dsimp -zeta only [y]]) | (intro y; clear_value y)
    | with_reducible (first
      | assumption | apply quiet_ptpSeq | apply quiet_ptpSend | apply quiet_updPtp | apply quiet_ite))

theorem quiet_ptpTimeout {s0 s : State} (h : Quiet s0 s) : Quiet s0 (ptpTimeout s) := by
  delta ptpTimeout
  repeat' (first
    | lift_lets -underBinder | (intro y; clear_value y) | with_reducible (first | assumption | apply quiet_updPtp | apply quiet_ite))

theorem quiet_sourceLoss {s0 s : State} (h : Quiet s0 s) : Quiet s0 (sourceLoss s) := by
  delta sourceLoss
  repeat' (first
    | lift_lets -underBinder | (intro y; refine (fun (hy : Quiet s0 y) => ?_) ?_ <;> [clear_value y; dsimp -zeta only [y]])
    | with_reducible (first | assumption | apply quiet_holdover | apply quiet_ptpTimeout | apply quiet_ite))

theorem quiet_tcapEdge {s0 s : State} (i : Nat) (fall : Bool) (t : NetTime) (h : Quiet s0 s) : Quiet s0 (tcapEdge i fall t s) := by
  delta tcapEdge
  repeat' (first
    | lift_lets -underBinder
    | (intro y; refine (fun (hf : ∀ b t, Quiet s0 t → Quiet s0 (y b t)) => ?_) ?_ <;> [clear_value y; (intro b t ht; dsimp -zeta only [y])])
    | (intro y; clear_value y)
    | with_reducible (first
      | assumption | apply hf | apply quiet_updTime | apply quiet_raiseFault | apply quiet_ite))

theorem quiet_drainTxts {s0 s : State} (h : Quiet s0 s) : Quiet s0 (drainTxts s) := by
  delta drainTxts
  repeat' (first
    | lift_lets -underBinder
    | with_reducible (first
      | assumption | apply quiet_updTime | apply quiet_endCond | refine quiet_each ?_ (fun a t ht => ?_)))

theorem quiet_cmdTimeConfig {s0 s : State} (r : Req) (h : Quiet s0 s) : QuietRan s0 (cmdTimeConfig.run r s) := by
  dsimp -zeta only [cmdTimeConfig]
  repeat' (first
    | lift_lets -underBinder | (intro y; refine (fun (hy : Quiet s0 y) => ?_) ?_ <;> [clear_value y; dsimp -zeta only [y]])
    | (intro y; clear_value y)
    | with_reducible (first
      | assumption | apply quiet_updTime | apply quiet_endCond | apply quiet_updPtp | apply quiet_drainTxts | refine quietRan_ok ?_
      | refine quietRan_guarded ?_ | apply quiet_ite)
    | split)

theorem quiet_cmdTimeRead {s0 s : State} (r : Req) (h : Quiet s0 s) : QuietRan s0 (cmdTimeRead.run r s) := by
  dsimp -zeta only [cmdTimeRead]
  repeat' (first
    | lift_lets -underBinder | (intro y; clear_value y) | with_reducible (first | assumption | refine quietRan_ok ?_))

theorem quiet_cmdTimeAdjust {s0 s : State} (r : Req) (h : Quiet s0 s) : QuietRan s0 (cmdTimeAdjust.run r s) := by
  dsimp -zeta only [cmdTimeAdjust]
  repeat' (first
    | lift_lets -underBinder | (intro y; clear_value y)
    | with_reducible (first
      | assumption | apply quiet_refuseReq | apply quiet_correct | refine quietRan_ok ?_ | exact quietRan_error | refine quietRan_later ?_)
    | split)

theorem quiet_cmdTimeForceSet {s0 s : State} (r : Req) (h : Quiet s0 s) : QuietRan s0 (cmdTimeForceSet.run r s) := by
  dsimp -zeta only [cmdTimeForceSet]
  repeat' (first
    | lift_lets -underBinder
    | with_reducible (first
      | assumption | apply quiet_suspendAll | apply quiet_stepWorkers | apply quiet_askStep | refine quietRan_ok ?_
      | refine quietRan_guarded ?_ | apply quiet_ite))

theorem quiet_cmdTimePtpConfig {s0 s : State} (r : Req) (h : Quiet s0 s) : QuietRan s0 (cmdTimePtpConfig.run r s) := by
  dsimp -zeta only [cmdTimePtpConfig]
  repeat' (first
    | lift_lets -underBinder | (intro y; clear_value y)
    | with_reducible (first | assumption | apply quiet_updPtp | refine quietRan_ok ?_ | refine quietRan_guarded ?_))

theorem quiet_cmdTimePtpStatus {s0 s : State} (r : Req) (h : Quiet s0 s) : QuietRan s0 (cmdTimePtpStatus.run r s) := by
  dsimp -zeta only [cmdTimePtpStatus]
  repeat' (first
    | lift_lets -underBinder | (intro y; clear_value y)
    | with_reducible (first | assumption | refine quietRan_ok ?_ | refine quietRan_guarded ?_))

theorem quiet_cmdTimeTxtsRead {s0 s : State} (r : Req) (h : Quiet s0 s) : QuietRan s0 (cmdTimeTxtsRead.run r s) := by
  dsimp -zeta only [cmdTimeTxtsRead]
  repeat' (first
    | lift_lets -underBinder | (intro y; clear_value y)
    | with_reducible (first
      | assumption | apply quiet_endCond | apply quiet_updTime | refine quietRan_ok ?_ | refine quietRan_guarded ?_))

theorem quiet_cmdTimeTcConfig {s0 s : State} (r : Req) (h : Quiet s0 s) : QuietRan s0 (cmdTimeTcConfig.run r s) := by
  dsimp -zeta only [cmdTimeTcConfig]
  repeat' (first
    | lift_lets -underBinder | with_reducible (first | assumption | apply quiet_updTime | refine quietRan_ok ?_))

theorem quiet_updTout {s0 s : State} (pin : Nat) (f : Tout → Tout) (h : Quiet s0 s) : Quiet s0 (updTout pin f s) := by
  delta updTout
  repeat' (first
    | lift_lets -underBinder | with_reducible (first | assumption | apply quiet_updTime))

theorem quiet_cmdTimeTout {s0 s : State} (r : Req) (h : Quiet s0 s) : QuietRan s0 (cmdTimeTout.run r s) := by
  dsimp -zeta only [cmdTimeTout]
  repeat' (first
    | lift_lets -underBinder | (intro y; clear_value y)
    | with_reducible (first | assumption | apply quiet_updTout | refine quietRan_ok ?_ | exact quietRan_error) | split)

theorem quiet_cmdTimeTcapConfig {s0 s : State} (r : Req) (h : Quiet s0 s) : QuietRan s0 (cmdTimeTcapConfig.run r s) := by
  dsimp -zeta only [cmdTimeTcapConfig]
  repeat' (first
    | lift_lets -underBinder | (intro y; clear_value y)
    | with_reducible (first | assumption | apply quiet_updTime | refine quietRan_ok ?_))

theorem quiet_cmdTimeTcapRead {s0 s : State} (r : Req) (h : Quiet s0 s) : QuietRan s0 (cmdTimeTcapRead.run r s) := by
  dsimp -zeta only [cmdTimeTcapRead]
  repeat' (first
    | lift_lets -underBinder | (intro y; clear_value y)
    | with_reducible (first | assumption | apply quiet_updTime | refine quietRan_ok ?_ | refine quietRan_guarded ?_))

theorem quiet_updDom {s0 s : State} (f : Dom → Dom) (h : Quiet s0 s) : Quiet s0 (updDom f s) := by
  delta updDom
  with_reducible exact quiet_with ‹_›

theorem quiet_actOn {s0 s : State} (west : Bool) (m : Msg) (act : State → State) (h : Quiet s0 s) (hact : ∀ t, Quiet s0 t → Quiet s0
    (act t)) : Quiet s0 (actOn west m act s) := by
  delta actOn
  repeat' (first
    | lift_lets -underBinder | (intro y; refine (fun (hy : Quiet s0 y) => ?_) ?_ <;> [clear_value y; dsimp -zeta only [y]])
    | (intro y; clear_value y) | with_reducible assumption | apply hact
    | with_reducible (first | apply quiet_claspOut | apply quiet_claspCount | apply quiet_updDom | apply quiet_ite))

theorem quiet_passOn {s0 s : State} (west : Bool) (w : Nat) (m : Msg) (h : Quiet s0 s) : Quiet s0 (passOn west w m s) := by
  delta passOn
  repeat' (first
    | lift_lets -underBinder | (intro y; clear_value y)
    | with_reducible (first
      | assumption | apply quiet_relayCount | apply quiet_oweCredits | exact (quiet_allocBufs_eq ‹_› ‹_›) | apply quiet_overrun
      | apply quiet_flow | apply quiet_pushFrame | apply quiet_ite)
    | split)

theorem quiet_forward {s0 s : State} (west : Bool) (w : Nat) (m : Msg) (h : Quiet s0 s) : Quiet s0 (forward west w m s) := by
  delta forward
  repeat' (first
    | lift_lets -underBinder | with_reducible (first | assumption | apply quiet_oweCredits | apply quiet_passOn | apply quiet_ite))

theorem quiet_claspIn {s0 s : State} (code : Nat) (west : Bool) (cells : List Bytes) (f : Nat → Msg → State → State) (h : Quiet s0 s)
    (hf : ∀ w m t, Quiet s0 t → Quiet s0 (f w m t)) : Quiet s0 (claspIn code west cells f s) := by
  delta claspIn
  repeat' (first
    | lift_lets -underBinder | (intro y; clear_value y)
    | with_reducible (first
      | assumption | apply hf | apply quiet_cellsAborted | apply quiet_oweCredits | apply quiet_relayCount | apply quiet_ite)
    | split)

theorem quiet_taken {s0 s : State} (west : Bool) (w : Nat) (m : Msg) (act : Msg → State → State) (h : Quiet s0 s) (hact
    : ∀ b t, Quiet s0 t → Quiet s0 (act b t)) : Quiet s0 (taken west w m act s) := by
  delta taken
  repeat' (first
    | lift_lets -underBinder | (intro y; refine (fun (hy : Quiet s0 y) => ?_) ?_ <;> [clear_value y; dsimp -zeta only [y]])
    | with_reducible assumption | apply hact | with_reducible (first | apply quiet_forward | apply quiet_actOn | apply quiet_ite))

theorem quiet_arrive {s0 s : State} (code : Nat) (west : Bool) (cells : List Bytes) (act : Msg → State → State) (h : Quiet s0 s) (hact
    : ∀ b t, Quiet s0 t → Quiet s0 (act b t)) : Quiet s0 (arrive code west cells act s) := by
  delta arrive
  repeat' (first
    | lift_lets -underBinder | with_reducible (first | assumption | apply quiet_claspIn | apply quiet_taken)
    | (intro a b t ht; try dsimp only))

theorem quiet_ringBreak {s0 s : State} (w : Nat) (e : Nat) (h : Quiet s0 s) : Quiet s0 (ringBreak w e s) := by
  delta ringBreak
  repeat' (first
    | lift_lets -underBinder | (intro y; refine (fun (hy : Quiet s0 y) => ?_) ?_ <;> [clear_value y; dsimp -zeta only [y]])
    | (intro y; clear_value y) | with_reducible (first | assumption | apply quiet_updDom | apply quiet_raiseCond))

theorem quiet_ringClosed {s0 s : State} (h : Quiet s0 s) : Quiet s0 (ringClosed s) := by
  delta ringClosed
  repeat' (first
    | lift_lets -underBinder | (intro y; refine (fun (hy : Quiet s0 y) => ?_) ?_ <;> [clear_value y; dsimp -zeta only [y]])
    | (intro y; clear_value y)
    | with_reducible (first
      | assumption | apply quiet_endCond | apply quiet_updDom | apply quiet_raiseEvent | apply quiet_ite))

theorem quiet_sendDiscover {s0 s : State} (west : Bool) (ents : Bytes) (h : Quiet s0 s) : Quiet s0 (sendDiscover west ents s) := by
  delta sendDiscover
  repeat' (first
    | lift_lets -underBinder | (intro y; refine (fun (hy : Quiet s0 y) => ?_) ?_ <;> [clear_value y; dsimp -zeta only [y]])
    | (intro y; clear_value y)
    | with_reducible (first
      | assumption | apply quiet_updDom | apply quiet_claspOut | apply quiet_awaitAck | apply quiet_ite))

theorem quiet_startDiscovery {s0 s : State} (h : Quiet s0 s) : Quiet s0 (startDiscovery s) := by
  delta startDiscovery
  repeat' (first
    | lift_lets -underBinder | (intro y; refine (fun (hy : Quiet s0 y) => ?_) ?_ <;> [clear_value y; dsimp -zeta only [y]])
    | with_reducible (first | assumption | apply quiet_updDom | apply quiet_sendDiscover | apply quiet_ite))

theorem quiet_managerConflict {s0 s : State} (h : Quiet s0 s) : Quiet s0 (managerConflict s) := by
  delta managerConflict
  repeat' (first
    | lift_lets -underBinder | with_reducible (first | assumption | apply quiet_raiseCond | apply quiet_updDom))

theorem quiet_discoverBack {s0 s : State} (west : Bool) (m : Msg) (h : Quiet s0 s) : Quiet s0 (discoverBack west m s) := by
  delta discoverBack
  repeat' (first
    | lift_lets -underBinder | (intro y; refine (fun (hy : Quiet s0 y) => ?_) ?_ <;> [clear_value y; dsimp -zeta only [y]])
    | (intro y; clear_value y) | with_reducible (first | assumption | apply quiet_updDom | apply quiet_managerConflict | apply quiet_ite))

theorem quiet_discoverOn {s0 s : State} (west : Bool) (m : Msg) (h : Quiet s0 s) : Quiet s0 (discoverOn west m s) := by
  delta discoverOn
  repeat' (first
    | lift_lets -underBinder | (intro y; refine (fun (hy : Quiet s0 y) => ?_) ?_ <;> [clear_value y; dsimp -zeta only [y]])
    | (intro y; clear_value y)
    | with_reducible (first | assumption | apply quiet_managerConflict | apply quiet_claspOut | apply quiet_ite))

theorem quiet_discoverTake {s0 s : State} (west : Bool) (w : Nat) (m : Msg) (h : Quiet s0 s) : Quiet s0 (discoverTake west w m s) := by
  delta discoverTake
  repeat' (first
    | lift_lets -underBinder | (intro y; refine (fun (hy : Quiet s0 y) => ?_) ?_ <;> [clear_value y; dsimp -zeta only [y]])
    | (intro y; clear_value y)
    | with_reducible (first
      | assumption | apply quiet_oweCredits | apply quiet_discoverBack | apply quiet_forward | apply quiet_actOn | apply quiet_discoverOn
      | apply quiet_ite)
    | (intro t ht))

theorem quiet_admitOne {s0 s : State} (fits : Bool) (e : Nat × Nat × Bool) (hE : Nat) (hW : Nat) (h : Quiet s0 s) : Quiet s0
    (admitOne fits e hE hW s) := by
  delta admitOne
  repeat' (first
    | lift_lets -underBinder | (intro y; refine (fun (hy : Quiet s0 y) => ?_) ?_ <;> [clear_value y; dsimp -zeta only [y]])
    | with_reducible (first
      | assumption | apply quiet_updDom | apply quiet_raiseFault | apply quiet_joinPlane | apply quiet_updMember | apply quiet_endCond
      | apply quiet_setCfg | apply quiet_ite)
    | split)

theorem quiet_admitAll {s0 s : State} (h : Quiet s0 s) : Quiet s0 (admitAll s) := by
  delta admitAll
  repeat' (first
    | lift_lets -underBinder | (intro y; refine (fun (hy : Quiet s0 y) => ?_) ?_ <;> [clear_value y; dsimp -zeta only [y]])
    | (intro y; clear_value y)
    | with_reducible (first
      | assumption | apply quiet_updDom | apply quiet_admitOne | refine quiet_each ?_ (fun a t ht => ?_)))

theorem quiet_discoveryComplete {s0 s : State} (h : Quiet s0 s) : Quiet s0 (discoveryComplete s) := by
  delta discoveryComplete
  repeat' (first
    | lift_lets -underBinder | (intro y; refine (fun (hy : Quiet s0 y) => ?_) ?_ <;> [clear_value y; dsimp -zeta only [y]])
    | (intro y; clear_value y)
    | with_reducible (first
      | assumption | apply quiet_updDom | apply quiet_endCond | apply quiet_admitAll | apply quiet_ringClosed | apply quiet_ringBreak
      | apply quiet_reState | apply quiet_claspSend | apply quiet_ite))

theorem quiet_flushEvents {s0 s : State} (h : Quiet s0 s) : Quiet s0 (flushEvents s) := by
  delta flushEvents
  repeat' (first
    | lift_lets -underBinder
    | with_reducible (first
      | assumption | apply quiet_updDom | apply quiet_claspSend | refine quiet_each ?_ (fun a t ht => ?_)))

theorem quiet_numberTake {s0 s : State} (m : Msg) (h : Quiet s0 s) : Quiet s0 (numberTake m s) := by
  delta numberTake
  repeat' (first
    | lift_lets -underBinder | (intro y; refine (fun (hy : Quiet s0 y) => ?_) ?_ <;> [clear_value y; dsimp -zeta only [y]])
    | (intro y; clear_value y)
    | with_reducible (first
      | assumption | apply quiet_updDom | apply quiet_reState | apply quiet_enterIdle | apply quiet_flushEvents | apply quiet_raiseEvent
      | apply quiet_updTime | apply quiet_ite | refine quiet_each ?_ (fun a t ht => ?_))
    | split)

theorem quiet_claspLinkUp {s0 s : State} (west : Bool) (same : Bool) (h : Quiet s0 s) : Quiet s0 (claspLinkUp west same s) := by
  delta claspLinkUp
  repeat' (first
    | lift_lets -underBinder | (intro y; refine (fun (hy : Quiet s0 y) => ?_) ?_ <;> [clear_value y; dsimp -zeta only [y]])
    | (intro y; clear_value y)
    | with_reducible (first
      | assumption | apply quiet_raiseCond | apply quiet_updClasp | apply quiet_setCredit | apply quiet_updRelay | apply quiet_updRlink
      | apply quiet_raiseEvent | apply quiet_endCond | apply quiet_startDiscovery | apply quiet_emit | apply quiet_ite
      | refine quiet_each ?_ (fun a t ht => ?_)))

theorem quiet_claspLinkDown {s0 s : State} (west : Bool) (h : Quiet s0 s) : Quiet s0 (claspLinkDown west s) := by
  delta claspLinkDown
  repeat' (first
    | lift_lets -underBinder | (intro y; refine (fun (hy : Quiet s0 y) => ?_) ?_ <;> [clear_value y; dsimp -zeta only [y]])
    | with_reducible (first
      | assumption | apply quiet_updClasp | apply quiet_setCredit | apply quiet_relayLinkDown | apply quiet_claspCount
      | apply quiet_raiseCond | apply quiet_ringBreak | apply quiet_updDom | apply quiet_ite | refine quiet_each ?_ (fun a t ht => ?_)))

theorem quiet_heartbeatSend {s0 s : State} (h : Quiet s0 s) : Quiet s0 (heartbeatSend s) := by
  delta heartbeatSend
  repeat' (first
    | lift_lets -underBinder | with_reducible (first | assumption | apply quiet_claspSend | apply quiet_updDom | apply quiet_ite))

theorem quiet_heardWorker {s0 s : State} (n : Nat) (fl : Nat) (h : Quiet s0 s) : Quiet s0 (heardWorker n fl s) := by
  delta heardWorker
  repeat' (first
    | lift_lets -underBinder | with_reducible (first | assumption | apply quiet_startDiscovery | apply quiet_updMember | apply quiet_ite))

theorem quiet_heardManager {s0 s : State} (b : Bytes) (h : Quiet s0 s) : Quiet s0 (heardManager b s) := by
  delta heardManager
  repeat' (first
    | lift_lets -underBinder | (intro y; refine (fun (hy : Quiet s0 y) => ?_) ?_ <;> [clear_value y; dsimp -zeta only [y]])
    | (intro y; clear_value y)
    | with_reducible (first
      | assumption | apply quiet_updDom | apply quiet_updTime | apply quiet_doubtEnds | apply quiet_endCond | apply quiet_ite))

theorem quiet_heartbeatTake {s0 s : State} (west : Bool) (m : Msg) (h : Quiet s0 s) : Quiet s0 (heartbeatTake west m s) := by
  delta heartbeatTake
  repeat' (first
    | lift_lets -underBinder | (intro y; refine (fun (hy : Quiet s0 y) => ?_) ?_ <;> [clear_value y; dsimp -zeta only [y]])
    | with_reducible (first
      | assumption | apply quiet_updClasp | apply quiet_heardWorker | apply quiet_heardManager | apply quiet_ite))

theorem quiet_dropDplane {s0 s : State} (d : Nat) (h : Quiet s0 s) : Quiet s0 (dropDplane d s) := by
  delta dropDplane
  repeat' (first
    | lift_lets -underBinder | (intro y; refine (fun (hy : Quiet s0 y) => ?_) ?_ <;> [clear_value y; dsimp -zeta only [y]])
    | (intro y; clear_value y)
    | with_reducible (first
      | assumption | apply quiet_revokePlane | apply quiet_updDplane | apply quiet_updSched | apply quiet_refuseReq | apply quiet_announce
      | apply quiet_updChainPlane | refine quiet_each ?_ (fun a t ht => ?_))
    | split)

theorem quiet_workerSilence {s0 s : State} (n : Nat) (h : Quiet s0 s) : Quiet s0 (workerSilence n s) := by
  delta workerSilence
  repeat' (first
    | lift_lets -underBinder | (intro y; refine (fun (hy : Quiet s0 y) => ?_) ?_ <;> [clear_value y; dsimp -zeta only [y]])
    | (intro y; clear_value y)
    | with_reducible (first
      | assumption | apply quiet_updMember | apply quiet_raiseCond | apply quiet_dropDplane | apply quiet_ite))

theorem quiet_managerLost {s0 s : State} (h : Quiet s0 s) : Quiet s0 (managerLost s) := by
  delta managerLost
  repeat' (first
    | lift_lets -underBinder | (intro y; refine (fun (hy : Quiet s0 y) => ?_) ?_ <;> [clear_value y; dsimp -zeta only [y]])
    | (intro y; clear_value y) | with_reducible (first | assumption | apply quiet_updDom | apply quiet_raiseCond | apply quiet_ite))

theorem quiet_managerSilence {s0 s : State} (h : Quiet s0 s) : Quiet s0 (managerSilence s) := by
  delta managerSilence
  repeat' (first
    | lift_lets -underBinder | with_reducible (first | assumption | apply quiet_managerLost | apply quiet_ite))

theorem quiet_holdoverEnd {s0 s : State} (h : Quiet s0 s) : Quiet s0 (holdoverEnd s) := by
  delta holdoverEnd
  repeat' (first
    | lift_lets -underBinder | (intro y; refine (fun (hy : Quiet s0 y) => ?_) ?_ <;> [clear_value y; dsimp -zeta only [y]])
    | with_reducible (first
      | assumption | apply quiet_updDom | apply quiet_raiseCond | apply quiet_ite | refine quiet_each ?_ (fun a t ht => ?_))
    | split)

theorem quiet_claspTimeSend {s0 s : State} (h : Quiet s0 s) : Quiet s0 (claspTimeSend s) := by
  delta claspTimeSend
  repeat' (first
    | lift_lets -underBinder | (intro y; refine (fun (hy : Quiet s0 y) => ?_) ?_ <;> [clear_value y; dsimp -zeta only [y]])
    | (intro y; clear_value y)
    | with_reducible (first
      | assumption | apply quiet_updDom | apply quiet_emit | apply quiet_updClasp | apply quiet_ite
      | refine quiet_each ?_ (fun a t ht => ?_)))

theorem quiet_claspOffset {s0 s : State} (off : Int) (h : Quiet s0 s) : Quiet s0 (claspOffset off s) := by
  delta claspOffset
  repeat' (first
    | lift_lets -underBinder
    | with_reducible (first
      | assumption | apply quiet_servo | apply quiet_updTime | apply quiet_askStep | apply quiet_ite))

theorem quiet_finishExchange {s0 s : State} (west : Bool) (t3 : NetTime) (h : Quiet s0 s) : Quiet s0 (finishExchange west t3 s).2 := by
  delta finishExchange
  repeat' (first
    | lift_lets -underBinder | (intro y; clear_value y) | with_reducible (first | assumption | apply quiet_updClasp) | split)

theorem quiet_timeTake {s0 s : State} (west : Bool) (b : Bytes) (rx : NetTime) (h : Quiet s0 s) : Quiet s0 (timeTake west b rx s) := by
  delta timeTake
  repeat' (first
    | lift_lets -underBinder | (intro y; refine (fun (hy : Quiet s0 y) => ?_) ?_ <;> [clear_value y; dsimp -zeta only [y]])
    | (intro y; refine (fun (hy : Quiet s0 y.2) => ?_) ?_ <;> [clear_value y; dsimp -zeta only [y]]) | (intro y; clear_value y)
    | with_reducible (first
      | assumption | apply quiet_finishExchange | apply quiet_updClasp | apply quiet_endCond | apply quiet_updTime
      | apply quiet_claspOffset | apply quiet_ite)
    | split)

theorem quiet_claspTimeReceive {s0 s : State} (west : Bool) (unit : Bytes) (rx : NetTime) (h : Quiet s0 s) : Quiet s0
    (claspTimeReceive west unit rx s) := by
  delta claspTimeReceive
  repeat' (first
    | lift_lets -underBinder | with_reducible (first | assumption | apply quiet_timeTake) | split)

theorem quiet_claspTimeSilence {s0 s : State} (h : Quiet s0 s) : Quiet s0 (claspTimeSilence s) := by
  delta claspTimeSilence
  repeat' (first
    | lift_lets -underBinder | (intro y; refine (fun (hy : Quiet s0 y) => ?_) ?_ <;> [clear_value y; dsimp -zeta only [y]])
    | with_reducible (first
      | assumption | apply quiet_holdover | apply quiet_managerLost | apply quiet_raiseCond | apply quiet_ite))

theorem quiet_ackTake {s0 s : State} (m : Msg) (h : Quiet s0 s) : Quiet s0 (ackTake m s) := by
  delta ackTake
  repeat' (first
    | lift_lets -underBinder | with_reducible (first | assumption | apply quiet_updDom))

theorem quiet_setUnacked {s0 s : State} (dst : Nat) (seq : Nat) (f : Unacked → Unacked) (h : Quiet s0 s) : Quiet s0
    (setUnacked dst seq f s) := by
  delta setUnacked
  repeat' (first
    | lift_lets -underBinder | with_reducible (first | assumption | apply quiet_updDom))

theorem quiet_resend {s0 s : State} (dst : Nat) (seq : Nat) (h : Quiet s0 s) : Quiet s0 (resend dst seq s) := by
  delta resend
  repeat' (first
    | lift_lets -underBinder | (intro y; refine (fun (hy : Quiet s0 y) => ?_) ?_ <;> [clear_value y; dsimp -zeta only [y]])
    | (intro y; clear_value y)
    | with_reducible (first
      | assumption | apply quiet_updDom | apply quiet_setUnacked | apply quiet_claspCount | apply quiet_claspOut | apply quiet_ite
      | refine quiet_each ?_ (fun a t ht => ?_))
    | split)

theorem quiet_claspDark {s0 s : State} (west : Bool) (origin : Nat) (ident : Nat) (h : Quiet s0 s) : Quiet s0
    (claspDark west origin ident s) := by
  delta claspDark
  repeat' (first
    | lift_lets -underBinder | (intro y; refine (fun (hy : Quiet s0 y) => ?_) ?_ <;> [clear_value y; dsimp -zeta only [y]])
    | with_reducible (first
      | assumption | apply quiet_updDom | apply quiet_darkOut | apply quiet_occurrence | apply quiet_claspCount | apply quiet_ite))

theorem quiet_claspDarkReceive {s0 s : State} (west : Bool) (unit : Bytes) (errored : Bool) (h : Quiet s0 s) : Quiet s0
    (claspDarkReceive west unit errored s) := by
  delta claspDarkReceive
  repeat' (first
    | lift_lets -underBinder | with_reducible (first | assumption | apply quiet_claspDark) | split)

theorem quiet_noticeTake {s0 s : State} (m : Msg) (h : Quiet s0 s) : Quiet s0 (noticeTake m s) := by
  delta noticeTake
  repeat' (first
    | lift_lets -underBinder | (intro y; clear_value y)
    | with_reducible (first
      | assumption | apply quiet_takeRegimeAt | apply quiet_revokeCircuit | apply quiet_withdrawPair | apply quiet_ite))

theorem quiet_schedAct {s0 s : State} (b : Bytes) (h : Quiet s0 s) : Quiet s0 (schedAct b s).2.2 := by
  delta schedAct
  repeat' (first
    | lift_lets -underBinder | (intro y; clear_value y)
    | with_reducible (first
      | assumption | apply quiet_timeDoubt | exact (quiet_changeRegime_eq ‹_› ‹_›) | apply quiet_containNamed | apply quiet_restoreLocal
      | apply quiet_darkLocal)
    | split)

theorem quiet_schedTake {s0 s : State} (m : Msg) (h : Quiet s0 s) : Quiet s0 (schedTake m s) := by
  delta schedTake
  repeat' (first
    | lift_lets -underBinder | (intro y; refine (fun (hy : Quiet s0 y.2.2) => ?_) ?_ <;> [clear_value y; dsimp -zeta only [y]])
    | (intro y; clear_value y)
    | with_reducible (first
      | assumption | apply quiet_schedAnswered | apply quiet_schedAct | apply quiet_claspSend | apply quiet_ite))

theorem quiet_eventTake {s0 s : State} (m : Msg) (h : Quiet s0 s) : Quiet s0 (eventTake m s) := by
  delta eventTake
  repeat' (first
    | lift_lets -underBinder | (intro y; refine (fun (hy : Quiet s0 y) => ?_) ?_ <;> [clear_value y; dsimp -zeta only [y]])
    | (intro y; clear_value y)
    | with_reducible (first
      | assumption | apply quiet_raiseEvent | apply quiet_updDom | apply quiet_announce | apply quiet_moveAllow | apply quiet_ringBreak
      | apply quiet_startDiscovery | apply quiet_ite))

theorem quiet_cmdDomainConfig {s0 s : State} (r : Req) (h : Quiet s0 s) : QuietRan s0 (cmdDomainConfig.run r s) := by
  dsimp -zeta only [cmdDomainConfig]
  repeat' (first
    | lift_lets -underBinder | (intro y; clear_value y)
    | with_reducible (first
      | assumption | apply quiet_setCfg | apply quiet_updDom | refine quietRan_ok ?_ | refine quietRan_guarded ?_))

theorem quiet_cmdDomainStatus {s0 s : State} (r : Req) (h : Quiet s0 s) : QuietRan s0 (cmdDomainStatus.run r s) := by
  dsimp -zeta only [cmdDomainStatus]
  repeat' (first
    | lift_lets -underBinder | (intro y; clear_value y) | with_reducible (first | assumption | refine quietRan_ok ?_))

theorem quiet_cmdDomainMembers {s0 s : State} (r : Req) (h : Quiet s0 s) : QuietRan s0 (cmdDomainMembers.run r s) := by
  dsimp -zeta only [cmdDomainMembers]
  repeat' (first
    | lift_lets -underBinder | with_reducible (first | assumption | refine quietRan_ok ?_ | refine quietRan_guarded ?_))

theorem quiet_cmdDomainMemberEdit {s0 s : State} (r : Req) (h : Quiet s0 s) : QuietRan s0 (cmdDomainMemberEdit.run r s) := by
  dsimp -zeta only [cmdDomainMemberEdit]
  repeat' (first
    | lift_lets -underBinder | (intro y; clear_value y)
    | with_reducible (first
      | assumption | apply quiet_setCfg | apply quiet_updMember | refine quietRan_ok ?_ | refine quietRan_guarded ?_))

theorem quiet_cmdDomainSetRole {s0 s : State} (r : Req) (h : Quiet s0 s) : QuietRan s0 (cmdDomainSetRole.run r s) := by
  dsimp -zeta only [cmdDomainSetRole]
  repeat' (first
    | lift_lets -underBinder
    | with_reducible (first | assumption | apply quiet_setCfg | refine quietRan_ok ?_ | refine quietRan_guarded ?_))

theorem quiet_cmdDomainEvents {s0 s : State} (r : Req) (h : Quiet s0 s) : QuietRan s0 (cmdDomainEvents.run r s) := by
  dsimp -zeta only [cmdDomainEvents]
  repeat' (first
    | lift_lets -underBinder | (intro y; clear_value y)
    | with_reducible (first | assumption | apply quiet_updDom | refine quietRan_ok ?_ | refine quietRan_guarded ?_))

theorem quiet_cmdDomainCounters {s0 s : State} (r : Req) (h : Quiet s0 s) : QuietRan s0 (cmdDomainCounters.run r s) := by
  dsimp -zeta only [cmdDomainCounters]
  repeat' (first
    | lift_lets -underBinder | (intro y; clear_value y)
    | with_reducible (first | assumption | apply quiet_updClasp | refine quietRan_ok ?_ | apply quiet_ite))

theorem quiet_updCal {s0 s : State} (f : CalSt → CalSt) (h : Quiet s0 s) : Quiet s0 (updCal f s) := by
  delta updCal
  with_reducible exact quiet_with ‹_›

theorem quiet_loadCell {s0 s : State} (p : Nat) (cell : Nat) (h : Quiet s0 s) : Quiet s0 (loadCell p cell s) := by
  delta loadCell
  repeat' (first
    | lift_lets -underBinder | (intro y; refine (fun (hy : Quiet s0 y) => ?_) ?_ <;> [clear_value y; dsimp -zeta only [y]])
    | (intro y; clear_value y)
    | with_reducible (first
      | assumption | apply quiet_updCtx | apply quiet_updDrive | apply quiet_ite | refine quiet_each ?_ (fun a t ht => ?_))
    | split)

theorem quiet_calTake {s0 s : State} (ps : List Nat) (c : Cal) (h : Quiet s0 s) : Quiet s0 (calTake ps c s) := by
  delta calTake
  repeat' (first
    | lift_lets -underBinder | (intro y; refine (fun (hy : Quiet s0 y) => ?_) ?_ <;> [clear_value y; dsimp -zeta only [y]])
    | (intro y; clear_value y)
    | with_reducible (first
      | assumption | apply quiet_endCond | apply quiet_updCal | apply quiet_loadTrims | apply quiet_loadCell | apply quiet_reState
      | refine quiet_each ?_ (fun a t ht => ?_)))

theorem quiet_updWork {s0 s : State} (f : Cal → Cal) (h : Quiet s0 s) : Quiet s0 (updWork f s) := by
  delta updWork
  repeat' (first
    | lift_lets -underBinder | with_reducible (first | assumption | apply quiet_updCal))

theorem quiet_trimLimit {s0 s : State} (p : Nat) (b : Bool) (d : EvData) (h : Quiet s0 s) : Quiet s0 (trimLimit p b d s) := by
  delta trimLimit
  repeat' (first
    | lift_lets -underBinder | with_reducible (first | assumption | apply quiet_raiseFault | apply quiet_ite))

theorem quiet_darkGroup {s0 s : State} (p : Nat) (m : GroupMeas) (h : Quiet s0 s) : Quiet s0 (darkGroup p m s) := by
  delta darkGroup
  repeat' (first
    | lift_lets -underBinder | (intro y; clear_value y)
    | with_reducible (first | assumption | apply quiet_trimLimit | apply quiet_updWork))

theorem quiet_darkElem {s0 s : State} (p : Nat) (m : ElemMeas) (h : Quiet s0 s) : Quiet s0 (darkElem p m s) := by
  delta darkElem
  repeat' (first
    | lift_lets -underBinder | (intro y; refine (fun (hy : Quiet s0 y) => ?_) ?_ <;> [clear_value y; dsimp -zeta only [y]])
    | (intro y; clear_value y)
    | with_reducible (first
      | assumption | apply quiet_trimLimit | apply quiet_updWork | apply quiet_raiseFault | apply quiet_ite))

theorem quiet_darkMon {s0 s : State} (p : Nat) (m : MonMeas) (h : Quiet s0 s) : Quiet s0 (darkMon p m s) := by
  delta darkMon
  repeat' (first
    | lift_lets -underBinder | (intro y; clear_value y)
    | with_reducible (first | assumption | apply quiet_trimLimit | apply quiet_updWork))

theorem quiet_fringeElem {s0 s : State} (m : ElemMeas) (h : Quiet s0 s) : Quiet s0 (fringeElem m s) := by
  delta fringeElem
  repeat' (first
    | lift_lets -underBinder | with_reducible (first | assumption | apply quiet_updWork | apply quiet_ite) | split)

theorem quiet_fringeMon {s0 s : State} (p : Nat) (m : MonMeas) (h : Quiet s0 s) : Quiet s0 (fringeMon p m s) := by
  delta fringeMon
  repeat' (first
    | lift_lets -underBinder | (intro y; clear_value y)
    | with_reducible (first | assumption | apply quiet_trimLimit | apply quiet_updWork | apply quiet_ite))

theorem quiet_failCell {s0 s : State} (p : Nat) (cell : Nat) (fringe : Bool) (h : Quiet s0 s) : Quiet s0 (failCell p cell fringe s) := by
  delta failCell
  repeat' (first
    | lift_lets -underBinder | (intro y; refine (fun (hy : Quiet s0 y) => ?_) ?_ <;> [clear_value y; dsimp -zeta only [y]])
    | (intro y; clear_value y) | with_reducible (first | assumption | apply quiet_updCal | apply quiet_updWork | apply quiet_raiseFault))

theorem quiet_fringeCell {s0 s : State} (p : Nat) (m : CellMeas) (h : Quiet s0 s) : Quiet s0 (fringeCell p m s) := by
  delta fringeCell
  repeat' (first
    | lift_lets -underBinder | (intro y; refine (fun (hy : Quiet s0 y.2) => ?_) ?_ <;> [clear_value y; dsimp -zeta only [y]])
    | (intro y; clear_value y)
    | with_reducible (first
      | assumption | apply quiet_failCell | apply quiet_draw | apply quiet_updWork | apply quiet_ite)
    | split)

theorem quiet_dynCell {s0 s : State} (p : Nat) (wp : Nat) (m : CellMeas) (h : Quiet s0 s) : Quiet s0 (dynCell p wp m s) := by
  delta dynCell
  repeat' (first
    | lift_lets -underBinder | (intro y; refine (fun (hy : Quiet s0 y) => ?_) ?_ <;> [clear_value y; dsimp -zeta only [y]])
    | (intro y; clear_value y) | with_reducible (first | assumption | apply quiet_updWork | apply quiet_raiseFault | apply quiet_ite))

theorem quiet_xtElem {s0 s : State} (p : Nat) (xmin : Nat) (avgN : Nat) (m : XtMeas) (h : Quiet s0 s) : Quiet s0 (xtElem p xmin avgN m s)
    := by
  delta xtElem
  repeat' (first
    | lift_lets -underBinder | (intro y; refine (fun (hy : Quiet s0 y) => ?_) ?_ <;> [clear_value y; dsimp -zeta only [y]])
    | (intro y; clear_value y) | with_reducible (first | assumption | apply quiet_updWork | apply quiet_raiseFault | apply quiet_ite))

theorem quiet_runAborts {s0 s : State} (p : Nat) (e : Nat) (h : Quiet s0 s) : Quiet s0 (runAborts p e s) := by
  delta runAborts
  repeat' (first
    | lift_lets -underBinder | with_reducible (first | assumption | apply quiet_calAbort | apply quiet_raiseFault))

theorem quiet_phaseOver {s0 s : State} (f : Nat) (h : Quiet s0 s) : Quiet s0 (phaseOver f s) := by
  delta phaseOver
  repeat' (first
    | lift_lets -underBinder | with_reducible (first | assumption | apply quiet_updCal))

theorem quiet_takeTrims {s0 s : State} (old : Cal) (h : Quiet s0 s) : Quiet s0 (takeTrims old s) := by
  delta takeTrims
  repeat' (first
    | lift_lets -underBinder | with_reducible (first | assumption | apply quiet_loadTrims))

theorem quiet_failDark {s0 s : State} (p : Nat) (cell : Nat) (h : Quiet s0 s) : Quiet s0 (failDark p cell s) := by
  delta failDark
  repeat' (first
    | lift_lets -underBinder | with_reducible (first | assumption | apply quiet_failCell | apply quiet_ite))

theorem quiet_calPhase {s0 s : State} (m : CalMeas) (h : Quiet s0 s) : Quiet s0 (calPhase m s) := by
  delta calPhase
  repeat' (first
    | lift_lets -underBinder | (intro y; refine (fun (hy : Quiet s0 y) => ?_) ?_ <;> [clear_value y; dsimp -zeta only [y]])
    | (intro y; clear_value y)
    | with_reducible (first
      | assumption | apply quiet_runAborts | apply quiet_darkGroup | apply quiet_darkElem | apply quiet_phaseOver | apply quiet_takeTrims
      | apply quiet_darkMon | apply quiet_fringeElem | apply quiet_fringeMon | apply quiet_fringeCell | apply quiet_failDark
      | apply quiet_dynCell | apply quiet_xtElem | apply quiet_ite | refine quiet_each ?_ (fun a t ht => ?_))
    | split)

theorem quiet_endCalLeases {s0 s : State} (p : Nat) (h : Quiet s0 s) : Quiet s0 (endCalLeases p s) := by
  delta endCalLeases
  with_reducible exact quiet_with ‹_›

theorem quiet_announceCal {s0 s : State} (old : State) (h : Quiet s0 s) : Quiet s0 (announceCal old s) := by
  delta announceCal
  repeat' (first
    | lift_lets -underBinder | with_reducible (first | assumption | apply quiet_announce | apply quiet_ite))

theorem quiet_calRunDone {s0 s : State} (h : Quiet s0 s) : Quiet s0 (calRunDone s) := by
  delta calRunDone
  repeat' (first
    | lift_lets -underBinder | (intro y; refine (fun (hy : Quiet s0 y) => ?_) ?_ <;> [clear_value y; dsimp -zeta only [y]])
    | (intro y; clear_value y)
    | with_reducible (first
      | assumption | apply quiet_endCalLeases | apply quiet_updCal | apply quiet_raiseEvent | apply quiet_announceCal
      | apply quiet_calTake | apply quiet_ite)
    | split)

theorem quiet_visitDark {s0 s : State} (m : Nat) (mean : Int) (sigma : Nat) (h : Quiet s0 s) : Quiet s0 (visitDark m mean sigma s) := by
  delta visitDark
  repeat' (first
    | lift_lets -underBinder | (intro y; refine (fun (hy : Quiet s0 y) => ?_) ?_ <;> [clear_value y; dsimp -zeta only [y]])
    | (intro y; clear_value y) | with_reducible (first | assumption | apply quiet_updCal | apply quiet_setMonTrim | apply quiet_ite))

theorem quiet_visitHold {s0 s : State} (m : Nat) (acc : Stat) (integ : Int) (h : Quiet s0 s) : Quiet s0 (visitHold m acc integ s) := by
  delta visitHold
  repeat' (first
    | lift_lets -underBinder | (intro y; refine (fun (hy : Quiet s0 y) => ?_) ?_ <;> [clear_value y; dsimp -zeta only [y]])
    | (intro y; clear_value y) | with_reducible (first | assumption | apply quiet_updCal | apply quiet_raiseFault | apply quiet_ite)
    | split)

theorem quiet_visitDone {s0 s : State} (acc : Stat) (integ : Int) (h : Quiet s0 s) : Quiet s0 (visitDone acc integ s) := by
  delta visitDone
  repeat' (first
    | lift_lets -underBinder | (intro y; refine (fun (hy : Quiet s0 y) => ?_) ?_ <;> [clear_value y; dsimp -zeta only [y]])
    | (intro y; clear_value y)
    | with_reducible (first
      | assumption | apply quiet_updCal | apply quiet_visitHold | apply quiet_visitDark | apply quiet_ite)
    | split)

theorem quiet_cmdCalCommission {s0 s : State} (r : Req) (h : Quiet s0 s) : QuietRan s0 (cmdCalCommission.run r s) := by
  dsimp -zeta only [cmdCalCommission]
  repeat' (first
    | lift_lets -underBinder | (intro y; refine (fun (hy : Quiet s0 y) => ?_) ?_ <;> [clear_value y; dsimp -zeta only [y]])
    | (intro y; clear_value y)
    | with_reducible (first
      | assumption | apply quiet_updCal | apply quiet_updCtx | refine quietRan_ok ?_ | refine quietRan_guarded ?_
      | refine quiet_each ?_ (fun a t ht => ?_)))

theorem quiet_cmdCalBackground {s0 s : State} (r : Req) (h : Quiet s0 s) : QuietRan s0 (cmdCalBackground.run r s) := by
  dsimp -zeta only [cmdCalBackground]
  repeat' (first
    | lift_lets -underBinder | (intro y; refine (fun (hy : Quiet s0 y) => ?_) ?_ <;> [clear_value y; dsimp -zeta only [y]])
    | (intro y; clear_value y)
    | with_reducible (first
      | assumption | apply quiet_updCal | refine quietRan_ok ?_ | refine quietRan_guarded ?_ | apply quiet_ite))

theorem quiet_cmdCalStatus {s0 s : State} (r : Req) (h : Quiet s0 s) : QuietRan s0 (cmdCalStatus.run r s) := by
  dsimp -zeta only [cmdCalStatus]
  repeat' (first
    | lift_lets -underBinder | (intro y; refine (fun (hy : Quiet s0 y.2) => ?_) ?_ <;> [clear_value y; dsimp -zeta only [y]])
    | (intro y; clear_value y) | with_reducible (first | assumption | apply quiet_draw | refine quietRan_ok ?_) | split)

theorem quiet_cmdCalRead {s0 s : State} (r : Req) (h : Quiet s0 s) : QuietRan s0 (cmdCalRead.run r s) := by
  dsimp -zeta only [cmdCalRead]
  repeat' (first
    | lift_lets -underBinder | (intro y; clear_value y)
    | with_reducible (first | assumption | refine quietRan_ok ?_ | refine quietRan_guarded ?_))

theorem quiet_cmdCalStore {s0 s : State} (r : Req) (h : Quiet s0 s) : QuietRan s0 (cmdCalStore.run r s) := by
  dsimp -zeta only [cmdCalStore]
  repeat' (first
    | lift_lets -underBinder
    | with_reducible (first
      | assumption | apply quiet_startJob | refine quietRan_ok ?_ | refine quietRan_guarded ?_))

theorem quiet_cmdCalSelect {s0 s : State} (r : Req) (h : Quiet s0 s) : QuietRan s0 (cmdCalSelect.run r s) := by
  dsimp -zeta only [cmdCalSelect]
  repeat' (first
    | lift_lets -underBinder | (intro y; clear_value y)
    | with_reducible (first
      | assumption | apply quiet_announceCal | apply quiet_calTake | apply quiet_updCal | refine quietRan_ok ?_
      | refine quietRan_guarded ?_))

theorem quiet_cmdCalRefTrim {s0 s : State} (r : Req) (h : Quiet s0 s) : QuietRan s0 (cmdCalRefTrim.run r s) := by
  dsimp -zeta only [cmdCalRefTrim]
  repeat' (first
    | lift_lets -underBinder | (intro y; refine (fun (hy : Quiet s0 y) => ?_) ?_ <;> [clear_value y; dsimp -zeta only [y]])
    | (intro y; clear_value y)
    | with_reducible (first
      | assumption | apply quiet_updCal | apply quiet_updSense | refine quietRan_ok ?_ | refine quietRan_guarded ?_)
    | split)

theorem quiet_laneSession {s0 s : State} (n : Nat) (h : Quiet s0 s) : Quiet s0 (laneSession n s) := by
  delta laneSession
  repeat' (first
    | lift_lets -underBinder | (intro y; refine (fun (hy : Quiet s0 y) => ?_) ?_ <;> [clear_value y; dsimp -zeta only [y]])
    | (intro y; clear_value y)
    | with_reducible (first
      | assumption | apply quiet_restartConvs | apply quiet_lightOff | apply quiet_dropCmds | apply quiet_updLink | apply quiet_reState
      | apply quiet_updLane | apply quiet_ethDown | apply quiet_claspLinkDown | apply quiet_ite | refine quiet_each ?_ (fun a t ht => ?_)))

theorem quiet_laneBack {s0 s : State} (n : Nat) (h : Quiet s0 s) : Quiet s0 (laneBack n s) := by
  delta laneBack
  repeat' (first
    | lift_lets -underBinder | (intro y; clear_value y)
    | with_reducible (first
      | assumption | apply quiet_startTraining | apply quiet_updLane | apply quiet_ite | refine quiet_each ?_ (fun a t ht => ?_)))

theorem quiet_leaseOver {s0 s : State} (l : Lease) (h : Quiet s0 s) : Quiet s0 (leaseOver l s) := by
  delta leaseOver
  repeat' (first
    | lift_lets -underBinder | (intro y; refine (fun (hy : Quiet s0 y) => ?_) ?_ <;> [clear_value y; dsimp -zeta only [y]])
    | with_reducible (first
      | assumption | apply quiet_endLease | apply quiet_laneBack | apply quiet_ite | refine quiet_each ?_ (fun a t ht => ?_)))

theorem quiet_cmdLeaseRelease {s0 s : State} (r : Req) (h : Quiet s0 s) : QuietRan s0 (cmdLeaseRelease.run r s) := by
  dsimp -zeta only [cmdLeaseRelease]
  repeat' (first
    | lift_lets -underBinder | with_reducible (first | assumption | apply quiet_leaseOver | refine quietRan_ok ?_ | exact quietRan_error)
    | split)

theorem quiet_askLaneTest {s0 s : State} (n : Nat) (data : Nat) (h : Quiet s0 s) : Quiet s0 (askLaneTest n data s) := by
  delta askLaneTest
  repeat' (first
    | lift_lets -underBinder | with_reducible (first | assumption | apply quiet_updLink))

theorem quiet_cmdTestLanePattern {s0 s : State} (r : Req) (h : Quiet s0 s) : QuietRan s0 (cmdTestLanePattern.run r s) := by
  dsimp -zeta only [cmdTestLanePattern]
  repeat' (first
    | lift_lets -underBinder | (intro y; refine (fun (hy : Quiet s0 y) => ?_) ?_ <;> [clear_value y; dsimp -zeta only [y]])
    | (intro y; refine (fun (hf : ∀ t, Quiet s0 t → Quiet s0 (y t)) => ?_) ?_ <;> [clear_value y; (intro t ht; dsimp -zeta only [y])])
    | (intro y; clear_value y)
    | with_reducible (first
      | assumption | apply hf | apply quiet_updLane | apply quiet_laneSession | apply quiet_askLaneTest | refine quietRan_ok ?_
      | refine quietRan_guarded ?_ | apply quiet_ite))

theorem quiet_cmdTestLaneCheck {s0 s : State} (r : Req) (h : Quiet s0 s) : QuietRan s0 (cmdTestLaneCheck.run r s) := by
  dsimp -zeta only [cmdTestLaneCheck]
  repeat' (first
    | lift_lets -underBinder
    | (intro y; refine (fun (hf : ∀ t, Quiet s0 t → Quiet s0 (y t)) => ?_) ?_ <;> [clear_value y; (intro t ht; dsimp -zeta only [y])])
    | (intro y; clear_value y)
    | with_reducible (first
      | assumption | apply hf | apply quiet_updLane | apply quiet_laneSession | refine quietRan_ok ?_ | refine quietRan_guarded ?_
      | apply quiet_ite))

theorem quiet_cmdTestLoopback {s0 s : State} (r : Req) (h : Quiet s0 s) : QuietRan s0 (cmdTestLoopback.run r s) := by
  dsimp -zeta only [cmdTestLoopback]
  repeat' (first
    | lift_lets -underBinder | (intro y; refine (fun (hy : Quiet s0 y) => ?_) ?_ <;> [clear_value y; dsimp -zeta only [y]])
    | (intro y; refine (fun (hf : ∀ t, Quiet s0 t → Quiet s0 (y t)) => ?_) ?_ <;> [clear_value y; (intro t ht; dsimp -zeta only [y])])
    | (intro y; clear_value y)
    | with_reducible (first
      | assumption | apply hf | apply quiet_updLane | apply quiet_laneSession | apply quiet_askLaneTest | refine quietRan_ok ?_
      | refine quietRan_guarded ?_ | apply quiet_ite))

theorem quiet_cmdTestMarginScan {s0 s : State} (r : Req) (h : Quiet s0 s) : QuietRan s0 (cmdTestMarginScan.run r s) := by
  dsimp -zeta only [cmdTestMarginScan]
  repeat' (first
    | lift_lets -underBinder | (intro y; clear_value y)
    | with_reducible (first | assumption | apply quiet_updLane | refine quietRan_ok ?_ | refine quietRan_guarded ?_))

theorem quiet_marginPoint {s0 s : State} (n : Nat) (errors : List Nat) (h : Quiet s0 s) : Quiet s0 (marginPoint n errors s) := by
  delta marginPoint
  repeat' (first
    | lift_lets -underBinder | (intro y; refine (fun (hy : Quiet s0 y) => ?_) ?_ <;> [clear_value y; dsimp -zeta only [y]])
    | (intro y; clear_value y)
    | with_reducible (first
      | assumption | apply quiet_updLane | apply quiet_updCal | apply quiet_raiseEvent | apply quiet_ite)
    | split)

theorem quiet_laneCount64 {s0 s : State} (n : Nat) (h : Quiet s0 s) : Quiet s0 (laneCount64 n s) := by
  delta laneCount64
  repeat' (first
    | lift_lets -underBinder | (intro y; refine (fun (hy : Quiet s0 y.2) => ?_) ?_ <;> [clear_value y; dsimp -zeta only [y]])
    | (intro y; clear_value y) | with_reducible (first | assumption | apply quiet_draw | apply quiet_updLane | apply quiet_ite))

theorem quiet_cmdTestCounters {s0 s : State} (r : Req) (h : Quiet s0 s) : QuietRan s0 (cmdTestCounters.run r s) := by
  dsimp -zeta only [cmdTestCounters]
  repeat' (first
    | lift_lets -underBinder | (intro y; refine (fun (hy : Quiet s0 y) => ?_) ?_ <;> [clear_value y; dsimp -zeta only [y]])
    | (intro y; clear_value y)
    | with_reducible (first
      | assumption | apply quiet_laneCount64 | apply quiet_updLane | refine quietRan_ok ?_ | refine quietRan_guarded ?_ | apply quiet_ite))

theorem quiet_bistWipes {s0 s : State} (t : Nat) (h : Quiet s0 s) : Quiet s0 (bistWipes t s) := by
  delta bistWipes
  repeat' (first
    | lift_lets -underBinder | (intro (y : Loupe); dsimp -zeta only [y]; clear y)
    | (intro y; refine (fun (hy : Quiet s0 y) => ?_) ?_ <;> [clear_value y; dsimp -zeta only [y]]) | (intro y; clear_value y)
    | with_reducible (first
      | assumption | exact quiet_mk h.dark h.light h.queue (fun _ => rfl) h.mail | apply quiet_updSched | apply quiet_loadCell
      | exact quiet_with ‹_› | exact quiet_mk (Quiet.dark ‹_›) (Quiet.light ‹_›) (Quiet.queue ‹_›) (Quiet.mem ‹_›) (Quiet.mail ‹_›)
      | refine quiet_each ?_ (fun a t ht => ?_))
    | split)

theorem quiet_cmdTestBist {s0 s : State} (r : Req) (h : Quiet s0 s) : QuietRan s0 (cmdTestBist.run r s) := by
  dsimp -zeta only [cmdTestBist]
  repeat' (first
    | lift_lets -underBinder | (intro y; clear_value y)
    | with_reducible (first
      | assumption | apply quiet_bistWipes | refine quietRan_ok ?_ | refine quietRan_guarded ?_ | exact quiet_with ‹_›)
    | split)

theorem quiet_scanLow {s0 s : State} (l : Nat) (h : Quiet s0 s) : Quiet s0 (scanLow l s) := by
  delta scanLow
  repeat' (first
    | lift_lets -underBinder | (intro y; refine (fun (hy : Quiet s0 y) => ?_) ?_ <;> [clear_value y; dsimp -zeta only [y]])
    | with_reducible (first
      | assumption | apply quiet_bzDrive | apply quiet_lightOff | apply quiet_updBezel | apply quiet_crcLoss | apply quiet_ite))

theorem quiet_scanBack {s0 s : State} (l : Nat) (h : Quiet s0 s) : Quiet s0 (scanBack l s) := by
  delta scanBack
  repeat' (first
    | lift_lets -underBinder | (intro y; clear_value y)
    | with_reducible (first | assumption | apply quiet_bzDrive | apply quiet_updBezel | apply quiet_ite))

theorem quiet_jtagUpdate {s0 s : State} (code : Nat) (h : Quiet s0 s) : Quiet s0 (jtagUpdate code s) := by
  delta jtagUpdate
  repeat' (first
    | lift_lets -underBinder | (intro (y : Pins); dsimp -zeta only [y]; clear y)
    | (intro y; refine (fun (hy : Quiet s0 y) => ?_) ?_ <;> [clear_value y; dsimp -zeta only [y]]) | (intro y; clear_value y)
    | with_reducible (first
      | assumption | apply quiet_emit | apply quiet_scanLow | apply quiet_scanBack | apply quiet_ite | exact quiet_with ‹_›
      | exact quiet_mk (Quiet.dark ‹_›) (Quiet.light ‹_›) (Quiet.queue ‹_›) (Quiet.mem ‹_›) (Quiet.mail ‹_›)
      | refine quiet_each ?_ (fun a t ht => ?_)))

end Sys2Proof.Machine
end

