-- ==== Sys2Proof/Laws/QuietSys.lean ====
section
/-! SUPPORT. Quiet functions (`Quiet` of Laws/Quiet.lean): the loupe, snapshots, power, security, the start and the command table. -/

namespace Sys2Proof.Machine

theorem quiet_updRing {s0 s : State} (i : Nat) (f : Ring → Ring) (h : Quiet s0 s) : Quiet s0 (updRing i f s) := by
  delta updRing
  repeat' (first
    | lift_lets -underBinder | (intro (y : Loupe); dsimp -zeta only [y]; clear y)
    | with_reducible exact quiet_mk (Quiet.dark ‹_›) (Quiet.light ‹_›) (Quiet.queue ‹_›) (Quiet.mem ‹_›) (Quiet.mail ‹_›))

theorem quiet_loupeWrite {s0 s : State} (h : Quiet s0 s) : Quiet s0 (loupeWrite s) := by
  delta loupeWrite
  repeat' (first
    | lift_lets -underBinder | (intro (y : Loupe); dsimp -zeta only [y]; clear y)
    | (intro y; refine (fun (hy : Quiet s0 y) => ?_) ?_ <;> [clear_value y; dsimp -zeta only [y]]) | (intro y; clear_value y)
    | with_reducible (first
      | assumption | apply quiet_drainLoupe | apply quiet_raiseEvent | apply quiet_ite
      | exact quiet_mk (Quiet.dark ‹_›) (Quiet.light ‹_›) (Quiet.queue ‹_›) (Quiet.mem ‹_›) (Quiet.mail ‹_›)))

theorem quiet_dirWrite {s0 s : State} (i : Nat) (h : Quiet s0 s) : Quiet s0 (dirWrite i s) := by
  have key : ∀ t, Quiet s0 t → Quiet s0 ({ t with loupe := { t.loupe with mem := putBytes t.loupe.mem (64 * i) (dirEntry t i) } }
    : State) :=
    fun t h1 => by
      refine quiet_mk h1.dark h1.light h1.queue (fun k => ?_) h1.mail
      dsimp only
      exact putBytes_wf (h1.mem k)
  exact key _ (quiet_updRing i _ h)

theorem quiet_dirUpdate {s0 s : State} (h : Quiet s0 s) : Quiet s0 (dirUpdate s) := by
  delta dirUpdate
  repeat' (first
    | lift_lets -underBinder
    | with_reducible (first
      | assumption | apply quiet_loupeWrite | apply quiet_dirWrite | apply quiet_ite | refine quiet_each ?_ (fun a t ht => ?_)))

theorem timeBase_wf {now : NetTime} {rb : Ring × List Host.Cell} (h : Memory.wf rb.2 = true) : Memory.wf (timeBase now rb).2 = true := by
  unfold timeBase
  refine wf_ite h (ringBase_wf (wf_ite (ringPut_wf h) h))

theorem quiet_timeBases {s0 s : State} (h : Quiet s0 s) : Quiet s0 (timeBases s) := by
  unfold timeBases
  refine quiet_each (quiet_loupeWrite h) (fun i t ht => ?_)
  exact quiet_mk ht.dark ht.light ht.queue (fun k => timeBase_wf (ht.mem k)) ht.mail

theorem quiet_freezeTrigger {s0 s : State} (event : Option Nat) (h : Quiet s0 s) : Quiet s0 (freezeTrigger event s) := by
  delta freezeTrigger
  repeat' (first
    | lift_lets -underBinder | (intro (y : Loupe); dsimp -zeta only [y]; clear y)
    | with_reducible exact quiet_mk (Quiet.dark ‹_›) (Quiet.light ‹_›) (Quiet.queue ‹_›) (Quiet.mem ‹_›) (Quiet.mail ‹_›))

theorem quiet_freezeRings {s0 s : State} (f : Freeze) (h : Quiet s0 s) : Quiet s0 (freezeRings f s) := by
  delta freezeRings
  repeat' (first
    | lift_lets -underBinder | (intro y; refine (fun (hy : Quiet s0 y) => ?_) ?_ <;> [clear_value y; dsimp -zeta only [y]])
    | with_reducible (first
      | assumption | apply quiet_updRing | apply quiet_raiseEvent | refine quiet_each ?_ (fun a t ht => ?_)))

theorem quiet_freezeStop {s0 s : State} (h : Quiet s0 s) : Quiet s0 (freezeStop s) := by
  delta freezeStop
  repeat' (first
    | lift_lets -underBinder | (intro (y : Loupe); dsimp -zeta only [y]; clear y)
    | (intro y; refine (fun (hy : Quiet s0 y) => ?_) ?_ <;> [clear_value y; dsimp -zeta only [y]]) | (intro y; clear_value y)
    | with_reducible (first
      | assumption | apply quiet_loupeWrite | apply quiet_freezeRings | apply quiet_ite
      | exact quiet_mk (Quiet.dark ‹_›) (Quiet.light ‹_›) (Quiet.queue ‹_›) (Quiet.mem ‹_›) (Quiet.mail ‹_›)
      | refine quiet_each ?_ (fun a t ht => ?_)))

theorem quiet_cmdLoupeRingConfig {s0 s : State} (r : Req) (h : Quiet s0 s) : QuietRan s0 (cmdLoupeRingConfig.run r s) := by
  dsimp -zeta only [cmdLoupeRingConfig]
  repeat' (first
    | lift_lets -underBinder | (intro y; refine (fun (hy : Quiet s0 y) => ?_) ?_ <;> [clear_value y; dsimp -zeta only [y]])
    | (intro y; clear_value y)
    | with_reducible (first
      | assumption | apply quiet_loupeWrite | apply quiet_updRing | refine quietRan_ok ?_ | refine quietRan_guarded ?_))

theorem quiet_cmdLoupeEnable {s0 s : State} (r : Req) (h : Quiet s0 s) : QuietRan s0 (cmdLoupeEnable.run r s) := by
  dsimp -zeta only [cmdLoupeEnable]
  repeat' (first
    | lift_lets -underBinder | (intro (y : Loupe); dsimp -zeta only [y]; clear y) | (intro y; clear_value y)
    | with_reducible (first
      | refine quietRan_ok ?_ | refine quietRan_guarded ?_
      | exact quiet_mk (Quiet.dark ‹_›) (Quiet.light ‹_›) (Quiet.queue ‹_›) (Quiet.mem ‹_›) (Quiet.mail ‹_›)))

theorem quiet_cmdLoupeStatus {s0 s : State} (r : Req) (h : Quiet s0 s) : QuietRan s0 (cmdLoupeStatus.run r s) := by
  dsimp -zeta only [cmdLoupeStatus]
  repeat' (first
    | lift_lets -underBinder | with_reducible (first | assumption | refine quietRan_ok ?_))

theorem quiet_cmdLoupeExport {s0 s : State} (r : Req) (h : Quiet s0 s) : QuietRan s0 (cmdLoupeExport.run r s) := by
  dsimp -zeta only [cmdLoupeExport]
  repeat' (first
    | lift_lets -underBinder | (intro y; clear_value y) | with_reducible (first | assumption | refine quietRan_pair ?_))

theorem quiet_cmdLoupeFreeze {s0 s : State} (r : Req) (h : Quiet s0 s) : QuietRan s0 (cmdLoupeFreeze.run r s) := by
  dsimp -zeta only [cmdLoupeFreeze]
  repeat' (first
    | lift_lets -underBinder | (intro (y : Loupe); dsimp -zeta only [y]; clear y) | (intro y; clear_value y)
    | with_reducible (first
      | assumption | apply quiet_loupeWrite | apply quiet_updRing | refine quietRan_ok ?_
      | exact quiet_mk (Quiet.dark ‹_›) (Quiet.light ‹_›) (Quiet.queue ‹_›) (Quiet.mem ‹_›) (Quiet.mail ‹_›)
      | refine quiet_each ?_ (fun a t ht => ?_))
    | split)

theorem quiet_shown {s0 s : State} (c : SnapCopy) (k : Nat) (h : Quiet s0 s) : Quiet s0 (shown c k s) := by
  delta shown
  with_reducible exact quiet_with ‹_›

theorem quiet_snapStrobe {s0 s : State} (b : Nat) (h : Quiet s0 s) : Quiet s0 (snapStrobe b s) := by
  delta snapStrobe
  repeat' (first
    | lift_lets -underBinder | (intro y; refine (fun (hy : Quiet s0 y) => ?_) ?_ <;> [clear_value y; dsimp -zeta only [y]])
    | (intro y; clear_value y)
    | with_reducible (first
      | assumption | apply quiet_flushReady | apply quiet_updSnap | apply quiet_raiseEvent | apply quiet_claspSend | apply quiet_ite
      | exact quiet_with ‹_› | refine quiet_each ?_ (fun a t ht => ?_)))

theorem quiet_snapTake {s0 s : State} (m : Msg) (h : Quiet s0 s) : Quiet s0 (snapTake m s) := by
  delta snapTake
  repeat' (first
    | lift_lets -underBinder | (intro y; clear_value y)
    | with_reducible (first | assumption | apply quiet_claspSend | apply quiet_updSnap | apply quiet_ite))

theorem quiet_cmdSnapAt {s0 s : State} (r : Req) (h : Quiet s0 s) : QuietRan s0 (cmdSnapAt.run r s) := by
  dsimp -zeta only [cmdSnapAt]
  repeat' (first
    | lift_lets -underBinder | (intro y; refine (fun (hy : Quiet s0 y) => ?_) ?_ <;> [clear_value y; dsimp -zeta only [y]])
    | (intro y; clear_value y)
    | with_reducible (first
      | assumption | apply quiet_updSnap | apply quiet_claspSend | refine quietRan_ok ?_ | refine quietRan_guarded ?_ | apply quiet_ite))

theorem quiet_cmdSnapRead {s0 s : State} (r : Req) (h : Quiet s0 s) : QuietRan s0 (cmdSnapRead.run r s) := by
  dsimp -zeta only [cmdSnapRead]
  repeat' (first
    | lift_lets -underBinder | (intro y; clear_value y)
    | with_reducible (first | assumption | refine quietRan_ok ?_ | refine quietRan_guarded ?_))

theorem quiet_cmdSnapStatus {s0 s : State} (r : Req) (h : Quiet s0 s) : QuietRan s0 (cmdSnapStatus.run r s) := by
  dsimp -zeta only [cmdSnapStatus]
  repeat' (first
    | lift_lets -underBinder | (intro y; clear_value y) | with_reducible (first | assumption | refine quietRan_ok ?_))

theorem quiet_cmdSnapRelease {s0 s : State} (r : Req) (h : Quiet s0 s) : QuietRan s0 (cmdSnapRelease.run r s) := by
  dsimp -zeta only [cmdSnapRelease]
  repeat' (first
    | lift_lets -underBinder | (intro y; refine (fun (hy : Quiet s0 y) => ?_) ?_ <;> [clear_value y; dsimp -zeta only [y]])
    | (intro y; clear_value y)
    | with_reducible (first
      | assumption | apply quiet_updSnap | apply quiet_claspSend | refine quietRan_ok ?_ | apply quiet_ite))

theorem quiet_trackBelow {s0 s : State} (h : Quiet s0 s) : Quiet s0 (trackBelow s) := by
  delta trackBelow
  repeat' (first
    | lift_lets -underBinder | (intro y; clear_value y) | with_reducible (first | apply quiet_ite | exact quiet_with ‹_›))

theorem quiet_raiseTo {s0 s : State} (mv : Nat) (h : Quiet s0 s) : Quiet s0 (raiseTo mv s) := by
  delta raiseTo
  repeat' (first
    | lift_lets -underBinder | with_reducible (first | assumption | apply quiet_startRaise | apply quiet_ite))

theorem quiet_paceSample {s0 s : State} (slack : List Int) (h : Quiet s0 s) : Quiet s0 (paceSample slack s) := by
  delta paceSample
  repeat' (first
    | lift_lets -underBinder | (intro y; refine (fun (hy : Quiet s0 y) => ?_) ?_ <;> [clear_value y; dsimp -zeta only [y]])
    | (intro y; refine (fun (hy : Quiet s0 y.2) => ?_) ?_ <;> [clear_value y; dsimp -zeta only [y]]) | (intro y; clear_value y)
    | with_reducible (first
      | assumption | apply quiet_raiseEvent | apply quiet_raiseTo | apply quiet_draw | apply quiet_trackBelow | apply quiet_ite
      | exact quiet_with ‹_› | refine quiet_each ?_ (fun a t ht => ?_)))

theorem quiet_lowerStep {s0 s : State} (reported : Nat) (meas : Nat) (h : Quiet s0 s) : Quiet s0 (lowerStep reported meas s) := by
  delta lowerStep
  repeat' (first
    | lift_lets -underBinder | (intro y; refine (fun (hy : Quiet s0 y) => ?_) ?_ <;> [clear_value y; dsimp -zeta only [y]])
    | (intro y; refine (fun (hy : Quiet s0 y.2) => ?_) ?_ <;> [clear_value y; dsimp -zeta only [y]]) | (intro y; clear_value y)
    | with_reducible (first
      | assumption | apply quiet_draw | apply quiet_emit | apply quiet_ite | exact quiet_with ‹_›)
    | split)

theorem quiet_railSample {s0 s : State} (k : Nat) (mv : Nat) (h : Quiet s0 s) : Quiet s0 (railSample k mv s) := by
  delta railSample
  repeat' (first
    | lift_lets -underBinder | (intro y; clear_value y)
    | with_reducible (first
      | assumption | apply quiet_endCond | apply quiet_raiseCond | apply quiet_ite | exact quiet_with ‹_›))

theorem quiet_crossCheck {s0 s : State} (g : Nat) (h : Quiet s0 s) : Quiet s0 (crossCheck g s) := by
  delta crossCheck
  repeat' (first
    | lift_lets -underBinder | (intro y; clear_value y) | with_reducible (first | assumption | apply quiet_setCond | apply quiet_ite))

theorem quiet_tempHigh {s0 s : State} (inst : Nat) (t : Option Int) (warn : Nat) (h : Quiet s0 s) : Quiet s0 (tempHigh inst t warn s) := by
  delta tempHigh
  repeat' (first
    | lift_lets -underBinder | with_reducible (first | assumption | apply quiet_raiseCond | apply quiet_endCond | apply quiet_ite) | split)

theorem quiet_tripCheck {s0 s : State} (h : Quiet s0 s) : Quiet s0 (tripCheck s) := by
  delta tripCheck
  repeat' (first
    | lift_lets -underBinder | (intro (y : Pins); dsimp -zeta only [y]; clear y) | (intro y; clear_value y)
    | with_reducible (first
      | assumption | apply quiet_raiseCond | apply quiet_endCond | apply quiet_ite
      | exact quiet_mk (Quiet.dark ‹_›) (Quiet.light ‹_›) (Quiet.queue ‹_›) (Quiet.mem ‹_›) (Quiet.mail ‹_›))
    | split)

theorem quiet_thresholds {s0 s : State} (h : Quiet s0 s) : Quiet s0 (thresholds s) := by
  delta thresholds
  repeat' (first
    | lift_lets -underBinder | with_reducible (first | assumption | apply quiet_tripCheck | apply quiet_tempHigh))

theorem quiet_sensorCheck {s0 s : State} (i : Nat) (v : Int) (h : Quiet s0 s) : Quiet s0 (sensorCheck i v s) := by
  delta sensorCheck
  repeat' (first
    | lift_lets -underBinder | (intro y; refine (fun (hy : Quiet s0 y) => ?_) ?_ <;> [clear_value y; dsimp -zeta only [y]])
    | (intro y; clear_value y) | with_reducible (first | assumption | apply quiet_updSensor | apply quiet_raiseEvent | apply quiet_ite)
    | split)

theorem quiet_compTick {s0 s : State} (k : Nat) (h : Quiet s0 s) : Quiet s0 (compTick k s) := by
  delta compTick
  repeat' (first
    | lift_lets -underBinder | (intro y; refine (fun (hy : Quiet s0 y) => ?_) ?_ <;> [clear_value y; dsimp -zeta only [y]])
    | (intro y; refine (fun (hy : Quiet s0 y.2) => ?_) ?_ <;> [clear_value y; dsimp -zeta only [y]]) | (intro y; clear_value y)
    | with_reducible (first
      | assumption | apply quiet_draw | apply quiet_raiseEvent | apply quiet_ite | exact quiet_with ‹_›)
    | split)

theorem quiet_driveVref {s0 s : State} (h : Quiet s0 s) : Quiet s0 (driveVref s) := by
  delta driveVref
  repeat' (first
    | lift_lets -underBinder | with_reducible (first | assumption | apply quiet_emit | refine quiet_each ?_ (fun a t ht => ?_)) | split)

theorem quiet_heaterCodes {s0 s : State} (p : Nat) (code : Nat) (h : Quiet s0 s) : Quiet s0 (heaterCodes p code s) := by
  delta heaterCodes
  repeat' (first
    | lift_lets -underBinder | with_reducible (first | assumption | apply quiet_updDrive | refine quiet_each ?_ (fun a t ht => ?_)))

theorem quiet_warmCheck {s0 s : State} (h : Quiet s0 s) : Quiet s0 (warmCheck s) := by
  delta warmCheck
  repeat' (first
    | lift_lets -underBinder | (intro y; refine (fun (hy : Quiet s0 y) => ?_) ?_ <;> [clear_value y; dsimp -zeta only [y]])
    | (intro y; clear_value y)
    | with_reducible (first
      | assumption | apply quiet_enterState | apply quiet_releaseDark | apply quiet_ite | exact quiet_with ‹_›))

theorem quiet_regulate {s0 s : State} (p : Nat) (sumN : Nat) (sum : Int) (h : Quiet s0 s) : Quiet s0 (regulate p sumN sum s) := by
  delta regulate
  repeat' (first
    | lift_lets -underBinder | (intro y; clear_value y)
    | with_reducible (first | assumption | apply quiet_updPtemp | apply quiet_heaterCodes))

theorem quiet_planeTempTick {s0 s : State} (p : Nat) (h : Quiet s0 s) : Quiet s0 (planeTempTick p s) := by
  delta planeTempTick
  repeat' (first
    | lift_lets -underBinder | (intro y; refine (fun (hy : Quiet s0 y) => ?_) ?_ <;> [clear_value y; dsimp -zeta only [y]])
    | (intro y; clear_value y)
    | with_reducible (first
      | assumption | apply quiet_updPtemp | apply quiet_raiseEvent | apply quiet_regulate | apply quiet_ite))

theorem quiet_cmdPowerStatus {s0 s : State} (r : Req) (h : Quiet s0 s) : QuietRan s0 (cmdPowerStatus.run r s) := by
  dsimp -zeta only [cmdPowerStatus]
  repeat' (first
    | lift_lets -underBinder | (intro y; clear_value y) | with_reducible (first | assumption | refine quietRan_ok ?_))

theorem quiet_cmdPowerAvsConfig {s0 s : State} (r : Req) (h : Quiet s0 s) : QuietRan s0 (cmdPowerAvsConfig.run r s) := by
  dsimp -zeta only [cmdPowerAvsConfig]
  repeat' (first
    | lift_lets -underBinder | (intro y; refine (fun (hy : Quiet s0 y) => ?_) ?_ <;> [clear_value y; dsimp -zeta only [y]])
    | (intro y; clear_value y)
    | with_reducible (first
      | assumption | apply quiet_setCfg | apply quiet_raiseTo | refine quietRan_ok ?_ | refine quietRan_guarded ?_ | exact quiet_with ‹_›)
    | split)

theorem quiet_cmdPowerMode {s0 s : State} (r : Req) (h : Quiet s0 s) : QuietRan s0 (cmdPowerMode.run r s) := by
  dsimp -zeta only [cmdPowerMode]
  repeat' (first
    | lift_lets -underBinder | (intro y; refine (fun (hy : Quiet s0 y) => ?_) ?_ <;> [clear_value y; dsimp -zeta only [y]])
    | (intro y; clear_value y)
    | with_reducible (first
      | assumption | apply quiet_raiseTo | refine quietRan_ok ?_ | refine quietRan_guarded ?_ | exact quiet_with ‹_›)
    | split)

theorem quiet_cmdPowerTemps {s0 s : State} (r : Req) (h : Quiet s0 s) : QuietRan s0 (cmdPowerTemps.run r s) := by
  dsimp -zeta only [cmdPowerTemps]
  repeat' (first
    | lift_lets -underBinder | (intro y; refine (fun (hy : Quiet s0 y) => ?_) ?_ <;> [clear_value y; dsimp -zeta only [y]])
    | (intro y; clear_value y)
    | with_reducible (first
      | assumption | apply quiet_setCfg | refine quietRan_ok ?_ | apply quiet_ite | exact quiet_with ‹_›))

theorem quiet_startReg {s0 s : State} (p : Nat) (h : Quiet s0 s) : Quiet s0 (startReg p s) := by
  delta startReg
  repeat' (first
    | lift_lets -underBinder | with_reducible (first | assumption | apply quiet_updPtemp))

theorem quiet_cmdPowerPlaneTemp {s0 s : State} (r : Req) (h : Quiet s0 s) : QuietRan s0 (cmdPowerPlaneTemp.run r s) := by
  dsimp -zeta only [cmdPowerPlaneTemp]
  repeat' (first
    | lift_lets -underBinder | (intro y; refine (fun (hy : Quiet s0 y) => ?_) ?_ <;> [clear_value y; dsimp -zeta only [y]])
    | (intro y; clear_value y)
    | with_reducible (first
      | assumption | apply quiet_updPtemp | apply quiet_startReg | refine quietRan_ok ?_ | refine quietRan_guarded ?_ | apply quiet_ite))

theorem quiet_cmdPlaneMapRead {s0 s : State} (r : Req) (h : Quiet s0 s) : QuietRan s0 (cmdPlaneMapRead.run r s) := by
  dsimp -zeta only [cmdPlaneMapRead]
  repeat' (first
    | lift_lets -underBinder | (intro y; clear_value y)
    | with_reducible (first | assumption | refine quietRan_ok ?_ | exact quietRan_error) | split)

theorem quiet_cmdPlaneMapLoad {s0 s : State} (r : Req) (h : Quiet s0 s) : QuietRan s0 (cmdPlaneMapLoad.run r s) := by
  dsimp -zeta only [cmdPlaneMapLoad]
  repeat' (first
    | lift_lets -underBinder | (intro y; clear_value y)
    | with_reducible (first
      | assumption | apply quiet_startJob | refine quietRan_ok ?_ | refine quietRan_guarded ?_))

theorem quiet_setFwBank {s0 s : State} (bankB : Bool) (d : Bytes) (h : Quiet s0 s) : Quiet s0 (setFwBank bankB d s) := by
  delta setFwBank
  repeat' (first
    | lift_lets -underBinder | (intro y; clear_value y) | with_reducible exact quiet_with ‹_›)

theorem quiet_bootBank {s0 s : State} (bankB : Bool) (fallback : Bool) (h : Quiet s0 s) : Quiet s0 (bootBank bankB fallback s) := by
  delta bootBank
  repeat' (first
    | lift_lets -underBinder | (intro y; clear_value y) | with_reducible exact quiet_with ‹_›)

theorem quiet_enterRecovery {s0 s : State} (h : Quiet s0 s) : Quiet s0 (enterRecovery s) := by
  delta enterRecovery
  repeat' (first
    | lift_lets -underBinder | (intro y; clear_value y) | with_reducible apply quiet_updMbox | (intro b hb; with_reducible exact hb)
    | with_reducible exact quiet_with ‹_›)

theorem quiet_writeDone {s0 s : State} (ok' : Bool) (j : NvmJob) (h : Quiet s0 s) : Quiet s0 (writeDone ok' j s) := by
  delta writeDone
  repeat' (first
    | lift_lets -underBinder | (intro y; refine (fun (hy : Quiet s0 y) => ?_) ?_ <;> [clear_value y; dsimp -zeta only [y]])
    | (intro y; clear_value y)
    | with_reducible (first
      | assumption | apply quiet_raiseEvent | apply quiet_raiseFault | apply quiet_setFwBank | apply quiet_ite | exact quiet_with ‹_›)
    | split)

theorem quiet_cutWrite {s0 s : State} (j : NvmJob) (h : Quiet s0 s) : Quiet s0 (cutWrite j s) := by
  delta cutWrite
  repeat' (first
    | lift_lets -underBinder | (intro y; clear_value y)
    | with_reducible (first | assumption | apply quiet_setFwBank | exact quiet_with ‹_›) | split)

theorem quiet_cutWrites {s0 s : State} (h : Quiet s0 s) : Quiet s0 (cutWrites s) := by
  delta cutWrites
  repeat' (first
    | lift_lets -underBinder | (intro y; refine (fun (hy : Quiet s0 y) => ?_) ?_ <;> [clear_value y; dsimp -zeta only [y]])
    | (intro y; clear_value y)
    | with_reducible (first
      | assumption | apply quiet_cutWrite | exact quiet_with ‹_› | refine quiet_each ?_ (fun a t ht => ?_)))

theorem quiet_testPin {s0 s : State} (h : Quiet s0 s) : Quiet s0 (testPin s) := by
  delta testPin
  repeat' (first
    | lift_lets -underBinder | with_reducible (first | assumption | apply quiet_setCond))

theorem quiet_cmdSecAttest {s0 s : State} (r : Req) (h : Quiet s0 s) : QuietRan s0 (cmdSecAttest.run r s) := by
  dsimp -zeta only [cmdSecAttest]
  repeat' (first
    | lift_lets -underBinder | (intro y; clear_value y) | with_reducible (first | refine quietRan_ok ?_ | exact quiet_with ‹_›))

theorem quiet_cmdSecCertRead {s0 s : State} (r : Req) (h : Quiet s0 s) : QuietRan s0 (cmdSecCertRead.run r s) := by
  dsimp -zeta only [cmdSecCertRead]
  repeat' (first
    | lift_lets -underBinder | with_reducible (first | assumption | refine quietRan_ok ?_))

theorem quiet_cmdSecFwUpdate {s0 s : State} (r : Req) (h : Quiet s0 s) : QuietRan s0 (cmdSecFwUpdate.run r s) := by
  dsimp -zeta only [cmdSecFwUpdate]
  repeat' (first
    | lift_lets -underBinder
    | with_reducible (first
      | assumption | apply quiet_startJob | refine quietRan_ok ?_ | refine quietRan_guarded ?_))

theorem quiet_cmdSecFwSelect {s0 s : State} (r : Req) (h : Quiet s0 s) : QuietRan s0 (cmdSecFwSelect.run r s) := by
  dsimp -zeta only [cmdSecFwSelect]
  repeat' (first
    | lift_lets -underBinder | (intro y; refine (fun (hy : Quiet s0 y) => ?_) ?_ <;> [clear_value y; dsimp -zeta only [y]])
    | (intro y; clear_value y)
    | with_reducible (first
      | assumption | apply quiet_setCfg | refine quietRan_ok ?_ | refine quietRan_guarded ?_ | apply quiet_ite | exact quiet_with ‹_›))

theorem quiet_newChallenge {s0 s : State} (h : Quiet s0 s) : QuietRan s0 (newChallenge s) := by
  delta newChallenge
  repeat' (first
    | lift_lets -underBinder | (intro y; refine (fun (hy : Quiet s0 y) => ?_) ?_ <;> [clear_value y; dsimp -zeta only [y]])
    | (intro y; refine (fun (hy : Quiet s0 y.2) => ?_) ?_ <;> [clear_value y; dsimp -zeta only [y]]) | (intro y; clear_value y)
    | with_reducible (first | assumption | apply quiet_draw | refine quietRan_ok ?_ | exact quiet_with ‹_›))

theorem quiet_authFailed {s0 s : State} (op : Nat) (r : Req) (h : Quiet s0 s) : QuietRan s0 (authFailed op r s) := by
  delta authFailed
  repeat' (first
    | lift_lets -underBinder | (intro y; clear_value y)
    | with_reducible (first
      | apply quiet_refuseReq | apply quiet_raiseFault | refine quietRan_later ?_ | exact quiet_with ‹_›))

theorem quiet_setLifecycle {s0 s : State} (lc : Nat) (h : Quiet s0 s) : Quiet s0 (setLifecycle lc s) := by
  delta setLifecycle
  repeat' (first
    | lift_lets -underBinder | (intro y; clear_value y)
    | with_reducible (first | apply quiet_raiseEvent | apply quiet_testPin | exact quiet_with ‹_›))

theorem quiet_cmdSecOwnerSet {s0 s : State} (r : Req) (h : Quiet s0 s) : QuietRan s0 (cmdSecOwnerSet.run r s) := by
  dsimp -zeta only [cmdSecOwnerSet]
  repeat' (first
    | lift_lets -underBinder
    | (intro y; refine (fun (hf : ∀ t, Quiet s0 t → QuietRan s0 (y t)) => ?_) ?_ <;> [clear_value y; (intro t ht; dsimp -zeta only [y])])
    | (intro y; clear_value y)
    | with_reducible (first
      | assumption | apply hf | apply quiet_newChallenge | apply quiet_setLifecycle | apply quiet_authFailed | refine quietRan_ok ?_
      | refine quietRan_guarded ?_ | exact quiet_with ‹_›)
    | split)

theorem quiet_cmdSecLifecycle {s0 s : State} (r : Req) (h : Quiet s0 s) : QuietRan s0 (cmdSecLifecycle.run r s) := by
  dsimp -zeta only [cmdSecLifecycle]
  repeat' (first
    | lift_lets -underBinder | (intro y; refine (fun (hy : Quiet s0 y) => ?_) ?_ <;> [clear_value y; dsimp -zeta only [y]])
    | (intro y; clear_value y)
    | with_reducible (first
      | assumption | apply quiet_newChallenge | apply quiet_setLifecycle | apply quiet_authFailed | refine quietRan_ok ?_
      | refine quietRan_guarded ?_ | exact quiet_with ‹_›)
    | split)

theorem quiet_cmdSecFactoryToken {s0 s : State} (r : Req) (h : Quiet s0 s) : QuietRan s0 (cmdSecFactoryToken.run r s) := by
  dsimp -zeta only [cmdSecFactoryToken]
  repeat' (first
    | lift_lets -underBinder | (intro y; clear_value y)
    | with_reducible (first
      | assumption | apply quiet_newChallenge | apply quiet_authFailed | refine quietRan_ok ?_ | refine quietRan_guarded ?_
      | exact quiet_with ‹_›)
    | split)

theorem quiet_takeCfg {s0 s : State} (c : Cfg) (h : Quiet s0 s) : Quiet s0 (takeCfg c s) := by
  delta takeCfg
  repeat' (first
    | lift_lets -underBinder | (intro y; clear_value y) | with_reducible exact quiet_with ‹_›)

theorem quiet_fallback {s0 s : State} (b : Bool) (image : Nat) (h : Quiet s0 s) : Quiet s0 (fallback b image s) := by
  delta fallback
  repeat' (first
    | lift_lets -underBinder | with_reducible (first | assumption | apply quiet_raiseFault | apply quiet_ite))

theorem quiet_loadImages {s0 s : State} (h : Quiet s0 s) : Quiet s0 (loadImages s) := by
  delta loadImages
  repeat' (first
    | lift_lets -underBinder | (intro y; refine (fun (hy : Quiet s0 y) => ?_) ?_ <;> [clear_value y; dsimp -zeta only [y]])
    | (intro y; clear_value y)
    | with_reducible (first
      | assumption | apply quiet_fallback | apply quiet_takeCfg | apply quiet_setCond | apply quiet_updPlane | apply quiet_ite
      | exact quiet_with ‹_› | refine quiet_each ?_ (fun a t ht => ?_)))

theorem quiet_loadCal {s0 s : State} (h : Quiet s0 s) : Quiet s0 (loadCal s) := by
  delta loadCal
  repeat' (first
    | lift_lets -underBinder | (intro y; refine (fun (hy : Quiet s0 y) => ?_) ?_ <;> [clear_value y; dsimp -zeta only [y]])
    | (intro y; clear_value y)
    | with_reducible (first
      | assumption | apply quiet_calTake | apply quiet_fallback | apply quiet_raiseCond | apply quiet_ite | exact quiet_with ‹_›)
    | split)

theorem quiet_loadRanges {s0 s : State} (h : Quiet s0 s) : Quiet s0 (loadRanges s) := by
  delta loadRanges
  repeat' (first
    | lift_lets -underBinder | (intro y; clear_value y)
    | with_reducible (first
      | assumption | apply quiet_setRangeBit | apply quiet_updDrive | refine quiet_each ?_ (fun a t ht => ?_)))

theorem quiet_mapPaths {s0 s : State} (h : Quiet s0 s) : Quiet s0 (mapPaths s) := by
  delta mapPaths
  with_reducible exact quiet_with ‹_›

theorem quiet_loadMasks {s0 s : State} (h : Quiet s0 s) : Quiet s0 (loadMasks s) := by
  delta loadMasks
  repeat' (first
    | lift_lets -underBinder | with_reducible (first | assumption | apply quiet_setImage | refine quiet_each ?_ (fun a t ht => ?_)))

theorem quiet_takeRole {s0 s : State} (h : Quiet s0 s) : Quiet s0 (takeRole s) := by
  delta takeRole
  repeat' (first
    | lift_lets -underBinder | (intro y; refine (fun (hy : Quiet s0 y) => ?_) ?_ <;> [clear_value y; dsimp -zeta only [y]])
    | (intro y; refine (fun (hy : Quiet s0 y.2) => ?_) ?_ <;> [clear_value y; dsimp -zeta only [y]]) | (intro y; clear_value y)
    | with_reducible (first
      | assumption | apply quiet_draw | apply quiet_setCond | apply quiet_claspLinkDown | apply quiet_ite | exact quiet_with ‹_›
      | refine quiet_each ?_ (fun a t ht => ?_)))

theorem quiet_startAvs {s0 s : State} (h : Quiet s0 s) : Quiet s0 (startAvs s) := by
  delta startAvs
  repeat' (first
    | lift_lets -underBinder | (intro y; refine (fun (hy : Quiet s0 y) => ?_) ?_ <;> [clear_value y; dsimp -zeta only [y]])
    | (intro y; clear_value y) | with_reducible (first | assumption | apply quiet_raiseTo | apply quiet_ite | exact quiet_with ‹_›))

theorem quiet_startLink {s0 s : State} (l : Nat) (h : Quiet s0 s) : Quiet s0 (startLink l s) := by
  delta startLink
  repeat' (first
    | lift_lets -underBinder | (intro y; refine (fun (hy : Quiet s0 y) => ?_) ?_ <;> [clear_value y; dsimp -zeta only [y]])
    | with_reducible (first
      | assumption | apply quiet_dropCmds | apply quiet_bzDrive | apply quiet_lightOff | apply quiet_updLink | apply quiet_refSet
      | apply quiet_queueBezel | apply quiet_startTraining | apply quiet_ite))

theorem quiet_bootBist {s0 s : State} (bist : List Nat) (h : Quiet s0 s) : Quiet s0 (bootBist bist s) := by
  delta bootBist
  repeat' (first
    | lift_lets -underBinder | (intro y; clear_value y) | with_reducible exact quiet_with ‹_›)

theorem quiet_bootComplete {s0 s : State} (bist : List Nat) (h : Quiet s0 s) : Quiet s0 (bootComplete bist s) := by
  delta bootComplete
  repeat' (first
    | lift_lets -underBinder | (intro y; refine (fun (hy : Quiet s0 y) => ?_) ?_ <;> [clear_value y; dsimp -zeta only [y]])
    | (intro y; clear_value y)
    | with_reducible (first
      | assumption | apply quiet_bootBist | apply quiet_takeRole | apply quiet_loadImages | apply quiet_loadMasks | apply quiet_loadRanges
      | apply quiet_mapPaths | apply quiet_loadCal | apply quiet_updMbox | apply quiet_startAvs | apply quiet_testPin
      | apply quiet_raiseFault | apply quiet_notify | apply quiet_startDiscovery | apply quiet_startLink)
    | (intro b hb; with_reducible exact hb)
    | with_reducible (first | apply quiet_ite | exact quiet_with ‹_› | refine quiet_each ?_ (fun a t ht => ?_)))

theorem quiet_parkingCheck {s0 s : State} (h : Quiet s0 s) : Quiet s0 (parkingCheck s) := by
  delta parkingCheck
  repeat' (first
    | lift_lets -underBinder | (intro y; refine (fun (hy : Quiet s0 y) => ?_) ?_ <;> [clear_value y; dsimp -zeta only [y]])
    | (intro y; clear_value y)
    | with_reducible (first
      | assumption | apply quiet_notify | apply quiet_warmCheck | apply quiet_updPlane | apply quiet_ite | exact quiet_with ‹_›
      | refine quiet_each ?_ (fun a t ht => ?_)))

theorem quiet_parkReg {s0 s : State} (p : Nat) (h : Quiet s0 s) : Quiet s0 (parkReg p s) := by
  delta parkReg
  repeat' (first
    | lift_lets -underBinder | with_reducible (first | assumption | apply quiet_startReg | apply quiet_updPtemp | apply quiet_ite))

theorem quiet_linkingComplete {s0 s : State} (h : Quiet s0 s) : Quiet s0 (linkingComplete s) := by
  delta linkingComplete
  repeat' (first
    | lift_lets -underBinder | (intro y; refine (fun (hy : Quiet s0 y) => ?_) ?_ <;> [clear_value y; dsimp -zeta only [y]])
    | (intro y; clear_value y)
    | with_reducible (first
      | assumption | apply quiet_notify | apply quiet_startRamp | apply quiet_parkReg | apply quiet_parkingCheck | apply quiet_ite
      | exact quiet_with ‹_› | refine quiet_each ?_ (fun a t ht => ?_)))

theorem quiet_rampComplete {s0 s : State} (p : Nat) (h : Quiet s0 s) : Quiet s0 (rampComplete p s) := by
  delta rampComplete
  repeat' (first
    | lift_lets -underBinder | (intro y; refine (fun (hy : Quiet s0 y) => ?_) ?_ <;> [clear_value y; dsimp -zeta only [y]])
    | with_reducible (first
      | assumption | apply quiet_updPlane | apply quiet_parkingCheck | apply quiet_raiseEvent | apply quiet_ite)
    | split)

theorem mail_tmap {f : Nat → Mbox → Mbox} {t : Tab Mbox} (hf : ∀ m b, Memory.wf b.req = true → Memory.wf (f m b).req = true)
    (h : t.all (fun e => Memory.wf e.2.req) = true) : (tmap {} f t).all (fun e => Memory.wf e.2.req) = true := by
  simp only [tmap, List.all_eq_true, List.mem_filter, List.mem_map] at *
  rintro e ⟨⟨x, hx, rfl⟩, -⟩
  exact hf _ _ (h x hx)

theorem mail_warm {t : Tab Mbox} (h : t.all (fun e => Memory.wf e.2.req) = true) :
    (tmap {} (fun _ b => warmMbox b) t).all (fun e => Memory.wf e.2.req) = true :=
  mail_tmap (fun _ _ hb => hb) h

theorem mail_perst {l : List Nat} {t : Tab Mbox} (h : t.all (fun e => Memory.wf e.2.req) = true) :
    (tmap {} (fun m b => perstMbox (l.contains m) b) t).all (fun e => Memory.wf e.2.req) = true :=
  mail_tmap (fun _ _ _ => rfl) h

theorem light_zero {x : BitVec 8} : (0 : BitVec 8) &&& x = 0 := by simp

theorem quiet_warmReset {s0 s : State} (h : Quiet s0 s) : Quiet s0 (warmReset s) := by
  delta warmReset
  repeat' (first
    | lift_lets -underBinder | (intro (y : Loupe); dsimp -zeta only [y]; clear y)
    | (intro y; refine (fun (hy : Quiet s0 y) => ?_) ?_ <;> [clear_value y; dsimp -zeta only [y]]) | (intro y; clear_value y)
    | with_reducible (first
      | assumption
      | exact quiet_mk (Quiet.dark ‹_›) (Quiet.light ‹_›) (Quiet.queue ‹_›) (Quiet.mem ‹_›) (fun k => mail_warm (Quiet.mail ‹_› k))
      | apply quiet_hwDarkAll | apply quiet_endLease | apply quiet_cutWrites | apply quiet_dropRunTrims | apply quiet_unstage
      | exact quiet_with ‹_› | refine quiet_each ?_ (fun a t ht => ?_)))

theorem quiet_fwWdogExpiry {s0 s : State} (h : Quiet s0 s) : Quiet s0 (fwWdogExpiry s) := by
  delta fwWdogExpiry
  repeat' (first
    | lift_lets -underBinder | (intro y; refine (fun (hy : Quiet s0 y) => ?_) ?_ <;> [clear_value y; dsimp -zeta only [y]])
    | with_reducible (first | assumption | apply quiet_raiseFault | apply quiet_warmReset | apply quiet_ite))

theorem quiet_functionReset {s0 s : State} (h : Quiet s0 s) : Quiet s0 (functionReset s) := by
  delta functionReset
  repeat' (first
    | lift_lets -underBinder | (intro y; refine (fun (hy : Quiet s0 y) => ?_) ?_ <;> [clear_value y; dsimp -zeta only [y]])
    | with_reducible (first
      | assumption
      | exact quiet_mk (Quiet.dark ‹_›) (Quiet.light ‹_›) (Quiet.queue ‹_›) (Quiet.mem ‹_›) (fun k => mail_perst (Quiet.mail ‹_› k))
      | apply quiet_leaseOver | refine quiet_each ?_ (fun a t ht => ?_)))

theorem quiet_shutRamp {s0 s : State} (p : Nat) (h : Quiet s0 s) : Quiet s0 (shutRamp p s) := by
  delta shutRamp
  repeat' (first
    | lift_lets -underBinder | (intro y; refine (fun (hy : Quiet s0 y) => ?_) ?_ <;> [clear_value y; dsimp -zeta only [y]])
    | with_reducible (first | assumption | apply quiet_startRamp | apply quiet_updPlane))

theorem quiet_shutdown {s0 s : State} (h : Quiet s0 s) : Quiet s0 (shutdown s) := by
  have h1 : Quiet s0 ({ s with sys := { s.sys with shutdown := true }, pins := { s.pins with light := 0 } } : State) :=
    quiet_mk h.dark light_zero h.queue h.mem h.mail
  unfold shutdown
  exact quiet_enterState 10 (quiet_each (quiet_each h1
    (fun a t ht => quiet_updPtemp a _ (quiet_enterIdle a (quiet_calAbort a 0 ht)))) (fun a t ht => quiet_shutRamp a ht))

theorem quiet_shutdownDone {s0 s : State} (h : Quiet s0 s) : Quiet s0 (shutdownDone s) := by
  delta shutdownDone
  repeat' (first
    | lift_lets -underBinder | (intro y; refine (fun (hy : Quiet s0 y) => ?_) ?_ <;> [clear_value y; dsimp -zeta only [y]])
    | (intro y; clear_value y)
    | with_reducible (first
      | assumption | apply quiet_refSet | apply quiet_dropCmds | apply quiet_bzDrive | apply quiet_updLink | apply quiet_updPlane
      | apply quiet_raiseEvent | apply quiet_ite | exact quiet_with ‹_› | refine quiet_each ?_ (fun a t ht => ?_)))

theorem quiet_cmdSysInfo {s0 s : State} (r : Req) (h : Quiet s0 s) : QuietRan s0 (cmdSysInfo.run r s) := by
  dsimp -zeta only [cmdSysInfo]
  repeat' (first
    | lift_lets -underBinder | with_reducible (first | assumption | refine quietRan_ok ?_))

theorem quiet_cmdSysReset {s0 s : State} (r : Req) (h : Quiet s0 s) : QuietRan s0 (cmdSysReset.run r s) := by
  dsimp -zeta only [cmdSysReset]
  repeat' (first
    | lift_lets -underBinder
    | with_reducible (first
      | assumption | apply quiet_warmReset | apply quiet_answerOk | refine quietRan_guarded ?_ | refine quietRan_later ?_))

theorem quiet_cmdSysShutdown {s0 s : State} (r : Req) (h : Quiet s0 s) : QuietRan s0 (cmdSysShutdown.run r s) := by
  dsimp -zeta only [cmdSysShutdown]
  repeat' (first
    | lift_lets -underBinder
    | with_reducible (first
      | assumption | apply quiet_shutdown | refine quietRan_ok ?_ | refine quietRan_guarded ?_))

theorem quiet_cmdSysEventLog {s0 s : State} (r : Req) (h : Quiet s0 s) : QuietRan s0 (cmdSysEventLog.run r s) := by
  dsimp -zeta only [cmdSysEventLog]
  repeat' (first
    | lift_lets -underBinder | (intro y; clear_value y)
    | with_reducible (first | refine quietRan_ok ?_ | refine quietRan_guarded ?_ | exact quiet_with ‹_›))

theorem quiet_cmdSysEcho {s0 s : State} (r : Req) (h : Quiet s0 s) : QuietRan s0 (cmdSysEcho.run r s) := by
  dsimp -zeta only [cmdSysEcho]
  repeat' (first
    | lift_lets -underBinder | with_reducible (first | assumption | refine quietRan_ok ?_))

theorem quiet_cmdCapWalk {s0 s : State} (r : Req) (h : Quiet s0 s) : QuietRan s0 (cmdCapWalk.run r s) := by
  dsimp -zeta only [cmdCapWalk]
  repeat' (first
    | lift_lets -underBinder | (intro y; clear_value y) | with_reducible (first | assumption | refine quietRan_ok ?_))

theorem quiet_cmds01 : ∀ c ∈ cmds01, QuietCmd c := by
  simp only [cmds01, List.forall_mem_cons]
  exact ⟨fun _ _ r h => quiet_cmdSysInfo r h, fun _ _ r h => quiet_cmdSysReset r h, fun _ _ r h => quiet_cmdSysShutdown r h, fun _ _ r h
    => quiet_cmdSysEventLog r h, fun _ _ r h => quiet_cmdSysEcho r h, by simp⟩

theorem quiet_cmds02 : ∀ c ∈ cmds02, QuietCmd c := by
  simp only [cmds02, List.forall_mem_cons]
  exact ⟨fun _ _ r h => quiet_cmdCapWalk r h, by simp⟩

theorem quiet_cmds03 : ∀ c ∈ cmds03, QuietCmd c := by
  simp only [cmds03, List.forall_mem_cons]
  exact ⟨fun _ _ r h => quiet_cmdPlaneMapRead r h, fun _ _ r h => quiet_cmdPlaneMapLoad r h, by simp⟩

theorem quiet_cmds04 : ∀ c ∈ cmds04, QuietCmd c := by
  simp only [cmds04, List.forall_mem_cons]
  exact ⟨fun _ _ r h => quiet_cmdLinkStatus r h, fun _ _ r h => quiet_cmdLinkRetrain r h, fun _ _ r h => quiet_cmdLinkBezelCmd r h, by simp⟩

theorem quiet_cmds05 : ∀ c ∈ cmds05, QuietCmd c := by
  simp only [cmds05, List.forall_mem_cons]
  exact ⟨fun _ _ r h => quiet_cmdDriveSetTarget r h, fun _ _ r h => quiet_cmdDriveReadState r h, fun _ _ r h => quiet_cmdDriveSetSlew r
    h, fun _ _ r h => quiet_cmdDriveSetTick r h, fun _ _ r h => quiet_cmdDriveSetRange r h, fun _ _ r h => quiet_cmdDriveParkLoad r h,
    fun _ _ r h => quiet_cmdDriveParkRead r h, fun _ _ r h => quiet_cmdDriveRamp r h, fun _ _ r h => quiet_cmdDriveReadback r h, fun _ _
    r h => quiet_cmdDriveSetReadback r h, fun _ _ r h => quiet_cmdDriveSetLinkLead r h, fun _ _ r h => quiet_cmdDriveCounters r h, by simp⟩

theorem quiet_cmds06 : ∀ c ∈ cmds06, QuietCmd c := by
  simp only [cmds06, List.forall_mem_cons]
  exact ⟨fun _ _ r h => quiet_cmdSenseRefEnable r h, fun _ _ r h => quiet_cmdSenseSetChannel r h, fun _ _ r h => quiet_cmdSenseAccConfig
    r h, fun _ _ r h => quiet_cmdSenseAccRead r h, fun _ _ r h => quiet_cmdSenseMinmaxRead r h, fun _ _ r h => quiet_cmdSenseStatus r h,
    by simp⟩

theorem quiet_cmds07 : ∀ c ∈ cmds07, QuietCmd c := by
  simp only [cmds07, List.forall_mem_cons]
  exact ⟨fun _ _ r h => quiet_cmdLoopSetRegime r h, fun _ _ r h => quiet_cmdLoopSetGains r h, fun _ _ r h => quiet_cmdLoopSwapBank r h,
    fun _ _ r h => quiet_cmdLoopSetSetpoint r h, fun _ _ r h => quiet_cmdLoopSetLimits r h, fun _ _ r h => quiet_cmdLoopReadState r h,
    fun _ _ r h => quiet_cmdLoopTableLoad r h, fun _ _ r h => quiet_cmdLoopTableRead r h, fun _ _ r h => quiet_cmdLoopInject r h, fun _ _
    r h => quiet_cmdLoopCapture r h, fun _ _ r h => quiet_cmdLoopCaptureRead r h, fun _ _ r h => quiet_cmdLoopCounters r h, by simp⟩

theorem quiet_cmds08 : ∀ c ∈ cmds08, QuietCmd c := by
  simp only [cmds08, List.forall_mem_cons]
  exact ⟨fun _ _ r h => quiet_cmdFacetDefine r h, fun _ _ r h => quiet_cmdFacetLookup r h, fun _ _ r h => quiet_cmdFacetRead r h, fun _ _
    r h => quiet_cmdFacetWrite r h, fun _ _ r h => quiet_cmdFacetLaunch r h, fun _ _ r h => quiet_cmdFacetCancel r h, fun _ _ r h =>
    quiet_cmdFacetReport r h, fun _ _ r h => quiet_cmdFacetConfig r h, fun _ _ r h => quiet_cmdFacetPin r h, fun _ _ r h =>
    quiet_cmdFacetRoute r h, fun _ _ r h => quiet_cmdFacetStatus r h, by simp⟩

theorem quiet_cmds09 : ∀ c ∈ cmds09, QuietCmd c := by
  simp only [cmds09, List.forall_mem_cons]
  exact ⟨fun _ _ r h => quiet_cmdChainLoad r h, fun _ _ r h => quiet_cmdChainStart r h, fun _ _ r h => quiet_cmdChainStop r h, fun _ _ r
    h => quiet_cmdChainUnload r h, fun _ _ r h => quiet_cmdChainRead r h, fun _ _ r h => quiet_cmdChainStatus r h, fun _ _ r h =>
    quiet_cmdChainConfig r h, by simp⟩

theorem quiet_cmds0A : ∀ c ∈ cmds0A, QuietCmd c := by
  simp only [cmds0A, List.forall_mem_cons]
  exact ⟨fun _ _ r h => quiet_cmdSchedSetRegime r h, fun _ _ r h => quiet_cmdSchedConfig r h, fun _ _ r h => quiet_cmdSchedClassConfig r
    h, fun _ _ r h => quiet_cmdSchedQueueConfig r h, fun _ _ r h => quiet_cmdSchedPin r h, fun _ _ r h => quiet_cmdSchedRestore r h, fun
    _ _ r h => quiet_cmdSchedPlanePorts r h, fun _ _ r h => quiet_cmdSchedDemandRead r h, fun _ _ r h => quiet_cmdSchedSampler r h, fun _
    _ r h => quiet_cmdSchedStatus r h, by simp⟩

theorem quiet_cmds0B : ∀ c ∈ cmds0B, QuietCmd c := by
  simp only [cmds0B, List.forall_mem_cons]
  exact ⟨fun _ _ r h => quiet_cmdEndpointConfig r h, fun _ _ r h => quiet_cmdEndpointAdmit r h, fun _ _ r h => quiet_cmdEndpointRead r h,
    fun _ _ r h => quiet_cmdEndpointEvict r h, fun _ _ r h => quiet_cmdEndpointCounters r h, by simp⟩

theorem quiet_cmds0C : ∀ c ∈ cmds0C, QuietCmd c := by
  simp only [cmds0C, List.forall_mem_cons]
  exact ⟨fun _ _ r h => quiet_cmdTimeConfig r h, fun _ _ r h => quiet_cmdTimeRead r h, fun _ _ r h => quiet_cmdTimeAdjust r h, fun _ _ r
    h => quiet_cmdTimeForceSet r h, fun _ _ r h => quiet_cmdTimePtpConfig r h, fun _ _ r h => quiet_cmdTimePtpStatus r h, fun _ _ r h =>
    quiet_cmdTimeTxtsRead r h, fun _ _ r h => quiet_cmdTimeTcConfig r h, fun _ _ r h => quiet_cmdTimeTout r h, fun _ _ r h =>
    quiet_cmdTimeTcapConfig r h, fun _ _ r h => quiet_cmdTimeTcapRead r h, by simp⟩

theorem quiet_cmds0D : ∀ c ∈ cmds0D, QuietCmd c := by
  simp only [cmds0D, List.forall_mem_cons]
  exact ⟨fun _ _ r h => quiet_cmdRelayConfig r h, fun _ _ r h => quiet_cmdRelayPortConfig r h, fun _ _ r h => quiet_cmdRelayPortStatus r
    h, fun _ _ r h => quiet_cmdRelayFdbWrite r h, fun _ _ r h => quiet_cmdRelayFdbRead r h, fun _ _ r h => quiet_cmdRelayGroupWrite r h,
    fun _ _ r h => quiet_cmdRelayFence r h, fun _ _ r h => quiet_cmdRelayGateLoad r h, fun _ _ r h => quiet_cmdRelayShaper r h, fun _ _ r
    h => quiet_cmdRelayMirror r h, fun _ _ r h => quiet_cmdRelayCounters r h, by simp⟩

theorem quiet_cmds0E : ∀ c ∈ cmds0E, QuietCmd c := by
  simp only [cmds0E, List.forall_mem_cons]
  exact ⟨fun _ _ r h => quiet_cmdPoolConfig r h, fun _ _ r h => quiet_cmdPoolStatus r h, by simp⟩

theorem quiet_cmds0F : ∀ c ∈ cmds0F, QuietCmd c := by
  simp only [cmds0F, List.forall_mem_cons]
  exact ⟨fun _ _ r h => quiet_cmdDomainConfig r h, fun _ _ r h => quiet_cmdDomainStatus r h, fun _ _ r h => quiet_cmdDomainMembers r h,
    fun _ _ r h => quiet_cmdDomainMemberEdit r h, fun _ _ r h => quiet_cmdDomainSetRole r h, fun _ _ r h => quiet_cmdDomainEvents r h,
    fun _ _ r h => quiet_cmdDomainCounters r h, by simp⟩

theorem quiet_cmds10 : ∀ c ∈ cmds10, QuietCmd c := by
  simp only [cmds10, List.forall_mem_cons]
  exact ⟨fun _ _ r h => quiet_cmdCalCommission r h, fun _ _ r h => quiet_cmdCalBackground r h, fun _ _ r h => quiet_cmdCalStatus r h, fun
    _ _ r h => quiet_cmdCalRead r h, fun _ _ r h => quiet_cmdCalStore r h, fun _ _ r h => quiet_cmdCalSelect r h, fun _ _ r h =>
    quiet_cmdCalRefTrim r h, by simp⟩

theorem quiet_cmds11 : ∀ c ∈ cmds11, QuietCmd c := by
  simp only [cmds11, List.forall_mem_cons]
  exact ⟨fun _ _ r h => quiet_cmdFaultStatus r h, fun _ _ r h => quiet_cmdFaultAck r h, fun _ _ r h => quiet_cmdFaultClear r h, fun _ _ r
    h => quiet_cmdFaultSetSeverity r h, fun _ _ r h => quiet_cmdFaultConfig r h, fun _ _ r h => quiet_cmdFaultInject r h, fun _ _ r h =>
    quiet_cmdFaultLog r h, by simp⟩

theorem quiet_cmds12 : ∀ c ∈ cmds12, QuietCmd c := by
  simp only [cmds12, List.forall_mem_cons]
  exact ⟨fun _ _ r h => quiet_cmdTestLanePattern r h, fun _ _ r h => quiet_cmdTestLaneCheck r h, fun _ _ r h => quiet_cmdTestLoopback r
    h, fun _ _ r h => quiet_cmdTestMarginScan r h, fun _ _ r h => quiet_cmdTestBist r h, fun _ _ r h => quiet_cmdTestCounters r h, by simp⟩

theorem quiet_cmds13 : ∀ c ∈ cmds13, QuietCmd c := by
  simp only [cmds13, List.forall_mem_cons]
  exact ⟨fun _ _ r h => quiet_cmdLoupeRingConfig r h, fun _ _ r h => quiet_cmdLoupeEnable r h, fun _ _ r h => quiet_cmdLoupeStatus r h,
    fun _ _ r h => quiet_cmdLoupeExport r h, fun _ _ r h => quiet_cmdLoupeFreeze r h, by simp⟩

theorem quiet_cmds14 : ∀ c ∈ cmds14, QuietCmd c := by
  simp only [cmds14, List.forall_mem_cons]
  exact ⟨fun _ _ r h => quiet_cmdSecAttest r h, fun _ _ r h => quiet_cmdSecCertRead r h, fun _ _ r h => quiet_cmdSecFwUpdate r h, fun _ _
    r h => quiet_cmdSecFwSelect r h, fun _ _ r h => quiet_cmdSecOwnerSet r h, fun _ _ r h => quiet_cmdSecLifecycle r h, fun _ _ r h =>
    quiet_cmdSecFactoryToken r h, by simp⟩

theorem quiet_cmds15 : ∀ c ∈ cmds15, QuietCmd c := by
  simp only [cmds15, List.forall_mem_cons]
  exact ⟨fun _ _ r h => quiet_cmdPowerStatus r h, fun _ _ r h => quiet_cmdPowerAvsConfig r h, fun _ _ r h => quiet_cmdPowerMode r h, fun
    _ _ r h => quiet_cmdPowerTemps r h, fun _ _ r h => quiet_cmdPowerPlaneTemp r h, by simp⟩

theorem quiet_cmds16 : ∀ c ∈ cmds16, QuietCmd c := by
  simp only [cmds16, List.forall_mem_cons]
  exact ⟨fun _ _ r h => quiet_cmdSnapAt r h, fun _ _ r h => quiet_cmdSnapRead r h, fun _ _ r h => quiet_cmdSnapStatus r h, fun _ _ r h =>
    quiet_cmdSnapRelease r h, by simp⟩

theorem quiet_cmds17 : ∀ c ∈ cmds17, QuietCmd c := by
  simp only [cmds17, List.forall_mem_cons]
  exact ⟨fun _ _ r h => quiet_cmdLeaseTake r h, fun _ _ r h => quiet_cmdLeaseRelease r h, fun _ _ r h => quiet_cmdLeaseList r h, fun _ _
    r h => quiet_cmdLeaseRenew r h, by simp⟩

theorem quiet_append {a b : List Cmd} (ha : ∀ c ∈ a, QuietCmd c) (hb : ∀ c ∈ b, QuietCmd c) : ∀ c ∈ a ++ b, QuietCmd c :=
  fun c h => (List.mem_append.mp h).elim (ha c) (hb c)

theorem quiet_allCmds : ∀ c ∈ allCmds, QuietCmd c :=
  quiet_append (quiet_append (quiet_append (quiet_append (quiet_append (quiet_append (quiet_append (quiet_append (quiet_append
    (quiet_append (quiet_append (quiet_append (quiet_append (quiet_append (quiet_append (quiet_append (quiet_append (quiet_append
    (quiet_append (quiet_append (quiet_append (quiet_append quiet_cmds01 quiet_cmds02) quiet_cmds03) quiet_cmds04) quiet_cmds05)
    quiet_cmds06) quiet_cmds07) quiet_cmds08) quiet_cmds09) quiet_cmds0A) quiet_cmds0B) quiet_cmds0C) quiet_cmds0D) quiet_cmds0E)
    quiet_cmds0F) quiet_cmds10) quiet_cmds11) quiet_cmds12) quiet_cmds13) quiet_cmds14) quiet_cmds15) quiet_cmds16) quiet_cmds17

theorem quiet_bilekCmd {op : Nat} {c : Cmd} (h : bilekCmd op = some c) : QuietCmd c := by
  unfold bilekCmd at h
  exact quiet_allCmds c (List.mem_of_find?_eq_some h)

theorem quiet_runOp {s0 s : State} (op : Nat) (r : Req) (h : Quiet s0 s) : Quiet s0 (runOp op r s) := by
  unfold runOp
  split
  · next c e => exact quiet_runCmd c r (quiet_bilekCmd e) h
  · exact quiet_refuseReq _ _ _ h

theorem quiet_commandStart {s0 s : State} (dma : Bytes) (dmaIn : Bytes) (h : Quiet s0 s) : Quiet s0 (commandStart dma dmaIn s) := by
  delta commandStart
  repeat' (first
    | lift_lets -underBinder | (intro y; clear_value y)
    | with_reducible (first | assumption | apply quiet_runOp | apply quiet_ite | exact quiet_with ‹_›) | split)

theorem quiet_runWaiting {s0 s : State} (op : Nat) (r : Req) (h : Quiet s0 s) : Quiet s0 (runWaiting op r s) := by
  unfold runWaiting
  split
  · next c e => exact quiet_ite (quiet_refuseReq _ _ _ h) (quiet_runAgain c r (quiet_bilekCmd e) h)
  · exact quiet_refuseReq _ _ _ h

theorem quiet_avsPoll {s0 s : State} (reported : Nat) (meas : Nat) (h : Quiet s0 s) : Quiet s0 (avsPoll reported meas s) := by
  delta avsPoll
  repeat' (first
    | lift_lets -underBinder | (intro y; refine (fun (hy : Quiet s0 y) => ?_) ?_ <;> [clear_value y; dsimp -zeta only [y]])
    | (intro y; clear_value y)
    | with_reducible (first
      | assumption | apply quiet_endCond | apply quiet_runWaiting | apply quiet_ite | exact quiet_with ‹_›
      | refine quiet_each ?_ (fun a t ht => ?_))
    | split)

theorem quiet_segment {s0 s : State} (m : Msg) (act : Bytes → State → State) (h : Quiet s0 s) (hact : ∀ b t, Quiet s0 t → Quiet s0
    (act b t)) : Quiet s0 (segment m act s) := by
  delta segment
  repeat' (first
    | lift_lets -underBinder | (intro y; clear_value y) | with_reducible assumption | apply hact | with_reducible apply quiet_updDom
    | split)

theorem quiet_tunnelReqTake {s0 s : State} (m : Msg) (h : Quiet s0 s) : Quiet s0 (tunnelReqTake m s) := by
  unfold tunnelReqTake
  refine quiet_ite h (quiet_segment _ _ h (fun b t ht => ?_))
  dsimp only
  split
  · next c e => exact quiet_runLocal c _ (quiet_bilekCmd e) ht
  · exact quiet_refuseReq _ _ _ ht

theorem quiet_workerView {s0 s : State} (op : Nat) (dev : Nat) (r : Req) (pay : Bytes) (h : Quiet s0 s) : Quiet s0
    (workerView op dev r pay s) := by
  delta workerView
  repeat' (first
    | lift_lets -underBinder | (intro y; refine (fun (hy : Quiet s0 y) => ?_) ?_ <;> [clear_value y; dsimp -zeta only [y]])
    | (intro y; clear_value y)
    | with_reducible (first
      | assumption | apply quiet_updDplane | apply quiet_announce | apply quiet_updSched | apply quiet_updChainPlane
      | apply quiet_moveAllow | apply quiet_ite)
    | split)

theorem quiet_tunnelAnswer {s0 s : State} (t : Tunnel) (b : Bytes) (h : Quiet s0 s) : Quiet s0 (tunnelAnswer t b s) := by
  delta tunnelAnswer
  repeat' (first
    | lift_lets -underBinder | (intro y; refine (fun (hy : Quiet s0 y) => ?_) ?_ <;> [clear_value y; dsimp -zeta only [y]])
    | (intro y; clear_value y)
    | with_reducible (first
      | assumption | apply quiet_permCame | apply quiet_refuseReq | apply quiet_workerView | apply quiet_answer | apply quiet_ite))

theorem quiet_tunnelRspTake {s0 s : State} (m : Msg) (h : Quiet s0 s) : Quiet s0 (tunnelRspTake m s) := by
  delta tunnelRspTake
  repeat' (first
    | lift_lets -underBinder | (intro y; clear_value y)
    | with_reducible (first
      | assumption | apply quiet_segment | apply quiet_tunnelAnswer | apply quiet_updDom | apply quiet_ite)
    | split | (intro b t ht))

theorem quiet_tunnelTimeout {s0 s : State} (tag : Nat) (h : Quiet s0 s) : Quiet s0 (tunnelTimeout tag s) := by
  delta tunnelTimeout
  repeat' (first
    | lift_lets -underBinder | (intro y; refine (fun (hy : Quiet s0 y) => ?_) ?_ <;> [clear_value y; dsimp -zeta only [y]])
    | (intro y; clear_value y)
    | with_reducible (first
      | assumption | apply quiet_claspCount | apply quiet_updDom | apply quiet_permCame | apply quiet_refuseReq | apply quiet_ite)
    | split)

end Sys2Proof.Machine
end

