-- ==== Sys2Proof/Laws/QuietRows.lean ====
section
/-! SUPPORT. Quiet functions (`Quiet` of Laws/Quiet.lean): the rows of the table: every row but the six that `Instr.quietRow` names is quiet. -/

namespace Sys2Proof.Machine

variable {s0 s t u : State}
theorem quiet_live (e : live s u = .next t) (h : Quiet s0 s) (hu : Quiet s0 u) : Quiet s0 t := by
  unfold live at e
  cases e
  exact quiet_ite h hu
theorem quiet_onUnit {k n : Nat} (e : onUnit k n s u = .next t) (h : Quiet s0 s) (hu : Quiet s0 u) : Quiet s0 t := by
  unfold onUnit at e
  split at e
  · split at e <;> cases e <;> assumption
  · cases e
theorem quiet_inj {a b : State} (e : (Host.Outcome.next a : Host.Outcome State Fault Refusal) = .next b) : a = b := by cases e; rfl
theorem quiet_command {c : Cmd} {r : Req} (e : command c r s = .next t) (h : Quiet s0 s) (hc : QuietCmd c) : Quiet s0 t := by
  unfold command at e
  split at e
  · exact quiet_onUnit e h (quiet_transact c _ r hc h)
  · exact quiet_live e h (quiet_runLocal c r hc h)
theorem quiet_smbRead {d : Option Bytes} (e : smbRead d s = .next t) (h : Quiet s0 s) : Quiet s0 t := by
  unfold smbRead at e
  exact quiet_live e h (quiet_emit _ h)
theorem quiet_execAnalogueThermtrip (h : Quiet s0 s) (e : execAnalogueThermtrip s = .next t) : Quiet s0 t := by
  obtain rfl := quiet_inj e
  exact ⟨h.dark, by simp, h.queue, h.mem, h.mail⟩
theorem quiet_execTestModeChange {level : Bool} (h : Quiet s0 s) (e : execTestModeChange level s = .next t) : Quiet s0 t := by
  obtain rfl := quiet_inj e
  have ht : Quiet s0 { s with sys := { s.sys with testMode := level } } := ⟨h.dark, h.light, h.queue, h.mem, h.mail⟩
  cases level
  · have hu : Quiet s0 { s with sys := { s.sys with testMode := false }, sec := { s.sec with token := none } }
    := ⟨h.dark, h.light, h.queue, h.mem, h.mail⟩
    exact quiet_ite hu (quiet_testPin hu)
  · exact quiet_ite ht (quiet_testPin ht)

theorem quiet_execFaultStatus {s0 s t : State} {req : Req} (h : Quiet s0 s) (e : execFaultStatus req s = .next t) : Quiet s0 t := by
  exact quiet_command e h (fun _ _ r h => quiet_cmdFaultStatus r h)

theorem quiet_execFaultAck {s0 s t : State} {req : Req} (h : Quiet s0 s) (e : execFaultAck req s = .next t) : Quiet s0 t := by
  exact quiet_command e h (fun _ _ r h => quiet_cmdFaultAck r h)

theorem quiet_execFaultClear {s0 s t : State} {req : Req} (h : Quiet s0 s) (e : execFaultClear req s = .next t) : Quiet s0 t := by
  exact quiet_command e h (fun _ _ r h => quiet_cmdFaultClear r h)

theorem quiet_execFaultSetSeverity {s0 s t : State} {req : Req} (h : Quiet s0 s) (e : execFaultSetSeverity req s = .next t) : Quiet s0 t
    := by
  exact quiet_command e h (fun _ _ r h => quiet_cmdFaultSetSeverity r h)

theorem quiet_execFaultConfig {s0 s t : State} {req : Req} (h : Quiet s0 s) (e : execFaultConfig req s = .next t) : Quiet s0 t := by
  exact quiet_command e h (fun _ _ r h => quiet_cmdFaultConfig r h)

theorem quiet_execFaultInject {s0 s t : State} {req : Req} (h : Quiet s0 s) (e : execFaultInject req s = .next t) : Quiet s0 t := by
  exact quiet_command e h (fun _ _ r h => quiet_cmdFaultInject r h)

theorem quiet_execInjectHoldExpiry {s0 s t : State} {event : Nat} (h : Quiet s0 s) (e : execInjectHoldExpiry event s = .next t)
    : Quiet s0 t := by
  delta execInjectHoldExpiry at e
  refine quiet_live e h ?_
  repeat' (first
    | lift_lets -underBinder | (intro y; clear_value y) | with_reducible exact quiet_with ‹_›)

theorem quiet_execFaultLog {s0 s t : State} {req : Req} (h : Quiet s0 s) (e : execFaultLog req s = .next t) : Quiet s0 t := by
  exact quiet_command e h (fun _ _ r h => quiet_cmdFaultLog r h)

theorem quiet_execBufferTransfer {s0 s t : State} {pool : Nat} {addr : Nat} {src : Nat} {dst : Nat} (h : Quiet s0 s) (e
    : execBufferTransfer pool addr src dst s = .next t) : Quiet s0 t := by
  delta execBufferTransfer at e
  split at e
  · cases e
  refine quiet_live e h ?_
  repeat' (first
    | lift_lets -underBinder | (intro y; clear_value y)
    | with_reducible (first
      | assumption | apply quiet_raiseFault | apply quiet_updPool | apply quiet_flow | apply quiet_ite)
    | split)

theorem quiet_execPoolConfig {s0 s t : State} {req : Req} (h : Quiet s0 s) (e : execPoolConfig req s = .next t) : Quiet s0 t := by
  exact quiet_command e h (fun _ _ r h => quiet_cmdPoolConfig r h)

theorem quiet_execPoolStatus {s0 s t : State} {req : Req} (h : Quiet s0 s) (e : execPoolStatus req s = .next t) : Quiet s0 t := by
  exact quiet_command e h (fun _ _ r h => quiet_cmdPoolStatus r h)

theorem quiet_execLeaseTake {s0 s t : State} {req : Req} (h : Quiet s0 s) (e : execLeaseTake req s = .next t) : Quiet s0 t := by
  exact quiet_command e h (fun _ _ r h => quiet_cmdLeaseTake r h)

theorem quiet_execLeaseRenew {s0 s t : State} {req : Req} (h : Quiet s0 s) (e : execLeaseRenew req s = .next t) : Quiet s0 t := by
  exact quiet_command e h (fun _ _ r h => quiet_cmdLeaseRenew r h)

theorem quiet_execLeaseList {s0 s t : State} {req : Req} (h : Quiet s0 s) (e : execLeaseList req s = .next t) : Quiet s0 t := by
  exact quiet_command e h (fun _ _ r h => quiet_cmdLeaseList r h)

theorem quiet_execWdogTimeoutWrite {s0 s t : State} {value : Nat} (h : Quiet s0 s) (e : execWdogTimeoutWrite value s = .next t)
    : Quiet s0 t := by
  delta execWdogTimeoutWrite at e
  refine quiet_live e h ?_
  repeat' (first
    | lift_lets -underBinder | with_reducible (first | assumption | apply quiet_wdogWrite))

theorem quiet_execWdogKick {s0 s t : State} {_value : Nat} (h : Quiet s0 s) (e : execWdogKick _value s = .next t) : Quiet s0 t := by
  delta execWdogKick at e
  refine quiet_live e h ?_
  repeat' (first
    | lift_lets -underBinder | with_reducible (first | assumption | apply quiet_wdogKick))

theorem quiet_execHostWdogExpiry {s0 s t : State} (h : Quiet s0 s) (e : execHostWdogExpiry s = .next t) : Quiet s0 t := by
  delta execHostWdogExpiry at e
  refine quiet_live e h ?_
  repeat' (first
    | lift_lets -underBinder | (intro (y : Emergency); dsimp -zeta only [y]; clear y)
    | with_reducible (first
      | assumption | apply quiet_raiseCond | apply quiet_notify | apply quiet_ite
      | exact quiet_mk (Quiet.dark ‹_›) (Quiet.light ‹_›) (Quiet.queue ‹_›) (Quiet.mem ‹_›) (Quiet.mail ‹_›))
    | split)

theorem quiet_execPendingClear {s0 s t : State} {word : Nat} {value : Nat} {raised : List Nat} (h : Quiet s0 s) (e
    : execPendingClear word value raised s = .next t) : Quiet s0 t := by
  delta execPendingClear at e
  split at e
  · cases e
  refine quiet_live e h ?_
  repeat' (first
    | lift_lets -underBinder | with_reducible (first | assumption | apply quiet_pendingClear))

theorem quiet_execIrqEnWrite {s0 s t : State} {value : Nat} (h : Quiet s0 s) (e : execIrqEnWrite value s = .next t) : Quiet s0 t := by
  delta execIrqEnWrite at e
  refine quiet_live e h ?_
  repeat' (first
    | lift_lets -underBinder | with_reducible (first | assumption | apply quiet_irqEnWrite))

theorem quiet_execEventMaskWrite {s0 s t : State} {word : Nat} {value : Nat} (h : Quiet s0 s) (e
    : execEventMaskWrite word value s = .next t) : Quiet s0 t := by
  delta execEventMaskWrite at e
  split at e
  · cases e
  refine quiet_live e h ?_
  repeat' (first
    | lift_lets -underBinder | with_reducible (first | assumption | apply quiet_maskWrite))

theorem quiet_execEventVectorWrite {s0 s t : State} {word : Nat} {value : Nat} (h : Quiet s0 s) (e
    : execEventVectorWrite word value s = .next t) : Quiet s0 t := by
  delta execEventVectorWrite at e
  split at e
  · cases e
  refine quiet_live e h ?_
  repeat' (first
    | lift_lets -underBinder | with_reducible (first | assumption | apply quiet_vectorWrite))

theorem quiet_execMailboxRing {s0 s t : State} {mbox : Nat} {value : Nat} (h : Quiet s0 s) (e : execMailboxRing mbox value s = .next t)
    : Quiet s0 t := by
  delta execMailboxRing at e
  refine quiet_onUnit e h ?_
  repeat' (first
    | lift_lets -underBinder | with_reducible (first | assumption | apply quiet_mailboxRing))

theorem quiet_execRequestAreaWrite {s0 s t : State} {mbox : Nat} {offset : Nat} {value : Nat} (h : Quiet s0 s) (e
    : execRequestAreaWrite mbox offset value s = .next t) : Quiet s0 t := by
  delta execRequestAreaWrite at e
  refine quiet_onUnit e h ?_
  repeat' (first
    | lift_lets -underBinder | with_reducible (first | assumption | apply quiet_requestWrite | apply quiet_ite))

theorem quiet_execTxTailWrite {s0 s t : State} {value : Nat} (h : Quiet s0 s) (e : execTxTailWrite value s = .next t) : Quiet s0 t := by
  delta execTxTailWrite at e
  refine quiet_live e h ?_
  repeat' (first
    | lift_lets -underBinder | (intro y; clear_value y) | with_reducible exact quiet_with ‹_›)

theorem quiet_execRxTailWrite {s0 s t : State} {value : Nat} (h : Quiet s0 s) (e : execRxTailWrite value s = .next t) : Quiet s0 t := by
  delta execRxTailWrite at e
  refine quiet_live e h ?_
  repeat' (first
    | lift_lets -underBinder | (intro y; clear_value y) | with_reducible exact quiet_with ‹_›)

theorem quiet_execFwHeartbeatTick {s0 s t : State} (h : Quiet s0 s) (e : execFwHeartbeatTick s = .next t) : Quiet s0 t := by
  delta execFwHeartbeatTick at e
  refine quiet_live e h ?_
  repeat' (first
    | lift_lets -underBinder | (intro y; clear_value y) | with_reducible (first | assumption | apply quiet_ite | exact quiet_with ‹_›))

theorem quiet_execTimeMirrorUpdate {s0 s t : State} (h : Quiet s0 s) (e : execTimeMirrorUpdate s = .next t) : Quiet s0 t := by
  delta execTimeMirrorUpdate at e
  refine quiet_live e h ?_
  repeat' (first
    | lift_lets -underBinder | (intro y; clear_value y) | with_reducible exact quiet_with ‹_›)

theorem quiet_execSmbState {s0 s t : State} (h : Quiet s0 s) (e : execSmbState s = .next t) : Quiet s0 t := by
  delta execSmbState at e
  exact quiet_smbRead e h

theorem quiet_execSmbMaxSev {s0 s t : State} (h : Quiet s0 s) (e : execSmbMaxSev s = .next t) : Quiet s0 t := by
  delta execSmbMaxSev at e
  exact quiet_smbRead e h

theorem quiet_execSmbLightEn {s0 s t : State} (h : Quiet s0 s) (e : execSmbLightEn s = .next t) : Quiet s0 t := by
  delta execSmbLightEn at e
  exact quiet_smbRead e h

theorem quiet_execSmbPlaneDark {s0 s t : State} (h : Quiet s0 s) (e : execSmbPlaneDark s = .next t) : Quiet s0 t := by
  delta execSmbPlaneDark at e
  exact quiet_smbRead e h

theorem quiet_execSmbVcoreMv {s0 s t : State} (h : Quiet s0 s) (e : execSmbVcoreMv s = .next t) : Quiet s0 t := by
  delta execSmbVcoreMv at e
  exact quiet_smbRead e h

theorem quiet_execSmbDiePowerW {s0 s t : State} (h : Quiet s0 s) (e : execSmbDiePowerW s = .next t) : Quiet s0 t := by
  delta execSmbDiePowerW at e
  exact quiet_smbRead e h

theorem quiet_execSmbIdentity {s0 s t : State} (h : Quiet s0 s) (e : execSmbIdentity s = .next t) : Quiet s0 t := by
  delta execSmbIdentity at e
  exact quiet_smbRead e h

theorem quiet_execSmbAlertResponse {s0 s t : State} (h : Quiet s0 s) (e : execSmbAlertResponse s = .next t) : Quiet s0 t := by
  delta execSmbAlertResponse at e
  refine quiet_live e h ?_
  repeat' (first
    | lift_lets -underBinder | (intro y; clear_value y)
    | with_reducible (first | assumption | apply quiet_emit | apply quiet_ite | exact quiet_with ‹_›))

theorem quiet_execSmbUnknown {s0 s t : State} {_code : Nat} (h : Quiet s0 s) (e : execSmbUnknown _code s = .next t) : Quiet s0 t := by
  delta execSmbUnknown at e
  exact quiet_smbRead e h

theorem quiet_execDriveSetTarget {s0 s t : State} {req : Req} (h : Quiet s0 s) (e : execDriveSetTarget req s = .next t) : Quiet s0 t := by
  exact quiet_command e h (fun _ _ r h => quiet_cmdDriveSetTarget r h)

theorem quiet_execDriveReadState {s0 s t : State} {req : Req} (h : Quiet s0 s) (e : execDriveReadState req s = .next t) : Quiet s0 t := by
  exact quiet_command e h (fun _ _ r h => quiet_cmdDriveReadState r h)

theorem quiet_execDriveSetSlew {s0 s t : State} {req : Req} (h : Quiet s0 s) (e : execDriveSetSlew req s = .next t) : Quiet s0 t := by
  exact quiet_command e h (fun _ _ r h => quiet_cmdDriveSetSlew r h)

theorem quiet_execDriveSetTick {s0 s t : State} {req : Req} (h : Quiet s0 s) (e : execDriveSetTick req s = .next t) : Quiet s0 t := by
  exact quiet_command e h (fun _ _ r h => quiet_cmdDriveSetTick r h)

theorem quiet_execDriveSetRange {s0 s t : State} {req : Req} (h : Quiet s0 s) (e : execDriveSetRange req s = .next t) : Quiet s0 t := by
  exact quiet_command e h (fun _ _ r h => quiet_cmdDriveSetRange r h)

theorem quiet_execRangeRampDownDone {s0 s t : State} {ch : Nat} (h : Quiet s0 s) (e : execRangeRampDownDone ch s = .next t) : Quiet s0 t
    := by
  delta execRangeRampDownDone at e
  refine quiet_onUnit e h ?_
  repeat' (first
    | lift_lets -underBinder | (intro y; clear_value y)
    | with_reducible (first
      | assumption | apply quiet_setRangeBit | apply quiet_updDrive | apply quiet_ite | refine quiet_each ?_ (fun a t ht => ?_)))

theorem quiet_execRangeSegApplied {s0 s t : State} {ch : Nat} (h : Quiet s0 s) (e : execRangeSegApplied ch s = .next t) : Quiet s0 t := by
  delta execRangeSegApplied at e
  refine quiet_onUnit e h ?_
  repeat' (first
    | lift_lets -underBinder | (intro y; clear_value y)
    | with_reducible (first
      | assumption | apply quiet_rangeApply | apply quiet_ite | refine quiet_each ?_ (fun a t ht => ?_)))

theorem quiet_execRangeChangeDone {s0 s t : State} {ch : Nat} (h : Quiet s0 s) (e : execRangeChangeDone ch s = .next t) : Quiet s0 t := by
  delta execRangeChangeDone at e
  refine quiet_onUnit e h ?_
  repeat' (first
    | lift_lets -underBinder | (intro y; refine (fun (hy : Quiet s0 y) => ?_) ?_ <;> [clear_value y; dsimp -zeta only [y]])
    | (intro y; clear_value y)
    | with_reducible (first
      | assumption | apply quiet_updDrive | apply quiet_updCtx | apply quiet_raiseEvent | apply quiet_ite
      | refine quiet_each ?_ (fun a t ht => ?_)))

theorem quiet_execDriveParkLoad {s0 s t : State} {req : Req} (h : Quiet s0 s) (e : execDriveParkLoad req s = .next t) : Quiet s0 t := by
  exact quiet_command e h (fun _ _ r h => quiet_cmdDriveParkLoad r h)

theorem quiet_execDriveParkRead {s0 s t : State} {req : Req} (h : Quiet s0 s) (e : execDriveParkRead req s = .next t) : Quiet s0 t := by
  exact quiet_command e h (fun _ _ r h => quiet_cmdDriveParkRead r h)

theorem quiet_execDriveRamp {s0 s t : State} {req : Req} (h : Quiet s0 s) (e : execDriveRamp req s = .next t) : Quiet s0 t := by
  exact quiet_command e h (fun _ _ r h => quiet_cmdDriveRamp r h)

theorem quiet_execDriveSetReadback {s0 s t : State} {req : Req} (h : Quiet s0 s) (e : execDriveSetReadback req s = .next t) : Quiet s0 t
    := by
  exact quiet_command e h (fun _ _ r h => quiet_cmdDriveSetReadback r h)

theorem quiet_execDriveSetLinkLead {s0 s t : State} {req : Req} (h : Quiet s0 s) (e : execDriveSetLinkLead req s = .next t) : Quiet s0 t
    := by
  exact quiet_command e h (fun _ _ r h => quiet_cmdDriveSetLinkLead r h)

theorem quiet_execDriveCounters {s0 s t : State} {req : Req} (h : Quiet s0 s) (e : execDriveCounters req s = .next t) : Quiet s0 t := by
  exact quiet_command e h (fun _ _ r h => quiet_cmdDriveCounters r h)

theorem quiet_execDriveReadback {s0 s t : State} {req : Req} (h : Quiet s0 s) (e : execDriveReadback req s = .next t) : Quiet s0 t := by
  exact quiet_command e h (fun _ _ r h => quiet_cmdDriveReadback r h)

theorem quiet_execAccBlockDone {s0 s t : State} {mon : Nat} (h : Quiet s0 s) (e : execAccBlockDone mon s = .next t) : Quiet s0 t := by
  delta execAccBlockDone at e
  refine quiet_onUnit e h ?_
  repeat' (first
    | lift_lets -underBinder | with_reducible (first | assumption | apply quiet_latchBlock))

theorem quiet_execSenseRefEnable {s0 s t : State} {req : Req} (h : Quiet s0 s) (e : execSenseRefEnable req s = .next t) : Quiet s0 t := by
  exact quiet_command e h (fun _ _ r h => quiet_cmdSenseRefEnable r h)

theorem quiet_execRefWarmupDone {s0 s t : State} {link : Nat} (h : Quiet s0 s) (e : execRefWarmupDone link s = .next t) : Quiet s0 t := by
  delta execRefWarmupDone at e
  refine quiet_onUnit e h ?_
  repeat' (first
    | lift_lets -underBinder | (intro y; clear_value y)
    | with_reducible (first | assumption | apply quiet_raiseEvent | apply quiet_updSense | apply quiet_ite))

theorem quiet_execSenseSetChannel {s0 s t : State} {req : Req} (h : Quiet s0 s) (e : execSenseSetChannel req s = .next t) : Quiet s0 t := by
  exact quiet_command e h (fun _ _ r h => quiet_cmdSenseSetChannel r h)

theorem quiet_execSenseAccConfig {s0 s t : State} {req : Req} (h : Quiet s0 s) (e : execSenseAccConfig req s = .next t) : Quiet s0 t := by
  exact quiet_command e h (fun _ _ r h => quiet_cmdSenseAccConfig r h)

theorem quiet_execSenseAccRead {s0 s t : State} {req : Req} (h : Quiet s0 s) (e : execSenseAccRead req s = .next t) : Quiet s0 t := by
  exact quiet_command e h (fun _ _ r h => quiet_cmdSenseAccRead r h)

theorem quiet_execSenseMinmaxRead {s0 s t : State} {req : Req} (h : Quiet s0 s) (e : execSenseMinmaxRead req s = .next t) : Quiet s0 t := by
  exact quiet_command e h (fun _ _ r h => quiet_cmdSenseMinmaxRead r h)

theorem quiet_execSenseStatus {s0 s t : State} {req : Req} (h : Quiet s0 s) (e : execSenseStatus req s = .next t) : Quiet s0 t := by
  exact quiet_command e h (fun _ _ r h => quiet_cmdSenseStatus r h)

theorem quiet_execBankSwapAt {s0 s t : State} {ctx : Nat} (h : Quiet s0 s) (e : execBankSwapAt ctx s = .next t) : Quiet s0 t := by
  delta execBankSwapAt at e
  refine quiet_onUnit e h ?_
  repeat' (first
    | lift_lets -underBinder | with_reducible (first | assumption | apply quiet_swapAt))

theorem quiet_execLoopSampleStarved {s0 s t : State} {ctx : Nat} (h : Quiet s0 s) (e : execLoopSampleStarved ctx s = .next t)
    : Quiet s0 t := by
  delta execLoopSampleStarved at e
  refine quiet_onUnit e h ?_
  repeat' (first
    | lift_lets -underBinder | with_reducible (first | assumption | apply quiet_starveCheck))

theorem quiet_execFilterSwitch {s0 s t : State} {m : Nat} (h : Quiet s0 s) (e : execFilterSwitch m s = .next t) : Quiet s0 t := by
  delta execFilterSwitch at e
  refine quiet_onUnit e h ?_
  repeat' (first
    | lift_lets -underBinder | (intro y; refine (fun (hy : Quiet s0 y) => ?_) ?_ <;> [clear_value y; dsimp -zeta only [y]])
    | (intro y; clear_value y) | with_reducible (first | assumption | apply quiet_updMon | apply quiet_missSample | apply quiet_ite)
    | split)

theorem quiet_execInjectionStart {s0 s t : State} {ctx : Nat} (h : Quiet s0 s) (e : execInjectionStart ctx s = .next t) : Quiet s0 t := by
  delta execInjectionStart at e
  refine quiet_onUnit e h ?_
  repeat' (first
    | lift_lets -underBinder | (intro y; refine (fun (hy : Quiet s0 y) => ?_) ?_ <;> [clear_value y; dsimp -zeta only [y]])
    | (intro y; refine (fun (hy : Quiet s0 y.2) => ?_) ?_ <;> [clear_value y; dsimp -zeta only [y]]) | (intro y; clear_value y)
    | with_reducible (first
      | assumption | apply quiet_draw | apply quiet_updCtx | apply quiet_captureEnded | apply quiet_ite)
    | split)

theorem quiet_execCaptureDone {s0 s t : State} {ctx : Nat} (h : Quiet s0 s) (e : execCaptureDone ctx s = .next t) : Quiet s0 t := by
  delta execCaptureDone at e
  refine quiet_onUnit e h ?_
  repeat' (first
    | lift_lets -underBinder | (intro y; clear_value y)
    | with_reducible (first | assumption | apply quiet_captureEnded | apply quiet_updCtx | apply quiet_ite))

theorem quiet_execLoopPaceOverrun {s0 s t : State} {ctx : Nat} (h : Quiet s0 s) (e : execLoopPaceOverrun ctx s = .next t) : Quiet s0 t := by
  delta execLoopPaceOverrun at e
  refine quiet_onUnit e h ?_
  repeat' (first
    | lift_lets -underBinder | (intro y; refine (fun (hy : Quiet s0 y) => ?_) ?_ <;> [clear_value y; dsimp -zeta only [y]])
    | (intro y; clear_value y)
    | with_reducible (first
      | assumption | apply quiet_unswap | apply quiet_updCtx | apply quiet_updEngine | apply quiet_raiseFault | apply quiet_starveCheck
      | apply quiet_ite | exact quiet_with ‹_›)
    | split)

theorem quiet_execUpdateTick {s0 s t : State} {plane : Nat} (h : Quiet s0 s) (e : execUpdateTick plane s = .next t) : Quiet s0 t := by
  delta execUpdateTick at e
  refine quiet_onUnit e h ?_
  repeat' (first
    | lift_lets -underBinder
    | with_reducible (first
      | assumption | apply quiet_loopMarks | apply quiet_updateTick | apply quiet_loopTicks | apply quiet_ite))

theorem quiet_execLoopSetRegime {s0 s t : State} {req : Req} (h : Quiet s0 s) (e : execLoopSetRegime req s = .next t) : Quiet s0 t := by
  exact quiet_command e h (fun _ _ r h => quiet_cmdLoopSetRegime r h)

theorem quiet_execLoopSetGains {s0 s t : State} {req : Req} (h : Quiet s0 s) (e : execLoopSetGains req s = .next t) : Quiet s0 t := by
  exact quiet_command e h (fun _ _ r h => quiet_cmdLoopSetGains r h)

theorem quiet_execLoopSwapBank {s0 s t : State} {req : Req} (h : Quiet s0 s) (e : execLoopSwapBank req s = .next t) : Quiet s0 t := by
  exact quiet_command e h (fun _ _ r h => quiet_cmdLoopSwapBank r h)

theorem quiet_execLoopSetSetpoint {s0 s t : State} {req : Req} (h : Quiet s0 s) (e : execLoopSetSetpoint req s = .next t) : Quiet s0 t := by
  exact quiet_command e h (fun _ _ r h => quiet_cmdLoopSetSetpoint r h)

theorem quiet_execLoopSetLimits {s0 s t : State} {req : Req} (h : Quiet s0 s) (e : execLoopSetLimits req s = .next t) : Quiet s0 t := by
  exact quiet_command e h (fun _ _ r h => quiet_cmdLoopSetLimits r h)

theorem quiet_execLoopReadState {s0 s t : State} {req : Req} (h : Quiet s0 s) (e : execLoopReadState req s = .next t) : Quiet s0 t := by
  exact quiet_command e h (fun _ _ r h => quiet_cmdLoopReadState r h)

theorem quiet_execLoopTableLoad {s0 s t : State} {req : Req} (h : Quiet s0 s) (e : execLoopTableLoad req s = .next t) : Quiet s0 t := by
  exact quiet_command e h (fun _ _ r h => quiet_cmdLoopTableLoad r h)

theorem quiet_execLoopTableRead {s0 s t : State} {req : Req} (h : Quiet s0 s) (e : execLoopTableRead req s = .next t) : Quiet s0 t := by
  exact quiet_command e h (fun _ _ r h => quiet_cmdLoopTableRead r h)

theorem quiet_execLoopInject {s0 s t : State} {req : Req} (h : Quiet s0 s) (e : execLoopInject req s = .next t) : Quiet s0 t := by
  exact quiet_command e h (fun _ _ r h => quiet_cmdLoopInject r h)

theorem quiet_execLoopCapture {s0 s t : State} {req : Req} (h : Quiet s0 s) (e : execLoopCapture req s = .next t) : Quiet s0 t := by
  exact quiet_command e h (fun _ _ r h => quiet_cmdLoopCapture r h)

theorem quiet_execLoopCaptureRead {s0 s t : State} {req : Req} (h : Quiet s0 s) (e : execLoopCaptureRead req s = .next t) : Quiet s0 t := by
  exact quiet_command e h (fun _ _ r h => quiet_cmdLoopCaptureRead r h)

theorem quiet_execLoopCounters {s0 s t : State} {req : Req} (h : Quiet s0 s) (e : execLoopCounters req s = .next t) : Quiet s0 t := by
  exact quiet_command e h (fun _ _ r h => quiet_cmdLoopCounters r h)

theorem quiet_execFacetDefine {s0 s t : State} {req : Req} (h : Quiet s0 s) (e : execFacetDefine req s = .next t) : Quiet s0 t := by
  exact quiet_command e h (fun _ _ r h => quiet_cmdFacetDefine r h)

theorem quiet_execFacetLookup {s0 s t : State} {req : Req} (h : Quiet s0 s) (e : execFacetLookup req s = .next t) : Quiet s0 t := by
  exact quiet_command e h (fun _ _ r h => quiet_cmdFacetLookup r h)

theorem quiet_execFacetRoute {s0 s t : State} {req : Req} (h : Quiet s0 s) (e : execFacetRoute req s = .next t) : Quiet s0 t := by
  exact quiet_command e h (fun _ _ r h => quiet_cmdFacetRoute r h)

theorem quiet_execFacetRead {s0 s t : State} {req : Req} (h : Quiet s0 s) (e : execFacetRead req s = .next t) : Quiet s0 t := by
  exact quiet_command e h (fun _ _ r h => quiet_cmdFacetRead r h)

theorem quiet_execFacetWrite {s0 s t : State} {req : Req} (h : Quiet s0 s) (e : execFacetWrite req s = .next t) : Quiet s0 t := by
  exact quiet_command e h (fun _ _ r h => quiet_cmdFacetWrite r h)

theorem quiet_execFacetPin {s0 s t : State} {req : Req} (h : Quiet s0 s) (e : execFacetPin req s = .next t) : Quiet s0 t := by
  exact quiet_command e h (fun _ _ r h => quiet_cmdFacetPin r h)

theorem quiet_execFacetStatus {s0 s t : State} {req : Req} (h : Quiet s0 s) (e : execFacetStatus req s = .next t) : Quiet s0 t := by
  exact quiet_command e h (fun _ _ r h => quiet_cmdFacetStatus r h)

theorem quiet_execSettleTimeout {s0 s t : State} {plane : Nat} {cell : Nat} (h : Quiet s0 s) (e
    : execSettleTimeout plane cell s = .next t) : Quiet s0 t := by
  delta execSettleTimeout at e
  refine quiet_onUnit e h ?_
  repeat' (first
    | lift_lets -underBinder | with_reducible (first | assumption | apply quiet_cellTimeout | apply quiet_ite) | split)

theorem quiet_execVerifyTimeout {s0 s t : State} {plane : Nat} {port : Nat} (h : Quiet s0 s) (e
    : execVerifyTimeout plane port s = .next t) : Quiet s0 t := by
  delta execVerifyTimeout at e
  refine quiet_onUnit e h ?_
  repeat' (first
    | lift_lets -underBinder
    | with_reducible (first | assumption | apply quiet_launchCheck | apply quiet_suspectCircuit | apply quiet_ite) | split)

theorem quiet_execLaunchTime {s0 s t : State} {plane : Nat} {launch : Nat} (h : Quiet s0 s) (e : execLaunchTime plane launch s = .next t)
    : Quiet s0 t := by
  delta execLaunchTime at e
  refine quiet_onUnit e h ?_
  repeat' (first
    | lift_lets -underBinder
    | with_reducible (first
      | assumption | apply quiet_raiseFault | apply quiet_updPlane | apply quiet_beginLaunch | apply quiet_ite)
    | split)

theorem quiet_execLaunchFastLead {s0 s t : State} {plane : Nat} {launch : Nat} (h : Quiet s0 s) (e
    : execLaunchFastLead plane launch s = .next t) : Quiet s0 t := by
  delta execLaunchFastLead at e
  refine quiet_onUnit e h ?_
  repeat' (first
    | lift_lets -underBinder | with_reducible (first | assumption | apply quiet_takeMons | apply quiet_ite) | split)

theorem quiet_execPreEmphasisEnd {s0 s t : State} {ch : Nat} (h : Quiet s0 s) (e : execPreEmphasisEnd ch s = .next t) : Quiet s0 t := by
  delta execPreEmphasisEnd at e
  refine quiet_onUnit e h ?_
  repeat' (first
    | lift_lets -underBinder | (intro y; clear_value y)
    | with_reducible (first | assumption | apply quiet_softArms | apply quiet_updCtx | apply quiet_ite) | split)

theorem quiet_execSampleDeliver {s0 s t : State} {mon : Nat} (h : Quiet s0 s) (e : execSampleDeliver mon s = .next t) : Quiet s0 t := by
  delta execSampleDeliver at e
  refine quiet_onUnit e h ?_
  repeat' (first
    | lift_lets -underBinder | with_reducible (first | assumption | apply quiet_deliver))

theorem quiet_execLearnRead {s0 s t : State} {plane : Nat} (h : Quiet s0 s) (e : execLearnRead plane s = .next t) : Quiet s0 t := by
  delta execLearnRead at e
  refine quiet_onUnit e h ?_
  repeat' (first
    | lift_lets -underBinder | (intro y; clear_value y) | with_reducible (first | assumption | apply quiet_updPlane | apply quiet_ite)
    | split)

theorem quiet_execLearnFoldWrite {s0 s t : State} {plane : Nat} (h : Quiet s0 s) (e : execLearnFoldWrite plane s = .next t) : Quiet s0 t
    := by
  delta execLearnFoldWrite at e
  refine quiet_onUnit e h ?_
  repeat' (first
    | lift_lets -underBinder | (intro y; refine (fun (hy : Quiet s0 y) => ?_) ?_ <;> [clear_value y; dsimp -zeta only [y]])
    | (intro y; clear_value y)
    | with_reducible (first
      | assumption | apply quiet_updPlane | apply quiet_updSlot | apply quiet_planeCount | apply quiet_raiseFault | apply quiet_ite))

theorem quiet_execFacetLaunch {s0 s t : State} {req : Req} (h : Quiet s0 s) (e : execFacetLaunch req s = .next t) : Quiet s0 t := by
  exact quiet_command e h (fun _ _ r h => quiet_cmdFacetLaunch r h)

theorem quiet_execFacetCancel {s0 s t : State} {req : Req} (h : Quiet s0 s) (e : execFacetCancel req s = .next t) : Quiet s0 t := by
  exact quiet_command e h (fun _ _ r h => quiet_cmdFacetCancel r h)

theorem quiet_execFacetReport {s0 s t : State} {req : Req} (h : Quiet s0 s) (e : execFacetReport req s = .next t) : Quiet s0 t := by
  exact quiet_command e h (fun _ _ r h => quiet_cmdFacetReport r h)

theorem quiet_execBzRstHoldExpiry {s0 s t : State} {link : Nat} (h : Quiet s0 s) (e : execBzRstHoldExpiry link s = .next t) : Quiet s0 t
    := by
  delta execBzRstHoldExpiry at e
  refine quiet_onUnit e h ?_
  repeat' (first
    | lift_lets -underBinder | (intro y; clear_value y)
    | with_reducible (first
      | assumption | apply quiet_bzDrive | apply quiet_updLink | apply quiet_updBezel | apply quiet_ite))

theorem quiet_execTrainTimeout {s0 s t : State} {link : Nat} (h : Quiet s0 s) (e : execTrainTimeout link s = .next t) : Quiet s0 t := by
  delta execTrainTimeout at e
  refine quiet_onUnit e h ?_
  repeat' (first
    | lift_lets -underBinder | with_reducible (first | assumption | apply quiet_trainFailed | apply quiet_ite))

theorem quiet_execUpLaneLock {s0 s t : State} {link : Nat} {lane : Nat} (h : Quiet s0 s) (e : execUpLaneLock link lane s = .next t)
    : Quiet s0 t := by
  delta execUpLaneLock at e
  refine quiet_onUnit e h ?_
  repeat' (first
    | lift_lets -underBinder | (intro y; clear_value y)
    | with_reducible (first | assumption | apply quiet_queueBezel | apply quiet_updLink | apply quiet_ite))

theorem quiet_execBezelResponse {s0 s t : State} {link : Nat} {resp : BezelResp} (h : Quiet s0 s) (e
    : execBezelResponse link resp s = .next t) : Quiet s0 t := by
  delta execBezelResponse at e
  refine quiet_onUnit e h ?_
  repeat' (first
    | lift_lets -underBinder | with_reducible (first | assumption | apply quiet_bezelResponse))

theorem quiet_execBezelCmdRetry {s0 s t : State} {link : Nat} {tag : Nat} (h : Quiet s0 s) (e : execBezelCmdRetry link tag s = .next t)
    : Quiet s0 t := by
  delta execBezelCmdRetry at e
  refine quiet_onUnit e h ?_
  repeat' (first
    | lift_lets -underBinder | (intro y; clear_value y)
    | with_reducible (first | assumption | apply quiet_trainFailed | apply quiet_updLink | apply quiet_ite))

theorem quiet_execHeaterStatusPoll {s0 s t : State} {link : Nat} (h : Quiet s0 s) (e : execHeaterStatusPoll link s = .next t)
    : Quiet s0 t := by
  delta execHeaterStatusPoll at e
  refine quiet_onUnit e h ?_
  repeat' (first
    | lift_lets -underBinder | (intro y; clear_value y) | with_reducible (first | assumption | apply quiet_updLink | apply quiet_ite))

theorem quiet_execModulatorTick {s0 s t : State} (h : Quiet s0 s) (e : execModulatorTick s = .next t) : Quiet s0 t := by
  delta execModulatorTick at e
  refine quiet_live e h ?_
  repeat' (first
    | lift_lets -underBinder | (intro y; refine (fun (hy : Quiet s0 y) => ?_) ?_ <;> [clear_value y; dsimp -zeta only [y]])
    | with_reducible (first
      | assumption | apply quiet_linkTick | exact quiet_with ‹_› | refine quiet_each ?_ (fun a t ht => ?_)))

theorem quiet_execReadbackStart {s0 s t : State} {link : Nat} {modulator : Nat} (h : Quiet s0 s) (e
    : execReadbackStart link modulator s = .next t) : Quiet s0 t := by
  delta execReadbackStart at e
  split at e
  · cases e
  refine quiet_onUnit e h ?_
  repeat' (first
    | lift_lets -underBinder | (intro y; refine (fun (hy : Quiet s0 y) => ?_) ?_ <;> [clear_value y; dsimp -zeta only [y]])
    | (intro y; clear_value y) | with_reducible (first | assumption | apply quiet_updLink | apply quiet_beginConv | apply quiet_ite)
    | split)

theorem quiet_execReadbackComplete {s0 s t : State} {link : Nat} {modulator : Nat} (h : Quiet s0 s) (e
    : execReadbackComplete link modulator s = .next t) : Quiet s0 t := by
  delta execReadbackComplete at e
  split at e
  · cases e
  refine quiet_onUnit e h ?_
  repeat' (first
    | lift_lets -underBinder | (intro y; refine (fun (hy : Quiet s0 y) => ?_) ?_ <;> [clear_value y; dsimp -zeta only [y]])
    | (intro y; refine (fun (hy : Quiet s0 y.2) => ?_) ?_ <;> [clear_value y; dsimp -zeta only [y]]) | (intro y; clear_value y)
    | with_reducible (first
      | assumption | apply quiet_draw | apply quiet_updLink | apply quiet_updDrive | apply quiet_stageRec | apply quiet_superviseConv
      | apply quiet_dropImplicit | apply quiet_answerOk | apply quiet_ite)
    | split)

theorem quiet_execUpFrameCheck {s0 s t : State} {link : Nat} {lane3 : LaneFrame} {lane4 : LaneFrame} (h : Quiet s0 s) (e
    : execUpFrameCheck link lane3 lane4 s = .next t) : Quiet s0 t := by
  delta execUpFrameCheck at e
  refine quiet_onUnit e h ?_
  repeat' (first
    | lift_lets -underBinder | (intro y; refine (fun (hy : Quiet s0 y) => ?_) ?_ <;> [clear_value y; dsimp -zeta only [y]])
    | (intro y; clear_value y)
    | with_reducible (first
      | assumption | apply quiet_updLink | apply quiet_raiseFault | apply quiet_laneCount | apply quiet_upLost | apply quiet_upSeen
      | apply quiet_upTaken | apply quiet_ite)
    | split)

theorem quiet_execRelockTimeout {s0 s t : State} {link : Nat} (h : Quiet s0 s) (e : execRelockTimeout link s = .next t) : Quiet s0 t := by
  delta execRelockTimeout at e
  refine quiet_onUnit e h ?_
  repeat' (first
    | lift_lets -underBinder | with_reducible (first | assumption | apply quiet_startTraining | apply quiet_ite) | split)

theorem quiet_execLinkStatus {s0 s t : State} {req : Req} (h : Quiet s0 s) (e : execLinkStatus req s = .next t) : Quiet s0 t := by
  exact quiet_command e h (fun _ _ r h => quiet_cmdLinkStatus r h)

theorem quiet_execLinkRetrain {s0 s t : State} {req : Req} (h : Quiet s0 s) (e : execLinkRetrain req s = .next t) : Quiet s0 t := by
  exact quiet_command e h (fun _ _ r h => quiet_cmdLinkRetrain r h)

theorem quiet_execLinkBezelCmd {s0 s t : State} {req : Req} (h : Quiet s0 s) (e : execLinkBezelCmd req s = .next t) : Quiet s0 t := by
  exact quiet_command e h (fun _ _ r h => quiet_cmdLinkBezelCmd r h)

theorem quiet_execBezelHoldExit {s0 s t : State} {link : Nat} (h : Quiet s0 s) (e : execBezelHoldExit link s = .next t) : Quiet s0 t := by
  delta execBezelHoldExit at e
  refine quiet_onUnit e h ?_
  repeat' (first
    | lift_lets -underBinder | (intro y; clear_value y) | with_reducible (first | assumption | apply quiet_updBezel | apply quiet_ite))

theorem quiet_execBezelLightEnFall {s0 s t : State} {link : Nat} (h : Quiet s0 s) (e : execBezelLightEnFall link s = .next t)
    : Quiet s0 t := by
  delta execBezelLightEnFall at e
  refine quiet_onUnit e h ?_
  repeat' (first
    | lift_lets -underBinder | with_reducible (first | assumption | apply quiet_updBezel | apply quiet_ite))

theorem quiet_execBezelLightEnQualify {s0 s t : State} {link : Nat} (h : Quiet s0 s) (e : execBezelLightEnQualify link s = .next t)
    : Quiet s0 t := by
  delta execBezelLightEnQualify at e
  refine quiet_onUnit e h ?_
  repeat' (first
    | lift_lets -underBinder | (intro y; clear_value y) | with_reducible (first | assumption | apply quiet_updBezel | apply quiet_ite))

theorem quiet_execBezelReset {s0 s t : State} {link : Nat} (h : Quiet s0 s) (e : execBezelReset link s = .next t) : Quiet s0 t := by
  delta execBezelReset at e
  refine quiet_onUnit e h ?_
  repeat' (first
    | lift_lets -underBinder | with_reducible (first | assumption | apply quiet_updBezel | apply quiet_ite))

theorem quiet_execBezelSupplyLoss {s0 s t : State} {link : Nat} (h : Quiet s0 s) (e : execBezelSupplyLoss link s = .next t) : Quiet s0 t
    := by
  delta execBezelSupplyLoss at e
  refine quiet_onUnit e h ?_
  repeat' (first
    | lift_lets -underBinder | with_reducible (first | assumption | apply quiet_updBezel))

theorem quiet_execBezelSupplyRecover {s0 s t : State} {link : Nat} (h : Quiet s0 s) (e : execBezelSupplyRecover link s = .next t)
    : Quiet s0 t := by
  delta execBezelSupplyRecover at e
  refine quiet_onUnit e h ?_
  repeat' (first
    | lift_lets -underBinder | with_reducible (first | assumption | apply quiet_updBezel | apply quiet_ite))

theorem quiet_execBezelDownLaneLock {s0 s t : State} {link : Nat} (h : Quiet s0 s) (e : execBezelDownLaneLock link s = .next t)
    : Quiet s0 t := by
  delta execBezelDownLaneLock at e
  refine quiet_onUnit e h ?_
  repeat' (first
    | lift_lets -underBinder | (intro y; clear_value y)
    | with_reducible (first | assumption | apply quiet_updBezel | apply quiet_updLink | apply quiet_ite))

theorem quiet_execBezelCommandComplete {s0 s t : State} {link : Nat} {ohm : Nat} (h : Quiet s0 s) (e
    : execBezelCommandComplete link ohm s = .next t) : Quiet s0 t := by
  delta execBezelCommandComplete at e
  refine quiet_onUnit e h ?_
  repeat' (first
    | lift_lets -underBinder | with_reducible (first | assumption | apply quiet_updBezel | apply quiet_ite) | split)

theorem quiet_execBezelApplyTick {s0 s t : State} {link : Nat} {lane0 : LaneFrame} {lane1 : LaneFrame} {lane2 : LaneFrame} {env
    : BezelEnv} (h : Quiet s0 s) (e : execBezelApplyTick link lane0 lane1 lane2 env s = .next t) : Quiet s0 t := by
  delta execBezelApplyTick at e
  refine quiet_onUnit e h ?_
  repeat' (first
    | lift_lets -underBinder | with_reducible (first | assumption | apply quiet_bezelTick))

theorem quiet_execBezelLostDownFrame {s0 s t : State} {link : Nat} {lanes : List Nat} (h : Quiet s0 s) (e
    : execBezelLostDownFrame link lanes s = .next t) : Quiet s0 t := by
  delta execBezelLostDownFrame at e
  refine quiet_onUnit e h ?_
  repeat' (first
    | lift_lets -underBinder | (intro y; refine (fun (hy : Quiet s0 y.2) => ?_) ?_ <;> [clear_value y; dsimp -zeta only [y]])
    | (intro y; clear_value y)
    | with_reducible (first
      | assumption | apply quiet_updBezel | apply quiet_draw | apply quiet_bezelTest | apply quiet_bezelSend | apply quiet_ite))

theorem quiet_execFrameHeadArrive {s0 s t : State} {link : Nat} {head : Bytes} {rx : NetTime} (h : Quiet s0 s) (e
    : execFrameHeadArrive link head rx s = .next t) : Quiet s0 t := by
  delta execFrameHeadArrive at e
  split at e
  · cases e
  refine quiet_onUnit e h ?_
  repeat' (first
    | lift_lets -underBinder | with_reducible (first | assumption | apply quiet_headArrive))

theorem quiet_execFrameReceiveEnd {s0 s t : State} {link : Nat} {frame : List Bytes} {fcs : Nat} (h : Quiet s0 s) (e
    : execFrameReceiveEnd link frame fcs s = .next t) : Quiet s0 t := by
  delta execFrameReceiveEnd at e
  split at e
  · cases e
  refine quiet_onUnit e h ?_
  repeat' (first
    | lift_lets -underBinder | with_reducible (first | assumption | apply quiet_receiveEnd))

theorem quiet_execCrossbarCellTime {s0 s t : State} (h : Quiet s0 s) (e : execCrossbarCellTime s = .next t) : Quiet s0 t := by
  delta execCrossbarCellTime at e
  refine quiet_live e h ?_
  repeat' (first
    | lift_lets -underBinder | with_reducible (first | assumption | apply quiet_cellTime))

theorem quiet_execGateEntryBoundary {s0 s t : State} {link : Nat} (h : Quiet s0 s) (e : execGateEntryBoundary link s = .next t)
    : Quiet s0 t := by
  delta execGateEntryBoundary at e
  refine quiet_onUnit e h ?_
  repeat' (first
    | lift_lets -underBinder | with_reducible (first | assumption | apply quiet_updRlink))

theorem quiet_execGateListTakeEffect {s0 s t : State} {link : Nat} (h : Quiet s0 s) (e : execGateListTakeEffect link s = .next t)
    : Quiet s0 t := by
  delta execGateListTakeEffect at e
  refine quiet_onUnit e h ?_
  repeat' (first
    | lift_lets -underBinder | with_reducible (first | assumption | apply quiet_updRlink | apply quiet_ite) | split)

theorem quiet_execTcMatchTimeout {s0 s t : State} {port : Nat} (h : Quiet s0 s) (e : execTcMatchTimeout port s = .next t) : Quiet s0 t := by
  delta execTcMatchTimeout at e
  refine quiet_onUnit e h ?_
  repeat' (first
    | lift_lets -underBinder | (intro y; refine (fun (hy : Quiet s0 y) => ?_) ?_ <;> [clear_value y; dsimp -zeta only [y]])
    | (intro y; clear_value y)
    | with_reducible (first
      | assumption | apply quiet_tcLost | exact quiet_with ‹_› | refine quiet_each ?_ (fun a t ht => ?_)))

theorem quiet_execTcHoldTimeout {s0 s t : State} {frame : Nat} (h : Quiet s0 s) (e : execTcHoldTimeout frame s = .next t) : Quiet s0 t := by
  delta execTcHoldTimeout at e
  refine quiet_live e h ?_
  repeat' (first
    | lift_lets -underBinder | (intro y; refine (fun (hy : Quiet s0 y) => ?_) ?_ <;> [clear_value y; dsimp -zeta only [y]])
    | (intro y; clear_value y)
    | with_reducible (first
      | assumption | apply quiet_tcLost | exact quiet_with ‹_› | refine quiet_each ?_ (fun a t ht => ?_)))

theorem quiet_execEgressFrameStart {s0 s t : State} {link : Nat} (h : Quiet s0 s) (e : execEgressFrameStart link s = .next t)
    : Quiet s0 t := by
  delta execEgressFrameStart at e
  split at e
  · cases e
  refine quiet_onUnit e h ?_
  repeat' (first
    | lift_lets -underBinder | with_reducible (first | assumption | apply quiet_egressStart))

theorem quiet_execEgressFrameDone {s0 s t : State} {link : Nat} (h : Quiet s0 s) (e : execEgressFrameDone link s = .next t) : Quiet s0 t
    := by
  delta execEgressFrameDone at e
  split at e
  · cases e
  refine quiet_onUnit e h ?_
  repeat' (first
    | lift_lets -underBinder | with_reducible (first | assumption | apply quiet_egressDone))

theorem quiet_execPfcReceive {s0 s t : State} {link : Nat} {classes : Nat} {quanta : List Nat} (h : Quiet s0 s) (e
    : execPfcReceive link classes quanta s = .next t) : Quiet s0 t := by
  delta execPfcReceive at e
  refine quiet_onUnit e h ?_
  repeat' (first
    | lift_lets -underBinder | (intro y; clear_value y)
    | with_reducible (first | assumption | apply quiet_relayCount | apply quiet_updRlink | apply quiet_ite))

theorem quiet_execPauseExpiry {s0 s t : State} {link : Nat} {cls : Nat} (h : Quiet s0 s) (e : execPauseExpiry link cls s = .next t)
    : Quiet s0 t := by
  delta execPauseExpiry at e
  split at e
  · cases e
  refine quiet_onUnit e h ?_
  repeat' (first
    | lift_lets -underBinder | with_reducible (first | assumption | apply quiet_updRlink | apply quiet_ite) | split)

theorem quiet_execPfcRefresh {s0 s t : State} {link : Nat} (h : Quiet s0 s) (e : execPfcRefresh link s = .next t) : Quiet s0 t := by
  delta execPfcRefresh at e
  refine quiet_onUnit e h ?_
  repeat' (first
    | lift_lets -underBinder | with_reducible (first | assumption | apply quiet_pfcRefresh))

theorem quiet_execEthLinkDown {s0 s t : State} {link : Nat} (h : Quiet s0 s) (e : execEthLinkDown link s = .next t) : Quiet s0 t := by
  delta execEthLinkDown at e
  refine quiet_onUnit e h ?_
  repeat' (first
    | lift_lets -underBinder | with_reducible (first | assumption | apply quiet_ethDown))

theorem quiet_execEthLinkUp {s0 s t : State} {link : Nat} (h : Quiet s0 s) (e : execEthLinkUp link s = .next t) : Quiet s0 t := by
  delta execEthLinkUp at e
  refine quiet_onUnit e h ?_
  repeat' (first
    | lift_lets -underBinder
    | with_reducible (first
      | assumption | apply quiet_raiseEvent | apply quiet_flow | apply quiet_endCond | apply quiet_updRlink | apply quiet_ite))

theorem quiet_execClaspCreditReceive {s0 s t : State} {west : Bool} {unit : Bytes} (h : Quiet s0 s) (e
    : execClaspCreditReceive west unit s = .next t) : Quiet s0 t := by
  delta execClaspCreditReceive at e
  refine quiet_live e h ?_
  repeat' (first
    | lift_lets -underBinder | with_reducible (first | assumption | apply quiet_claspCredit))

theorem quiet_execHostTxFrame {s0 s t : State} {desc : Bytes} {data : Bytes} (h : Quiet s0 s) (e : execHostTxFrame desc data s = .next t)
    : Quiet s0 t := by
  delta execHostTxFrame at e
  refine quiet_live e h ?_
  repeat' (first
    | lift_lets -underBinder | with_reducible (first | assumption | apply quiet_hostTx))

theorem quiet_execHostRxDeliver {s0 s t : State} {desc : Bytes} (h : Quiet s0 s) (e : execHostRxDeliver desc s = .next t) : Quiet s0 t := by
  delta execHostRxDeliver at e
  refine quiet_live e h ?_
  repeat' (first
    | lift_lets -underBinder | with_reducible (first | assumption | apply quiet_hostRx))

theorem quiet_execRelayConfig {s0 s t : State} {req : Req} (h : Quiet s0 s) (e : execRelayConfig req s = .next t) : Quiet s0 t := by
  exact quiet_command e h (fun _ _ r h => quiet_cmdRelayConfig r h)

theorem quiet_execRelayPortConfig {s0 s t : State} {req : Req} (h : Quiet s0 s) (e : execRelayPortConfig req s = .next t) : Quiet s0 t := by
  exact quiet_command e h (fun _ _ r h => quiet_cmdRelayPortConfig r h)

theorem quiet_execRelayPortStatus {s0 s t : State} {req : Req} (h : Quiet s0 s) (e : execRelayPortStatus req s = .next t) : Quiet s0 t := by
  exact quiet_command e h (fun _ _ r h => quiet_cmdRelayPortStatus r h)

theorem quiet_execRelayFdbWrite {s0 s t : State} {req : Req} (h : Quiet s0 s) (e : execRelayFdbWrite req s = .next t) : Quiet s0 t := by
  exact quiet_command e h (fun _ _ r h => quiet_cmdRelayFdbWrite r h)

theorem quiet_execRelayFdbRead {s0 s t : State} {req : Req} (h : Quiet s0 s) (e : execRelayFdbRead req s = .next t) : Quiet s0 t := by
  exact quiet_command e h (fun _ _ r h => quiet_cmdRelayFdbRead r h)

theorem quiet_execRelayGroupWrite {s0 s t : State} {req : Req} (h : Quiet s0 s) (e : execRelayGroupWrite req s = .next t) : Quiet s0 t := by
  exact quiet_command e h (fun _ _ r h => quiet_cmdRelayGroupWrite r h)

theorem quiet_execRelayFence {s0 s t : State} {req : Req} (h : Quiet s0 s) (e : execRelayFence req s = .next t) : Quiet s0 t := by
  exact quiet_command e h (fun _ _ r h => quiet_cmdRelayFence r h)

theorem quiet_execFenceComplete {s0 s t : State} (h : Quiet s0 s) (e : execFenceComplete s = .next t) : Quiet s0 t := by
  delta execFenceComplete at e
  refine quiet_live e h ?_
  repeat' (first
    | lift_lets -underBinder | with_reducible (first | assumption | apply quiet_endFences | apply quiet_answerOk) | (intro b t ht))

theorem quiet_execFenceTimeout {s0 s t : State} (h : Quiet s0 s) (e : execFenceTimeout s = .next t) : Quiet s0 t := by
  delta execFenceTimeout at e
  refine quiet_live e h ?_
  repeat' (first
    | lift_lets -underBinder
    | with_reducible (first
      | assumption | apply quiet_endFences | apply quiet_answerOk | apply quiet_answer | apply quiet_ite)
    | (intro b t ht))

theorem quiet_execRelayGateLoad {s0 s t : State} {req : Req} (h : Quiet s0 s) (e : execRelayGateLoad req s = .next t) : Quiet s0 t := by
  exact quiet_command e h (fun _ _ r h => quiet_cmdRelayGateLoad r h)

theorem quiet_execRelayShaper {s0 s t : State} {req : Req} (h : Quiet s0 s) (e : execRelayShaper req s = .next t) : Quiet s0 t := by
  exact quiet_command e h (fun _ _ r h => quiet_cmdRelayShaper r h)

theorem quiet_execRelayMirror {s0 s t : State} {req : Req} (h : Quiet s0 s) (e : execRelayMirror req s = .next t) : Quiet s0 t := by
  exact quiet_command e h (fun _ _ r h => quiet_cmdRelayMirror r h)

theorem quiet_execRelayCounters {s0 s t : State} {req : Req} (h : Quiet s0 s) (e : execRelayCounters req s = .next t) : Quiet s0 t := by
  exact quiet_command e h (fun _ _ r h => quiet_cmdRelayCounters r h)

theorem quiet_execAnnounceTimer {s0 s t : State} (h : Quiet s0 s) (e : execAnnounceTimer s = .next t) : Quiet s0 t := by
  delta execAnnounceTimer at e
  refine quiet_live e h ?_
  repeat' (first
    | lift_lets -underBinder | (intro y; refine (fun (hy : Quiet s0 y) => ?_) ?_ <;> [clear_value y; dsimp -zeta only [y]])
    | (intro y; clear_value y) | with_reducible (first | assumption | apply quiet_announce | apply quiet_ite | exact quiet_with ‹_›))

theorem quiet_execHelloReceive {s0 s t : State} {link : Nat} {frame : Bytes} (h : Quiet s0 s) (e
    : execHelloReceive link frame s = .next t) : Quiet s0 t := by
  delta execHelloReceive at e
  refine quiet_onUnit e h ?_
  repeat' (first
    | lift_lets -underBinder | with_reducible (first | assumption | apply quiet_epReceive))

theorem quiet_execDemandReceive {s0 s t : State} {link : Nat} {frame : Bytes} (h : Quiet s0 s) (e
    : execDemandReceive link frame s = .next t) : Quiet s0 t := by
  delta execDemandReceive at e
  refine quiet_onUnit e h ?_
  repeat' (first
    | lift_lets -underBinder | with_reducible (first | assumption | apply quiet_epReceive))

theorem quiet_execEndpointLiveTimeout {s0 s t : State} {ep : Nat} (h : Quiet s0 s) (e : execEndpointLiveTimeout ep s = .next t)
    : Quiet s0 t := by
  delta execEndpointLiveTimeout at e
  refine quiet_onUnit e h ?_
  repeat' (first
    | lift_lets -underBinder | with_reducible (first | assumption | apply quiet_epLater | apply quiet_ite))

theorem quiet_execArpRequestReceive {s0 s t : State} {link : Nat} {frame : Bytes} (h : Quiet s0 s) (e
    : execArpRequestReceive link frame s = .next t) : Quiet s0 t := by
  delta execArpRequestReceive at e
  refine quiet_onUnit e h ?_
  repeat' (first
    | lift_lets -underBinder | with_reducible (first | assumption | apply quiet_arpReply))

theorem quiet_execEndpointAdmit {s0 s t : State} {req : Req} (h : Quiet s0 s) (e : execEndpointAdmit req s = .next t) : Quiet s0 t := by
  exact quiet_command e h (fun _ _ r h => quiet_cmdEndpointAdmit r h)

theorem quiet_execEndpointRead {s0 s t : State} {req : Req} (h : Quiet s0 s) (e : execEndpointRead req s = .next t) : Quiet s0 t := by
  exact quiet_command e h (fun _ _ r h => quiet_cmdEndpointRead r h)

theorem quiet_execEndpointEvict {s0 s t : State} {req : Req} (h : Quiet s0 s) (e : execEndpointEvict req s = .next t) : Quiet s0 t := by
  exact quiet_command e h (fun _ _ r h => quiet_cmdEndpointEvict r h)

theorem quiet_execEndpointCounters {s0 s t : State} {req : Req} (h : Quiet s0 s) (e : execEndpointCounters req s = .next t) : Quiet s0 t
    := by
  exact quiet_command e h (fun _ _ r h => quiet_cmdEndpointCounters r h)

theorem quiet_execSchedRegimeAt {s0 s t : State} {dplane : Nat} (h : Quiet s0 s) (e : execSchedRegimeAt dplane s = .next t) : Quiet s0 t
    := by
  delta execSchedRegimeAt at e
  refine quiet_onUnit e h ?_
  repeat' (first
    | lift_lets -underBinder | with_reducible (first | assumption | apply quiet_regimeDue))

theorem quiet_execFaultFirmwareReaction {s0 s t : State} (h : Quiet s0 s) (e : execFaultFirmwareReaction s = .next t) : Quiet s0 t := by
  delta execFaultFirmwareReaction at e
  refine quiet_live e h ?_
  repeat' (first
    | lift_lets -underBinder | with_reducible (first | assumption | apply quiet_runTasks))

theorem quiet_execChainLoad {s0 s t : State} {req : Req} (h : Quiet s0 s) (e : execChainLoad req s = .next t) : Quiet s0 t := by
  exact quiet_command e h (fun _ _ r h => quiet_cmdChainLoad r h)

theorem quiet_execChainStart {s0 s t : State} {req : Req} (h : Quiet s0 s) (e : execChainStart req s = .next t) : Quiet s0 t := by
  exact quiet_command e h (fun _ _ r h => quiet_cmdChainStart r h)

theorem quiet_execChainStop {s0 s t : State} {req : Req} (h : Quiet s0 s) (e : execChainStop req s = .next t) : Quiet s0 t := by
  exact quiet_command e h (fun _ _ r h => quiet_cmdChainStop r h)

theorem quiet_execChainUnload {s0 s t : State} {req : Req} (h : Quiet s0 s) (e : execChainUnload req s = .next t) : Quiet s0 t := by
  exact quiet_command e h (fun _ _ r h => quiet_cmdChainUnload r h)

theorem quiet_execChainRead {s0 s t : State} {req : Req} (h : Quiet s0 s) (e : execChainRead req s = .next t) : Quiet s0 t := by
  exact quiet_command e h (fun _ _ r h => quiet_cmdChainRead r h)

theorem quiet_execChainStatus {s0 s t : State} {req : Req} (h : Quiet s0 s) (e : execChainStatus req s = .next t) : Quiet s0 t := by
  exact quiet_command e h (fun _ _ r h => quiet_cmdChainStatus r h)

theorem quiet_execChainConfig {s0 s t : State} {req : Req} (h : Quiet s0 s) (e : execChainConfig req s = .next t) : Quiet s0 t := by
  exact quiet_command e h (fun _ _ r h => quiet_cmdChainConfig r h)

theorem quiet_execChainStepStage {s0 s t : State} {dplane : Nat} (h : Quiet s0 s) (e : execChainStepStage dplane s = .next t)
    : Quiet s0 t := by
  delta execChainStepStage at e
  refine quiet_onUnit e h ?_
  repeat' (first
    | lift_lets -underBinder | with_reducible (first | assumption | apply quiet_chainStage))

theorem quiet_execChainStartTime {s0 s t : State} {dplane : Nat} (h : Quiet s0 s) (e : execChainStartTime dplane s = .next t)
    : Quiet s0 t := by
  delta execChainStartTime at e
  refine quiet_onUnit e h ?_
  repeat' (first
    | lift_lets -underBinder | with_reducible (first | assumption | apply quiet_chainBegins))

theorem quiet_execChainStopBoundary {s0 s t : State} {dplane : Nat} (h : Quiet s0 s) (e : execChainStopBoundary dplane s = .next t)
    : Quiet s0 t := by
  delta execChainStopBoundary at e
  refine quiet_onUnit e h ?_
  repeat' (first
    | lift_lets -underBinder | with_reducible (first | assumption | apply quiet_chainStops))

theorem quiet_execChainEnd {s0 s t : State} {dplane : Nat} (h : Quiet s0 s) (e : execChainEnd dplane s = .next t) : Quiet s0 t := by
  delta execChainEnd at e
  refine quiet_onUnit e h ?_
  repeat' (first
    | lift_lets -underBinder | with_reducible (first | assumption | apply quiet_chainEnds))

theorem quiet_execFacetBuildDone {s0 s t : State} {plane : Nat} (h : Quiet s0 s) (e : execFacetBuildDone plane s = .next t) : Quiet s0 t
    := by
  delta execFacetBuildDone at e
  refine quiet_onUnit e h ?_
  repeat' (first
    | lift_lets -underBinder | with_reducible (first | assumption | apply quiet_buildDone))

theorem quiet_execMatchingComplete {s0 s t : State} (h : Quiet s0 s) (e : execMatchingComplete s = .next t) : Quiet s0 t := by
  delta execMatchingComplete at e
  refine quiet_live e h ?_
  repeat' (first
    | lift_lets -underBinder | with_reducible (first | assumption | apply quiet_completeMatch))

theorem quiet_execSlotCutoff {s0 s t : State} (h : Quiet s0 s) (e : execSlotCutoff s = .next t) : Quiet s0 t := by
  delta execSlotCutoff at e
  refine quiet_live e h ?_
  repeat' (first
    | lift_lets -underBinder | with_reducible (first | assumption | apply quiet_slotCutoff))

theorem quiet_execGrantMarginExpiry {s0 s t : State} {slot : Nat} (h : Quiet s0 s) (e : execGrantMarginExpiry slot s = .next t)
    : Quiet s0 t := by
  delta execGrantMarginExpiry at e
  refine quiet_live e h ?_
  repeat' (first
    | lift_lets -underBinder | with_reducible (first | assumption | apply quiet_sendGrants | apply quiet_ite) | split)

theorem quiet_execPipeLateDeadline {s0 s t : State} {dplane : Nat} {slot : Nat} (h : Quiet s0 s) (e
    : execPipeLateDeadline dplane slot s = .next t) : Quiet s0 t := by
  delta execPipeLateDeadline at e
  refine quiet_onUnit e h ?_
  repeat' (first
    | lift_lets -underBinder | with_reducible (first | assumption | apply quiet_pipeLate))

theorem quiet_execGrantSlotEnd {s0 s t : State} {slot : Nat} (h : Quiet s0 s) (e : execGrantSlotEnd slot s = .next t) : Quiet s0 t := by
  delta execGrantSlotEnd at e
  refine quiet_live e h ?_
  repeat' (first
    | lift_lets -underBinder | with_reducible (first | assumption | apply quiet_grantSlotEnd))

theorem quiet_execSchedSetRegime {s0 s t : State} {req : Req} (h : Quiet s0 s) (e : execSchedSetRegime req s = .next t) : Quiet s0 t := by
  exact quiet_command e h (fun _ _ r h => quiet_cmdSchedSetRegime r h)

theorem quiet_execSchedConfig {s0 s t : State} {req : Req} (h : Quiet s0 s) (e : execSchedConfig req s = .next t) : Quiet s0 t := by
  exact quiet_command e h (fun _ _ r h => quiet_cmdSchedConfig r h)

theorem quiet_execGridChangeAt {s0 s t : State} (h : Quiet s0 s) (e : execGridChangeAt s = .next t) : Quiet s0 t := by
  delta execGridChangeAt at e
  refine quiet_live e h ?_
  repeat' (first
    | lift_lets -underBinder | with_reducible (first | assumption | apply quiet_gridChange))

theorem quiet_execSchedClassConfig {s0 s t : State} {req : Req} (h : Quiet s0 s) (e : execSchedClassConfig req s = .next t) : Quiet s0 t
    := by
  exact quiet_command e h (fun _ _ r h => quiet_cmdSchedClassConfig r h)

theorem quiet_execSchedQueueConfig {s0 s t : State} {req : Req} (h : Quiet s0 s) (e : execSchedQueueConfig req s = .next t) : Quiet s0 t
    := by
  exact quiet_command e h (fun _ _ r h => quiet_cmdSchedQueueConfig r h)

theorem quiet_execSchedDemandRead {s0 s t : State} {req : Req} (h : Quiet s0 s) (e : execSchedDemandRead req s = .next t) : Quiet s0 t := by
  exact quiet_command e h (fun _ _ r h => quiet_cmdSchedDemandRead r h)

theorem quiet_execSchedPin {s0 s t : State} {req : Req} (h : Quiet s0 s) (e : execSchedPin req s = .next t) : Quiet s0 t := by
  exact quiet_command e h (fun _ _ r h => quiet_cmdSchedPin r h)

theorem quiet_execSchedRestore {s0 s t : State} {req : Req} (h : Quiet s0 s) (e : execSchedRestore req s = .next t) : Quiet s0 t := by
  exact quiet_command e h (fun _ _ r h => quiet_cmdSchedRestore r h)

theorem quiet_execSchedPlanePorts {s0 s t : State} {req : Req} (h : Quiet s0 s) (e : execSchedPlanePorts req s = .next t) : Quiet s0 t := by
  exact quiet_command e h (fun _ _ r h => quiet_cmdSchedPlanePorts r h)

theorem quiet_execSchedSampler {s0 s t : State} {req : Req} (h : Quiet s0 s) (e : execSchedSampler req s = .next t) : Quiet s0 t := by
  exact quiet_command e h (fun _ _ r h => quiet_cmdSchedSampler r h)

theorem quiet_execSamplerPass {s0 s t : State} (h : Quiet s0 s) (e : execSamplerPass s = .next t) : Quiet s0 t := by
  delta execSamplerPass at e
  refine quiet_live e h ?_
  repeat' (first
    | lift_lets -underBinder | with_reducible (first | assumption | apply quiet_samplerPass))

theorem quiet_execSchedStatus {s0 s t : State} {req : Req} (h : Quiet s0 s) (e : execSchedStatus req s = .next t) : Quiet s0 t := by
  exact quiet_command e h (fun _ _ r h => quiet_cmdSchedStatus r h)

theorem quiet_execEndpointConfig {s0 s t : State} {req : Req} (h : Quiet s0 s) (e : execEndpointConfig req s = .next t) : Quiet s0 t := by
  exact quiet_command e h (fun _ _ r h => quiet_cmdEndpointConfig r h)

theorem quiet_execFacetConfig {s0 s t : State} {req : Req} (h : Quiet s0 s) (e : execFacetConfig req s = .next t) : Quiet s0 t := by
  exact quiet_command e h (fun _ _ r h => quiet_cmdFacetConfig r h)

theorem quiet_execSlewDone {s0 s t : State} (h : Quiet s0 s) (e : execSlewDone s = .next t) : Quiet s0 t := by
  delta execSlewDone at e
  refine quiet_live e h ?_
  repeat' (first
    | lift_lets -underBinder | with_reducible (first | assumption | apply quiet_slewDone))

theorem quiet_execTimeStepApply {s0 s t : State} (h : Quiet s0 s) (e : execTimeStepApply s = .next t) : Quiet s0 t := by
  delta execTimeStepApply at e
  refine quiet_live e h ?_
  repeat' (first
    | lift_lets -underBinder | with_reducible (first | assumption | apply quiet_stepApply))

theorem quiet_execRealignDone {s0 s t : State} (h : Quiet s0 s) (e : execRealignDone s = .next t) : Quiet s0 t := by
  delta execRealignDone at e
  refine quiet_live e h ?_
  repeat' (first
    | lift_lets -underBinder | with_reducible (first | assumption | apply quiet_realignDone))

theorem quiet_execPtpMessageReceive {s0 s t : State} {link : Nat} {frame : Bytes} {rx : NetTime} (h : Quiet s0 s) (e
    : execPtpMessageReceive link frame rx s = .next t) : Quiet s0 t := by
  delta execPtpMessageReceive at e
  refine quiet_onUnit e h ?_
  repeat' (first
    | lift_lets -underBinder | with_reducible (first | assumption | apply quiet_ptpReceive))

theorem quiet_execPtpIntervalTimer {s0 s t : State} {kind : Nat} (h : Quiet s0 s) (e : execPtpIntervalTimer kind s = .next t)
    : Quiet s0 t := by
  delta execPtpIntervalTimer at e
  refine quiet_onUnit e h ?_
  repeat' (first
    | lift_lets -underBinder | with_reducible (first | assumption | apply quiet_ptpTimer))

theorem quiet_execTimeSourceLoss {s0 s t : State} (h : Quiet s0 s) (e : execTimeSourceLoss s = .next t) : Quiet s0 t := by
  delta execTimeSourceLoss at e
  refine quiet_live e h ?_
  repeat' (first
    | lift_lets -underBinder | with_reducible (first | assumption | apply quiet_sourceLoss))

theorem quiet_execToutEdge {s0 s t : State} {pin : Nat} (h : Quiet s0 s) (e : execToutEdge pin s = .next t) : Quiet s0 t := by
  delta execToutEdge at e
  refine quiet_onUnit e h ?_
  repeat' (first
    | lift_lets -underBinder | with_reducible (first | assumption | apply quiet_updTime))

theorem quiet_execTcapEdge {s0 s t : State} {input : Nat} {fall : Bool} {time : NetTime} (h : Quiet s0 s) (e
    : execTcapEdge input fall time s = .next t) : Quiet s0 t := by
  delta execTcapEdge at e
  refine quiet_onUnit e h ?_
  repeat' (first
    | lift_lets -underBinder | with_reducible (first | assumption | apply quiet_tcapEdge))

theorem quiet_execTimeConfig {s0 s t : State} {req : Req} (h : Quiet s0 s) (e : execTimeConfig req s = .next t) : Quiet s0 t := by
  exact quiet_command e h (fun _ _ r h => quiet_cmdTimeConfig r h)

theorem quiet_execTimeRead {s0 s t : State} {req : Req} (h : Quiet s0 s) (e : execTimeRead req s = .next t) : Quiet s0 t := by
  exact quiet_command e h (fun _ _ r h => quiet_cmdTimeRead r h)

theorem quiet_execTimeAdjust {s0 s t : State} {req : Req} (h : Quiet s0 s) (e : execTimeAdjust req s = .next t) : Quiet s0 t := by
  exact quiet_command e h (fun _ _ r h => quiet_cmdTimeAdjust r h)

theorem quiet_execTimeForceSet {s0 s t : State} {req : Req} (h : Quiet s0 s) (e : execTimeForceSet req s = .next t) : Quiet s0 t := by
  exact quiet_command e h (fun _ _ r h => quiet_cmdTimeForceSet r h)

theorem quiet_execTimePtpConfig {s0 s t : State} {req : Req} (h : Quiet s0 s) (e : execTimePtpConfig req s = .next t) : Quiet s0 t := by
  exact quiet_command e h (fun _ _ r h => quiet_cmdTimePtpConfig r h)

theorem quiet_execTimePtpStatus {s0 s t : State} {req : Req} (h : Quiet s0 s) (e : execTimePtpStatus req s = .next t) : Quiet s0 t := by
  exact quiet_command e h (fun _ _ r h => quiet_cmdTimePtpStatus r h)

theorem quiet_execTimeTxtsRead {s0 s t : State} {req : Req} (h : Quiet s0 s) (e : execTimeTxtsRead req s = .next t) : Quiet s0 t := by
  exact quiet_command e h (fun _ _ r h => quiet_cmdTimeTxtsRead r h)

theorem quiet_execTimeTcConfig {s0 s t : State} {req : Req} (h : Quiet s0 s) (e : execTimeTcConfig req s = .next t) : Quiet s0 t := by
  exact quiet_command e h (fun _ _ r h => quiet_cmdTimeTcConfig r h)

theorem quiet_execTimeTout {s0 s t : State} {req : Req} (h : Quiet s0 s) (e : execTimeTout req s = .next t) : Quiet s0 t := by
  exact quiet_command e h (fun _ _ r h => quiet_cmdTimeTout r h)

theorem quiet_execTimeTcapConfig {s0 s t : State} {req : Req} (h : Quiet s0 s) (e : execTimeTcapConfig req s = .next t) : Quiet s0 t := by
  exact quiet_command e h (fun _ _ r h => quiet_cmdTimeTcapConfig r h)

theorem quiet_execTimeTcapRead {s0 s t : State} {req : Req} (h : Quiet s0 s) (e : execTimeTcapRead req s = .next t) : Quiet s0 t := by
  exact quiet_command e h (fun _ _ r h => quiet_cmdTimeTcapRead r h)

theorem quiet_execDiscoverReceive {s0 s t : State} {west : Bool} {cells : List Bytes} (h : Quiet s0 s) (e
    : execDiscoverReceive west cells s = .next t) : Quiet s0 t := by
  delta execDiscoverReceive at e
  refine quiet_live e h ?_
  repeat' (first
    | lift_lets -underBinder | with_reducible (first | assumption | apply quiet_claspIn | apply quiet_discoverTake)
    | (intro a b t ht; try dsimp only))

theorem quiet_execDiscoveryComplete {s0 s t : State} (h : Quiet s0 s) (e : execDiscoveryComplete s = .next t) : Quiet s0 t := by
  delta execDiscoveryComplete at e
  refine quiet_live e h ?_
  repeat' (first
    | lift_lets -underBinder | with_reducible (first | assumption | apply quiet_discoveryComplete))

theorem quiet_execNumberReceive {s0 s t : State} {west : Bool} {cells : List Bytes} (h : Quiet s0 s) (e
    : execNumberReceive west cells s = .next t) : Quiet s0 t := by
  delta execNumberReceive at e
  refine quiet_live e h ?_
  repeat' (first
    | lift_lets -underBinder | with_reducible (first | assumption | apply quiet_arrive | apply quiet_numberTake) | (intro b t ht))

theorem quiet_execClaspLinkUp {s0 s t : State} {west : Bool} {sameName : Bool} (h : Quiet s0 s) (e
    : execClaspLinkUp west sameName s = .next t) : Quiet s0 t := by
  delta execClaspLinkUp at e
  refine quiet_live e h ?_
  repeat' (first
    | lift_lets -underBinder | with_reducible (first | assumption | apply quiet_claspLinkUp))

theorem quiet_execClaspLinkDown {s0 s t : State} {west : Bool} (h : Quiet s0 s) (e : execClaspLinkDown west s = .next t) : Quiet s0 t := by
  delta execClaspLinkDown at e
  refine quiet_live e h ?_
  repeat' (first
    | lift_lets -underBinder | with_reducible (first | assumption | apply quiet_claspLinkDown))

theorem quiet_execHeartbeatSend {s0 s t : State} (h : Quiet s0 s) (e : execHeartbeatSend s = .next t) : Quiet s0 t := by
  delta execHeartbeatSend at e
  refine quiet_live e h ?_
  repeat' (first
    | lift_lets -underBinder | with_reducible (first | assumption | apply quiet_heartbeatSend))

theorem quiet_execHeartbeatReceive {s0 s t : State} {west : Bool} {cells : List Bytes} (h : Quiet s0 s) (e
    : execHeartbeatReceive west cells s = .next t) : Quiet s0 t := by
  delta execHeartbeatReceive at e
  refine quiet_live e h ?_
  repeat' (first
    | lift_lets -underBinder | with_reducible (first | assumption | apply quiet_arrive | apply quiet_heartbeatTake) | (intro b t ht))

theorem quiet_execWorkerSilence {s0 s t : State} {dev : Nat} (h : Quiet s0 s) (e : execWorkerSilence dev s = .next t) : Quiet s0 t := by
  delta execWorkerSilence at e
  refine quiet_onUnit e h ?_
  repeat' (first
    | lift_lets -underBinder | with_reducible (first | assumption | apply quiet_workerSilence))

theorem quiet_execManagerSilence {s0 s t : State} (h : Quiet s0 s) (e : execManagerSilence s = .next t) : Quiet s0 t := by
  delta execManagerSilence at e
  refine quiet_live e h ?_
  repeat' (first
    | lift_lets -underBinder | with_reducible (first | assumption | apply quiet_managerSilence))

theorem quiet_execHoldoverEnd {s0 s t : State} (h : Quiet s0 s) (e : execHoldoverEnd s = .next t) : Quiet s0 t := by
  delta execHoldoverEnd at e
  refine quiet_live e h ?_
  repeat' (first
    | lift_lets -underBinder | with_reducible (first | assumption | apply quiet_holdoverEnd))

theorem quiet_execClaspTimeSend {s0 s t : State} (h : Quiet s0 s) (e : execClaspTimeSend s = .next t) : Quiet s0 t := by
  delta execClaspTimeSend at e
  refine quiet_live e h ?_
  repeat' (first
    | lift_lets -underBinder | with_reducible (first | assumption | apply quiet_claspTimeSend))

theorem quiet_execClaspTimeReceive {s0 s t : State} {west : Bool} {unit : Bytes} {rx : NetTime} (h : Quiet s0 s) (e
    : execClaspTimeReceive west unit rx s = .next t) : Quiet s0 t := by
  delta execClaspTimeReceive at e
  refine quiet_live e h ?_
  repeat' (first
    | lift_lets -underBinder | with_reducible (first | assumption | apply quiet_claspTimeReceive))

theorem quiet_execClaspTimeSilence {s0 s t : State} (h : Quiet s0 s) (e : execClaspTimeSilence s = .next t) : Quiet s0 t := by
  delta execClaspTimeSilence at e
  refine quiet_live e h ?_
  repeat' (first
    | lift_lets -underBinder | with_reducible (first | assumption | apply quiet_claspTimeSilence))

theorem quiet_execClaspAckReceive {s0 s t : State} {west : Bool} {cells : List Bytes} (h : Quiet s0 s) (e
    : execClaspAckReceive west cells s = .next t) : Quiet s0 t := by
  delta execClaspAckReceive at e
  refine quiet_live e h ?_
  repeat' (first
    | lift_lets -underBinder | with_reducible (first | assumption | apply quiet_arrive | apply quiet_ackTake) | (intro b t ht))

theorem quiet_execClaspResendTimeout {s0 s t : State} {dst : Nat} {seq : Nat} (h : Quiet s0 s) (e
    : execClaspResendTimeout dst seq s = .next t) : Quiet s0 t := by
  delta execClaspResendTimeout at e
  refine quiet_live e h ?_
  repeat' (first
    | lift_lets -underBinder | with_reducible (first | assumption | apply quiet_resend))

theorem quiet_execClaspDarkReceive {s0 s t : State} {west : Bool} {unit : Bytes} {errored : Bool} (h : Quiet s0 s) (e
    : execClaspDarkReceive west unit errored s = .next t) : Quiet s0 t := by
  delta execClaspDarkReceive at e
  refine quiet_live e h ?_
  repeat' (first
    | lift_lets -underBinder | with_reducible (first | assumption | apply quiet_claspDarkReceive))

theorem quiet_execDarkMemoryExpiry {s0 s t : State} {origin : Nat} {ident : Nat} (h : Quiet s0 s) (e
    : execDarkMemoryExpiry origin ident s = .next t) : Quiet s0 t := by
  delta execDarkMemoryExpiry at e
  refine quiet_live e h ?_
  repeat' (first
    | lift_lets -underBinder | with_reducible (first | assumption | apply quiet_updDom))

theorem quiet_execNoticeReceive {s0 s t : State} {west : Bool} {cells : List Bytes} (h : Quiet s0 s) (e
    : execNoticeReceive west cells s = .next t) : Quiet s0 t := by
  delta execNoticeReceive at e
  refine quiet_live e h ?_
  repeat' (first
    | lift_lets -underBinder | with_reducible (first | assumption | apply quiet_arrive | apply quiet_noticeTake) | (intro b t ht))

theorem quiet_execSchedCmdReceive {s0 s t : State} {west : Bool} {cells : List Bytes} (h : Quiet s0 s) (e
    : execSchedCmdReceive west cells s = .next t) : Quiet s0 t := by
  delta execSchedCmdReceive at e
  refine quiet_live e h ?_
  repeat' (first
    | lift_lets -underBinder | with_reducible (first | assumption | apply quiet_arrive | apply quiet_schedTake) | (intro b t ht))

theorem quiet_execFacetRecReceive {s0 s t : State} {west : Bool} {cells : List Bytes} (h : Quiet s0 s) (e
    : execFacetRecReceive west cells s = .next t) : Quiet s0 t := by
  delta execFacetRecReceive at e
  refine quiet_live e h ?_
  repeat' (first
    | lift_lets -underBinder | with_reducible (first | assumption | apply quiet_arrive | apply quiet_facetRec) | (intro b t ht))

theorem quiet_execFacetAckReceive {s0 s t : State} {west : Bool} {cells : List Bytes} (h : Quiet s0 s) (e
    : execFacetAckReceive west cells s = .next t) : Quiet s0 t := by
  delta execFacetAckReceive at e
  refine quiet_live e h ?_
  repeat' (first
    | lift_lets -underBinder | with_reducible (first | assumption | apply quiet_arrive | apply quiet_facetAck) | (intro b t ht))

theorem quiet_execEventMsgReceive {s0 s t : State} {west : Bool} {cells : List Bytes} (h : Quiet s0 s) (e
    : execEventMsgReceive west cells s = .next t) : Quiet s0 t := by
  delta execEventMsgReceive at e
  refine quiet_live e h ?_
  repeat' (first
    | lift_lets -underBinder | with_reducible (first | assumption | apply quiet_arrive | apply quiet_eventTake) | (intro b t ht))

theorem quiet_execDomainConfig {s0 s t : State} {req : Req} (h : Quiet s0 s) (e : execDomainConfig req s = .next t) : Quiet s0 t := by
  exact quiet_command e h (fun _ _ r h => quiet_cmdDomainConfig r h)

theorem quiet_execDomainStatus {s0 s t : State} {req : Req} (h : Quiet s0 s) (e : execDomainStatus req s = .next t) : Quiet s0 t := by
  exact quiet_command e h (fun _ _ r h => quiet_cmdDomainStatus r h)

theorem quiet_execDomainMembers {s0 s t : State} {req : Req} (h : Quiet s0 s) (e : execDomainMembers req s = .next t) : Quiet s0 t := by
  exact quiet_command e h (fun _ _ r h => quiet_cmdDomainMembers r h)

theorem quiet_execDomainMemberEdit {s0 s t : State} {req : Req} (h : Quiet s0 s) (e : execDomainMemberEdit req s = .next t) : Quiet s0 t
    := by
  exact quiet_command e h (fun _ _ r h => quiet_cmdDomainMemberEdit r h)

theorem quiet_execDomainSetRole {s0 s t : State} {req : Req} (h : Quiet s0 s) (e : execDomainSetRole req s = .next t) : Quiet s0 t := by
  exact quiet_command e h (fun _ _ r h => quiet_cmdDomainSetRole r h)

theorem quiet_execDomainEvents {s0 s t : State} {req : Req} (h : Quiet s0 s) (e : execDomainEvents req s = .next t) : Quiet s0 t := by
  exact quiet_command e h (fun _ _ r h => quiet_cmdDomainEvents r h)

theorem quiet_execDomainCounters {s0 s t : State} {req : Req} (h : Quiet s0 s) (e : execDomainCounters req s = .next t) : Quiet s0 t := by
  exact quiet_command e h (fun _ _ r h => quiet_cmdDomainCounters r h)

theorem quiet_execCalPhaseDone {s0 s t : State} {meas : CalMeas} (h : Quiet s0 s) (e : execCalPhaseDone meas s = .next t) : Quiet s0 t := by
  delta execCalPhaseDone at e
  refine quiet_live e h ?_
  repeat' (first
    | lift_lets -underBinder | with_reducible (first | assumption | apply quiet_calPhase))

theorem quiet_execCalRunDone {s0 s t : State} (h : Quiet s0 s) (e : execCalRunDone s = .next t) : Quiet s0 t := by
  delta execCalRunDone at e
  refine quiet_live e h ?_
  repeat' (first
    | lift_lets -underBinder | with_reducible (first | assumption | apply quiet_calRunDone))

theorem quiet_execCalBackgroundVisitDone {s0 s t : State} {acc : Stat} {integ : Int} (h : Quiet s0 s) (e
    : execCalBackgroundVisitDone acc integ s = .next t) : Quiet s0 t := by
  delta execCalBackgroundVisitDone at e
  refine quiet_live e h ?_
  repeat' (first
    | lift_lets -underBinder | with_reducible (first | assumption | apply quiet_visitDone))

theorem quiet_execCalCommission {s0 s t : State} {req : Req} (h : Quiet s0 s) (e : execCalCommission req s = .next t) : Quiet s0 t := by
  exact quiet_command e h (fun _ _ r h => quiet_cmdCalCommission r h)

theorem quiet_execCalBackground {s0 s t : State} {req : Req} (h : Quiet s0 s) (e : execCalBackground req s = .next t) : Quiet s0 t := by
  exact quiet_command e h (fun _ _ r h => quiet_cmdCalBackground r h)

theorem quiet_execCalStatus {s0 s t : State} {req : Req} (h : Quiet s0 s) (e : execCalStatus req s = .next t) : Quiet s0 t := by
  exact quiet_command e h (fun _ _ r h => quiet_cmdCalStatus r h)

theorem quiet_execCalRead {s0 s t : State} {req : Req} (h : Quiet s0 s) (e : execCalRead req s = .next t) : Quiet s0 t := by
  exact quiet_command e h (fun _ _ r h => quiet_cmdCalRead r h)

theorem quiet_execCalStore {s0 s t : State} {req : Req} (h : Quiet s0 s) (e : execCalStore req s = .next t) : Quiet s0 t := by
  exact quiet_command e h (fun _ _ r h => quiet_cmdCalStore r h)

theorem quiet_execCalSelect {s0 s t : State} {req : Req} (h : Quiet s0 s) (e : execCalSelect req s = .next t) : Quiet s0 t := by
  exact quiet_command e h (fun _ _ r h => quiet_cmdCalSelect r h)

theorem quiet_execCalRefTrim {s0 s t : State} {req : Req} (h : Quiet s0 s) (e : execCalRefTrim req s = .next t) : Quiet s0 t := by
  exact quiet_command e h (fun _ _ r h => quiet_cmdCalRefTrim r h)

theorem quiet_execLeaseRelease {s0 s t : State} {req : Req} (h : Quiet s0 s) (e : execLeaseRelease req s = .next t) : Quiet s0 t := by
  exact quiet_command e h (fun _ _ r h => quiet_cmdLeaseRelease r h)

theorem quiet_execLeaseExpiry {s0 s t : State} {id : Nat} (h : Quiet s0 s) (e : execLeaseExpiry id s = .next t) : Quiet s0 t := by
  delta execLeaseExpiry at e
  refine quiet_live e h ?_
  repeat' (first
    | lift_lets -underBinder | with_reducible (first | assumption | apply quiet_raiseEvent | apply quiet_leaseOver | apply quiet_ite)
    | split)

theorem quiet_execTestLanePattern {s0 s t : State} {req : Req} (h : Quiet s0 s) (e : execTestLanePattern req s = .next t) : Quiet s0 t := by
  exact quiet_command e h (fun _ _ r h => quiet_cmdTestLanePattern r h)

theorem quiet_execTestLaneCheck {s0 s t : State} {req : Req} (h : Quiet s0 s) (e : execTestLaneCheck req s = .next t) : Quiet s0 t := by
  exact quiet_command e h (fun _ _ r h => quiet_cmdTestLaneCheck r h)

theorem quiet_execTestLoopback {s0 s t : State} {req : Req} (h : Quiet s0 s) (e : execTestLoopback req s = .next t) : Quiet s0 t := by
  exact quiet_command e h (fun _ _ r h => quiet_cmdTestLoopback r h)

theorem quiet_execTestMarginScan {s0 s t : State} {req : Req} (h : Quiet s0 s) (e : execTestMarginScan req s = .next t) : Quiet s0 t := by
  exact quiet_command e h (fun _ _ r h => quiet_cmdTestMarginScan r h)

theorem quiet_execMarginPointDone {s0 s t : State} {lane : Nat} {errors : List Nat} (h : Quiet s0 s) (e
    : execMarginPointDone lane errors s = .next t) : Quiet s0 t := by
  delta execMarginPointDone at e
  refine quiet_onUnit e h ?_
  repeat' (first
    | lift_lets -underBinder | with_reducible (first | assumption | apply quiet_marginPoint))

theorem quiet_execCheckerLocked {s0 s t : State} {lane : Nat} (h : Quiet s0 s) (e : execCheckerLocked lane s = .next t) : Quiet s0 t := by
  delta execCheckerLocked at e
  refine quiet_onUnit e h ?_
  repeat' (first
    | lift_lets -underBinder | with_reducible (first | assumption | apply quiet_updLane | apply quiet_ite))

theorem quiet_execCheckerLockLoss {s0 s t : State} {lane : Nat} {bits : Nat} {errors : Nat} (h : Quiet s0 s) (e
    : execCheckerLockLoss lane bits errors s = .next t) : Quiet s0 t := by
  delta execCheckerLockLoss at e
  refine quiet_onUnit e h ?_
  repeat' (first
    | lift_lets -underBinder | with_reducible (first | assumption | apply quiet_updLane))

theorem quiet_execTestCounters {s0 s t : State} {req : Req} (h : Quiet s0 s) (e : execTestCounters req s = .next t) : Quiet s0 t := by
  exact quiet_command e h (fun _ _ r h => quiet_cmdTestCounters r h)

theorem quiet_execTestBist {s0 s t : State} {req : Req} (h : Quiet s0 s) (e : execTestBist req s = .next t) : Quiet s0 t := by
  exact quiet_command e h (fun _ _ r h => quiet_cmdTestBist r h)

theorem quiet_execBistDone {s0 s t : State} {target : Nat} {fails : Nat} {first : Nat} (h : Quiet s0 s) (e
    : execBistDone target fails first s = .next t) : Quiet s0 t := by
  delta execBistDone at e
  refine quiet_onUnit e h ?_
  repeat' (first
    | lift_lets -underBinder | (intro y; clear_value y)
    | with_reducible (first
      | assumption | apply quiet_raiseEvent | apply quiet_bistWipes | apply quiet_ite | exact quiet_with ‹_›))

theorem quiet_execJtagInstructionUpdate {s0 s t : State} {code : Nat} (h : Quiet s0 s) (e : execJtagInstructionUpdate code s = .next t)
    : Quiet s0 t := by
  delta execJtagInstructionUpdate at e
  refine quiet_live e h ?_
  repeat' (first
    | lift_lets -underBinder | with_reducible (first | assumption | apply quiet_jtagUpdate))

theorem quiet_execLoupeDirUpdate {s0 s t : State} (h : Quiet s0 s) (e : execLoupeDirUpdate s = .next t) : Quiet s0 t := by
  delta execLoupeDirUpdate at e
  refine quiet_live e h ?_
  repeat' (first
    | lift_lets -underBinder | with_reducible (first | assumption | apply quiet_dirUpdate))

theorem quiet_execTimeBaseDue {s0 s t : State} (h : Quiet s0 s) (e : execTimeBaseDue s = .next t) : Quiet s0 t := by
  delta execTimeBaseDue at e
  refine quiet_live e h ?_
  repeat' (first
    | lift_lets -underBinder | with_reducible (first | assumption | apply quiet_timeBases))

theorem quiet_execLoupeFreezeTrigger {s0 s t : State} {event : Option Nat} (h : Quiet s0 s) (e
    : execLoupeFreezeTrigger event s = .next t) : Quiet s0 t := by
  delta execLoupeFreezeTrigger at e
  refine quiet_live e h ?_
  repeat' (first
    | lift_lets -underBinder | with_reducible (first | assumption | apply quiet_freezeTrigger))

theorem quiet_execLoupeFreezeStop {s0 s t : State} (h : Quiet s0 s) (e : execLoupeFreezeStop s = .next t) : Quiet s0 t := by
  delta execLoupeFreezeStop at e
  refine quiet_live e h ?_
  repeat' (first
    | lift_lets -underBinder | with_reducible (first | assumption | apply quiet_freezeStop))

theorem quiet_execLoupeRingConfig {s0 s t : State} {req : Req} (h : Quiet s0 s) (e : execLoupeRingConfig req s = .next t) : Quiet s0 t := by
  exact quiet_command e h (fun _ _ r h => quiet_cmdLoupeRingConfig r h)

theorem quiet_execLoupeEnable {s0 s t : State} {req : Req} (h : Quiet s0 s) (e : execLoupeEnable req s = .next t) : Quiet s0 t := by
  exact quiet_command e h (fun _ _ r h => quiet_cmdLoupeEnable r h)

theorem quiet_execLoupeStatus {s0 s t : State} {req : Req} (h : Quiet s0 s) (e : execLoupeStatus req s = .next t) : Quiet s0 t := by
  exact quiet_command e h (fun _ _ r h => quiet_cmdLoupeStatus r h)

theorem quiet_execLoupeExport {s0 s t : State} {req : Req} (h : Quiet s0 s) (e : execLoupeExport req s = .next t) : Quiet s0 t := by
  exact quiet_command e h (fun _ _ r h => quiet_cmdLoupeExport r h)

theorem quiet_execLoupeFreeze {s0 s t : State} {req : Req} (h : Quiet s0 s) (e : execLoupeFreeze req s = .next t) : Quiet s0 t := by
  exact quiet_command e h (fun _ _ r h => quiet_cmdLoupeFreeze r h)

theorem quiet_execSnapStrobe {s0 s t : State} {bank : Nat} (h : Quiet s0 s) (e : execSnapStrobe bank s = .next t) : Quiet s0 t := by
  delta execSnapStrobe at e
  refine quiet_onUnit e h ?_
  repeat' (first
    | lift_lets -underBinder | with_reducible (first | assumption | apply quiet_snapStrobe))

theorem quiet_execSnapReceive {s0 s t : State} {west : Bool} {cells : List Bytes} (h : Quiet s0 s) (e
    : execSnapReceive west cells s = .next t) : Quiet s0 t := by
  delta execSnapReceive at e
  refine quiet_live e h ?_
  repeat' (first
    | lift_lets -underBinder | with_reducible (first | assumption | apply quiet_arrive | apply quiet_snapTake) | (intro b t ht))

theorem quiet_execSnapAt {s0 s t : State} {req : Req} (h : Quiet s0 s) (e : execSnapAt req s = .next t) : Quiet s0 t := by
  exact quiet_command e h (fun _ _ r h => quiet_cmdSnapAt r h)

theorem quiet_execSnapRead {s0 s t : State} {req : Req} (h : Quiet s0 s) (e : execSnapRead req s = .next t) : Quiet s0 t := by
  exact quiet_command e h (fun _ _ r h => quiet_cmdSnapRead r h)

theorem quiet_execSnapStatus {s0 s t : State} {req : Req} (h : Quiet s0 s) (e : execSnapStatus req s = .next t) : Quiet s0 t := by
  exact quiet_command e h (fun _ _ r h => quiet_cmdSnapStatus r h)

theorem quiet_execSnapRelease {s0 s t : State} {req : Req} (h : Quiet s0 s) (e : execSnapRelease req s = .next t) : Quiet s0 t := by
  exact quiet_command e h (fun _ _ r h => quiet_cmdSnapRelease r h)

theorem quiet_execPaceMonitorSample {s0 s t : State} {slack : List Int} (h : Quiet s0 s) (e : execPaceMonitorSample slack s = .next t)
    : Quiet s0 t := by
  delta execPaceMonitorSample at e
  refine quiet_live e h ?_
  repeat' (first
    | lift_lets -underBinder | with_reducible (first | assumption | apply quiet_paceSample))

theorem quiet_execAvsRaiseTimeout {s0 s t : State} (h : Quiet s0 s) (e : execAvsRaiseTimeout s = .next t) : Quiet s0 t := by
  delta execAvsRaiseTimeout at e
  refine quiet_live e h ?_
  repeat' (first
    | lift_lets -underBinder | (intro y; refine (fun (hy : Quiet s0 y) => ?_) ?_ <;> [clear_value y; dsimp -zeta only [y]])
    | (intro y; clear_value y)
    | with_reducible (first
      | assumption | apply quiet_raiseCond | apply quiet_refuseReq | apply quiet_emit | apply quiet_ite | exact quiet_with ‹_›
      | refine quiet_each ?_ (fun a t ht => ?_))
    | split)

theorem quiet_execAvsDownHoldExpiry {s0 s t : State} (h : Quiet s0 s) (e : execAvsDownHoldExpiry s = .next t) : Quiet s0 t := by
  delta execAvsDownHoldExpiry at e
  refine quiet_live e h ?_
  repeat' (first
    | lift_lets -underBinder | (intro y; clear_value y) | with_reducible (first | assumption | apply quiet_ite | exact quiet_with ‹_›)
    | split)

theorem quiet_execAvsLowerStep {s0 s t : State} {reported : Nat} {meas : Nat} (h : Quiet s0 s) (e
    : execAvsLowerStep reported meas s = .next t) : Quiet s0 t := by
  delta execAvsLowerStep at e
  refine quiet_live e h ?_
  repeat' (first
    | lift_lets -underBinder | with_reducible (first | assumption | apply quiet_lowerStep))

theorem quiet_execRailSample {s0 s t : State} {mv : List Nat} (h : Quiet s0 s) (e : execRailSample mv s = .next t) : Quiet s0 t := by
  delta execRailSample at e
  refine quiet_live e h ?_
  repeat' (first
    | lift_lets -underBinder | (intro y; refine (fun (hy : Quiet s0 y) => ?_) ?_ <;> [clear_value y; dsimp -zeta only [y]])
    | (intro y; clear_value y)
    | with_reducible (first
      | assumption | apply quiet_railSample | exact quiet_with ‹_› | refine quiet_each ?_ (fun a t ht => ?_)))

theorem quiet_execPowerEstimate {s0 s t : State} {dieMw : Nat} {hbmMw : Nat} (h : Quiet s0 s) (e
    : execPowerEstimate dieMw hbmMw s = .next t) : Quiet s0 t := by
  delta execPowerEstimate at e
  refine quiet_live e h ?_
  repeat' (first
    | lift_lets -underBinder | (intro y; clear_value y) | with_reducible exact quiet_with ‹_›)

theorem quiet_execPatrolScrub {s0 s t : State} {sram : Bool} {stack : Nat} {corrected : Bool} {uncorrectable : Bool} (h : Quiet s0 s) (e
    : execPatrolScrub sram stack corrected uncorrectable s = .next t) : Quiet s0 t := by
  delta execPatrolScrub at e
  split at e
  · cases e
  refine quiet_live e h ?_
  repeat' (first
    | lift_lets -underBinder | (intro y; refine (fun (hy : Quiet s0 y) => ?_) ?_ <;> [clear_value y; dsimp -zeta only [y]])
    | (intro y; clear_value y) | with_reducible (first | assumption | apply quiet_raiseFault | apply quiet_ite | exact quiet_with ‹_›))

theorem quiet_execRefclkLoss {s0 s t : State} (h : Quiet s0 s) (e : execRefclkLoss s = .next t) : Quiet s0 t := by
  delta execRefclkLoss at e
  refine quiet_live e h ?_
  repeat' (first
    | lift_lets -underBinder | (intro y; clear_value y) | with_reducible (first | apply quiet_raiseCond | exact quiet_with ‹_›))

theorem quiet_execRefclkReturn {s0 s t : State} (h : Quiet s0 s) (e : execRefclkReturn s = .next t) : Quiet s0 t := by
  delta execRefclkReturn at e
  refine quiet_live e h ?_
  repeat' (first
    | lift_lets -underBinder | (intro y; clear_value y) | with_reducible (first | apply quiet_endCond | exact quiet_with ‹_›))

theorem quiet_execDpllUnlock {s0 s t : State} (h : Quiet s0 s) (e : execDpllUnlock s = .next t) : Quiet s0 t := by
  delta execDpllUnlock at e
  refine quiet_live e h ?_
  repeat' (first
    | lift_lets -underBinder | (intro y; clear_value y) | with_reducible (first | apply quiet_raiseCond | exact quiet_with ‹_›))

theorem quiet_execDpllRelock {s0 s t : State} (h : Quiet s0 s) (e : execDpllRelock s = .next t) : Quiet s0 t := by
  delta execDpllRelock at e
  refine quiet_live e h ?_
  repeat' (first
    | lift_lets -underBinder | (intro y; clear_value y) | with_reducible (first | apply quiet_endCond | exact quiet_with ‹_›))

theorem quiet_execBrownOut {s0 s t : State} (h : Quiet s0 s) (e : execBrownOut s = .next t) : Quiet s0 t := by
  delta execBrownOut at e
  refine quiet_live e h ?_
  repeat' (first
    | lift_lets -underBinder | with_reducible (first | assumption | apply quiet_scanLow | refine quiet_each ?_ (fun a t ht => ?_)))

theorem quiet_execTempSensorUpdate {s0 s t : State} {sensor : Nat} {reading : Int} (h : Quiet s0 s) (e
    : execTempSensorUpdate sensor reading s = .next t) : Quiet s0 t := by
  delta execTempSensorUpdate at e
  refine quiet_onUnit e h ?_
  repeat' (first
    | lift_lets -underBinder | (intro y; refine (fun (hy : Quiet s0 y) => ?_) ?_ <;> [clear_value y; dsimp -zeta only [y]])
    | with_reducible (first
      | assumption | apply quiet_updSensor | apply quiet_thresholds | apply quiet_crossCheck | apply quiet_sensorCheck))

theorem quiet_execSensorRecover {s0 s t : State} {sensor : Nat} (h : Quiet s0 s) (e : execSensorRecover sensor s = .next t) : Quiet s0 t
    := by
  delta execSensorRecover at e
  refine quiet_onUnit e h ?_
  repeat' (first
    | lift_lets -underBinder
    | with_reducible (first
      | assumption | apply quiet_thresholds | apply quiet_crossCheck | apply quiet_updSensor | apply quiet_ite)
    | split)

theorem quiet_execAnalogueTripRelease {s0 s t : State} (h : Quiet s0 s) (e : execAnalogueTripRelease s = .next t) : Quiet s0 t := by
  delta execAnalogueTripRelease at e
  obtain rfl := quiet_inj e
  repeat' (first
    | lift_lets -underBinder | (intro (y : Pins); dsimp -zeta only [y]; clear y) | (intro y; clear_value y)
    | with_reducible exact quiet_mk (Quiet.dark ‹_›) (Quiet.light ‹_›) (Quiet.queue ‹_›) (Quiet.mem ‹_›) (Quiet.mail ‹_›))

theorem quiet_execSmbTempDie {s0 s t : State} (h : Quiet s0 s) (e : execSmbTempDie s = .next t) : Quiet s0 t := by
  delta execSmbTempDie at e
  exact quiet_smbRead e h

theorem quiet_execSmbTempHbm {s0 s t : State} (h : Quiet s0 s) (e : execSmbTempHbm s = .next t) : Quiet s0 t := by
  delta execSmbTempHbm at e
  exact quiet_smbRead e h

theorem quiet_execTempCompTick {s0 s t : State} (h : Quiet s0 s) (e : execTempCompTick s = .next t) : Quiet s0 t := by
  delta execTempCompTick at e
  refine quiet_live e h ?_
  repeat' (first
    | lift_lets -underBinder
    | with_reducible (first
      | assumption | apply quiet_driveVref | apply quiet_compTick | refine quiet_each ?_ (fun a t ht => ?_)))

theorem quiet_execPlaneTempTick {s0 s t : State} {plane : Nat} (h : Quiet s0 s) (e : execPlaneTempTick plane s = .next t) : Quiet s0 t := by
  delta execPlaneTempTick at e
  refine quiet_onUnit e h ?_
  repeat' (first
    | lift_lets -underBinder | with_reducible (first | assumption | apply quiet_planeTempTick))

theorem quiet_execPlaneTempSettled {s0 s t : State} {plane : Nat} (h : Quiet s0 s) (e : execPlaneTempSettled plane s = .next t)
    : Quiet s0 t := by
  delta execPlaneTempSettled at e
  refine quiet_onUnit e h ?_
  repeat' (first
    | lift_lets -underBinder | (intro y; refine (fun (hy : Quiet s0 y) => ?_) ?_ <;> [clear_value y; dsimp -zeta only [y]])
    | with_reducible (first
      | assumption | apply quiet_updPtemp | apply quiet_raiseEvent | apply quiet_warmCheck | apply quiet_reState | apply quiet_updPlane
      | apply quiet_ite)
    | split)

theorem quiet_execPlaneTempSaturated {s0 s t : State} {plane : Nat} (h : Quiet s0 s) (e : execPlaneTempSaturated plane s = .next t)
    : Quiet s0 t := by
  delta execPlaneTempSaturated at e
  refine quiet_onUnit e h ?_
  repeat' (first
    | lift_lets -underBinder | with_reducible (first | assumption | apply quiet_raiseEvent | apply quiet_updPtemp | apply quiet_ite)
    | split)

theorem quiet_execPowerStatus {s0 s t : State} {req : Req} (h : Quiet s0 s) (e : execPowerStatus req s = .next t) : Quiet s0 t := by
  exact quiet_command e h (fun _ _ r h => quiet_cmdPowerStatus r h)

theorem quiet_execPowerAvsConfig {s0 s t : State} {req : Req} (h : Quiet s0 s) (e : execPowerAvsConfig req s = .next t) : Quiet s0 t := by
  exact quiet_command e h (fun _ _ r h => quiet_cmdPowerAvsConfig r h)

theorem quiet_execPowerMode {s0 s t : State} {req : Req} (h : Quiet s0 s) (e : execPowerMode req s = .next t) : Quiet s0 t := by
  exact quiet_command e h (fun _ _ r h => quiet_cmdPowerMode r h)

theorem quiet_execPowerTemps {s0 s t : State} {req : Req} (h : Quiet s0 s) (e : execPowerTemps req s = .next t) : Quiet s0 t := by
  exact quiet_command e h (fun _ _ r h => quiet_cmdPowerTemps r h)

theorem quiet_execPowerPlaneTemp {s0 s t : State} {req : Req} (h : Quiet s0 s) (e : execPowerPlaneTemp req s = .next t) : Quiet s0 t := by
  exact quiet_command e h (fun _ _ r h => quiet_cmdPowerPlaneTemp r h)

theorem quiet_execPlaneMapRead {s0 s t : State} {req : Req} (h : Quiet s0 s) (e : execPlaneMapRead req s = .next t) : Quiet s0 t := by
  exact quiet_command e h (fun _ _ r h => quiet_cmdPlaneMapRead r h)

theorem quiet_execPlaneMapLoad {s0 s t : State} {req : Req} (h : Quiet s0 s) (e : execPlaneMapLoad req s = .next t) : Quiet s0 t := by
  exact quiet_command e h (fun _ _ r h => quiet_cmdPlaneMapLoad r h)

theorem quiet_execBootImageVerify {s0 s t : State} (h : Quiet s0 s) (e : execBootImageVerify s = .next t) : Quiet s0 t := by
  delta execBootImageVerify at e
  refine quiet_live e h ?_
  repeat' (first
    | lift_lets -underBinder | (intro y; clear_value y)
    | with_reducible (first | assumption | apply quiet_bootBank | apply quiet_enterRecovery | apply quiet_ite))

theorem quiet_execNvmWriteDone {s0 s t : State} {ok : Bool} (h : Quiet s0 s) (e : execNvmWriteDone ok s = .next t) : Quiet s0 t := by
  delta execNvmWriteDone at e
  refine quiet_live e h ?_
  repeat' (first
    | lift_lets -underBinder | (intro y; clear_value y)
    | with_reducible (first | assumption | apply quiet_writeDone | exact quiet_with ‹_›) | split)

theorem quiet_execSecAttest {s0 s t : State} {req : Req} (h : Quiet s0 s) (e : execSecAttest req s = .next t) : Quiet s0 t := by
  exact quiet_command e h (fun _ _ r h => quiet_cmdSecAttest r h)

theorem quiet_execSecCertRead {s0 s t : State} {req : Req} (h : Quiet s0 s) (e : execSecCertRead req s = .next t) : Quiet s0 t := by
  exact quiet_command e h (fun _ _ r h => quiet_cmdSecCertRead r h)

theorem quiet_execSecFwUpdate {s0 s t : State} {req : Req} (h : Quiet s0 s) (e : execSecFwUpdate req s = .next t) : Quiet s0 t := by
  exact quiet_command e h (fun _ _ r h => quiet_cmdSecFwUpdate r h)

theorem quiet_execSecFwSelect {s0 s t : State} {req : Req} (h : Quiet s0 s) (e : execSecFwSelect req s = .next t) : Quiet s0 t := by
  exact quiet_command e h (fun _ _ r h => quiet_cmdSecFwSelect r h)

theorem quiet_execSecOwnerSet {s0 s t : State} {req : Req} (h : Quiet s0 s) (e : execSecOwnerSet req s = .next t) : Quiet s0 t := by
  exact quiet_command e h (fun _ _ r h => quiet_cmdSecOwnerSet r h)

theorem quiet_execSecLifecycle {s0 s t : State} {req : Req} (h : Quiet s0 s) (e : execSecLifecycle req s = .next t) : Quiet s0 t := by
  exact quiet_command e h (fun _ _ r h => quiet_cmdSecLifecycle r h)

theorem quiet_execSecFactoryToken {s0 s t : State} {req : Req} (h : Quiet s0 s) (e : execSecFactoryToken req s = .next t) : Quiet s0 t := by
  exact quiet_command e h (fun _ _ r h => quiet_cmdSecFactoryToken r h)

theorem quiet_execPorstRelease {s0 s t : State} {role : Nat} (h : Quiet s0 s) (e : execPorstRelease role s = .next t) : Quiet s0 t := by
  delta execPorstRelease at e
  obtain rfl := quiet_inj e
  repeat' (first
    | lift_lets -underBinder | (intro y; clear_value y) | with_reducible (first | assumption | apply quiet_ite | exact quiet_with ‹_›))

theorem quiet_execBootComplete {s0 s t : State} {bist : List Nat} (h : Quiet s0 s) (e : execBootComplete bist s = .next t) : Quiet s0 t
    := by
  delta execBootComplete at e
  refine quiet_live e h ?_
  repeat' (first
    | lift_lets -underBinder | with_reducible (first | assumption | apply quiet_bootComplete))

theorem quiet_execLinkingComplete {s0 s t : State} (h : Quiet s0 s) (e : execLinkingComplete s = .next t) : Quiet s0 t := by
  delta execLinkingComplete at e
  refine quiet_live e h ?_
  repeat' (first
    | lift_lets -underBinder | with_reducible (first | assumption | apply quiet_linkingComplete))

theorem quiet_execRampComplete {s0 s t : State} {plane : Nat} (h : Quiet s0 s) (e : execRampComplete plane s = .next t) : Quiet s0 t := by
  delta execRampComplete at e
  refine quiet_onUnit e h ?_
  repeat' (first
    | lift_lets -underBinder | with_reducible (first | assumption | apply quiet_rampComplete))

theorem quiet_execWarmHoldExpiry {s0 s t : State} {plane : Nat} (h : Quiet s0 s) (e : execWarmHoldExpiry plane s = .next t) : Quiet s0 t
    := by
  delta execWarmHoldExpiry at e
  refine quiet_onUnit e h ?_
  repeat' (first
    | lift_lets -underBinder | with_reducible (first | assumption | apply quiet_warmCheck | apply quiet_updPlane | apply quiet_ite))

theorem quiet_execSysWarmTimeout {s0 s t : State} {plane : Nat} (h : Quiet s0 s) (e : execSysWarmTimeout plane s = .next t) : Quiet s0 t
    := by
  delta execSysWarmTimeout at e
  refine quiet_onUnit e h ?_
  repeat' (first
    | lift_lets -underBinder
    | with_reducible (first
      | assumption | apply quiet_warmCheck | apply quiet_updPlane | apply quiet_raiseEvent | apply quiet_ite))

theorem quiet_execFwWdogExpiry {s0 s t : State} (h : Quiet s0 s) (e : execFwWdogExpiry s = .next t) : Quiet s0 t := by
  delta execFwWdogExpiry at e
  refine quiet_live e h ?_
  repeat' (first
    | lift_lets -underBinder | with_reducible (first | assumption | apply quiet_fwWdogExpiry))

theorem quiet_execPerstAssert {s0 s t : State} (h : Quiet s0 s) (e : execPerstAssert s = .next t) : Quiet s0 t := by
  delta execPerstAssert at e
  refine quiet_live e h ?_
  repeat' (first
    | lift_lets -underBinder | with_reducible (first | assumption | apply quiet_functionReset))

theorem quiet_execFunctionLevelReset {s0 s t : State} (h : Quiet s0 s) (e : execFunctionLevelReset s = .next t) : Quiet s0 t := by
  delta execFunctionLevelReset at e
  refine quiet_live e h ?_
  repeat' (first
    | lift_lets -underBinder | with_reducible (first | assumption | apply quiet_functionReset))

theorem quiet_execShutdownRampDone {s0 s t : State} (h : Quiet s0 s) (e : execShutdownRampDone s = .next t) : Quiet s0 t := by
  delta execShutdownRampDone at e
  refine quiet_live e h ?_
  repeat' (first
    | lift_lets -underBinder | with_reducible (first | assumption | apply quiet_shutdownDone))

theorem quiet_execSysInfo {s0 s t : State} {req : Req} (h : Quiet s0 s) (e : execSysInfo req s = .next t) : Quiet s0 t := by
  exact quiet_command e h (fun _ _ r h => quiet_cmdSysInfo r h)

theorem quiet_execSysReset {s0 s t : State} {req : Req} (h : Quiet s0 s) (e : execSysReset req s = .next t) : Quiet s0 t := by
  exact quiet_command e h (fun _ _ r h => quiet_cmdSysReset r h)

theorem quiet_execSysShutdown {s0 s t : State} {req : Req} (h : Quiet s0 s) (e : execSysShutdown req s = .next t) : Quiet s0 t := by
  exact quiet_command e h (fun _ _ r h => quiet_cmdSysShutdown r h)

theorem quiet_execSysEventLog {s0 s t : State} {req : Req} (h : Quiet s0 s) (e : execSysEventLog req s = .next t) : Quiet s0 t := by
  exact quiet_command e h (fun _ _ r h => quiet_cmdSysEventLog r h)

theorem quiet_execSysEcho {s0 s t : State} {req : Req} (h : Quiet s0 s) (e : execSysEcho req s = .next t) : Quiet s0 t := by
  exact quiet_command e h (fun _ _ r h => quiet_cmdSysEcho r h)

theorem quiet_execCapWalk {s0 s t : State} {req : Req} (h : Quiet s0 s) (e : execCapWalk req s = .next t) : Quiet s0 t := by
  exact quiet_command e h (fun _ _ r h => quiet_cmdCapWalk r h)

theorem quiet_execCommandStart {s0 s t : State} {dma : Bytes} {dmaIn : Bytes} (h : Quiet s0 s) (e
    : execCommandStart dma dmaIn s = .next t) : Quiet s0 t := by
  delta execCommandStart at e
  refine quiet_live e h ?_
  repeat' (first
    | lift_lets -underBinder | with_reducible (first | assumption | apply quiet_commandStart))

theorem quiet_execAvsPoll {s0 s t : State} {reported : Nat} {meas : Nat} (h : Quiet s0 s) (e : execAvsPoll reported meas s = .next t)
    : Quiet s0 t := by
  delta execAvsPoll at e
  refine quiet_live e h ?_
  repeat' (first
    | lift_lets -underBinder | with_reducible (first | assumption | apply quiet_avsPoll))

theorem quiet_execTunnelReqReceive {s0 s t : State} {west : Bool} {cells : List Bytes} (h : Quiet s0 s) (e
    : execTunnelReqReceive west cells s = .next t) : Quiet s0 t := by
  delta execTunnelReqReceive at e
  refine quiet_live e h ?_
  repeat' (first
    | lift_lets -underBinder | with_reducible (first | assumption | apply quiet_arrive | apply quiet_tunnelReqTake) | (intro b t ht))

theorem quiet_execTunnelRspReceive {s0 s t : State} {west : Bool} {cells : List Bytes} (h : Quiet s0 s) (e
    : execTunnelRspReceive west cells s = .next t) : Quiet s0 t := by
  delta execTunnelRspReceive at e
  refine quiet_live e h ?_
  repeat' (first
    | lift_lets -underBinder | with_reducible (first | assumption | apply quiet_arrive | apply quiet_tunnelRspTake) | (intro b t ht))

theorem quiet_execTunnelTimeout {s0 s t : State} {tag : Nat} (h : Quiet s0 s) (e : execTunnelTimeout tag s = .next t) : Quiet s0 t := by
  delta execTunnelTimeout at e
  refine quiet_live e h ?_
  repeat' (first
    | lift_lets -underBinder | with_reducible (first | assumption | apply quiet_tunnelTimeout))

/-- The rows whose effect is more than quiet. -/
def Instr.quietRow : Instr → Prop
  | .porstAssert => False
  | .lightEnRise _ => False
  | .emergencyDark _ => False
  | .emergencyRelease _ => False
  | .registerWrite _ _ _ _ => False
  | .powerUp => False
  | _ => True

theorem quiet_exec {i : Instr} {s t : State} (hi : Instr.quietRow i) (e : exec i s = .next t) : Quiet s t := by
  cases i with
  | porstAssert => exact (hi).elim
  | porstRelease role => exact quiet_execPorstRelease (quiet_refl s) (show execPorstRelease role s = .next t from e)
  | perstAssert => exact quiet_execPerstAssert (quiet_refl s) (show execPerstAssert s = .next t from e)
  | functionLevelReset => exact quiet_execFunctionLevelReset (quiet_refl s) (show execFunctionLevelReset s = .next t from e)
  | testModeChange level => exact quiet_execTestModeChange (quiet_refl s) (show execTestModeChange level s = .next t from e)
  | brownOut => exact quiet_execBrownOut (quiet_refl s) (show execBrownOut s = .next t from e)
  | railSample mv => exact quiet_execRailSample (quiet_refl s) (show execRailSample mv s = .next t from e)
  | refclkLoss => exact quiet_execRefclkLoss (quiet_refl s) (show execRefclkLoss s = .next t from e)
  | dpllUnlock => exact quiet_execDpllUnlock (quiet_refl s) (show execDpllUnlock s = .next t from e)
  | analogueThermtrip => exact quiet_execAnalogueThermtrip (quiet_refl s) (show execAnalogueThermtrip s = .next t from e)
  | bootImageVerify => exact quiet_execBootImageVerify (quiet_refl s) (show execBootImageVerify s = .next t from e)
  | bootComplete bist => exact quiet_execBootComplete (quiet_refl s) (show execBootComplete bist s = .next t from e)
  | linkingComplete => exact quiet_execLinkingComplete (quiet_refl s) (show execLinkingComplete s = .next t from e)
  | warmHoldExpiry plane => exact quiet_execWarmHoldExpiry (quiet_refl s) (show execWarmHoldExpiry plane s = .next t from e)
  | sysWarmTimeout plane => exact quiet_execSysWarmTimeout (quiet_refl s) (show execSysWarmTimeout plane s = .next t from e)
  | shutdownRampDone => exact quiet_execShutdownRampDone (quiet_refl s) (show execShutdownRampDone s = .next t from e)
  | fwHeartbeatTick => exact quiet_execFwHeartbeatTick (quiet_refl s) (show execFwHeartbeatTick s = .next t from e)
  | timeMirrorUpdate => exact quiet_execTimeMirrorUpdate (quiet_refl s) (show execTimeMirrorUpdate s = .next t from e)
  | modulatorTick => exact quiet_execModulatorTick (quiet_refl s) (show execModulatorTick s = .next t from e)
  | upFrameCheck link lane3 lane4 => exact quiet_execUpFrameCheck (quiet_refl s) (show execUpFrameCheck link lane3 lane4 s = .next t from e)
  | heaterStatusPoll link => exact quiet_execHeaterStatusPoll (quiet_refl s) (show execHeaterStatusPoll link s = .next t from e)
  | bzRstHoldExpiry link => exact quiet_execBzRstHoldExpiry (quiet_refl s) (show execBzRstHoldExpiry link s = .next t from e)
  | upLaneLock link lane => exact quiet_execUpLaneLock (quiet_refl s) (show execUpLaneLock link lane s = .next t from e)
  | bezelResponse link resp => exact quiet_execBezelResponse (quiet_refl s) (show execBezelResponse link resp s = .next t from e)
  | bezelCmdRetry link tag => exact quiet_execBezelCmdRetry (quiet_refl s) (show execBezelCmdRetry link tag s = .next t from e)
  | trainTimeout link => exact quiet_execTrainTimeout (quiet_refl s) (show execTrainTimeout link s = .next t from e)
  | relockTimeout link => exact quiet_execRelockTimeout (quiet_refl s) (show execRelockTimeout link s = .next t from e)
  | lightEnRise link => exact (hi).elim
  | bezelApplyTick link lane0 lane1 lane2 env =>
    exact quiet_execBezelApplyTick (quiet_refl s)
      (show execBezelApplyTick link lane0 lane1 lane2 env s = .next t from e)
  | bezelCommandComplete link ohm =>
    exact quiet_execBezelCommandComplete (quiet_refl s)
      (show execBezelCommandComplete link ohm s = .next t from e)
  | bezelLostDownFrame link lanes =>
    exact quiet_execBezelLostDownFrame (quiet_refl s)
      (show execBezelLostDownFrame link lanes s = .next t from e)
  | bezelHoldExit link => exact quiet_execBezelHoldExit (quiet_refl s) (show execBezelHoldExit link s = .next t from e)
  | bezelLightEnFall link => exact quiet_execBezelLightEnFall (quiet_refl s) (show execBezelLightEnFall link s = .next t from e)
  | bezelLightEnQualify link => exact quiet_execBezelLightEnQualify (quiet_refl s) (show execBezelLightEnQualify link s = .next t from e)
  | bezelReset link => exact quiet_execBezelReset (quiet_refl s) (show execBezelReset link s = .next t from e)
  | bezelSupplyLoss link => exact quiet_execBezelSupplyLoss (quiet_refl s) (show execBezelSupplyLoss link s = .next t from e)
  | bezelSupplyRecover link => exact quiet_execBezelSupplyRecover (quiet_refl s) (show execBezelSupplyRecover link s = .next t from e)
  | updateTick plane => exact quiet_execUpdateTick (quiet_refl s) (show execUpdateTick plane s = .next t from e)
  | preEmphasisEnd ch => exact quiet_execPreEmphasisEnd (quiet_refl s) (show execPreEmphasisEnd ch s = .next t from e)
  | rampComplete plane => exact quiet_execRampComplete (quiet_refl s) (show execRampComplete plane s = .next t from e)
  | rangeRampDownDone ch => exact quiet_execRangeRampDownDone (quiet_refl s) (show execRangeRampDownDone ch s = .next t from e)
  | rangeSegApplied ch => exact quiet_execRangeSegApplied (quiet_refl s) (show execRangeSegApplied ch s = .next t from e)
  | rangeChangeDone ch => exact quiet_execRangeChangeDone (quiet_refl s) (show execRangeChangeDone ch s = .next t from e)
  | readbackStart link modulator => exact quiet_execReadbackStart (quiet_refl s) (show execReadbackStart link modulator s = .next t from e)
  | readbackComplete link modulator =>
    exact quiet_execReadbackComplete (quiet_refl s)
      (show execReadbackComplete link modulator s = .next t from e)
  | sampleDeliver mon => exact quiet_execSampleDeliver (quiet_refl s) (show execSampleDeliver mon s = .next t from e)
  | filterSwitch mon => exact quiet_execFilterSwitch (quiet_refl s) (show execFilterSwitch mon s = .next t from e)
  | launchFastLead plane launch => exact quiet_execLaunchFastLead (quiet_refl s) (show execLaunchFastLead plane launch s = .next t from e)
  | refWarmupDone link => exact quiet_execRefWarmupDone (quiet_refl s) (show execRefWarmupDone link s = .next t from e)
  | accBlockDone mon => exact quiet_execAccBlockDone (quiet_refl s) (show execAccBlockDone mon s = .next t from e)
  | bankSwapAt ctx => exact quiet_execBankSwapAt (quiet_refl s) (show execBankSwapAt ctx s = .next t from e)
  | loopPaceOverrun ctx => exact quiet_execLoopPaceOverrun (quiet_refl s) (show execLoopPaceOverrun ctx s = .next t from e)
  | loopSampleStarved ctx => exact quiet_execLoopSampleStarved (quiet_refl s) (show execLoopSampleStarved ctx s = .next t from e)
  | injectionStart ctx => exact quiet_execInjectionStart (quiet_refl s) (show execInjectionStart ctx s = .next t from e)
  | captureDone ctx => exact quiet_execCaptureDone (quiet_refl s) (show execCaptureDone ctx s = .next t from e)
  | facetBuildDone plane => exact quiet_execFacetBuildDone (quiet_refl s) (show execFacetBuildDone plane s = .next t from e)
  | launchTime plane launch => exact quiet_execLaunchTime (quiet_refl s) (show execLaunchTime plane launch s = .next t from e)
  | settleTimeout plane cell => exact quiet_execSettleTimeout (quiet_refl s) (show execSettleTimeout plane cell s = .next t from e)
  | verifyTimeout plane port => exact quiet_execVerifyTimeout (quiet_refl s) (show execVerifyTimeout plane port s = .next t from e)
  | learnRead plane => exact quiet_execLearnRead (quiet_refl s) (show execLearnRead plane s = .next t from e)
  | learnFoldWrite plane => exact quiet_execLearnFoldWrite (quiet_refl s) (show execLearnFoldWrite plane s = .next t from e)
  | chainStepStage dplane => exact quiet_execChainStepStage (quiet_refl s) (show execChainStepStage dplane s = .next t from e)
  | chainStartTime dplane => exact quiet_execChainStartTime (quiet_refl s) (show execChainStartTime dplane s = .next t from e)
  | chainStopBoundary dplane => exact quiet_execChainStopBoundary (quiet_refl s) (show execChainStopBoundary dplane s = .next t from e)
  | chainEnd dplane => exact quiet_execChainEnd (quiet_refl s) (show execChainEnd dplane s = .next t from e)
  | schedRegimeAt dplane => exact quiet_execSchedRegimeAt (quiet_refl s) (show execSchedRegimeAt dplane s = .next t from e)
  | gridChangeAt => exact quiet_execGridChangeAt (quiet_refl s) (show execGridChangeAt s = .next t from e)
  | slotCutoff => exact quiet_execSlotCutoff (quiet_refl s) (show execSlotCutoff s = .next t from e)
  | matchingComplete => exact quiet_execMatchingComplete (quiet_refl s) (show execMatchingComplete s = .next t from e)
  | facetRecReceive west cells => exact quiet_execFacetRecReceive (quiet_refl s) (show execFacetRecReceive west cells s = .next t from e)
  | facetAckReceive west cells => exact quiet_execFacetAckReceive (quiet_refl s) (show execFacetAckReceive west cells s = .next t from e)
  | grantMarginExpiry slot => exact quiet_execGrantMarginExpiry (quiet_refl s) (show execGrantMarginExpiry slot s = .next t from e)
  | pipeLateDeadline dplane slot =>
    exact quiet_execPipeLateDeadline (quiet_refl s)
      (show execPipeLateDeadline dplane slot s = .next t from e)
  | grantSlotEnd slot => exact quiet_execGrantSlotEnd (quiet_refl s) (show execGrantSlotEnd slot s = .next t from e)
  | samplerPass => exact quiet_execSamplerPass (quiet_refl s) (show execSamplerPass s = .next t from e)
  | helloReceive link frame => exact quiet_execHelloReceive (quiet_refl s) (show execHelloReceive link frame s = .next t from e)
  | demandReceive link frame => exact quiet_execDemandReceive (quiet_refl s) (show execDemandReceive link frame s = .next t from e)
  | arpRequestReceive link frame =>
    exact quiet_execArpRequestReceive (quiet_refl s)
      (show execArpRequestReceive link frame s = .next t from e)
  | endpointLiveTimeout ep => exact quiet_execEndpointLiveTimeout (quiet_refl s) (show execEndpointLiveTimeout ep s = .next t from e)
  | announceTimer => exact quiet_execAnnounceTimer (quiet_refl s) (show execAnnounceTimer s = .next t from e)
  | ptpMessageReceive link frame rx =>
    exact quiet_execPtpMessageReceive (quiet_refl s)
      (show execPtpMessageReceive link frame rx s = .next t from e)
  | ptpIntervalTimer kind => exact quiet_execPtpIntervalTimer (quiet_refl s) (show execPtpIntervalTimer kind s = .next t from e)
  | slewDone => exact quiet_execSlewDone (quiet_refl s) (show execSlewDone s = .next t from e)
  | timeSourceLoss => exact quiet_execTimeSourceLoss (quiet_refl s) (show execTimeSourceLoss s = .next t from e)
  | timeStepApply => exact quiet_execTimeStepApply (quiet_refl s) (show execTimeStepApply s = .next t from e)
  | realignDone => exact quiet_execRealignDone (quiet_refl s) (show execRealignDone s = .next t from e)
  | claspTimeSend => exact quiet_execClaspTimeSend (quiet_refl s) (show execClaspTimeSend s = .next t from e)
  | claspTimeReceive west unit rx =>
    exact quiet_execClaspTimeReceive (quiet_refl s)
      (show execClaspTimeReceive west unit rx s = .next t from e)
  | claspTimeSilence => exact quiet_execClaspTimeSilence (quiet_refl s) (show execClaspTimeSilence s = .next t from e)
  | tcMatchTimeout port => exact quiet_execTcMatchTimeout (quiet_refl s) (show execTcMatchTimeout port s = .next t from e)
  | tcHoldTimeout frame => exact quiet_execTcHoldTimeout (quiet_refl s) (show execTcHoldTimeout frame s = .next t from e)
  | toutEdge pin => exact quiet_execToutEdge (quiet_refl s) (show execToutEdge pin s = .next t from e)
  | tcapEdge input fall time => exact quiet_execTcapEdge (quiet_refl s) (show execTcapEdge input fall time s = .next t from e)
  | frameHeadArrive link head rx =>
    exact quiet_execFrameHeadArrive (quiet_refl s)
      (show execFrameHeadArrive link head rx s = .next t from e)
  | frameReceiveEnd link frame fcs =>
    exact quiet_execFrameReceiveEnd (quiet_refl s)
      (show execFrameReceiveEnd link frame fcs s = .next t from e)
  | crossbarCellTime => exact quiet_execCrossbarCellTime (quiet_refl s) (show execCrossbarCellTime s = .next t from e)
  | egressFrameStart link => exact quiet_execEgressFrameStart (quiet_refl s) (show execEgressFrameStart link s = .next t from e)
  | egressFrameDone link => exact quiet_execEgressFrameDone (quiet_refl s) (show execEgressFrameDone link s = .next t from e)
  | pfcReceive link classes quanta => exact quiet_execPfcReceive (quiet_refl s) (show execPfcReceive link classes quanta s = .next t from e)
  | pauseExpiry link cls => exact quiet_execPauseExpiry (quiet_refl s) (show execPauseExpiry link cls s = .next t from e)
  | pfcRefresh link => exact quiet_execPfcRefresh (quiet_refl s) (show execPfcRefresh link s = .next t from e)
  | ethLinkDown link => exact quiet_execEthLinkDown (quiet_refl s) (show execEthLinkDown link s = .next t from e)
  | ethLinkUp link => exact quiet_execEthLinkUp (quiet_refl s) (show execEthLinkUp link s = .next t from e)
  | gateEntryBoundary link => exact quiet_execGateEntryBoundary (quiet_refl s) (show execGateEntryBoundary link s = .next t from e)
  | gateListTakeEffect link => exact quiet_execGateListTakeEffect (quiet_refl s) (show execGateListTakeEffect link s = .next t from e)
  | fenceComplete => exact quiet_execFenceComplete (quiet_refl s) (show execFenceComplete s = .next t from e)
  | fenceTimeout => exact quiet_execFenceTimeout (quiet_refl s) (show execFenceTimeout s = .next t from e)
  | bufferTransfer pool addr src dst =>
    exact quiet_execBufferTransfer (quiet_refl s)
      (show execBufferTransfer pool addr src dst s = .next t from e)
  | hostTxFrame desc data => exact quiet_execHostTxFrame (quiet_refl s) (show execHostTxFrame desc data s = .next t from e)
  | hostRxDeliver desc => exact quiet_execHostRxDeliver (quiet_refl s) (show execHostRxDeliver desc s = .next t from e)
  | claspLinkUp west sameName => exact quiet_execClaspLinkUp (quiet_refl s) (show execClaspLinkUp west sameName s = .next t from e)
  | claspLinkDown west => exact quiet_execClaspLinkDown (quiet_refl s) (show execClaspLinkDown west s = .next t from e)
  | claspCreditReceive west unit =>
    exact quiet_execClaspCreditReceive (quiet_refl s)
      (show execClaspCreditReceive west unit s = .next t from e)
  | heartbeatSend => exact quiet_execHeartbeatSend (quiet_refl s) (show execHeartbeatSend s = .next t from e)
  | heartbeatReceive west cells => exact quiet_execHeartbeatReceive (quiet_refl s) (show execHeartbeatReceive west cells s = .next t from e)
  | workerSilence dev => exact quiet_execWorkerSilence (quiet_refl s) (show execWorkerSilence dev s = .next t from e)
  | managerSilence => exact quiet_execManagerSilence (quiet_refl s) (show execManagerSilence s = .next t from e)
  | holdoverEnd => exact quiet_execHoldoverEnd (quiet_refl s) (show execHoldoverEnd s = .next t from e)
  | discoverReceive west cells => exact quiet_execDiscoverReceive (quiet_refl s) (show execDiscoverReceive west cells s = .next t from e)
  | numberReceive west cells => exact quiet_execNumberReceive (quiet_refl s) (show execNumberReceive west cells s = .next t from e)
  | claspAckReceive west cells => exact quiet_execClaspAckReceive (quiet_refl s) (show execClaspAckReceive west cells s = .next t from e)
  | claspResendTimeout dst seq => exact quiet_execClaspResendTimeout (quiet_refl s) (show execClaspResendTimeout dst seq s = .next t from e)
  | noticeReceive west cells => exact quiet_execNoticeReceive (quiet_refl s) (show execNoticeReceive west cells s = .next t from e)
  | schedCmdReceive west cells => exact quiet_execSchedCmdReceive (quiet_refl s) (show execSchedCmdReceive west cells s = .next t from e)
  | snapReceive west cells => exact quiet_execSnapReceive (quiet_refl s) (show execSnapReceive west cells s = .next t from e)
  | eventMsgReceive west cells => exact quiet_execEventMsgReceive (quiet_refl s) (show execEventMsgReceive west cells s = .next t from e)
  | tunnelReqReceive west cells => exact quiet_execTunnelReqReceive (quiet_refl s) (show execTunnelReqReceive west cells s = .next t from e)
  | tunnelRspReceive west cells => exact quiet_execTunnelRspReceive (quiet_refl s) (show execTunnelRspReceive west cells s = .next t from e)
  | tunnelTimeout tag => exact quiet_execTunnelTimeout (quiet_refl s) (show execTunnelTimeout tag s = .next t from e)
  | claspDarkReceive west unit errored =>
    exact quiet_execClaspDarkReceive (quiet_refl s)
      (show execClaspDarkReceive west unit errored s = .next t from e)
  | darkMemoryExpiry origin ident =>
    exact quiet_execDarkMemoryExpiry (quiet_refl s)
      (show execDarkMemoryExpiry origin ident s = .next t from e)
  | commandStart dma dmaIn => exact quiet_execCommandStart (quiet_refl s) (show execCommandStart dma dmaIn s = .next t from e)
  | faultFirmwareReaction => exact quiet_execFaultFirmwareReaction (quiet_refl s) (show execFaultFirmwareReaction s = .next t from e)
  | fwWdogExpiry => exact quiet_execFwWdogExpiry (quiet_refl s) (show execFwWdogExpiry s = .next t from e)
  | hostWdogExpiry => exact quiet_execHostWdogExpiry (quiet_refl s) (show execHostWdogExpiry s = .next t from e)
  | injectHoldExpiry event => exact quiet_execInjectHoldExpiry (quiet_refl s) (show execInjectHoldExpiry event s = .next t from e)
  | calPhaseDone meas => exact quiet_execCalPhaseDone (quiet_refl s) (show execCalPhaseDone meas s = .next t from e)
  | calRunDone => exact quiet_execCalRunDone (quiet_refl s) (show execCalRunDone s = .next t from e)
  | calBackgroundVisitDone acc integ =>
    exact quiet_execCalBackgroundVisitDone (quiet_refl s)
      (show execCalBackgroundVisitDone acc integ s = .next t from e)
  | nvmWriteDone ok => exact quiet_execNvmWriteDone (quiet_refl s) (show execNvmWriteDone ok s = .next t from e)
  | marginPointDone lane errors => exact quiet_execMarginPointDone (quiet_refl s) (show execMarginPointDone lane errors s = .next t from e)
  | bistDone target fails first => exact quiet_execBistDone (quiet_refl s) (show execBistDone target fails first s = .next t from e)
  | jtagInstructionUpdate code =>
    exact quiet_execJtagInstructionUpdate (quiet_refl s)
      (show execJtagInstructionUpdate code s = .next t from e)
  | loupeDirUpdate => exact quiet_execLoupeDirUpdate (quiet_refl s) (show execLoupeDirUpdate s = .next t from e)
  | timeBaseDue => exact quiet_execTimeBaseDue (quiet_refl s) (show execTimeBaseDue s = .next t from e)
  | loupeFreezeTrigger event => exact quiet_execLoupeFreezeTrigger (quiet_refl s) (show execLoupeFreezeTrigger event s = .next t from e)
  | loupeFreezeStop => exact quiet_execLoupeFreezeStop (quiet_refl s) (show execLoupeFreezeStop s = .next t from e)
  | snapStrobe bank => exact quiet_execSnapStrobe (quiet_refl s) (show execSnapStrobe bank s = .next t from e)
  | leaseExpiry id => exact quiet_execLeaseExpiry (quiet_refl s) (show execLeaseExpiry id s = .next t from e)
  | paceMonitorSample slack => exact quiet_execPaceMonitorSample (quiet_refl s) (show execPaceMonitorSample slack s = .next t from e)
  | avsPoll reported meas => exact quiet_execAvsPoll (quiet_refl s) (show execAvsPoll reported meas s = .next t from e)
  | avsRaiseTimeout => exact quiet_execAvsRaiseTimeout (quiet_refl s) (show execAvsRaiseTimeout s = .next t from e)
  | avsDownHoldExpiry => exact quiet_execAvsDownHoldExpiry (quiet_refl s) (show execAvsDownHoldExpiry s = .next t from e)
  | avsLowerStep reported meas => exact quiet_execAvsLowerStep (quiet_refl s) (show execAvsLowerStep reported meas s = .next t from e)
  | powerEstimate dieMw hbmMw => exact quiet_execPowerEstimate (quiet_refl s) (show execPowerEstimate dieMw hbmMw s = .next t from e)
  | tempSensorUpdate sensor reading =>
    exact quiet_execTempSensorUpdate (quiet_refl s)
      (show execTempSensorUpdate sensor reading s = .next t from e)
  | sensorRecover sensor => exact quiet_execSensorRecover (quiet_refl s) (show execSensorRecover sensor s = .next t from e)
  | tempCompTick => exact quiet_execTempCompTick (quiet_refl s) (show execTempCompTick s = .next t from e)
  | planeTempTick plane => exact quiet_execPlaneTempTick (quiet_refl s) (show execPlaneTempTick plane s = .next t from e)
  | planeTempSettled plane => exact quiet_execPlaneTempSettled (quiet_refl s) (show execPlaneTempSettled plane s = .next t from e)
  | planeTempSaturated plane => exact quiet_execPlaneTempSaturated (quiet_refl s) (show execPlaneTempSaturated plane s = .next t from e)
  | patrolScrub sram stack corrected uncorrectable =>
    exact quiet_execPatrolScrub (quiet_refl s)
      (show execPatrolScrub sram stack corrected uncorrectable s = .next t from e)
  | emergencyDark value => exact (hi).elim
  | emergencyRelease value => exact (hi).elim
  | wdogTimeoutWrite value => exact quiet_execWdogTimeoutWrite (quiet_refl s) (show execWdogTimeoutWrite value s = .next t from e)
  | wdogKick value => exact quiet_execWdogKick (quiet_refl s) (show execWdogKick value s = .next t from e)
  | mailboxRing mbox value => exact quiet_execMailboxRing (quiet_refl s) (show execMailboxRing mbox value s = .next t from e)
  | requestAreaWrite mbox offset value =>
    exact quiet_execRequestAreaWrite (quiet_refl s)
      (show execRequestAreaWrite mbox offset value s = .next t from e)
  | pendingClear word value raised =>
    exact quiet_execPendingClear (quiet_refl s)
      (show execPendingClear word value raised s = .next t from e)
  | irqEnWrite value => exact quiet_execIrqEnWrite (quiet_refl s) (show execIrqEnWrite value s = .next t from e)
  | eventMaskWrite word value => exact quiet_execEventMaskWrite (quiet_refl s) (show execEventMaskWrite word value s = .next t from e)
  | eventVectorWrite word value => exact quiet_execEventVectorWrite (quiet_refl s) (show execEventVectorWrite word value s = .next t from e)
  | txTailWrite value => exact quiet_execTxTailWrite (quiet_refl s) (show execTxTailWrite value s = .next t from e)
  | rxTailWrite value => exact quiet_execRxTailWrite (quiet_refl s) (show execRxTailWrite value s = .next t from e)
  | registerWrite space offset size value => exact (hi).elim
  | smbState => exact quiet_execSmbState (quiet_refl s) (show execSmbState s = .next t from e)
  | smbMaxSev => exact quiet_execSmbMaxSev (quiet_refl s) (show execSmbMaxSev s = .next t from e)
  | smbLightEn => exact quiet_execSmbLightEn (quiet_refl s) (show execSmbLightEn s = .next t from e)
  | smbPlaneDark => exact quiet_execSmbPlaneDark (quiet_refl s) (show execSmbPlaneDark s = .next t from e)
  | smbTempDie => exact quiet_execSmbTempDie (quiet_refl s) (show execSmbTempDie s = .next t from e)
  | smbTempHbm => exact quiet_execSmbTempHbm (quiet_refl s) (show execSmbTempHbm s = .next t from e)
  | smbVcoreMv => exact quiet_execSmbVcoreMv (quiet_refl s) (show execSmbVcoreMv s = .next t from e)
  | smbDiePowerW => exact quiet_execSmbDiePowerW (quiet_refl s) (show execSmbDiePowerW s = .next t from e)
  | smbIdentity => exact quiet_execSmbIdentity (quiet_refl s) (show execSmbIdentity s = .next t from e)
  | smbAlertResponse => exact quiet_execSmbAlertResponse (quiet_refl s) (show execSmbAlertResponse s = .next t from e)
  | smbUnknown code => exact quiet_execSmbUnknown (quiet_refl s) (show execSmbUnknown code s = .next t from e)
  | sysInfo req => exact quiet_execSysInfo (quiet_refl s) (show execSysInfo req s = .next t from e)
  | sysReset req => exact quiet_execSysReset (quiet_refl s) (show execSysReset req s = .next t from e)
  | sysShutdown req => exact quiet_execSysShutdown (quiet_refl s) (show execSysShutdown req s = .next t from e)
  | sysEventLog req => exact quiet_execSysEventLog (quiet_refl s) (show execSysEventLog req s = .next t from e)
  | sysEcho req => exact quiet_execSysEcho (quiet_refl s) (show execSysEcho req s = .next t from e)
  | capWalk req => exact quiet_execCapWalk (quiet_refl s) (show execCapWalk req s = .next t from e)
  | planeMapRead req => exact quiet_execPlaneMapRead (quiet_refl s) (show execPlaneMapRead req s = .next t from e)
  | planeMapLoad req => exact quiet_execPlaneMapLoad (quiet_refl s) (show execPlaneMapLoad req s = .next t from e)
  | linkStatus req => exact quiet_execLinkStatus (quiet_refl s) (show execLinkStatus req s = .next t from e)
  | linkRetrain req => exact quiet_execLinkRetrain (quiet_refl s) (show execLinkRetrain req s = .next t from e)
  | linkBezelCmd req => exact quiet_execLinkBezelCmd (quiet_refl s) (show execLinkBezelCmd req s = .next t from e)
  | driveSetTarget req => exact quiet_execDriveSetTarget (quiet_refl s) (show execDriveSetTarget req s = .next t from e)
  | driveReadState req => exact quiet_execDriveReadState (quiet_refl s) (show execDriveReadState req s = .next t from e)
  | driveSetSlew req => exact quiet_execDriveSetSlew (quiet_refl s) (show execDriveSetSlew req s = .next t from e)
  | driveSetTick req => exact quiet_execDriveSetTick (quiet_refl s) (show execDriveSetTick req s = .next t from e)
  | driveSetRange req => exact quiet_execDriveSetRange (quiet_refl s) (show execDriveSetRange req s = .next t from e)
  | driveParkLoad req => exact quiet_execDriveParkLoad (quiet_refl s) (show execDriveParkLoad req s = .next t from e)
  | driveParkRead req => exact quiet_execDriveParkRead (quiet_refl s) (show execDriveParkRead req s = .next t from e)
  | driveRamp req => exact quiet_execDriveRamp (quiet_refl s) (show execDriveRamp req s = .next t from e)
  | driveReadback req => exact quiet_execDriveReadback (quiet_refl s) (show execDriveReadback req s = .next t from e)
  | driveSetReadback req => exact quiet_execDriveSetReadback (quiet_refl s) (show execDriveSetReadback req s = .next t from e)
  | driveSetLinkLead req => exact quiet_execDriveSetLinkLead (quiet_refl s) (show execDriveSetLinkLead req s = .next t from e)
  | driveCounters req => exact quiet_execDriveCounters (quiet_refl s) (show execDriveCounters req s = .next t from e)
  | senseRefEnable req => exact quiet_execSenseRefEnable (quiet_refl s) (show execSenseRefEnable req s = .next t from e)
  | senseSetChannel req => exact quiet_execSenseSetChannel (quiet_refl s) (show execSenseSetChannel req s = .next t from e)
  | senseAccConfig req => exact quiet_execSenseAccConfig (quiet_refl s) (show execSenseAccConfig req s = .next t from e)
  | senseAccRead req => exact quiet_execSenseAccRead (quiet_refl s) (show execSenseAccRead req s = .next t from e)
  | senseMinmaxRead req => exact quiet_execSenseMinmaxRead (quiet_refl s) (show execSenseMinmaxRead req s = .next t from e)
  | senseStatus req => exact quiet_execSenseStatus (quiet_refl s) (show execSenseStatus req s = .next t from e)
  | loopSetRegime req => exact quiet_execLoopSetRegime (quiet_refl s) (show execLoopSetRegime req s = .next t from e)
  | loopSetGains req => exact quiet_execLoopSetGains (quiet_refl s) (show execLoopSetGains req s = .next t from e)
  | loopSwapBank req => exact quiet_execLoopSwapBank (quiet_refl s) (show execLoopSwapBank req s = .next t from e)
  | loopSetSetpoint req => exact quiet_execLoopSetSetpoint (quiet_refl s) (show execLoopSetSetpoint req s = .next t from e)
  | loopSetLimits req => exact quiet_execLoopSetLimits (quiet_refl s) (show execLoopSetLimits req s = .next t from e)
  | loopReadState req => exact quiet_execLoopReadState (quiet_refl s) (show execLoopReadState req s = .next t from e)
  | loopTableLoad req => exact quiet_execLoopTableLoad (quiet_refl s) (show execLoopTableLoad req s = .next t from e)
  | loopTableRead req => exact quiet_execLoopTableRead (quiet_refl s) (show execLoopTableRead req s = .next t from e)
  | loopInject req => exact quiet_execLoopInject (quiet_refl s) (show execLoopInject req s = .next t from e)
  | loopCapture req => exact quiet_execLoopCapture (quiet_refl s) (show execLoopCapture req s = .next t from e)
  | loopCaptureRead req => exact quiet_execLoopCaptureRead (quiet_refl s) (show execLoopCaptureRead req s = .next t from e)
  | loopCounters req => exact quiet_execLoopCounters (quiet_refl s) (show execLoopCounters req s = .next t from e)
  | facetDefine req => exact quiet_execFacetDefine (quiet_refl s) (show execFacetDefine req s = .next t from e)
  | facetLookup req => exact quiet_execFacetLookup (quiet_refl s) (show execFacetLookup req s = .next t from e)
  | facetRead req => exact quiet_execFacetRead (quiet_refl s) (show execFacetRead req s = .next t from e)
  | facetWrite req => exact quiet_execFacetWrite (quiet_refl s) (show execFacetWrite req s = .next t from e)
  | facetLaunch req => exact quiet_execFacetLaunch (quiet_refl s) (show execFacetLaunch req s = .next t from e)
  | facetCancel req => exact quiet_execFacetCancel (quiet_refl s) (show execFacetCancel req s = .next t from e)
  | facetReport req => exact quiet_execFacetReport (quiet_refl s) (show execFacetReport req s = .next t from e)
  | facetConfig req => exact quiet_execFacetConfig (quiet_refl s) (show execFacetConfig req s = .next t from e)
  | facetPin req => exact quiet_execFacetPin (quiet_refl s) (show execFacetPin req s = .next t from e)
  | facetRoute req => exact quiet_execFacetRoute (quiet_refl s) (show execFacetRoute req s = .next t from e)
  | facetStatus req => exact quiet_execFacetStatus (quiet_refl s) (show execFacetStatus req s = .next t from e)
  | chainLoad req => exact quiet_execChainLoad (quiet_refl s) (show execChainLoad req s = .next t from e)
  | chainStart req => exact quiet_execChainStart (quiet_refl s) (show execChainStart req s = .next t from e)
  | chainStop req => exact quiet_execChainStop (quiet_refl s) (show execChainStop req s = .next t from e)
  | chainUnload req => exact quiet_execChainUnload (quiet_refl s) (show execChainUnload req s = .next t from e)
  | chainRead req => exact quiet_execChainRead (quiet_refl s) (show execChainRead req s = .next t from e)
  | chainStatus req => exact quiet_execChainStatus (quiet_refl s) (show execChainStatus req s = .next t from e)
  | chainConfig req => exact quiet_execChainConfig (quiet_refl s) (show execChainConfig req s = .next t from e)
  | schedSetRegime req => exact quiet_execSchedSetRegime (quiet_refl s) (show execSchedSetRegime req s = .next t from e)
  | schedConfig req => exact quiet_execSchedConfig (quiet_refl s) (show execSchedConfig req s = .next t from e)
  | schedClassConfig req => exact quiet_execSchedClassConfig (quiet_refl s) (show execSchedClassConfig req s = .next t from e)
  | schedQueueConfig req => exact quiet_execSchedQueueConfig (quiet_refl s) (show execSchedQueueConfig req s = .next t from e)
  | schedPin req => exact quiet_execSchedPin (quiet_refl s) (show execSchedPin req s = .next t from e)
  | schedRestore req => exact quiet_execSchedRestore (quiet_refl s) (show execSchedRestore req s = .next t from e)
  | schedPlanePorts req => exact quiet_execSchedPlanePorts (quiet_refl s) (show execSchedPlanePorts req s = .next t from e)
  | schedDemandRead req => exact quiet_execSchedDemandRead (quiet_refl s) (show execSchedDemandRead req s = .next t from e)
  | schedSampler req => exact quiet_execSchedSampler (quiet_refl s) (show execSchedSampler req s = .next t from e)
  | schedStatus req => exact quiet_execSchedStatus (quiet_refl s) (show execSchedStatus req s = .next t from e)
  | endpointConfig req => exact quiet_execEndpointConfig (quiet_refl s) (show execEndpointConfig req s = .next t from e)
  | endpointAdmit req => exact quiet_execEndpointAdmit (quiet_refl s) (show execEndpointAdmit req s = .next t from e)
  | endpointRead req => exact quiet_execEndpointRead (quiet_refl s) (show execEndpointRead req s = .next t from e)
  | endpointEvict req => exact quiet_execEndpointEvict (quiet_refl s) (show execEndpointEvict req s = .next t from e)
  | endpointCounters req => exact quiet_execEndpointCounters (quiet_refl s) (show execEndpointCounters req s = .next t from e)
  | timeConfig req => exact quiet_execTimeConfig (quiet_refl s) (show execTimeConfig req s = .next t from e)
  | timeRead req => exact quiet_execTimeRead (quiet_refl s) (show execTimeRead req s = .next t from e)
  | timeAdjust req => exact quiet_execTimeAdjust (quiet_refl s) (show execTimeAdjust req s = .next t from e)
  | timeForceSet req => exact quiet_execTimeForceSet (quiet_refl s) (show execTimeForceSet req s = .next t from e)
  | timePtpConfig req => exact quiet_execTimePtpConfig (quiet_refl s) (show execTimePtpConfig req s = .next t from e)
  | timePtpStatus req => exact quiet_execTimePtpStatus (quiet_refl s) (show execTimePtpStatus req s = .next t from e)
  | timeTxtsRead req => exact quiet_execTimeTxtsRead (quiet_refl s) (show execTimeTxtsRead req s = .next t from e)
  | timeTcConfig req => exact quiet_execTimeTcConfig (quiet_refl s) (show execTimeTcConfig req s = .next t from e)
  | timeTout req => exact quiet_execTimeTout (quiet_refl s) (show execTimeTout req s = .next t from e)
  | timeTcapConfig req => exact quiet_execTimeTcapConfig (quiet_refl s) (show execTimeTcapConfig req s = .next t from e)
  | timeTcapRead req => exact quiet_execTimeTcapRead (quiet_refl s) (show execTimeTcapRead req s = .next t from e)
  | relayConfig req => exact quiet_execRelayConfig (quiet_refl s) (show execRelayConfig req s = .next t from e)
  | relayPortConfig req => exact quiet_execRelayPortConfig (quiet_refl s) (show execRelayPortConfig req s = .next t from e)
  | relayPortStatus req => exact quiet_execRelayPortStatus (quiet_refl s) (show execRelayPortStatus req s = .next t from e)
  | relayFdbWrite req => exact quiet_execRelayFdbWrite (quiet_refl s) (show execRelayFdbWrite req s = .next t from e)
  | relayFdbRead req => exact quiet_execRelayFdbRead (quiet_refl s) (show execRelayFdbRead req s = .next t from e)
  | relayGroupWrite req => exact quiet_execRelayGroupWrite (quiet_refl s) (show execRelayGroupWrite req s = .next t from e)
  | relayFence req => exact quiet_execRelayFence (quiet_refl s) (show execRelayFence req s = .next t from e)
  | relayGateLoad req => exact quiet_execRelayGateLoad (quiet_refl s) (show execRelayGateLoad req s = .next t from e)
  | relayShaper req => exact quiet_execRelayShaper (quiet_refl s) (show execRelayShaper req s = .next t from e)
  | relayMirror req => exact quiet_execRelayMirror (quiet_refl s) (show execRelayMirror req s = .next t from e)
  | relayCounters req => exact quiet_execRelayCounters (quiet_refl s) (show execRelayCounters req s = .next t from e)
  | poolConfig req => exact quiet_execPoolConfig (quiet_refl s) (show execPoolConfig req s = .next t from e)
  | poolStatus req => exact quiet_execPoolStatus (quiet_refl s) (show execPoolStatus req s = .next t from e)
  | domainConfig req => exact quiet_execDomainConfig (quiet_refl s) (show execDomainConfig req s = .next t from e)
  | domainStatus req => exact quiet_execDomainStatus (quiet_refl s) (show execDomainStatus req s = .next t from e)
  | domainMembers req => exact quiet_execDomainMembers (quiet_refl s) (show execDomainMembers req s = .next t from e)
  | domainMemberEdit req => exact quiet_execDomainMemberEdit (quiet_refl s) (show execDomainMemberEdit req s = .next t from e)
  | domainSetRole req => exact quiet_execDomainSetRole (quiet_refl s) (show execDomainSetRole req s = .next t from e)
  | domainEvents req => exact quiet_execDomainEvents (quiet_refl s) (show execDomainEvents req s = .next t from e)
  | domainCounters req => exact quiet_execDomainCounters (quiet_refl s) (show execDomainCounters req s = .next t from e)
  | calCommission req => exact quiet_execCalCommission (quiet_refl s) (show execCalCommission req s = .next t from e)
  | calBackground req => exact quiet_execCalBackground (quiet_refl s) (show execCalBackground req s = .next t from e)
  | calStatus req => exact quiet_execCalStatus (quiet_refl s) (show execCalStatus req s = .next t from e)
  | calRead req => exact quiet_execCalRead (quiet_refl s) (show execCalRead req s = .next t from e)
  | calStore req => exact quiet_execCalStore (quiet_refl s) (show execCalStore req s = .next t from e)
  | calSelect req => exact quiet_execCalSelect (quiet_refl s) (show execCalSelect req s = .next t from e)
  | calRefTrim req => exact quiet_execCalRefTrim (quiet_refl s) (show execCalRefTrim req s = .next t from e)
  | faultStatus req => exact quiet_execFaultStatus (quiet_refl s) (show execFaultStatus req s = .next t from e)
  | faultAck req => exact quiet_execFaultAck (quiet_refl s) (show execFaultAck req s = .next t from e)
  | faultClear req => exact quiet_execFaultClear (quiet_refl s) (show execFaultClear req s = .next t from e)
  | faultSetSeverity req => exact quiet_execFaultSetSeverity (quiet_refl s) (show execFaultSetSeverity req s = .next t from e)
  | faultConfig req => exact quiet_execFaultConfig (quiet_refl s) (show execFaultConfig req s = .next t from e)
  | faultInject req => exact quiet_execFaultInject (quiet_refl s) (show execFaultInject req s = .next t from e)
  | faultLog req => exact quiet_execFaultLog (quiet_refl s) (show execFaultLog req s = .next t from e)
  | testLanePattern req => exact quiet_execTestLanePattern (quiet_refl s) (show execTestLanePattern req s = .next t from e)
  | testLaneCheck req => exact quiet_execTestLaneCheck (quiet_refl s) (show execTestLaneCheck req s = .next t from e)
  | testLoopback req => exact quiet_execTestLoopback (quiet_refl s) (show execTestLoopback req s = .next t from e)
  | testMarginScan req => exact quiet_execTestMarginScan (quiet_refl s) (show execTestMarginScan req s = .next t from e)
  | testBist req => exact quiet_execTestBist (quiet_refl s) (show execTestBist req s = .next t from e)
  | testCounters req => exact quiet_execTestCounters (quiet_refl s) (show execTestCounters req s = .next t from e)
  | loupeRingConfig req => exact quiet_execLoupeRingConfig (quiet_refl s) (show execLoupeRingConfig req s = .next t from e)
  | loupeEnable req => exact quiet_execLoupeEnable (quiet_refl s) (show execLoupeEnable req s = .next t from e)
  | loupeStatus req => exact quiet_execLoupeStatus (quiet_refl s) (show execLoupeStatus req s = .next t from e)
  | loupeExport req => exact quiet_execLoupeExport (quiet_refl s) (show execLoupeExport req s = .next t from e)
  | loupeFreeze req => exact quiet_execLoupeFreeze (quiet_refl s) (show execLoupeFreeze req s = .next t from e)
  | secAttest req => exact quiet_execSecAttest (quiet_refl s) (show execSecAttest req s = .next t from e)
  | secCertRead req => exact quiet_execSecCertRead (quiet_refl s) (show execSecCertRead req s = .next t from e)
  | secFwUpdate req => exact quiet_execSecFwUpdate (quiet_refl s) (show execSecFwUpdate req s = .next t from e)
  | secFwSelect req => exact quiet_execSecFwSelect (quiet_refl s) (show execSecFwSelect req s = .next t from e)
  | secOwnerSet req => exact quiet_execSecOwnerSet (quiet_refl s) (show execSecOwnerSet req s = .next t from e)
  | secLifecycle req => exact quiet_execSecLifecycle (quiet_refl s) (show execSecLifecycle req s = .next t from e)
  | secFactoryToken req => exact quiet_execSecFactoryToken (quiet_refl s) (show execSecFactoryToken req s = .next t from e)
  | powerStatus req => exact quiet_execPowerStatus (quiet_refl s) (show execPowerStatus req s = .next t from e)
  | powerAvsConfig req => exact quiet_execPowerAvsConfig (quiet_refl s) (show execPowerAvsConfig req s = .next t from e)
  | powerMode req => exact quiet_execPowerMode (quiet_refl s) (show execPowerMode req s = .next t from e)
  | powerTemps req => exact quiet_execPowerTemps (quiet_refl s) (show execPowerTemps req s = .next t from e)
  | powerPlaneTemp req => exact quiet_execPowerPlaneTemp (quiet_refl s) (show execPowerPlaneTemp req s = .next t from e)
  | snapAt req => exact quiet_execSnapAt (quiet_refl s) (show execSnapAt req s = .next t from e)
  | snapRead req => exact quiet_execSnapRead (quiet_refl s) (show execSnapRead req s = .next t from e)
  | snapStatus req => exact quiet_execSnapStatus (quiet_refl s) (show execSnapStatus req s = .next t from e)
  | snapRelease req => exact quiet_execSnapRelease (quiet_refl s) (show execSnapRelease req s = .next t from e)
  | leaseTake req => exact quiet_execLeaseTake (quiet_refl s) (show execLeaseTake req s = .next t from e)
  | leaseRelease req => exact quiet_execLeaseRelease (quiet_refl s) (show execLeaseRelease req s = .next t from e)
  | leaseList req => exact quiet_execLeaseList (quiet_refl s) (show execLeaseList req s = .next t from e)
  | leaseRenew req => exact quiet_execLeaseRenew (quiet_refl s) (show execLeaseRenew req s = .next t from e)
  | bezelDownLaneLock link => exact quiet_execBezelDownLaneLock (quiet_refl s) (show execBezelDownLaneLock link s = .next t from e)
  | discoveryComplete => exact quiet_execDiscoveryComplete (quiet_refl s) (show execDiscoveryComplete s = .next t from e)
  | checkerLocked lane => exact quiet_execCheckerLocked (quiet_refl s) (show execCheckerLocked lane s = .next t from e)
  | checkerLockLoss lane bits errors =>
    exact quiet_execCheckerLockLoss (quiet_refl s)
      (show execCheckerLockLoss lane bits errors s = .next t from e)
  | refclkReturn => exact quiet_execRefclkReturn (quiet_refl s) (show execRefclkReturn s = .next t from e)
  | dpllRelock => exact quiet_execDpllRelock (quiet_refl s) (show execDpllRelock s = .next t from e)
  | analogueTripRelease => exact quiet_execAnalogueTripRelease (quiet_refl s) (show execAnalogueTripRelease s = .next t from e)
  | powerUp => exact (hi).elim

end Sys2Proof.Machine
end

