-- ==== Sys2Proof/Laws/Kept.lean ====
section
/-! SUPPORT. What every step keeps: the latch with dark outputs, the queue, canonical memories; and what a rise of LIGHT_EN does. -/

namespace Sys2Proof.Machine

/-- What every step but the rise of one LIGHT_EN output keeps. -/
structure Kept (s t : State) : Prop where
  dark : DarkHeld s → DarkHeld t
  light : t.pins.light &&& ~~~s.pins.light = 0
  queue : t.pending = s.pending
  mem : MemoryOk s → MemoryOk t

variable {s t u : State}

theorem and_not_zero {a b : BitVec 8} (h : a &&& ~~~b = 0) (hb : b = 0) : a = 0 := by
  subst hb; have : ~~~(0#8) = BitVec.allOnes 8 := rfl; rw [show (~~~(0 : BitVec 8)) = BitVec.allOnes 8 from rfl, BitVec.and_allOnes] at h; exact h

theorem and_not_trans {a b c : BitVec 8} (h : a &&& ~~~b = 0) (k : b &&& ~~~c = 0) : a &&& ~~~c = 0 := by
  ext i hi
  have h1 := congrArg (·.getLsbD i) h
  have h2 := congrArg (·.getLsbD i) k
  simp [hi] at h1 h2 ⊢
  intro ha; exact h2 (h1 ha)

theorem Quiet.kept (h : Quiet s t) : Kept s t :=
  ⟨fun hd hk => and_not_zero h.light (hd (h.dark ▸ hk)), h.light, h.queue, fun m => ⟨h.mem m, h.mail m⟩⟩

theorem Kept.trans (h : Kept s t) (k : Kept t u) : Kept s u :=
  ⟨fun d => k.dark (h.dark d), and_not_trans k.light h.light, k.queue.trans h.queue, fun m => k.mem (h.mem m)⟩

theorem hwDarkAll_light (s : State) : (hwDarkAll s).pins.light = 0 := rfl

theorem kept_hostDark (s : State) : (hostDark s).em.hostDark = true ∧ (hostDark s).pins.light = 0 ∧ Kept s (hostDark s) := by
  have h1 : Quiet { s with em := { s.em with hostDark := true } } (notify s { s with em := { s.em with hostDark := true } }) :=
    quiet_notify (quiet_refl _)
  generalize hu : notify s { s with em := { s.em with hostDark := true } } = u at h1
  have e : hostDark s = raiseCond 0 0 {} (each (hwDarkAll u).planeIds (hwDarkAll u) (fun p s => calAbort p 0 s)) := by
    rw [← hu]; rfl
  have h2 : Quiet { s with em := { s.em with hostDark := true } } (hwDarkAll u) := quiet_hwDarkAll h1
  have h3 : Quiet (hwDarkAll u) (hostDark s) := by
    rw [e]
    exact quiet_raiseCond _ _ _ (quiet_each (quiet_refl _) (fun a t ht => quiet_calAbort _ _ ht))
  have hd : (hostDark s).em.hostDark = true := h3.dark.trans h2.dark
  have hl : (hostDark s).pins.light = 0 := and_not_zero h3.light rfl
  refine ⟨hd, hl, fun _ _ => hl, by simp [hl], h3.queue.trans h2.queue, fun m => ?_⟩
  have hm : MemoryOk (hwDarkAll u) := ⟨h2.mem m, h2.mail m⟩
  exact ⟨h3.mem hm, h3.mail hm⟩

theorem release_quiet (s : State) : Quiet { s with em := { s.em with hostDark := false } }
    (reState (releaseDark (endCond 0 0 (notify s { s with em := { s.em with hostDark := false } })))) :=
  quiet_reState (quiet_releaseDark (quiet_endCond _ _ (quiet_notify (quiet_refl _))))

theorem kept_release (s : State) :
    Kept s (reState (releaseDark (endCond 0 0 (notify s { s with em := { s.em with hostDark := false } })))) := by
  have h := release_quiet s
  refine ⟨fun _ k => ?_, h.light, h.queue, fun m => ⟨h.mem m, h.mail m⟩⟩
  have : _ = false := h.dark
  rw [this] at k; cases k

theorem kept_emergencyWrite (v : Nat) (s : State) : Kept s (emergencyWrite v s) := by
  unfold emergencyWrite
  split
  · exact (quiet_refl s).kept
  · split
    · exact (kept_hostDark s).2.2
    · split
      · exact kept_release s
      · exact (quiet_refl s).kept

theorem kept_blockWrite (o v : Nat) (s : State) : Kept s (blockWrite o v s) := by
  unfold blockWrite
  have q := quiet_refl s
  by_cases h0 : o = 0x1004
  · rw [if_pos h0]; exact kept_emergencyWrite v s
  · rw [if_neg h0]
    apply Quiet.kept
    repeat' (first
      | with_reducible exact q
      | with_reducible exact quiet_wdogWrite _ q
      | with_reducible exact quiet_wdogKick q
      | with_reducible exact quiet_irqEnWrite _ q
      | with_reducible exact quiet_pendingClear _ _ _ q
      | with_reducible exact quiet_maskWrite _ _ q
      | with_reducible exact quiet_vectorWrite _ _ q
      | with_reducible exact quiet_mailboxRing _ _ q
      | with_reducible exact quiet_updMbox q (fun b hb => hb)
      | exact quiet_mk q.dark q.light q.queue q.mem q.mail
      | with_reducible apply quiet_ite)

theorem kept_bar0Write (o v : Nat) (s : State) : Kept s (bar0Write o v s) := by
  unfold bar0Write
  have q := quiet_refl s
  split
  · exact kept_blockWrite o v s
  · apply Quiet.kept
    repeat' (first
      | exact quiet_flushPba ⟨q.dark, q.light, q.queue, q.mem, q.mail⟩
      | exact quiet_requestWrite _ _ _ q
      | exact q
      | split)

theorem kept_registerWrite (sp : RegSpace) (o n v : Nat) (s : State) : Kept s (registerWrite sp o n v s) := by
  unfold registerWrite
  have q := quiet_refl s
  split
  · split
    · exact kept_bar0Write ..
    · split
      · exact (kept_bar0Write ..).trans (kept_bar0Write ..)
      · exact q.kept
  · exact q.kept
  · split
    · exact (quiet_configWrite _ _ q).kept
    · exact q.kept

theorem kept_porstLow (s : State) : Kept s (porstLow s) :=
  ⟨fun _ _ => rfl, by simp [porstLow], rfl, fun _ => ⟨rfl, rfl⟩⟩

theorem kept_live (e : live s u = .next t) (h : Kept s u) : Kept s t := by
  unfold live at e; cases e; split
  · exact (quiet_refl s).kept
  · exact h

/-- Every step but the rise of a LIGHT_EN output. -/
theorem kept_exec {i : Instr} (hi : ∀ k, i ≠ .lightEnRise k) (e : exec i s = .next t) : Kept s t := by
  by_cases hq : Instr.quietRow i
  · exact (quiet_exec hq e).kept
  · cases i <;> first
      | exact absurd trivial hq
      | exact absurd rfl (hi _)
      | (cases e; exact kept_porstLow s)
      | exact kept_live e (kept_emergencyWrite _ s)
      | exact kept_live e (kept_registerWrite _ _ _ _ s)

theorem lightEnRise_next {k : Nat} (e : exec (.lightEnRise k) s = .next t) :
    t = s ∨ (lightAllowed s k = true ∧ t.pins.light = s.pins.light ||| (1#8 <<< k) ∧ t.em = s.em ∧ t.pending = s.pending ∧ t.loupe = s.loupe ∧
      t.mboxes = s.mboxes) := by
  have e : onUnit k 8 s _ = _ := e
  unfold onUnit at e
  split at e
  · split at e
    · cases e; exact .inl rfl
    · split at e
      · next h =>
        cases e
        simp only [Bool.and_eq_true] at h
        exact .inr ⟨h.1, rfl, rfl, rfl, rfl, rfl⟩
      · cases e; exact .inl rfl
  · cases e

theorem lightAllowed_dark {k : Nat} (h : lightAllowed s k = true) : s.em.hostDark = false := by
  simp only [lightAllowed, Bool.and_eq_true, Bool.not_eq_true'] at h
  exact h.1.1.1.1.2

end Sys2Proof.Machine
end

