-- ==== Sys2Proof/Laws/Read.lean ====
section
/-! SUPPORT. Read after write of one unit: the updated unit reads as updated, every other unit as before. -/

namespace Sys2Proof.Machine

theorem State.link_updLink {s : State} (l k : Nat) (f : Link → Link) (h : Tab.wf {} s.links = true) :
    (s.updLink l f).link k = if k = l then f (s.link l) else s.link k := tget_tset _ _ _ h

theorem State.sense_updSense {s : State} (l k : Nat) (f : SenseLink → SenseLink) (h : Tab.wf {} s.senses = true) :
    (s.updSense l f).sense k = if k = l then f (s.sense l) else s.sense k := tget_tset _ _ _ h

theorem State.bezel_updBezel {s : State} (l k : Nat) (f : Bezel → Bezel) (h : Tab.wf {} s.bezels = true) :
    (s.updBezel l f).bezel k = if k = l then f (s.bezel l) else s.bezel k := tget_tset _ _ _ h

theorem State.drive_updDrive {s : State} (c k : Nat) (f : Drive → Drive) (h : Tab.wf {} s.drives = true) :
    (s.updDrive c f).drive k = if k = c then f (s.drive c) else s.drive k := tget_tset _ _ _ h

theorem State.mon_updMon {s : State} (m k : Nat) (f : Mon → Mon) (h : Tab.wf {} s.mons = true) :
    (s.updMon m f).mon k = if k = m then f (s.mon m) else s.mon k := tget_tset _ _ _ h

theorem State.ctx_updCtx {s : State} (c k : Nat) (f : Ctx → Ctx) (h : Tab.wf {} s.ctxs = true) :
    (s.updCtx c f).ctx k = if k = c then f (s.ctx c) else s.ctx k := tget_tset _ _ _ h

theorem State.engine_updEngine {s : State} (e k : Nat) (f : Engine → Engine) (h : Tab.wf {} s.engines = true) :
    (s.updEngine e f).engine k = if k = e then f (s.engine e) else s.engine k := tget_tset _ _ _ h

theorem State.plane_updPlane {s : State} (p k : Nat) (f : Plane → Plane) (h : Tab.wf {} s.planes = true) :
    (s.updPlane p f).plane k = if k = p then f (s.plane p) else s.plane k := tget_tset _ _ _ h

theorem State.mbox_updMbox {s : State} (m k : Nat) (f : Mbox → Mbox) (h : Tab.wf {} s.mboxes = true) :
    (s.updMbox m f).mbox k = if k = m then f (s.mbox m) else s.mbox k := tget_tset _ _ _ h

theorem State.lane_updLane {s : State} (n k : Nat) (f : Lane → Lane) (h : Tab.wf {} s.lanes = true) :
    (s.updLane n f).lane k = if k = n then f (s.lane n) else s.lane k := tget_tset _ _ _ h

theorem State.snap_updSnap {s : State} (b k : Nat) (f : SnapBank → SnapBank) (h : Tab.wf {} s.snaps = true) :
    (s.updSnap b f).snap k = if k = b then f (s.snap b) else s.snap k := tget_tset _ _ _ h

theorem State.dplane_updDplane {s : State} (d j : Nat) (f : DPlane → DPlane) (h : Tab.wf {} s.sched.dplanes = true) :
    (s.updDplane d f).dplane j = if j = d then f (s.dplane d) else s.dplane j := tget_tset _ _ _ h

theorem State.chainPlane_updChainPlane {s : State} (d j : Nat) (f : ChainPlane → ChainPlane) (h : Tab.wf {} s.sched.chainPlanes = true) :
    (s.updChainPlane d f).chainPlane j = if j = d then f (s.chainPlane d) else s.chainPlane j := tget_tset _ _ _ h

theorem State.ep_updEp {s : State} (e j : Nat) (f : Endpoint → Endpoint) (h : Tab.wf {} s.eps.tab = true) :
    (s.updEp e f).ep j = if j = e then f (s.ep e) else s.ep j := tget_tset _ _ _ h

theorem State.demand_updDemand {s : State} (i j : Nat) (f : Demand → Demand) (h : Tab.wf {} s.sched.demand = true) :
    (s.updDemand i f).demand j = if j = i then f (s.demand i) else s.demand j := tget_tset _ _ _ h

theorem State.rlink_updRlink {s : State} (k j : Nat) (f : RLink → RLink) (h : Tab.wf {} s.relay.links = true) :
    (s.updRlink k f).rlink j = if j = k then f (s.rlink k) else s.rlink j := tget_tset _ _ _ h

theorem State.member_updMember {s : State} (n j : Nat) (f : Member → Member) (h : Tab.wf {} s.dom.members = true) :
    (s.updMember n f).member j = if j = n then f (s.member n) else s.member j := tget_tset _ _ _ h

theorem State.ptemp_updPtemp {s : State} (p j : Nat) (f : PlaneTemp → PlaneTemp) (h : Tab.wf {} s.pwr.planes = true) :
    (s.updPtemp p f).ptemp j = if j = p then f (s.ptemp p) else s.ptemp j := tget_tset _ _ _ h

theorem State.sensor_updSensor {s : State} (i j : Nat) (f : Sensor → Sensor) (h : Tab.wf {} s.pwr.sensors = true) :
    (s.updSensor i f).sensor j = if j = i then f (s.sensor i) else s.sensor j := tget_tset _ _ _ h

end Sys2Proof.Machine
end

