-- ==== Sys2Proof/Laws/State.lean ====
section
/-! SUPPORT. What an update of one part of the state leaves of every part: one lemma per field per update, true by `rfl`, so that no later
proof unfolds a record update. -/

namespace Sys2Proof.Machine

variable (s : State)

/-! ### updLink -/

@[simp] theorem State.updLink_pending (l : Nat) (f : Link → Link) : (s.updLink l f).pending = s.pending := rfl
@[simp] theorem State.updLink_free (l : Nat) (f : Link → Link) : (s.updLink l f).free = s.free := rfl
@[simp] theorem State.updLink_out (l : Nat) (f : Link → Link) : (s.updLink l f).out = s.out := rfl
@[simp] theorem State.updLink_time (l : Nat) (f : Link → Link) : (s.updLink l f).time = s.time := rfl
@[simp] theorem State.updLink_sys (l : Nat) (f : Link → Link) : (s.updLink l f).sys = s.sys := rfl
@[simp] theorem State.updLink_pins (l : Nat) (f : Link → Link) : (s.updLink l f).pins = s.pins := rfl
@[simp] theorem State.updLink_em (l : Nat) (f : Link → Link) : (s.updLink l f).em = s.em := rfl
@[simp] theorem State.updLink_flt (l : Nat) (f : Link → Link) : (s.updLink l f).flt = s.flt := rfl
@[simp] theorem State.updLink_ev (l : Nat) (f : Link → Link) : (s.updLink l f).ev = s.ev := rfl
@[simp] theorem State.updLink_hi (l : Nat) (f : Link → Link) : (s.updLink l f).hi = s.hi := rfl
@[simp] theorem State.updLink_mboxes (l : Nat) (f : Link → Link) : (s.updLink l f).mboxes = s.mboxes := rfl
@[simp] theorem State.updLink_links (l : Nat) (f : Link → Link) : (s.updLink l f).links = tset {} s.links l (f (s.link l)) := rfl
@[simp] theorem State.updLink_senses (l : Nat) (f : Link → Link) : (s.updLink l f).senses = s.senses := rfl
@[simp] theorem State.updLink_bezels (l : Nat) (f : Link → Link) : (s.updLink l f).bezels = s.bezels := rfl
@[simp] theorem State.updLink_drives (l : Nat) (f : Link → Link) : (s.updLink l f).drives = s.drives := rfl
@[simp] theorem State.updLink_slews (l : Nat) (f : Link → Link) : (s.updLink l f).slews = s.slews := rfl
@[simp] theorem State.updLink_mons (l : Nat) (f : Link → Link) : (s.updLink l f).mons = s.mons := rfl
@[simp] theorem State.updLink_ctxs (l : Nat) (f : Link → Link) : (s.updLink l f).ctxs = s.ctxs := rfl
@[simp] theorem State.updLink_engines (l : Nat) (f : Link → Link) : (s.updLink l f).engines = s.engines := rfl
@[simp] theorem State.updLink_swaps (l : Nat) (f : Link → Link) : (s.updLink l f).swaps = s.swaps := rfl
@[simp] theorem State.updLink_swapId (l : Nat) (f : Link → Link) : (s.updLink l f).swapId = s.swapId := rfl
@[simp] theorem State.updLink_tables (l : Nat) (f : Link → Link) : (s.updLink l f).tables = s.tables := rfl
@[simp] theorem State.updLink_planes (l : Nat) (f : Link → Link) : (s.updLink l f).planes = s.planes := rfl
@[simp] theorem State.updLink_lib (l : Nat) (f : Link → Link) : (s.updLink l f).lib = s.lib := rfl
@[simp] theorem State.updLink_launchId (l : Nat) (f : Link → Link) : (s.updLink l f).launchId = s.launchId := rfl
@[simp] theorem State.updLink_sched (l : Nat) (f : Link → Link) : (s.updLink l f).sched = s.sched := rfl
@[simp] theorem State.updLink_eps (l : Nat) (f : Link → Link) : (s.updLink l f).eps = s.eps := rfl
@[simp] theorem State.updLink_relay (l : Nat) (f : Link → Link) : (s.updLink l f).relay = s.relay := rfl
@[simp] theorem State.updLink_pools (l : Nat) (f : Link → Link) : (s.updLink l f).pools = s.pools := rfl
@[simp] theorem State.updLink_dom (l : Nat) (f : Link → Link) : (s.updLink l f).dom = s.dom := rfl
@[simp] theorem State.updLink_cal (l : Nat) (f : Link → Link) : (s.updLink l f).cal = s.cal := rfl
@[simp] theorem State.updLink_lanes (l : Nat) (f : Link → Link) : (s.updLink l f).lanes = s.lanes := rfl
@[simp] theorem State.updLink_bists (l : Nat) (f : Link → Link) : (s.updLink l f).bists = s.bists := rfl
@[simp] theorem State.updLink_loupe (l : Nat) (f : Link → Link) : (s.updLink l f).loupe = s.loupe := rfl
@[simp] theorem State.updLink_snaps (l : Nat) (f : Link → Link) : (s.updLink l f).snaps = s.snaps := rfl
@[simp] theorem State.updLink_nvm (l : Nat) (f : Link → Link) : (s.updLink l f).nvm = s.nvm := rfl
@[simp] theorem State.updLink_pwr (l : Nat) (f : Link → Link) : (s.updLink l f).pwr = s.pwr := rfl
@[simp] theorem State.updLink_sec (l : Nat) (f : Link → Link) : (s.updLink l f).sec = s.sec := rfl
@[simp] theorem State.updLink_leases (l : Nat) (f : Link → Link) : (s.updLink l f).leases = s.leases := rfl
@[simp] theorem State.updLink_implicits (l : Nat) (f : Link → Link) : (s.updLink l f).implicits = s.implicits := rfl
@[simp] theorem State.updLink_leaseId (l : Nat) (f : Link → Link) : (s.updLink l f).leaseId = s.leaseId := rfl

/-! ### updSense -/

@[simp] theorem State.updSense_pending (l : Nat) (f : SenseLink → SenseLink) : (s.updSense l f).pending = s.pending := rfl
@[simp] theorem State.updSense_free (l : Nat) (f : SenseLink → SenseLink) : (s.updSense l f).free = s.free := rfl
@[simp] theorem State.updSense_out (l : Nat) (f : SenseLink → SenseLink) : (s.updSense l f).out = s.out := rfl
@[simp] theorem State.updSense_time (l : Nat) (f : SenseLink → SenseLink) : (s.updSense l f).time = s.time := rfl
@[simp] theorem State.updSense_sys (l : Nat) (f : SenseLink → SenseLink) : (s.updSense l f).sys = s.sys := rfl
@[simp] theorem State.updSense_pins (l : Nat) (f : SenseLink → SenseLink) : (s.updSense l f).pins = s.pins := rfl
@[simp] theorem State.updSense_em (l : Nat) (f : SenseLink → SenseLink) : (s.updSense l f).em = s.em := rfl
@[simp] theorem State.updSense_flt (l : Nat) (f : SenseLink → SenseLink) : (s.updSense l f).flt = s.flt := rfl
@[simp] theorem State.updSense_ev (l : Nat) (f : SenseLink → SenseLink) : (s.updSense l f).ev = s.ev := rfl
@[simp] theorem State.updSense_hi (l : Nat) (f : SenseLink → SenseLink) : (s.updSense l f).hi = s.hi := rfl
@[simp] theorem State.updSense_mboxes (l : Nat) (f : SenseLink → SenseLink) : (s.updSense l f).mboxes = s.mboxes := rfl
@[simp] theorem State.updSense_links (l : Nat) (f : SenseLink → SenseLink) : (s.updSense l f).links = s.links := rfl
@[simp] theorem State.updSense_senses (l : Nat) (f : SenseLink → SenseLink) : (s.updSense l f).senses = tset {} s.senses l (f (s.sense l)) := rfl
@[simp] theorem State.updSense_bezels (l : Nat) (f : SenseLink → SenseLink) : (s.updSense l f).bezels = s.bezels := rfl
@[simp] theorem State.updSense_drives (l : Nat) (f : SenseLink → SenseLink) : (s.updSense l f).drives = s.drives := rfl
@[simp] theorem State.updSense_slews (l : Nat) (f : SenseLink → SenseLink) : (s.updSense l f).slews = s.slews := rfl
@[simp] theorem State.updSense_mons (l : Nat) (f : SenseLink → SenseLink) : (s.updSense l f).mons = s.mons := rfl
@[simp] theorem State.updSense_ctxs (l : Nat) (f : SenseLink → SenseLink) : (s.updSense l f).ctxs = s.ctxs := rfl
@[simp] theorem State.updSense_engines (l : Nat) (f : SenseLink → SenseLink) : (s.updSense l f).engines = s.engines := rfl
@[simp] theorem State.updSense_swaps (l : Nat) (f : SenseLink → SenseLink) : (s.updSense l f).swaps = s.swaps := rfl
@[simp] theorem State.updSense_swapId (l : Nat) (f : SenseLink → SenseLink) : (s.updSense l f).swapId = s.swapId := rfl
@[simp] theorem State.updSense_tables (l : Nat) (f : SenseLink → SenseLink) : (s.updSense l f).tables = s.tables := rfl
@[simp] theorem State.updSense_planes (l : Nat) (f : SenseLink → SenseLink) : (s.updSense l f).planes = s.planes := rfl
@[simp] theorem State.updSense_lib (l : Nat) (f : SenseLink → SenseLink) : (s.updSense l f).lib = s.lib := rfl
@[simp] theorem State.updSense_launchId (l : Nat) (f : SenseLink → SenseLink) : (s.updSense l f).launchId = s.launchId := rfl
@[simp] theorem State.updSense_sched (l : Nat) (f : SenseLink → SenseLink) : (s.updSense l f).sched = s.sched := rfl
@[simp] theorem State.updSense_eps (l : Nat) (f : SenseLink → SenseLink) : (s.updSense l f).eps = s.eps := rfl
@[simp] theorem State.updSense_relay (l : Nat) (f : SenseLink → SenseLink) : (s.updSense l f).relay = s.relay := rfl
@[simp] theorem State.updSense_pools (l : Nat) (f : SenseLink → SenseLink) : (s.updSense l f).pools = s.pools := rfl
@[simp] theorem State.updSense_dom (l : Nat) (f : SenseLink → SenseLink) : (s.updSense l f).dom = s.dom := rfl
@[simp] theorem State.updSense_cal (l : Nat) (f : SenseLink → SenseLink) : (s.updSense l f).cal = s.cal := rfl
@[simp] theorem State.updSense_lanes (l : Nat) (f : SenseLink → SenseLink) : (s.updSense l f).lanes = s.lanes := rfl
@[simp] theorem State.updSense_bists (l : Nat) (f : SenseLink → SenseLink) : (s.updSense l f).bists = s.bists := rfl
@[simp] theorem State.updSense_loupe (l : Nat) (f : SenseLink → SenseLink) : (s.updSense l f).loupe = s.loupe := rfl
@[simp] theorem State.updSense_snaps (l : Nat) (f : SenseLink → SenseLink) : (s.updSense l f).snaps = s.snaps := rfl
@[simp] theorem State.updSense_nvm (l : Nat) (f : SenseLink → SenseLink) : (s.updSense l f).nvm = s.nvm := rfl
@[simp] theorem State.updSense_pwr (l : Nat) (f : SenseLink → SenseLink) : (s.updSense l f).pwr = s.pwr := rfl
@[simp] theorem State.updSense_sec (l : Nat) (f : SenseLink → SenseLink) : (s.updSense l f).sec = s.sec := rfl
@[simp] theorem State.updSense_leases (l : Nat) (f : SenseLink → SenseLink) : (s.updSense l f).leases = s.leases := rfl
@[simp] theorem State.updSense_implicits (l : Nat) (f : SenseLink → SenseLink) : (s.updSense l f).implicits = s.implicits := rfl
@[simp] theorem State.updSense_leaseId (l : Nat) (f : SenseLink → SenseLink) : (s.updSense l f).leaseId = s.leaseId := rfl

/-! ### updBezel -/

@[simp] theorem State.updBezel_pending (l : Nat) (f : Bezel → Bezel) : (s.updBezel l f).pending = s.pending := rfl
@[simp] theorem State.updBezel_free (l : Nat) (f : Bezel → Bezel) : (s.updBezel l f).free = s.free := rfl
@[simp] theorem State.updBezel_out (l : Nat) (f : Bezel → Bezel) : (s.updBezel l f).out = s.out := rfl
@[simp] theorem State.updBezel_time (l : Nat) (f : Bezel → Bezel) : (s.updBezel l f).time = s.time := rfl
@[simp] theorem State.updBezel_sys (l : Nat) (f : Bezel → Bezel) : (s.updBezel l f).sys = s.sys := rfl
@[simp] theorem State.updBezel_pins (l : Nat) (f : Bezel → Bezel) : (s.updBezel l f).pins = s.pins := rfl
@[simp] theorem State.updBezel_em (l : Nat) (f : Bezel → Bezel) : (s.updBezel l f).em = s.em := rfl
@[simp] theorem State.updBezel_flt (l : Nat) (f : Bezel → Bezel) : (s.updBezel l f).flt = s.flt := rfl
@[simp] theorem State.updBezel_ev (l : Nat) (f : Bezel → Bezel) : (s.updBezel l f).ev = s.ev := rfl
@[simp] theorem State.updBezel_hi (l : Nat) (f : Bezel → Bezel) : (s.updBezel l f).hi = s.hi := rfl
@[simp] theorem State.updBezel_mboxes (l : Nat) (f : Bezel → Bezel) : (s.updBezel l f).mboxes = s.mboxes := rfl
@[simp] theorem State.updBezel_links (l : Nat) (f : Bezel → Bezel) : (s.updBezel l f).links = s.links := rfl
@[simp] theorem State.updBezel_senses (l : Nat) (f : Bezel → Bezel) : (s.updBezel l f).senses = s.senses := rfl
@[simp] theorem State.updBezel_bezels (l : Nat) (f : Bezel → Bezel) : (s.updBezel l f).bezels = tset {} s.bezels l (f (s.bezel l)) := rfl
@[simp] theorem State.updBezel_drives (l : Nat) (f : Bezel → Bezel) : (s.updBezel l f).drives = s.drives := rfl
@[simp] theorem State.updBezel_slews (l : Nat) (f : Bezel → Bezel) : (s.updBezel l f).slews = s.slews := rfl
@[simp] theorem State.updBezel_mons (l : Nat) (f : Bezel → Bezel) : (s.updBezel l f).mons = s.mons := rfl
@[simp] theorem State.updBezel_ctxs (l : Nat) (f : Bezel → Bezel) : (s.updBezel l f).ctxs = s.ctxs := rfl
@[simp] theorem State.updBezel_engines (l : Nat) (f : Bezel → Bezel) : (s.updBezel l f).engines = s.engines := rfl
@[simp] theorem State.updBezel_swaps (l : Nat) (f : Bezel → Bezel) : (s.updBezel l f).swaps = s.swaps := rfl
@[simp] theorem State.updBezel_swapId (l : Nat) (f : Bezel → Bezel) : (s.updBezel l f).swapId = s.swapId := rfl
@[simp] theorem State.updBezel_tables (l : Nat) (f : Bezel → Bezel) : (s.updBezel l f).tables = s.tables := rfl
@[simp] theorem State.updBezel_planes (l : Nat) (f : Bezel → Bezel) : (s.updBezel l f).planes = s.planes := rfl
@[simp] theorem State.updBezel_lib (l : Nat) (f : Bezel → Bezel) : (s.updBezel l f).lib = s.lib := rfl
@[simp] theorem State.updBezel_launchId (l : Nat) (f : Bezel → Bezel) : (s.updBezel l f).launchId = s.launchId := rfl
@[simp] theorem State.updBezel_sched (l : Nat) (f : Bezel → Bezel) : (s.updBezel l f).sched = s.sched := rfl
@[simp] theorem State.updBezel_eps (l : Nat) (f : Bezel → Bezel) : (s.updBezel l f).eps = s.eps := rfl
@[simp] theorem State.updBezel_relay (l : Nat) (f : Bezel → Bezel) : (s.updBezel l f).relay = s.relay := rfl
@[simp] theorem State.updBezel_pools (l : Nat) (f : Bezel → Bezel) : (s.updBezel l f).pools = s.pools := rfl
@[simp] theorem State.updBezel_dom (l : Nat) (f : Bezel → Bezel) : (s.updBezel l f).dom = s.dom := rfl
@[simp] theorem State.updBezel_cal (l : Nat) (f : Bezel → Bezel) : (s.updBezel l f).cal = s.cal := rfl
@[simp] theorem State.updBezel_lanes (l : Nat) (f : Bezel → Bezel) : (s.updBezel l f).lanes = s.lanes := rfl
@[simp] theorem State.updBezel_bists (l : Nat) (f : Bezel → Bezel) : (s.updBezel l f).bists = s.bists := rfl
@[simp] theorem State.updBezel_loupe (l : Nat) (f : Bezel → Bezel) : (s.updBezel l f).loupe = s.loupe := rfl
@[simp] theorem State.updBezel_snaps (l : Nat) (f : Bezel → Bezel) : (s.updBezel l f).snaps = s.snaps := rfl
@[simp] theorem State.updBezel_nvm (l : Nat) (f : Bezel → Bezel) : (s.updBezel l f).nvm = s.nvm := rfl
@[simp] theorem State.updBezel_pwr (l : Nat) (f : Bezel → Bezel) : (s.updBezel l f).pwr = s.pwr := rfl
@[simp] theorem State.updBezel_sec (l : Nat) (f : Bezel → Bezel) : (s.updBezel l f).sec = s.sec := rfl
@[simp] theorem State.updBezel_leases (l : Nat) (f : Bezel → Bezel) : (s.updBezel l f).leases = s.leases := rfl
@[simp] theorem State.updBezel_implicits (l : Nat) (f : Bezel → Bezel) : (s.updBezel l f).implicits = s.implicits := rfl
@[simp] theorem State.updBezel_leaseId (l : Nat) (f : Bezel → Bezel) : (s.updBezel l f).leaseId = s.leaseId := rfl

/-! ### updDrive -/

@[simp] theorem State.updDrive_pending (c : Nat) (f : Drive → Drive) : (s.updDrive c f).pending = s.pending := rfl
@[simp] theorem State.updDrive_free (c : Nat) (f : Drive → Drive) : (s.updDrive c f).free = s.free := rfl
@[simp] theorem State.updDrive_out (c : Nat) (f : Drive → Drive) : (s.updDrive c f).out = s.out := rfl
@[simp] theorem State.updDrive_time (c : Nat) (f : Drive → Drive) : (s.updDrive c f).time = s.time := rfl
@[simp] theorem State.updDrive_sys (c : Nat) (f : Drive → Drive) : (s.updDrive c f).sys = s.sys := rfl
@[simp] theorem State.updDrive_pins (c : Nat) (f : Drive → Drive) : (s.updDrive c f).pins = s.pins := rfl
@[simp] theorem State.updDrive_em (c : Nat) (f : Drive → Drive) : (s.updDrive c f).em = s.em := rfl
@[simp] theorem State.updDrive_flt (c : Nat) (f : Drive → Drive) : (s.updDrive c f).flt = s.flt := rfl
@[simp] theorem State.updDrive_ev (c : Nat) (f : Drive → Drive) : (s.updDrive c f).ev = s.ev := rfl
@[simp] theorem State.updDrive_hi (c : Nat) (f : Drive → Drive) : (s.updDrive c f).hi = s.hi := rfl
@[simp] theorem State.updDrive_mboxes (c : Nat) (f : Drive → Drive) : (s.updDrive c f).mboxes = s.mboxes := rfl
@[simp] theorem State.updDrive_links (c : Nat) (f : Drive → Drive) : (s.updDrive c f).links = s.links := rfl
@[simp] theorem State.updDrive_senses (c : Nat) (f : Drive → Drive) : (s.updDrive c f).senses = s.senses := rfl
@[simp] theorem State.updDrive_bezels (c : Nat) (f : Drive → Drive) : (s.updDrive c f).bezels = s.bezels := rfl
@[simp] theorem State.updDrive_drives (c : Nat) (f : Drive → Drive) : (s.updDrive c f).drives = tset {} s.drives c (f (s.drive c)) := rfl
@[simp] theorem State.updDrive_slews (c : Nat) (f : Drive → Drive) : (s.updDrive c f).slews = s.slews := rfl
@[simp] theorem State.updDrive_mons (c : Nat) (f : Drive → Drive) : (s.updDrive c f).mons = s.mons := rfl
@[simp] theorem State.updDrive_ctxs (c : Nat) (f : Drive → Drive) : (s.updDrive c f).ctxs = s.ctxs := rfl
@[simp] theorem State.updDrive_engines (c : Nat) (f : Drive → Drive) : (s.updDrive c f).engines = s.engines := rfl
@[simp] theorem State.updDrive_swaps (c : Nat) (f : Drive → Drive) : (s.updDrive c f).swaps = s.swaps := rfl
@[simp] theorem State.updDrive_swapId (c : Nat) (f : Drive → Drive) : (s.updDrive c f).swapId = s.swapId := rfl
@[simp] theorem State.updDrive_tables (c : Nat) (f : Drive → Drive) : (s.updDrive c f).tables = s.tables := rfl
@[simp] theorem State.updDrive_planes (c : Nat) (f : Drive → Drive) : (s.updDrive c f).planes = s.planes := rfl
@[simp] theorem State.updDrive_lib (c : Nat) (f : Drive → Drive) : (s.updDrive c f).lib = s.lib := rfl
@[simp] theorem State.updDrive_launchId (c : Nat) (f : Drive → Drive) : (s.updDrive c f).launchId = s.launchId := rfl
@[simp] theorem State.updDrive_sched (c : Nat) (f : Drive → Drive) : (s.updDrive c f).sched = s.sched := rfl
@[simp] theorem State.updDrive_eps (c : Nat) (f : Drive → Drive) : (s.updDrive c f).eps = s.eps := rfl
@[simp] theorem State.updDrive_relay (c : Nat) (f : Drive → Drive) : (s.updDrive c f).relay = s.relay := rfl
@[simp] theorem State.updDrive_pools (c : Nat) (f : Drive → Drive) : (s.updDrive c f).pools = s.pools := rfl
@[simp] theorem State.updDrive_dom (c : Nat) (f : Drive → Drive) : (s.updDrive c f).dom = s.dom := rfl
@[simp] theorem State.updDrive_cal (c : Nat) (f : Drive → Drive) : (s.updDrive c f).cal = s.cal := rfl
@[simp] theorem State.updDrive_lanes (c : Nat) (f : Drive → Drive) : (s.updDrive c f).lanes = s.lanes := rfl
@[simp] theorem State.updDrive_bists (c : Nat) (f : Drive → Drive) : (s.updDrive c f).bists = s.bists := rfl
@[simp] theorem State.updDrive_loupe (c : Nat) (f : Drive → Drive) : (s.updDrive c f).loupe = s.loupe := rfl
@[simp] theorem State.updDrive_snaps (c : Nat) (f : Drive → Drive) : (s.updDrive c f).snaps = s.snaps := rfl
@[simp] theorem State.updDrive_nvm (c : Nat) (f : Drive → Drive) : (s.updDrive c f).nvm = s.nvm := rfl
@[simp] theorem State.updDrive_pwr (c : Nat) (f : Drive → Drive) : (s.updDrive c f).pwr = s.pwr := rfl
@[simp] theorem State.updDrive_sec (c : Nat) (f : Drive → Drive) : (s.updDrive c f).sec = s.sec := rfl
@[simp] theorem State.updDrive_leases (c : Nat) (f : Drive → Drive) : (s.updDrive c f).leases = s.leases := rfl
@[simp] theorem State.updDrive_implicits (c : Nat) (f : Drive → Drive) : (s.updDrive c f).implicits = s.implicits := rfl
@[simp] theorem State.updDrive_leaseId (c : Nat) (f : Drive → Drive) : (s.updDrive c f).leaseId = s.leaseId := rfl

/-! ### updMon -/

@[simp] theorem State.updMon_pending (m : Nat) (f : Mon → Mon) : (s.updMon m f).pending = s.pending := rfl
@[simp] theorem State.updMon_free (m : Nat) (f : Mon → Mon) : (s.updMon m f).free = s.free := rfl
@[simp] theorem State.updMon_out (m : Nat) (f : Mon → Mon) : (s.updMon m f).out = s.out := rfl
@[simp] theorem State.updMon_time (m : Nat) (f : Mon → Mon) : (s.updMon m f).time = s.time := rfl
@[simp] theorem State.updMon_sys (m : Nat) (f : Mon → Mon) : (s.updMon m f).sys = s.sys := rfl
@[simp] theorem State.updMon_pins (m : Nat) (f : Mon → Mon) : (s.updMon m f).pins = s.pins := rfl
@[simp] theorem State.updMon_em (m : Nat) (f : Mon → Mon) : (s.updMon m f).em = s.em := rfl
@[simp] theorem State.updMon_flt (m : Nat) (f : Mon → Mon) : (s.updMon m f).flt = s.flt := rfl
@[simp] theorem State.updMon_ev (m : Nat) (f : Mon → Mon) : (s.updMon m f).ev = s.ev := rfl
@[simp] theorem State.updMon_hi (m : Nat) (f : Mon → Mon) : (s.updMon m f).hi = s.hi := rfl
@[simp] theorem State.updMon_mboxes (m : Nat) (f : Mon → Mon) : (s.updMon m f).mboxes = s.mboxes := rfl
@[simp] theorem State.updMon_links (m : Nat) (f : Mon → Mon) : (s.updMon m f).links = s.links := rfl
@[simp] theorem State.updMon_senses (m : Nat) (f : Mon → Mon) : (s.updMon m f).senses = s.senses := rfl
@[simp] theorem State.updMon_bezels (m : Nat) (f : Mon → Mon) : (s.updMon m f).bezels = s.bezels := rfl
@[simp] theorem State.updMon_drives (m : Nat) (f : Mon → Mon) : (s.updMon m f).drives = s.drives := rfl
@[simp] theorem State.updMon_slews (m : Nat) (f : Mon → Mon) : (s.updMon m f).slews = s.slews := rfl
@[simp] theorem State.updMon_mons (m : Nat) (f : Mon → Mon) : (s.updMon m f).mons = tset {} s.mons m (f (s.mon m)) := rfl
@[simp] theorem State.updMon_ctxs (m : Nat) (f : Mon → Mon) : (s.updMon m f).ctxs = s.ctxs := rfl
@[simp] theorem State.updMon_engines (m : Nat) (f : Mon → Mon) : (s.updMon m f).engines = s.engines := rfl
@[simp] theorem State.updMon_swaps (m : Nat) (f : Mon → Mon) : (s.updMon m f).swaps = s.swaps := rfl
@[simp] theorem State.updMon_swapId (m : Nat) (f : Mon → Mon) : (s.updMon m f).swapId = s.swapId := rfl
@[simp] theorem State.updMon_tables (m : Nat) (f : Mon → Mon) : (s.updMon m f).tables = s.tables := rfl
@[simp] theorem State.updMon_planes (m : Nat) (f : Mon → Mon) : (s.updMon m f).planes = s.planes := rfl
@[simp] theorem State.updMon_lib (m : Nat) (f : Mon → Mon) : (s.updMon m f).lib = s.lib := rfl
@[simp] theorem State.updMon_launchId (m : Nat) (f : Mon → Mon) : (s.updMon m f).launchId = s.launchId := rfl
@[simp] theorem State.updMon_sched (m : Nat) (f : Mon → Mon) : (s.updMon m f).sched = s.sched := rfl
@[simp] theorem State.updMon_eps (m : Nat) (f : Mon → Mon) : (s.updMon m f).eps = s.eps := rfl
@[simp] theorem State.updMon_relay (m : Nat) (f : Mon → Mon) : (s.updMon m f).relay = s.relay := rfl
@[simp] theorem State.updMon_pools (m : Nat) (f : Mon → Mon) : (s.updMon m f).pools = s.pools := rfl
@[simp] theorem State.updMon_dom (m : Nat) (f : Mon → Mon) : (s.updMon m f).dom = s.dom := rfl
@[simp] theorem State.updMon_cal (m : Nat) (f : Mon → Mon) : (s.updMon m f).cal = s.cal := rfl
@[simp] theorem State.updMon_lanes (m : Nat) (f : Mon → Mon) : (s.updMon m f).lanes = s.lanes := rfl
@[simp] theorem State.updMon_bists (m : Nat) (f : Mon → Mon) : (s.updMon m f).bists = s.bists := rfl
@[simp] theorem State.updMon_loupe (m : Nat) (f : Mon → Mon) : (s.updMon m f).loupe = s.loupe := rfl
@[simp] theorem State.updMon_snaps (m : Nat) (f : Mon → Mon) : (s.updMon m f).snaps = s.snaps := rfl
@[simp] theorem State.updMon_nvm (m : Nat) (f : Mon → Mon) : (s.updMon m f).nvm = s.nvm := rfl
@[simp] theorem State.updMon_pwr (m : Nat) (f : Mon → Mon) : (s.updMon m f).pwr = s.pwr := rfl
@[simp] theorem State.updMon_sec (m : Nat) (f : Mon → Mon) : (s.updMon m f).sec = s.sec := rfl
@[simp] theorem State.updMon_leases (m : Nat) (f : Mon → Mon) : (s.updMon m f).leases = s.leases := rfl
@[simp] theorem State.updMon_implicits (m : Nat) (f : Mon → Mon) : (s.updMon m f).implicits = s.implicits := rfl
@[simp] theorem State.updMon_leaseId (m : Nat) (f : Mon → Mon) : (s.updMon m f).leaseId = s.leaseId := rfl

/-! ### updCtx -/

@[simp] theorem State.updCtx_pending (c : Nat) (f : Ctx → Ctx) : (s.updCtx c f).pending = s.pending := rfl
@[simp] theorem State.updCtx_free (c : Nat) (f : Ctx → Ctx) : (s.updCtx c f).free = s.free := rfl
@[simp] theorem State.updCtx_out (c : Nat) (f : Ctx → Ctx) : (s.updCtx c f).out = s.out := rfl
@[simp] theorem State.updCtx_time (c : Nat) (f : Ctx → Ctx) : (s.updCtx c f).time = s.time := rfl
@[simp] theorem State.updCtx_sys (c : Nat) (f : Ctx → Ctx) : (s.updCtx c f).sys = s.sys := rfl
@[simp] theorem State.updCtx_pins (c : Nat) (f : Ctx → Ctx) : (s.updCtx c f).pins = s.pins := rfl
@[simp] theorem State.updCtx_em (c : Nat) (f : Ctx → Ctx) : (s.updCtx c f).em = s.em := rfl
@[simp] theorem State.updCtx_flt (c : Nat) (f : Ctx → Ctx) : (s.updCtx c f).flt = s.flt := rfl
@[simp] theorem State.updCtx_ev (c : Nat) (f : Ctx → Ctx) : (s.updCtx c f).ev = s.ev := rfl
@[simp] theorem State.updCtx_hi (c : Nat) (f : Ctx → Ctx) : (s.updCtx c f).hi = s.hi := rfl
@[simp] theorem State.updCtx_mboxes (c : Nat) (f : Ctx → Ctx) : (s.updCtx c f).mboxes = s.mboxes := rfl
@[simp] theorem State.updCtx_links (c : Nat) (f : Ctx → Ctx) : (s.updCtx c f).links = s.links := rfl
@[simp] theorem State.updCtx_senses (c : Nat) (f : Ctx → Ctx) : (s.updCtx c f).senses = s.senses := rfl
@[simp] theorem State.updCtx_bezels (c : Nat) (f : Ctx → Ctx) : (s.updCtx c f).bezels = s.bezels := rfl
@[simp] theorem State.updCtx_drives (c : Nat) (f : Ctx → Ctx) : (s.updCtx c f).drives = s.drives := rfl
@[simp] theorem State.updCtx_slews (c : Nat) (f : Ctx → Ctx) : (s.updCtx c f).slews = s.slews := rfl
@[simp] theorem State.updCtx_mons (c : Nat) (f : Ctx → Ctx) : (s.updCtx c f).mons = s.mons := rfl
@[simp] theorem State.updCtx_ctxs (c : Nat) (f : Ctx → Ctx) : (s.updCtx c f).ctxs = tset {} s.ctxs c (f (s.ctx c)) := rfl
@[simp] theorem State.updCtx_engines (c : Nat) (f : Ctx → Ctx) : (s.updCtx c f).engines = s.engines := rfl
@[simp] theorem State.updCtx_swaps (c : Nat) (f : Ctx → Ctx) : (s.updCtx c f).swaps = s.swaps := rfl
@[simp] theorem State.updCtx_swapId (c : Nat) (f : Ctx → Ctx) : (s.updCtx c f).swapId = s.swapId := rfl
@[simp] theorem State.updCtx_tables (c : Nat) (f : Ctx → Ctx) : (s.updCtx c f).tables = s.tables := rfl
@[simp] theorem State.updCtx_planes (c : Nat) (f : Ctx → Ctx) : (s.updCtx c f).planes = s.planes := rfl
@[simp] theorem State.updCtx_lib (c : Nat) (f : Ctx → Ctx) : (s.updCtx c f).lib = s.lib := rfl
@[simp] theorem State.updCtx_launchId (c : Nat) (f : Ctx → Ctx) : (s.updCtx c f).launchId = s.launchId := rfl
@[simp] theorem State.updCtx_sched (c : Nat) (f : Ctx → Ctx) : (s.updCtx c f).sched = s.sched := rfl
@[simp] theorem State.updCtx_eps (c : Nat) (f : Ctx → Ctx) : (s.updCtx c f).eps = s.eps := rfl
@[simp] theorem State.updCtx_relay (c : Nat) (f : Ctx → Ctx) : (s.updCtx c f).relay = s.relay := rfl
@[simp] theorem State.updCtx_pools (c : Nat) (f : Ctx → Ctx) : (s.updCtx c f).pools = s.pools := rfl
@[simp] theorem State.updCtx_dom (c : Nat) (f : Ctx → Ctx) : (s.updCtx c f).dom = s.dom := rfl
@[simp] theorem State.updCtx_cal (c : Nat) (f : Ctx → Ctx) : (s.updCtx c f).cal = s.cal := rfl
@[simp] theorem State.updCtx_lanes (c : Nat) (f : Ctx → Ctx) : (s.updCtx c f).lanes = s.lanes := rfl
@[simp] theorem State.updCtx_bists (c : Nat) (f : Ctx → Ctx) : (s.updCtx c f).bists = s.bists := rfl
@[simp] theorem State.updCtx_loupe (c : Nat) (f : Ctx → Ctx) : (s.updCtx c f).loupe = s.loupe := rfl
@[simp] theorem State.updCtx_snaps (c : Nat) (f : Ctx → Ctx) : (s.updCtx c f).snaps = s.snaps := rfl
@[simp] theorem State.updCtx_nvm (c : Nat) (f : Ctx → Ctx) : (s.updCtx c f).nvm = s.nvm := rfl
@[simp] theorem State.updCtx_pwr (c : Nat) (f : Ctx → Ctx) : (s.updCtx c f).pwr = s.pwr := rfl
@[simp] theorem State.updCtx_sec (c : Nat) (f : Ctx → Ctx) : (s.updCtx c f).sec = s.sec := rfl
@[simp] theorem State.updCtx_leases (c : Nat) (f : Ctx → Ctx) : (s.updCtx c f).leases = s.leases := rfl
@[simp] theorem State.updCtx_implicits (c : Nat) (f : Ctx → Ctx) : (s.updCtx c f).implicits = s.implicits := rfl
@[simp] theorem State.updCtx_leaseId (c : Nat) (f : Ctx → Ctx) : (s.updCtx c f).leaseId = s.leaseId := rfl

/-! ### updEngine -/

@[simp] theorem State.updEngine_pending (e : Nat) (f : Engine → Engine) : (s.updEngine e f).pending = s.pending := rfl
@[simp] theorem State.updEngine_free (e : Nat) (f : Engine → Engine) : (s.updEngine e f).free = s.free := rfl
@[simp] theorem State.updEngine_out (e : Nat) (f : Engine → Engine) : (s.updEngine e f).out = s.out := rfl
@[simp] theorem State.updEngine_time (e : Nat) (f : Engine → Engine) : (s.updEngine e f).time = s.time := rfl
@[simp] theorem State.updEngine_sys (e : Nat) (f : Engine → Engine) : (s.updEngine e f).sys = s.sys := rfl
@[simp] theorem State.updEngine_pins (e : Nat) (f : Engine → Engine) : (s.updEngine e f).pins = s.pins := rfl
@[simp] theorem State.updEngine_em (e : Nat) (f : Engine → Engine) : (s.updEngine e f).em = s.em := rfl
@[simp] theorem State.updEngine_flt (e : Nat) (f : Engine → Engine) : (s.updEngine e f).flt = s.flt := rfl
@[simp] theorem State.updEngine_ev (e : Nat) (f : Engine → Engine) : (s.updEngine e f).ev = s.ev := rfl
@[simp] theorem State.updEngine_hi (e : Nat) (f : Engine → Engine) : (s.updEngine e f).hi = s.hi := rfl
@[simp] theorem State.updEngine_mboxes (e : Nat) (f : Engine → Engine) : (s.updEngine e f).mboxes = s.mboxes := rfl
@[simp] theorem State.updEngine_links (e : Nat) (f : Engine → Engine) : (s.updEngine e f).links = s.links := rfl
@[simp] theorem State.updEngine_senses (e : Nat) (f : Engine → Engine) : (s.updEngine e f).senses = s.senses := rfl
@[simp] theorem State.updEngine_bezels (e : Nat) (f : Engine → Engine) : (s.updEngine e f).bezels = s.bezels := rfl
@[simp] theorem State.updEngine_drives (e : Nat) (f : Engine → Engine) : (s.updEngine e f).drives = s.drives := rfl
@[simp] theorem State.updEngine_slews (e : Nat) (f : Engine → Engine) : (s.updEngine e f).slews = s.slews := rfl
@[simp] theorem State.updEngine_mons (e : Nat) (f : Engine → Engine) : (s.updEngine e f).mons = s.mons := rfl
@[simp] theorem State.updEngine_ctxs (e : Nat) (f : Engine → Engine) : (s.updEngine e f).ctxs = s.ctxs := rfl
@[simp] theorem State.updEngine_engines (e : Nat) (f : Engine → Engine) : (s.updEngine e f).engines = tset {} s.engines e (f (s.engine e)) := rfl
@[simp] theorem State.updEngine_swaps (e : Nat) (f : Engine → Engine) : (s.updEngine e f).swaps = s.swaps := rfl
@[simp] theorem State.updEngine_swapId (e : Nat) (f : Engine → Engine) : (s.updEngine e f).swapId = s.swapId := rfl
@[simp] theorem State.updEngine_tables (e : Nat) (f : Engine → Engine) : (s.updEngine e f).tables = s.tables := rfl
@[simp] theorem State.updEngine_planes (e : Nat) (f : Engine → Engine) : (s.updEngine e f).planes = s.planes := rfl
@[simp] theorem State.updEngine_lib (e : Nat) (f : Engine → Engine) : (s.updEngine e f).lib = s.lib := rfl
@[simp] theorem State.updEngine_launchId (e : Nat) (f : Engine → Engine) : (s.updEngine e f).launchId = s.launchId := rfl
@[simp] theorem State.updEngine_sched (e : Nat) (f : Engine → Engine) : (s.updEngine e f).sched = s.sched := rfl
@[simp] theorem State.updEngine_eps (e : Nat) (f : Engine → Engine) : (s.updEngine e f).eps = s.eps := rfl
@[simp] theorem State.updEngine_relay (e : Nat) (f : Engine → Engine) : (s.updEngine e f).relay = s.relay := rfl
@[simp] theorem State.updEngine_pools (e : Nat) (f : Engine → Engine) : (s.updEngine e f).pools = s.pools := rfl
@[simp] theorem State.updEngine_dom (e : Nat) (f : Engine → Engine) : (s.updEngine e f).dom = s.dom := rfl
@[simp] theorem State.updEngine_cal (e : Nat) (f : Engine → Engine) : (s.updEngine e f).cal = s.cal := rfl
@[simp] theorem State.updEngine_lanes (e : Nat) (f : Engine → Engine) : (s.updEngine e f).lanes = s.lanes := rfl
@[simp] theorem State.updEngine_bists (e : Nat) (f : Engine → Engine) : (s.updEngine e f).bists = s.bists := rfl
@[simp] theorem State.updEngine_loupe (e : Nat) (f : Engine → Engine) : (s.updEngine e f).loupe = s.loupe := rfl
@[simp] theorem State.updEngine_snaps (e : Nat) (f : Engine → Engine) : (s.updEngine e f).snaps = s.snaps := rfl
@[simp] theorem State.updEngine_nvm (e : Nat) (f : Engine → Engine) : (s.updEngine e f).nvm = s.nvm := rfl
@[simp] theorem State.updEngine_pwr (e : Nat) (f : Engine → Engine) : (s.updEngine e f).pwr = s.pwr := rfl
@[simp] theorem State.updEngine_sec (e : Nat) (f : Engine → Engine) : (s.updEngine e f).sec = s.sec := rfl
@[simp] theorem State.updEngine_leases (e : Nat) (f : Engine → Engine) : (s.updEngine e f).leases = s.leases := rfl
@[simp] theorem State.updEngine_implicits (e : Nat) (f : Engine → Engine) : (s.updEngine e f).implicits = s.implicits := rfl
@[simp] theorem State.updEngine_leaseId (e : Nat) (f : Engine → Engine) : (s.updEngine e f).leaseId = s.leaseId := rfl

/-! ### updPlane -/

@[simp] theorem State.updPlane_pending (p : Nat) (f : Plane → Plane) : (s.updPlane p f).pending = s.pending := rfl
@[simp] theorem State.updPlane_free (p : Nat) (f : Plane → Plane) : (s.updPlane p f).free = s.free := rfl
@[simp] theorem State.updPlane_out (p : Nat) (f : Plane → Plane) : (s.updPlane p f).out = s.out := rfl
@[simp] theorem State.updPlane_time (p : Nat) (f : Plane → Plane) : (s.updPlane p f).time = s.time := rfl
@[simp] theorem State.updPlane_sys (p : Nat) (f : Plane → Plane) : (s.updPlane p f).sys = s.sys := rfl
@[simp] theorem State.updPlane_pins (p : Nat) (f : Plane → Plane) : (s.updPlane p f).pins = s.pins := rfl
@[simp] theorem State.updPlane_em (p : Nat) (f : Plane → Plane) : (s.updPlane p f).em = s.em := rfl
@[simp] theorem State.updPlane_flt (p : Nat) (f : Plane → Plane) : (s.updPlane p f).flt = s.flt := rfl
@[simp] theorem State.updPlane_ev (p : Nat) (f : Plane → Plane) : (s.updPlane p f).ev = s.ev := rfl
@[simp] theorem State.updPlane_hi (p : Nat) (f : Plane → Plane) : (s.updPlane p f).hi = s.hi := rfl
@[simp] theorem State.updPlane_mboxes (p : Nat) (f : Plane → Plane) : (s.updPlane p f).mboxes = s.mboxes := rfl
@[simp] theorem State.updPlane_links (p : Nat) (f : Plane → Plane) : (s.updPlane p f).links = s.links := rfl
@[simp] theorem State.updPlane_senses (p : Nat) (f : Plane → Plane) : (s.updPlane p f).senses = s.senses := rfl
@[simp] theorem State.updPlane_bezels (p : Nat) (f : Plane → Plane) : (s.updPlane p f).bezels = s.bezels := rfl
@[simp] theorem State.updPlane_drives (p : Nat) (f : Plane → Plane) : (s.updPlane p f).drives = s.drives := rfl
@[simp] theorem State.updPlane_slews (p : Nat) (f : Plane → Plane) : (s.updPlane p f).slews = s.slews := rfl
@[simp] theorem State.updPlane_mons (p : Nat) (f : Plane → Plane) : (s.updPlane p f).mons = s.mons := rfl
@[simp] theorem State.updPlane_ctxs (p : Nat) (f : Plane → Plane) : (s.updPlane p f).ctxs = s.ctxs := rfl
@[simp] theorem State.updPlane_engines (p : Nat) (f : Plane → Plane) : (s.updPlane p f).engines = s.engines := rfl
@[simp] theorem State.updPlane_swaps (p : Nat) (f : Plane → Plane) : (s.updPlane p f).swaps = s.swaps := rfl
@[simp] theorem State.updPlane_swapId (p : Nat) (f : Plane → Plane) : (s.updPlane p f).swapId = s.swapId := rfl
@[simp] theorem State.updPlane_tables (p : Nat) (f : Plane → Plane) : (s.updPlane p f).tables = s.tables := rfl
@[simp] theorem State.updPlane_planes (p : Nat) (f : Plane → Plane) : (s.updPlane p f).planes = tset {} s.planes p (f (s.plane p)) := rfl
@[simp] theorem State.updPlane_lib (p : Nat) (f : Plane → Plane) : (s.updPlane p f).lib = s.lib := rfl
@[simp] theorem State.updPlane_launchId (p : Nat) (f : Plane → Plane) : (s.updPlane p f).launchId = s.launchId := rfl
@[simp] theorem State.updPlane_sched (p : Nat) (f : Plane → Plane) : (s.updPlane p f).sched = s.sched := rfl
@[simp] theorem State.updPlane_eps (p : Nat) (f : Plane → Plane) : (s.updPlane p f).eps = s.eps := rfl
@[simp] theorem State.updPlane_relay (p : Nat) (f : Plane → Plane) : (s.updPlane p f).relay = s.relay := rfl
@[simp] theorem State.updPlane_pools (p : Nat) (f : Plane → Plane) : (s.updPlane p f).pools = s.pools := rfl
@[simp] theorem State.updPlane_dom (p : Nat) (f : Plane → Plane) : (s.updPlane p f).dom = s.dom := rfl
@[simp] theorem State.updPlane_cal (p : Nat) (f : Plane → Plane) : (s.updPlane p f).cal = s.cal := rfl
@[simp] theorem State.updPlane_lanes (p : Nat) (f : Plane → Plane) : (s.updPlane p f).lanes = s.lanes := rfl
@[simp] theorem State.updPlane_bists (p : Nat) (f : Plane → Plane) : (s.updPlane p f).bists = s.bists := rfl
@[simp] theorem State.updPlane_loupe (p : Nat) (f : Plane → Plane) : (s.updPlane p f).loupe = s.loupe := rfl
@[simp] theorem State.updPlane_snaps (p : Nat) (f : Plane → Plane) : (s.updPlane p f).snaps = s.snaps := rfl
@[simp] theorem State.updPlane_nvm (p : Nat) (f : Plane → Plane) : (s.updPlane p f).nvm = s.nvm := rfl
@[simp] theorem State.updPlane_pwr (p : Nat) (f : Plane → Plane) : (s.updPlane p f).pwr = s.pwr := rfl
@[simp] theorem State.updPlane_sec (p : Nat) (f : Plane → Plane) : (s.updPlane p f).sec = s.sec := rfl
@[simp] theorem State.updPlane_leases (p : Nat) (f : Plane → Plane) : (s.updPlane p f).leases = s.leases := rfl
@[simp] theorem State.updPlane_implicits (p : Nat) (f : Plane → Plane) : (s.updPlane p f).implicits = s.implicits := rfl
@[simp] theorem State.updPlane_leaseId (p : Nat) (f : Plane → Plane) : (s.updPlane p f).leaseId = s.leaseId := rfl

/-! ### updSlot -/

@[simp] theorem State.updSlot_pending (p n : Nat) (f : Slot → Slot) : (s.updSlot p n f).pending = s.pending := rfl
@[simp] theorem State.updSlot_free (p n : Nat) (f : Slot → Slot) : (s.updSlot p n f).free = s.free := rfl
@[simp] theorem State.updSlot_out (p n : Nat) (f : Slot → Slot) : (s.updSlot p n f).out = s.out := rfl
@[simp] theorem State.updSlot_time (p n : Nat) (f : Slot → Slot) : (s.updSlot p n f).time = s.time := rfl
@[simp] theorem State.updSlot_sys (p n : Nat) (f : Slot → Slot) : (s.updSlot p n f).sys = s.sys := rfl
@[simp] theorem State.updSlot_pins (p n : Nat) (f : Slot → Slot) : (s.updSlot p n f).pins = s.pins := rfl
@[simp] theorem State.updSlot_em (p n : Nat) (f : Slot → Slot) : (s.updSlot p n f).em = s.em := rfl
@[simp] theorem State.updSlot_flt (p n : Nat) (f : Slot → Slot) : (s.updSlot p n f).flt = s.flt := rfl
@[simp] theorem State.updSlot_ev (p n : Nat) (f : Slot → Slot) : (s.updSlot p n f).ev = s.ev := rfl
@[simp] theorem State.updSlot_hi (p n : Nat) (f : Slot → Slot) : (s.updSlot p n f).hi = s.hi := rfl
@[simp] theorem State.updSlot_mboxes (p n : Nat) (f : Slot → Slot) : (s.updSlot p n f).mboxes = s.mboxes := rfl
@[simp] theorem State.updSlot_links (p n : Nat) (f : Slot → Slot) : (s.updSlot p n f).links = s.links := rfl
@[simp] theorem State.updSlot_senses (p n : Nat) (f : Slot → Slot) : (s.updSlot p n f).senses = s.senses := rfl
@[simp] theorem State.updSlot_bezels (p n : Nat) (f : Slot → Slot) : (s.updSlot p n f).bezels = s.bezels := rfl
@[simp] theorem State.updSlot_drives (p n : Nat) (f : Slot → Slot) : (s.updSlot p n f).drives = s.drives := rfl
@[simp] theorem State.updSlot_slews (p n : Nat) (f : Slot → Slot) : (s.updSlot p n f).slews = s.slews := rfl
@[simp] theorem State.updSlot_mons (p n : Nat) (f : Slot → Slot) : (s.updSlot p n f).mons = s.mons := rfl
@[simp] theorem State.updSlot_ctxs (p n : Nat) (f : Slot → Slot) : (s.updSlot p n f).ctxs = s.ctxs := rfl
@[simp] theorem State.updSlot_engines (p n : Nat) (f : Slot → Slot) : (s.updSlot p n f).engines = s.engines := rfl
@[simp] theorem State.updSlot_swaps (p n : Nat) (f : Slot → Slot) : (s.updSlot p n f).swaps = s.swaps := rfl
@[simp] theorem State.updSlot_swapId (p n : Nat) (f : Slot → Slot) : (s.updSlot p n f).swapId = s.swapId := rfl
@[simp] theorem State.updSlot_tables (p n : Nat) (f : Slot → Slot) : (s.updSlot p n f).tables = s.tables := rfl
@[simp] theorem State.updSlot_planes (p n : Nat) (f : Slot → Slot) : (s.updSlot p n f).planes = s.planes := rfl
@[simp] theorem State.updSlot_lib (p n : Nat) (f : Slot → Slot) : (s.updSlot p n f).lib = tset {} s.lib (p * 65536 + n) (f (s.slot p n)) := rfl
@[simp] theorem State.updSlot_launchId (p n : Nat) (f : Slot → Slot) : (s.updSlot p n f).launchId = s.launchId := rfl
@[simp] theorem State.updSlot_sched (p n : Nat) (f : Slot → Slot) : (s.updSlot p n f).sched = s.sched := rfl
@[simp] theorem State.updSlot_eps (p n : Nat) (f : Slot → Slot) : (s.updSlot p n f).eps = s.eps := rfl
@[simp] theorem State.updSlot_relay (p n : Nat) (f : Slot → Slot) : (s.updSlot p n f).relay = s.relay := rfl
@[simp] theorem State.updSlot_pools (p n : Nat) (f : Slot → Slot) : (s.updSlot p n f).pools = s.pools := rfl
@[simp] theorem State.updSlot_dom (p n : Nat) (f : Slot → Slot) : (s.updSlot p n f).dom = s.dom := rfl
@[simp] theorem State.updSlot_cal (p n : Nat) (f : Slot → Slot) : (s.updSlot p n f).cal = s.cal := rfl
@[simp] theorem State.updSlot_lanes (p n : Nat) (f : Slot → Slot) : (s.updSlot p n f).lanes = s.lanes := rfl
@[simp] theorem State.updSlot_bists (p n : Nat) (f : Slot → Slot) : (s.updSlot p n f).bists = s.bists := rfl
@[simp] theorem State.updSlot_loupe (p n : Nat) (f : Slot → Slot) : (s.updSlot p n f).loupe = s.loupe := rfl
@[simp] theorem State.updSlot_snaps (p n : Nat) (f : Slot → Slot) : (s.updSlot p n f).snaps = s.snaps := rfl
@[simp] theorem State.updSlot_nvm (p n : Nat) (f : Slot → Slot) : (s.updSlot p n f).nvm = s.nvm := rfl
@[simp] theorem State.updSlot_pwr (p n : Nat) (f : Slot → Slot) : (s.updSlot p n f).pwr = s.pwr := rfl
@[simp] theorem State.updSlot_sec (p n : Nat) (f : Slot → Slot) : (s.updSlot p n f).sec = s.sec := rfl
@[simp] theorem State.updSlot_leases (p n : Nat) (f : Slot → Slot) : (s.updSlot p n f).leases = s.leases := rfl
@[simp] theorem State.updSlot_implicits (p n : Nat) (f : Slot → Slot) : (s.updSlot p n f).implicits = s.implicits := rfl
@[simp] theorem State.updSlot_leaseId (p n : Nat) (f : Slot → Slot) : (s.updSlot p n f).leaseId = s.leaseId := rfl

/-! ### updMbox -/

@[simp] theorem State.updMbox_pending (m : Nat) (f : Mbox → Mbox) : (s.updMbox m f).pending = s.pending := rfl
@[simp] theorem State.updMbox_free (m : Nat) (f : Mbox → Mbox) : (s.updMbox m f).free = s.free := rfl
@[simp] theorem State.updMbox_out (m : Nat) (f : Mbox → Mbox) : (s.updMbox m f).out = s.out := rfl
@[simp] theorem State.updMbox_time (m : Nat) (f : Mbox → Mbox) : (s.updMbox m f).time = s.time := rfl
@[simp] theorem State.updMbox_sys (m : Nat) (f : Mbox → Mbox) : (s.updMbox m f).sys = s.sys := rfl
@[simp] theorem State.updMbox_pins (m : Nat) (f : Mbox → Mbox) : (s.updMbox m f).pins = s.pins := rfl
@[simp] theorem State.updMbox_em (m : Nat) (f : Mbox → Mbox) : (s.updMbox m f).em = s.em := rfl
@[simp] theorem State.updMbox_flt (m : Nat) (f : Mbox → Mbox) : (s.updMbox m f).flt = s.flt := rfl
@[simp] theorem State.updMbox_ev (m : Nat) (f : Mbox → Mbox) : (s.updMbox m f).ev = s.ev := rfl
@[simp] theorem State.updMbox_hi (m : Nat) (f : Mbox → Mbox) : (s.updMbox m f).hi = s.hi := rfl
@[simp] theorem State.updMbox_mboxes (m : Nat) (f : Mbox → Mbox) : (s.updMbox m f).mboxes = tset {} s.mboxes m (f (s.mbox m)) := rfl
@[simp] theorem State.updMbox_links (m : Nat) (f : Mbox → Mbox) : (s.updMbox m f).links = s.links := rfl
@[simp] theorem State.updMbox_senses (m : Nat) (f : Mbox → Mbox) : (s.updMbox m f).senses = s.senses := rfl
@[simp] theorem State.updMbox_bezels (m : Nat) (f : Mbox → Mbox) : (s.updMbox m f).bezels = s.bezels := rfl
@[simp] theorem State.updMbox_drives (m : Nat) (f : Mbox → Mbox) : (s.updMbox m f).drives = s.drives := rfl
@[simp] theorem State.updMbox_slews (m : Nat) (f : Mbox → Mbox) : (s.updMbox m f).slews = s.slews := rfl
@[simp] theorem State.updMbox_mons (m : Nat) (f : Mbox → Mbox) : (s.updMbox m f).mons = s.mons := rfl
@[simp] theorem State.updMbox_ctxs (m : Nat) (f : Mbox → Mbox) : (s.updMbox m f).ctxs = s.ctxs := rfl
@[simp] theorem State.updMbox_engines (m : Nat) (f : Mbox → Mbox) : (s.updMbox m f).engines = s.engines := rfl
@[simp] theorem State.updMbox_swaps (m : Nat) (f : Mbox → Mbox) : (s.updMbox m f).swaps = s.swaps := rfl
@[simp] theorem State.updMbox_swapId (m : Nat) (f : Mbox → Mbox) : (s.updMbox m f).swapId = s.swapId := rfl
@[simp] theorem State.updMbox_tables (m : Nat) (f : Mbox → Mbox) : (s.updMbox m f).tables = s.tables := rfl
@[simp] theorem State.updMbox_planes (m : Nat) (f : Mbox → Mbox) : (s.updMbox m f).planes = s.planes := rfl
@[simp] theorem State.updMbox_lib (m : Nat) (f : Mbox → Mbox) : (s.updMbox m f).lib = s.lib := rfl
@[simp] theorem State.updMbox_launchId (m : Nat) (f : Mbox → Mbox) : (s.updMbox m f).launchId = s.launchId := rfl
@[simp] theorem State.updMbox_sched (m : Nat) (f : Mbox → Mbox) : (s.updMbox m f).sched = s.sched := rfl
@[simp] theorem State.updMbox_eps (m : Nat) (f : Mbox → Mbox) : (s.updMbox m f).eps = s.eps := rfl
@[simp] theorem State.updMbox_relay (m : Nat) (f : Mbox → Mbox) : (s.updMbox m f).relay = s.relay := rfl
@[simp] theorem State.updMbox_pools (m : Nat) (f : Mbox → Mbox) : (s.updMbox m f).pools = s.pools := rfl
@[simp] theorem State.updMbox_dom (m : Nat) (f : Mbox → Mbox) : (s.updMbox m f).dom = s.dom := rfl
@[simp] theorem State.updMbox_cal (m : Nat) (f : Mbox → Mbox) : (s.updMbox m f).cal = s.cal := rfl
@[simp] theorem State.updMbox_lanes (m : Nat) (f : Mbox → Mbox) : (s.updMbox m f).lanes = s.lanes := rfl
@[simp] theorem State.updMbox_bists (m : Nat) (f : Mbox → Mbox) : (s.updMbox m f).bists = s.bists := rfl
@[simp] theorem State.updMbox_loupe (m : Nat) (f : Mbox → Mbox) : (s.updMbox m f).loupe = s.loupe := rfl
@[simp] theorem State.updMbox_snaps (m : Nat) (f : Mbox → Mbox) : (s.updMbox m f).snaps = s.snaps := rfl
@[simp] theorem State.updMbox_nvm (m : Nat) (f : Mbox → Mbox) : (s.updMbox m f).nvm = s.nvm := rfl
@[simp] theorem State.updMbox_pwr (m : Nat) (f : Mbox → Mbox) : (s.updMbox m f).pwr = s.pwr := rfl
@[simp] theorem State.updMbox_sec (m : Nat) (f : Mbox → Mbox) : (s.updMbox m f).sec = s.sec := rfl
@[simp] theorem State.updMbox_leases (m : Nat) (f : Mbox → Mbox) : (s.updMbox m f).leases = s.leases := rfl
@[simp] theorem State.updMbox_implicits (m : Nat) (f : Mbox → Mbox) : (s.updMbox m f).implicits = s.implicits := rfl
@[simp] theorem State.updMbox_leaseId (m : Nat) (f : Mbox → Mbox) : (s.updMbox m f).leaseId = s.leaseId := rfl

/-! ### updLane -/

@[simp] theorem State.updLane_pending (n : Nat) (f : Lane → Lane) : (s.updLane n f).pending = s.pending := rfl
@[simp] theorem State.updLane_free (n : Nat) (f : Lane → Lane) : (s.updLane n f).free = s.free := rfl
@[simp] theorem State.updLane_out (n : Nat) (f : Lane → Lane) : (s.updLane n f).out = s.out := rfl
@[simp] theorem State.updLane_time (n : Nat) (f : Lane → Lane) : (s.updLane n f).time = s.time := rfl
@[simp] theorem State.updLane_sys (n : Nat) (f : Lane → Lane) : (s.updLane n f).sys = s.sys := rfl
@[simp] theorem State.updLane_pins (n : Nat) (f : Lane → Lane) : (s.updLane n f).pins = s.pins := rfl
@[simp] theorem State.updLane_em (n : Nat) (f : Lane → Lane) : (s.updLane n f).em = s.em := rfl
@[simp] theorem State.updLane_flt (n : Nat) (f : Lane → Lane) : (s.updLane n f).flt = s.flt := rfl
@[simp] theorem State.updLane_ev (n : Nat) (f : Lane → Lane) : (s.updLane n f).ev = s.ev := rfl
@[simp] theorem State.updLane_hi (n : Nat) (f : Lane → Lane) : (s.updLane n f).hi = s.hi := rfl
@[simp] theorem State.updLane_mboxes (n : Nat) (f : Lane → Lane) : (s.updLane n f).mboxes = s.mboxes := rfl
@[simp] theorem State.updLane_links (n : Nat) (f : Lane → Lane) : (s.updLane n f).links = s.links := rfl
@[simp] theorem State.updLane_senses (n : Nat) (f : Lane → Lane) : (s.updLane n f).senses = s.senses := rfl
@[simp] theorem State.updLane_bezels (n : Nat) (f : Lane → Lane) : (s.updLane n f).bezels = s.bezels := rfl
@[simp] theorem State.updLane_drives (n : Nat) (f : Lane → Lane) : (s.updLane n f).drives = s.drives := rfl
@[simp] theorem State.updLane_slews (n : Nat) (f : Lane → Lane) : (s.updLane n f).slews = s.slews := rfl
@[simp] theorem State.updLane_mons (n : Nat) (f : Lane → Lane) : (s.updLane n f).mons = s.mons := rfl
@[simp] theorem State.updLane_ctxs (n : Nat) (f : Lane → Lane) : (s.updLane n f).ctxs = s.ctxs := rfl
@[simp] theorem State.updLane_engines (n : Nat) (f : Lane → Lane) : (s.updLane n f).engines = s.engines := rfl
@[simp] theorem State.updLane_swaps (n : Nat) (f : Lane → Lane) : (s.updLane n f).swaps = s.swaps := rfl
@[simp] theorem State.updLane_swapId (n : Nat) (f : Lane → Lane) : (s.updLane n f).swapId = s.swapId := rfl
@[simp] theorem State.updLane_tables (n : Nat) (f : Lane → Lane) : (s.updLane n f).tables = s.tables := rfl
@[simp] theorem State.updLane_planes (n : Nat) (f : Lane → Lane) : (s.updLane n f).planes = s.planes := rfl
@[simp] theorem State.updLane_lib (n : Nat) (f : Lane → Lane) : (s.updLane n f).lib = s.lib := rfl
@[simp] theorem State.updLane_launchId (n : Nat) (f : Lane → Lane) : (s.updLane n f).launchId = s.launchId := rfl
@[simp] theorem State.updLane_sched (n : Nat) (f : Lane → Lane) : (s.updLane n f).sched = s.sched := rfl
@[simp] theorem State.updLane_eps (n : Nat) (f : Lane → Lane) : (s.updLane n f).eps = s.eps := rfl
@[simp] theorem State.updLane_relay (n : Nat) (f : Lane → Lane) : (s.updLane n f).relay = s.relay := rfl
@[simp] theorem State.updLane_pools (n : Nat) (f : Lane → Lane) : (s.updLane n f).pools = s.pools := rfl
@[simp] theorem State.updLane_dom (n : Nat) (f : Lane → Lane) : (s.updLane n f).dom = s.dom := rfl
@[simp] theorem State.updLane_cal (n : Nat) (f : Lane → Lane) : (s.updLane n f).cal = s.cal := rfl
@[simp] theorem State.updLane_lanes (n : Nat) (f : Lane → Lane) : (s.updLane n f).lanes = tset {} s.lanes n (f (s.lane n)) := rfl
@[simp] theorem State.updLane_bists (n : Nat) (f : Lane → Lane) : (s.updLane n f).bists = s.bists := rfl
@[simp] theorem State.updLane_loupe (n : Nat) (f : Lane → Lane) : (s.updLane n f).loupe = s.loupe := rfl
@[simp] theorem State.updLane_snaps (n : Nat) (f : Lane → Lane) : (s.updLane n f).snaps = s.snaps := rfl
@[simp] theorem State.updLane_nvm (n : Nat) (f : Lane → Lane) : (s.updLane n f).nvm = s.nvm := rfl
@[simp] theorem State.updLane_pwr (n : Nat) (f : Lane → Lane) : (s.updLane n f).pwr = s.pwr := rfl
@[simp] theorem State.updLane_sec (n : Nat) (f : Lane → Lane) : (s.updLane n f).sec = s.sec := rfl
@[simp] theorem State.updLane_leases (n : Nat) (f : Lane → Lane) : (s.updLane n f).leases = s.leases := rfl
@[simp] theorem State.updLane_implicits (n : Nat) (f : Lane → Lane) : (s.updLane n f).implicits = s.implicits := rfl
@[simp] theorem State.updLane_leaseId (n : Nat) (f : Lane → Lane) : (s.updLane n f).leaseId = s.leaseId := rfl

/-! ### updSnap -/

@[simp] theorem State.updSnap_pending (b : Nat) (f : SnapBank → SnapBank) : (s.updSnap b f).pending = s.pending := rfl
@[simp] theorem State.updSnap_free (b : Nat) (f : SnapBank → SnapBank) : (s.updSnap b f).free = s.free := rfl
@[simp] theorem State.updSnap_out (b : Nat) (f : SnapBank → SnapBank) : (s.updSnap b f).out = s.out := rfl
@[simp] theorem State.updSnap_time (b : Nat) (f : SnapBank → SnapBank) : (s.updSnap b f).time = s.time := rfl
@[simp] theorem State.updSnap_sys (b : Nat) (f : SnapBank → SnapBank) : (s.updSnap b f).sys = s.sys := rfl
@[simp] theorem State.updSnap_pins (b : Nat) (f : SnapBank → SnapBank) : (s.updSnap b f).pins = s.pins := rfl
@[simp] theorem State.updSnap_em (b : Nat) (f : SnapBank → SnapBank) : (s.updSnap b f).em = s.em := rfl
@[simp] theorem State.updSnap_flt (b : Nat) (f : SnapBank → SnapBank) : (s.updSnap b f).flt = s.flt := rfl
@[simp] theorem State.updSnap_ev (b : Nat) (f : SnapBank → SnapBank) : (s.updSnap b f).ev = s.ev := rfl
@[simp] theorem State.updSnap_hi (b : Nat) (f : SnapBank → SnapBank) : (s.updSnap b f).hi = s.hi := rfl
@[simp] theorem State.updSnap_mboxes (b : Nat) (f : SnapBank → SnapBank) : (s.updSnap b f).mboxes = s.mboxes := rfl
@[simp] theorem State.updSnap_links (b : Nat) (f : SnapBank → SnapBank) : (s.updSnap b f).links = s.links := rfl
@[simp] theorem State.updSnap_senses (b : Nat) (f : SnapBank → SnapBank) : (s.updSnap b f).senses = s.senses := rfl
@[simp] theorem State.updSnap_bezels (b : Nat) (f : SnapBank → SnapBank) : (s.updSnap b f).bezels = s.bezels := rfl
@[simp] theorem State.updSnap_drives (b : Nat) (f : SnapBank → SnapBank) : (s.updSnap b f).drives = s.drives := rfl
@[simp] theorem State.updSnap_slews (b : Nat) (f : SnapBank → SnapBank) : (s.updSnap b f).slews = s.slews := rfl
@[simp] theorem State.updSnap_mons (b : Nat) (f : SnapBank → SnapBank) : (s.updSnap b f).mons = s.mons := rfl
@[simp] theorem State.updSnap_ctxs (b : Nat) (f : SnapBank → SnapBank) : (s.updSnap b f).ctxs = s.ctxs := rfl
@[simp] theorem State.updSnap_engines (b : Nat) (f : SnapBank → SnapBank) : (s.updSnap b f).engines = s.engines := rfl
@[simp] theorem State.updSnap_swaps (b : Nat) (f : SnapBank → SnapBank) : (s.updSnap b f).swaps = s.swaps := rfl
@[simp] theorem State.updSnap_swapId (b : Nat) (f : SnapBank → SnapBank) : (s.updSnap b f).swapId = s.swapId := rfl
@[simp] theorem State.updSnap_tables (b : Nat) (f : SnapBank → SnapBank) : (s.updSnap b f).tables = s.tables := rfl
@[simp] theorem State.updSnap_planes (b : Nat) (f : SnapBank → SnapBank) : (s.updSnap b f).planes = s.planes := rfl
@[simp] theorem State.updSnap_lib (b : Nat) (f : SnapBank → SnapBank) : (s.updSnap b f).lib = s.lib := rfl
@[simp] theorem State.updSnap_launchId (b : Nat) (f : SnapBank → SnapBank) : (s.updSnap b f).launchId = s.launchId := rfl
@[simp] theorem State.updSnap_sched (b : Nat) (f : SnapBank → SnapBank) : (s.updSnap b f).sched = s.sched := rfl
@[simp] theorem State.updSnap_eps (b : Nat) (f : SnapBank → SnapBank) : (s.updSnap b f).eps = s.eps := rfl
@[simp] theorem State.updSnap_relay (b : Nat) (f : SnapBank → SnapBank) : (s.updSnap b f).relay = s.relay := rfl
@[simp] theorem State.updSnap_pools (b : Nat) (f : SnapBank → SnapBank) : (s.updSnap b f).pools = s.pools := rfl
@[simp] theorem State.updSnap_dom (b : Nat) (f : SnapBank → SnapBank) : (s.updSnap b f).dom = s.dom := rfl
@[simp] theorem State.updSnap_cal (b : Nat) (f : SnapBank → SnapBank) : (s.updSnap b f).cal = s.cal := rfl
@[simp] theorem State.updSnap_lanes (b : Nat) (f : SnapBank → SnapBank) : (s.updSnap b f).lanes = s.lanes := rfl
@[simp] theorem State.updSnap_bists (b : Nat) (f : SnapBank → SnapBank) : (s.updSnap b f).bists = s.bists := rfl
@[simp] theorem State.updSnap_loupe (b : Nat) (f : SnapBank → SnapBank) : (s.updSnap b f).loupe = s.loupe := rfl
@[simp] theorem State.updSnap_snaps (b : Nat) (f : SnapBank → SnapBank) : (s.updSnap b f).snaps = tset {} s.snaps b (f (s.snap b)) := rfl
@[simp] theorem State.updSnap_nvm (b : Nat) (f : SnapBank → SnapBank) : (s.updSnap b f).nvm = s.nvm := rfl
@[simp] theorem State.updSnap_pwr (b : Nat) (f : SnapBank → SnapBank) : (s.updSnap b f).pwr = s.pwr := rfl
@[simp] theorem State.updSnap_sec (b : Nat) (f : SnapBank → SnapBank) : (s.updSnap b f).sec = s.sec := rfl
@[simp] theorem State.updSnap_leases (b : Nat) (f : SnapBank → SnapBank) : (s.updSnap b f).leases = s.leases := rfl
@[simp] theorem State.updSnap_implicits (b : Nat) (f : SnapBank → SnapBank) : (s.updSnap b f).implicits = s.implicits := rfl
@[simp] theorem State.updSnap_leaseId (b : Nat) (f : SnapBank → SnapBank) : (s.updSnap b f).leaseId = s.leaseId := rfl

/-! ### updDplane -/

@[simp] theorem State.updDplane_pending (d : Nat) (f : DPlane → DPlane) : (s.updDplane d f).pending = s.pending := rfl
@[simp] theorem State.updDplane_free (d : Nat) (f : DPlane → DPlane) : (s.updDplane d f).free = s.free := rfl
@[simp] theorem State.updDplane_out (d : Nat) (f : DPlane → DPlane) : (s.updDplane d f).out = s.out := rfl
@[simp] theorem State.updDplane_time (d : Nat) (f : DPlane → DPlane) : (s.updDplane d f).time = s.time := rfl
@[simp] theorem State.updDplane_sys (d : Nat) (f : DPlane → DPlane) : (s.updDplane d f).sys = s.sys := rfl
@[simp] theorem State.updDplane_pins (d : Nat) (f : DPlane → DPlane) : (s.updDplane d f).pins = s.pins := rfl
@[simp] theorem State.updDplane_em (d : Nat) (f : DPlane → DPlane) : (s.updDplane d f).em = s.em := rfl
@[simp] theorem State.updDplane_flt (d : Nat) (f : DPlane → DPlane) : (s.updDplane d f).flt = s.flt := rfl
@[simp] theorem State.updDplane_ev (d : Nat) (f : DPlane → DPlane) : (s.updDplane d f).ev = s.ev := rfl
@[simp] theorem State.updDplane_hi (d : Nat) (f : DPlane → DPlane) : (s.updDplane d f).hi = s.hi := rfl
@[simp] theorem State.updDplane_mboxes (d : Nat) (f : DPlane → DPlane) : (s.updDplane d f).mboxes = s.mboxes := rfl
@[simp] theorem State.updDplane_links (d : Nat) (f : DPlane → DPlane) : (s.updDplane d f).links = s.links := rfl
@[simp] theorem State.updDplane_senses (d : Nat) (f : DPlane → DPlane) : (s.updDplane d f).senses = s.senses := rfl
@[simp] theorem State.updDplane_bezels (d : Nat) (f : DPlane → DPlane) : (s.updDplane d f).bezels = s.bezels := rfl
@[simp] theorem State.updDplane_drives (d : Nat) (f : DPlane → DPlane) : (s.updDplane d f).drives = s.drives := rfl
@[simp] theorem State.updDplane_slews (d : Nat) (f : DPlane → DPlane) : (s.updDplane d f).slews = s.slews := rfl
@[simp] theorem State.updDplane_mons (d : Nat) (f : DPlane → DPlane) : (s.updDplane d f).mons = s.mons := rfl
@[simp] theorem State.updDplane_ctxs (d : Nat) (f : DPlane → DPlane) : (s.updDplane d f).ctxs = s.ctxs := rfl
@[simp] theorem State.updDplane_engines (d : Nat) (f : DPlane → DPlane) : (s.updDplane d f).engines = s.engines := rfl
@[simp] theorem State.updDplane_swaps (d : Nat) (f : DPlane → DPlane) : (s.updDplane d f).swaps = s.swaps := rfl
@[simp] theorem State.updDplane_swapId (d : Nat) (f : DPlane → DPlane) : (s.updDplane d f).swapId = s.swapId := rfl
@[simp] theorem State.updDplane_tables (d : Nat) (f : DPlane → DPlane) : (s.updDplane d f).tables = s.tables := rfl
@[simp] theorem State.updDplane_planes (d : Nat) (f : DPlane → DPlane) : (s.updDplane d f).planes = s.planes := rfl
@[simp] theorem State.updDplane_lib (d : Nat) (f : DPlane → DPlane) : (s.updDplane d f).lib = s.lib := rfl
@[simp] theorem State.updDplane_launchId (d : Nat) (f : DPlane → DPlane) : (s.updDplane d f).launchId = s.launchId := rfl
@[simp] theorem State.updDplane_sched (d : Nat) (f : DPlane → DPlane) : (s.updDplane d f).sched = { s.sched with dplanes := tset {} s.sched.dplanes d (f (s.dplane d)) } := rfl
@[simp] theorem State.updDplane_eps (d : Nat) (f : DPlane → DPlane) : (s.updDplane d f).eps = s.eps := rfl
@[simp] theorem State.updDplane_relay (d : Nat) (f : DPlane → DPlane) : (s.updDplane d f).relay = s.relay := rfl
@[simp] theorem State.updDplane_pools (d : Nat) (f : DPlane → DPlane) : (s.updDplane d f).pools = s.pools := rfl
@[simp] theorem State.updDplane_dom (d : Nat) (f : DPlane → DPlane) : (s.updDplane d f).dom = s.dom := rfl
@[simp] theorem State.updDplane_cal (d : Nat) (f : DPlane → DPlane) : (s.updDplane d f).cal = s.cal := rfl
@[simp] theorem State.updDplane_lanes (d : Nat) (f : DPlane → DPlane) : (s.updDplane d f).lanes = s.lanes := rfl
@[simp] theorem State.updDplane_bists (d : Nat) (f : DPlane → DPlane) : (s.updDplane d f).bists = s.bists := rfl
@[simp] theorem State.updDplane_loupe (d : Nat) (f : DPlane → DPlane) : (s.updDplane d f).loupe = s.loupe := rfl
@[simp] theorem State.updDplane_snaps (d : Nat) (f : DPlane → DPlane) : (s.updDplane d f).snaps = s.snaps := rfl
@[simp] theorem State.updDplane_nvm (d : Nat) (f : DPlane → DPlane) : (s.updDplane d f).nvm = s.nvm := rfl
@[simp] theorem State.updDplane_pwr (d : Nat) (f : DPlane → DPlane) : (s.updDplane d f).pwr = s.pwr := rfl
@[simp] theorem State.updDplane_sec (d : Nat) (f : DPlane → DPlane) : (s.updDplane d f).sec = s.sec := rfl
@[simp] theorem State.updDplane_leases (d : Nat) (f : DPlane → DPlane) : (s.updDplane d f).leases = s.leases := rfl
@[simp] theorem State.updDplane_implicits (d : Nat) (f : DPlane → DPlane) : (s.updDplane d f).implicits = s.implicits := rfl
@[simp] theorem State.updDplane_leaseId (d : Nat) (f : DPlane → DPlane) : (s.updDplane d f).leaseId = s.leaseId := rfl

/-! ### updChainPlane -/

@[simp] theorem State.updChainPlane_pending (d : Nat) (f : ChainPlane → ChainPlane) : (s.updChainPlane d f).pending = s.pending := rfl
@[simp] theorem State.updChainPlane_free (d : Nat) (f : ChainPlane → ChainPlane) : (s.updChainPlane d f).free = s.free := rfl
@[simp] theorem State.updChainPlane_out (d : Nat) (f : ChainPlane → ChainPlane) : (s.updChainPlane d f).out = s.out := rfl
@[simp] theorem State.updChainPlane_time (d : Nat) (f : ChainPlane → ChainPlane) : (s.updChainPlane d f).time = s.time := rfl
@[simp] theorem State.updChainPlane_sys (d : Nat) (f : ChainPlane → ChainPlane) : (s.updChainPlane d f).sys = s.sys := rfl
@[simp] theorem State.updChainPlane_pins (d : Nat) (f : ChainPlane → ChainPlane) : (s.updChainPlane d f).pins = s.pins := rfl
@[simp] theorem State.updChainPlane_em (d : Nat) (f : ChainPlane → ChainPlane) : (s.updChainPlane d f).em = s.em := rfl
@[simp] theorem State.updChainPlane_flt (d : Nat) (f : ChainPlane → ChainPlane) : (s.updChainPlane d f).flt = s.flt := rfl
@[simp] theorem State.updChainPlane_ev (d : Nat) (f : ChainPlane → ChainPlane) : (s.updChainPlane d f).ev = s.ev := rfl
@[simp] theorem State.updChainPlane_hi (d : Nat) (f : ChainPlane → ChainPlane) : (s.updChainPlane d f).hi = s.hi := rfl
@[simp] theorem State.updChainPlane_mboxes (d : Nat) (f : ChainPlane → ChainPlane) : (s.updChainPlane d f).mboxes = s.mboxes := rfl
@[simp] theorem State.updChainPlane_links (d : Nat) (f : ChainPlane → ChainPlane) : (s.updChainPlane d f).links = s.links := rfl
@[simp] theorem State.updChainPlane_senses (d : Nat) (f : ChainPlane → ChainPlane) : (s.updChainPlane d f).senses = s.senses := rfl
@[simp] theorem State.updChainPlane_bezels (d : Nat) (f : ChainPlane → ChainPlane) : (s.updChainPlane d f).bezels = s.bezels := rfl
@[simp] theorem State.updChainPlane_drives (d : Nat) (f : ChainPlane → ChainPlane) : (s.updChainPlane d f).drives = s.drives := rfl
@[simp] theorem State.updChainPlane_slews (d : Nat) (f : ChainPlane → ChainPlane) : (s.updChainPlane d f).slews = s.slews := rfl
@[simp] theorem State.updChainPlane_mons (d : Nat) (f : ChainPlane → ChainPlane) : (s.updChainPlane d f).mons = s.mons := rfl
@[simp] theorem State.updChainPlane_ctxs (d : Nat) (f : ChainPlane → ChainPlane) : (s.updChainPlane d f).ctxs = s.ctxs := rfl
@[simp] theorem State.updChainPlane_engines (d : Nat) (f : ChainPlane → ChainPlane) : (s.updChainPlane d f).engines = s.engines := rfl
@[simp] theorem State.updChainPlane_swaps (d : Nat) (f : ChainPlane → ChainPlane) : (s.updChainPlane d f).swaps = s.swaps := rfl
@[simp] theorem State.updChainPlane_swapId (d : Nat) (f : ChainPlane → ChainPlane) : (s.updChainPlane d f).swapId = s.swapId := rfl
@[simp] theorem State.updChainPlane_tables (d : Nat) (f : ChainPlane → ChainPlane) : (s.updChainPlane d f).tables = s.tables := rfl
@[simp] theorem State.updChainPlane_planes (d : Nat) (f : ChainPlane → ChainPlane) : (s.updChainPlane d f).planes = s.planes := rfl
@[simp] theorem State.updChainPlane_lib (d : Nat) (f : ChainPlane → ChainPlane) : (s.updChainPlane d f).lib = s.lib := rfl
@[simp] theorem State.updChainPlane_launchId (d : Nat) (f : ChainPlane → ChainPlane) : (s.updChainPlane d f).launchId = s.launchId := rfl
@[simp] theorem State.updChainPlane_sched (d : Nat) (f : ChainPlane → ChainPlane) : (s.updChainPlane d f).sched = { s.sched with chainPlanes := tset {} s.sched.chainPlanes d (f (s.chainPlane d)) } := rfl
@[simp] theorem State.updChainPlane_eps (d : Nat) (f : ChainPlane → ChainPlane) : (s.updChainPlane d f).eps = s.eps := rfl
@[simp] theorem State.updChainPlane_relay (d : Nat) (f : ChainPlane → ChainPlane) : (s.updChainPlane d f).relay = s.relay := rfl
@[simp] theorem State.updChainPlane_pools (d : Nat) (f : ChainPlane → ChainPlane) : (s.updChainPlane d f).pools = s.pools := rfl
@[simp] theorem State.updChainPlane_dom (d : Nat) (f : ChainPlane → ChainPlane) : (s.updChainPlane d f).dom = s.dom := rfl
@[simp] theorem State.updChainPlane_cal (d : Nat) (f : ChainPlane → ChainPlane) : (s.updChainPlane d f).cal = s.cal := rfl
@[simp] theorem State.updChainPlane_lanes (d : Nat) (f : ChainPlane → ChainPlane) : (s.updChainPlane d f).lanes = s.lanes := rfl
@[simp] theorem State.updChainPlane_bists (d : Nat) (f : ChainPlane → ChainPlane) : (s.updChainPlane d f).bists = s.bists := rfl
@[simp] theorem State.updChainPlane_loupe (d : Nat) (f : ChainPlane → ChainPlane) : (s.updChainPlane d f).loupe = s.loupe := rfl
@[simp] theorem State.updChainPlane_snaps (d : Nat) (f : ChainPlane → ChainPlane) : (s.updChainPlane d f).snaps = s.snaps := rfl
@[simp] theorem State.updChainPlane_nvm (d : Nat) (f : ChainPlane → ChainPlane) : (s.updChainPlane d f).nvm = s.nvm := rfl
@[simp] theorem State.updChainPlane_pwr (d : Nat) (f : ChainPlane → ChainPlane) : (s.updChainPlane d f).pwr = s.pwr := rfl
@[simp] theorem State.updChainPlane_sec (d : Nat) (f : ChainPlane → ChainPlane) : (s.updChainPlane d f).sec = s.sec := rfl
@[simp] theorem State.updChainPlane_leases (d : Nat) (f : ChainPlane → ChainPlane) : (s.updChainPlane d f).leases = s.leases := rfl
@[simp] theorem State.updChainPlane_implicits (d : Nat) (f : ChainPlane → ChainPlane) : (s.updChainPlane d f).implicits = s.implicits := rfl
@[simp] theorem State.updChainPlane_leaseId (d : Nat) (f : ChainPlane → ChainPlane) : (s.updChainPlane d f).leaseId = s.leaseId := rfl

/-! ### updEp -/

@[simp] theorem State.updEp_pending (e : Nat) (f : Endpoint → Endpoint) : (s.updEp e f).pending = s.pending := rfl
@[simp] theorem State.updEp_free (e : Nat) (f : Endpoint → Endpoint) : (s.updEp e f).free = s.free := rfl
@[simp] theorem State.updEp_out (e : Nat) (f : Endpoint → Endpoint) : (s.updEp e f).out = s.out := rfl
@[simp] theorem State.updEp_time (e : Nat) (f : Endpoint → Endpoint) : (s.updEp e f).time = s.time := rfl
@[simp] theorem State.updEp_sys (e : Nat) (f : Endpoint → Endpoint) : (s.updEp e f).sys = s.sys := rfl
@[simp] theorem State.updEp_pins (e : Nat) (f : Endpoint → Endpoint) : (s.updEp e f).pins = s.pins := rfl
@[simp] theorem State.updEp_em (e : Nat) (f : Endpoint → Endpoint) : (s.updEp e f).em = s.em := rfl
@[simp] theorem State.updEp_flt (e : Nat) (f : Endpoint → Endpoint) : (s.updEp e f).flt = s.flt := rfl
@[simp] theorem State.updEp_ev (e : Nat) (f : Endpoint → Endpoint) : (s.updEp e f).ev = s.ev := rfl
@[simp] theorem State.updEp_hi (e : Nat) (f : Endpoint → Endpoint) : (s.updEp e f).hi = s.hi := rfl
@[simp] theorem State.updEp_mboxes (e : Nat) (f : Endpoint → Endpoint) : (s.updEp e f).mboxes = s.mboxes := rfl
@[simp] theorem State.updEp_links (e : Nat) (f : Endpoint → Endpoint) : (s.updEp e f).links = s.links := rfl
@[simp] theorem State.updEp_senses (e : Nat) (f : Endpoint → Endpoint) : (s.updEp e f).senses = s.senses := rfl
@[simp] theorem State.updEp_bezels (e : Nat) (f : Endpoint → Endpoint) : (s.updEp e f).bezels = s.bezels := rfl
@[simp] theorem State.updEp_drives (e : Nat) (f : Endpoint → Endpoint) : (s.updEp e f).drives = s.drives := rfl
@[simp] theorem State.updEp_slews (e : Nat) (f : Endpoint → Endpoint) : (s.updEp e f).slews = s.slews := rfl
@[simp] theorem State.updEp_mons (e : Nat) (f : Endpoint → Endpoint) : (s.updEp e f).mons = s.mons := rfl
@[simp] theorem State.updEp_ctxs (e : Nat) (f : Endpoint → Endpoint) : (s.updEp e f).ctxs = s.ctxs := rfl
@[simp] theorem State.updEp_engines (e : Nat) (f : Endpoint → Endpoint) : (s.updEp e f).engines = s.engines := rfl
@[simp] theorem State.updEp_swaps (e : Nat) (f : Endpoint → Endpoint) : (s.updEp e f).swaps = s.swaps := rfl
@[simp] theorem State.updEp_swapId (e : Nat) (f : Endpoint → Endpoint) : (s.updEp e f).swapId = s.swapId := rfl
@[simp] theorem State.updEp_tables (e : Nat) (f : Endpoint → Endpoint) : (s.updEp e f).tables = s.tables := rfl
@[simp] theorem State.updEp_planes (e : Nat) (f : Endpoint → Endpoint) : (s.updEp e f).planes = s.planes := rfl
@[simp] theorem State.updEp_lib (e : Nat) (f : Endpoint → Endpoint) : (s.updEp e f).lib = s.lib := rfl
@[simp] theorem State.updEp_launchId (e : Nat) (f : Endpoint → Endpoint) : (s.updEp e f).launchId = s.launchId := rfl
@[simp] theorem State.updEp_sched (e : Nat) (f : Endpoint → Endpoint) : (s.updEp e f).sched = s.sched := rfl
@[simp] theorem State.updEp_eps (e : Nat) (f : Endpoint → Endpoint) : (s.updEp e f).eps = { s.eps with tab := tset {} s.eps.tab e (f (s.ep e)) } := rfl
@[simp] theorem State.updEp_relay (e : Nat) (f : Endpoint → Endpoint) : (s.updEp e f).relay = s.relay := rfl
@[simp] theorem State.updEp_pools (e : Nat) (f : Endpoint → Endpoint) : (s.updEp e f).pools = s.pools := rfl
@[simp] theorem State.updEp_dom (e : Nat) (f : Endpoint → Endpoint) : (s.updEp e f).dom = s.dom := rfl
@[simp] theorem State.updEp_cal (e : Nat) (f : Endpoint → Endpoint) : (s.updEp e f).cal = s.cal := rfl
@[simp] theorem State.updEp_lanes (e : Nat) (f : Endpoint → Endpoint) : (s.updEp e f).lanes = s.lanes := rfl
@[simp] theorem State.updEp_bists (e : Nat) (f : Endpoint → Endpoint) : (s.updEp e f).bists = s.bists := rfl
@[simp] theorem State.updEp_loupe (e : Nat) (f : Endpoint → Endpoint) : (s.updEp e f).loupe = s.loupe := rfl
@[simp] theorem State.updEp_snaps (e : Nat) (f : Endpoint → Endpoint) : (s.updEp e f).snaps = s.snaps := rfl
@[simp] theorem State.updEp_nvm (e : Nat) (f : Endpoint → Endpoint) : (s.updEp e f).nvm = s.nvm := rfl
@[simp] theorem State.updEp_pwr (e : Nat) (f : Endpoint → Endpoint) : (s.updEp e f).pwr = s.pwr := rfl
@[simp] theorem State.updEp_sec (e : Nat) (f : Endpoint → Endpoint) : (s.updEp e f).sec = s.sec := rfl
@[simp] theorem State.updEp_leases (e : Nat) (f : Endpoint → Endpoint) : (s.updEp e f).leases = s.leases := rfl
@[simp] theorem State.updEp_implicits (e : Nat) (f : Endpoint → Endpoint) : (s.updEp e f).implicits = s.implicits := rfl
@[simp] theorem State.updEp_leaseId (e : Nat) (f : Endpoint → Endpoint) : (s.updEp e f).leaseId = s.leaseId := rfl

/-! ### updDemand -/

@[simp] theorem State.updDemand_pending (i : Nat) (f : Demand → Demand) : (s.updDemand i f).pending = s.pending := rfl
@[simp] theorem State.updDemand_free (i : Nat) (f : Demand → Demand) : (s.updDemand i f).free = s.free := rfl
@[simp] theorem State.updDemand_out (i : Nat) (f : Demand → Demand) : (s.updDemand i f).out = s.out := rfl
@[simp] theorem State.updDemand_time (i : Nat) (f : Demand → Demand) : (s.updDemand i f).time = s.time := rfl
@[simp] theorem State.updDemand_sys (i : Nat) (f : Demand → Demand) : (s.updDemand i f).sys = s.sys := rfl
@[simp] theorem State.updDemand_pins (i : Nat) (f : Demand → Demand) : (s.updDemand i f).pins = s.pins := rfl
@[simp] theorem State.updDemand_em (i : Nat) (f : Demand → Demand) : (s.updDemand i f).em = s.em := rfl
@[simp] theorem State.updDemand_flt (i : Nat) (f : Demand → Demand) : (s.updDemand i f).flt = s.flt := rfl
@[simp] theorem State.updDemand_ev (i : Nat) (f : Demand → Demand) : (s.updDemand i f).ev = s.ev := rfl
@[simp] theorem State.updDemand_hi (i : Nat) (f : Demand → Demand) : (s.updDemand i f).hi = s.hi := rfl
@[simp] theorem State.updDemand_mboxes (i : Nat) (f : Demand → Demand) : (s.updDemand i f).mboxes = s.mboxes := rfl
@[simp] theorem State.updDemand_links (i : Nat) (f : Demand → Demand) : (s.updDemand i f).links = s.links := rfl
@[simp] theorem State.updDemand_senses (i : Nat) (f : Demand → Demand) : (s.updDemand i f).senses = s.senses := rfl
@[simp] theorem State.updDemand_bezels (i : Nat) (f : Demand → Demand) : (s.updDemand i f).bezels = s.bezels := rfl
@[simp] theorem State.updDemand_drives (i : Nat) (f : Demand → Demand) : (s.updDemand i f).drives = s.drives := rfl
@[simp] theorem State.updDemand_slews (i : Nat) (f : Demand → Demand) : (s.updDemand i f).slews = s.slews := rfl
@[simp] theorem State.updDemand_mons (i : Nat) (f : Demand → Demand) : (s.updDemand i f).mons = s.mons := rfl
@[simp] theorem State.updDemand_ctxs (i : Nat) (f : Demand → Demand) : (s.updDemand i f).ctxs = s.ctxs := rfl
@[simp] theorem State.updDemand_engines (i : Nat) (f : Demand → Demand) : (s.updDemand i f).engines = s.engines := rfl
@[simp] theorem State.updDemand_swaps (i : Nat) (f : Demand → Demand) : (s.updDemand i f).swaps = s.swaps := rfl
@[simp] theorem State.updDemand_swapId (i : Nat) (f : Demand → Demand) : (s.updDemand i f).swapId = s.swapId := rfl
@[simp] theorem State.updDemand_tables (i : Nat) (f : Demand → Demand) : (s.updDemand i f).tables = s.tables := rfl
@[simp] theorem State.updDemand_planes (i : Nat) (f : Demand → Demand) : (s.updDemand i f).planes = s.planes := rfl
@[simp] theorem State.updDemand_lib (i : Nat) (f : Demand → Demand) : (s.updDemand i f).lib = s.lib := rfl
@[simp] theorem State.updDemand_launchId (i : Nat) (f : Demand → Demand) : (s.updDemand i f).launchId = s.launchId := rfl
@[simp] theorem State.updDemand_sched (i : Nat) (f : Demand → Demand) : (s.updDemand i f).sched = { s.sched with demand := tset {} s.sched.demand i (f (s.demand i)) } := rfl
@[simp] theorem State.updDemand_eps (i : Nat) (f : Demand → Demand) : (s.updDemand i f).eps = s.eps := rfl
@[simp] theorem State.updDemand_relay (i : Nat) (f : Demand → Demand) : (s.updDemand i f).relay = s.relay := rfl
@[simp] theorem State.updDemand_pools (i : Nat) (f : Demand → Demand) : (s.updDemand i f).pools = s.pools := rfl
@[simp] theorem State.updDemand_dom (i : Nat) (f : Demand → Demand) : (s.updDemand i f).dom = s.dom := rfl
@[simp] theorem State.updDemand_cal (i : Nat) (f : Demand → Demand) : (s.updDemand i f).cal = s.cal := rfl
@[simp] theorem State.updDemand_lanes (i : Nat) (f : Demand → Demand) : (s.updDemand i f).lanes = s.lanes := rfl
@[simp] theorem State.updDemand_bists (i : Nat) (f : Demand → Demand) : (s.updDemand i f).bists = s.bists := rfl
@[simp] theorem State.updDemand_loupe (i : Nat) (f : Demand → Demand) : (s.updDemand i f).loupe = s.loupe := rfl
@[simp] theorem State.updDemand_snaps (i : Nat) (f : Demand → Demand) : (s.updDemand i f).snaps = s.snaps := rfl
@[simp] theorem State.updDemand_nvm (i : Nat) (f : Demand → Demand) : (s.updDemand i f).nvm = s.nvm := rfl
@[simp] theorem State.updDemand_pwr (i : Nat) (f : Demand → Demand) : (s.updDemand i f).pwr = s.pwr := rfl
@[simp] theorem State.updDemand_sec (i : Nat) (f : Demand → Demand) : (s.updDemand i f).sec = s.sec := rfl
@[simp] theorem State.updDemand_leases (i : Nat) (f : Demand → Demand) : (s.updDemand i f).leases = s.leases := rfl
@[simp] theorem State.updDemand_implicits (i : Nat) (f : Demand → Demand) : (s.updDemand i f).implicits = s.implicits := rfl
@[simp] theorem State.updDemand_leaseId (i : Nat) (f : Demand → Demand) : (s.updDemand i f).leaseId = s.leaseId := rfl

/-! ### updRlink -/

@[simp] theorem State.updRlink_pending (k : Nat) (f : RLink → RLink) : (s.updRlink k f).pending = s.pending := rfl
@[simp] theorem State.updRlink_free (k : Nat) (f : RLink → RLink) : (s.updRlink k f).free = s.free := rfl
@[simp] theorem State.updRlink_out (k : Nat) (f : RLink → RLink) : (s.updRlink k f).out = s.out := rfl
@[simp] theorem State.updRlink_time (k : Nat) (f : RLink → RLink) : (s.updRlink k f).time = s.time := rfl
@[simp] theorem State.updRlink_sys (k : Nat) (f : RLink → RLink) : (s.updRlink k f).sys = s.sys := rfl
@[simp] theorem State.updRlink_pins (k : Nat) (f : RLink → RLink) : (s.updRlink k f).pins = s.pins := rfl
@[simp] theorem State.updRlink_em (k : Nat) (f : RLink → RLink) : (s.updRlink k f).em = s.em := rfl
@[simp] theorem State.updRlink_flt (k : Nat) (f : RLink → RLink) : (s.updRlink k f).flt = s.flt := rfl
@[simp] theorem State.updRlink_ev (k : Nat) (f : RLink → RLink) : (s.updRlink k f).ev = s.ev := rfl
@[simp] theorem State.updRlink_hi (k : Nat) (f : RLink → RLink) : (s.updRlink k f).hi = s.hi := rfl
@[simp] theorem State.updRlink_mboxes (k : Nat) (f : RLink → RLink) : (s.updRlink k f).mboxes = s.mboxes := rfl
@[simp] theorem State.updRlink_links (k : Nat) (f : RLink → RLink) : (s.updRlink k f).links = s.links := rfl
@[simp] theorem State.updRlink_senses (k : Nat) (f : RLink → RLink) : (s.updRlink k f).senses = s.senses := rfl
@[simp] theorem State.updRlink_bezels (k : Nat) (f : RLink → RLink) : (s.updRlink k f).bezels = s.bezels := rfl
@[simp] theorem State.updRlink_drives (k : Nat) (f : RLink → RLink) : (s.updRlink k f).drives = s.drives := rfl
@[simp] theorem State.updRlink_slews (k : Nat) (f : RLink → RLink) : (s.updRlink k f).slews = s.slews := rfl
@[simp] theorem State.updRlink_mons (k : Nat) (f : RLink → RLink) : (s.updRlink k f).mons = s.mons := rfl
@[simp] theorem State.updRlink_ctxs (k : Nat) (f : RLink → RLink) : (s.updRlink k f).ctxs = s.ctxs := rfl
@[simp] theorem State.updRlink_engines (k : Nat) (f : RLink → RLink) : (s.updRlink k f).engines = s.engines := rfl
@[simp] theorem State.updRlink_swaps (k : Nat) (f : RLink → RLink) : (s.updRlink k f).swaps = s.swaps := rfl
@[simp] theorem State.updRlink_swapId (k : Nat) (f : RLink → RLink) : (s.updRlink k f).swapId = s.swapId := rfl
@[simp] theorem State.updRlink_tables (k : Nat) (f : RLink → RLink) : (s.updRlink k f).tables = s.tables := rfl
@[simp] theorem State.updRlink_planes (k : Nat) (f : RLink → RLink) : (s.updRlink k f).planes = s.planes := rfl
@[simp] theorem State.updRlink_lib (k : Nat) (f : RLink → RLink) : (s.updRlink k f).lib = s.lib := rfl
@[simp] theorem State.updRlink_launchId (k : Nat) (f : RLink → RLink) : (s.updRlink k f).launchId = s.launchId := rfl
@[simp] theorem State.updRlink_sched (k : Nat) (f : RLink → RLink) : (s.updRlink k f).sched = s.sched := rfl
@[simp] theorem State.updRlink_eps (k : Nat) (f : RLink → RLink) : (s.updRlink k f).eps = s.eps := rfl
@[simp] theorem State.updRlink_relay (k : Nat) (f : RLink → RLink) : (s.updRlink k f).relay = { s.relay with links := tset {} s.relay.links k (f (s.rlink k)) } := rfl
@[simp] theorem State.updRlink_pools (k : Nat) (f : RLink → RLink) : (s.updRlink k f).pools = s.pools := rfl
@[simp] theorem State.updRlink_dom (k : Nat) (f : RLink → RLink) : (s.updRlink k f).dom = s.dom := rfl
@[simp] theorem State.updRlink_cal (k : Nat) (f : RLink → RLink) : (s.updRlink k f).cal = s.cal := rfl
@[simp] theorem State.updRlink_lanes (k : Nat) (f : RLink → RLink) : (s.updRlink k f).lanes = s.lanes := rfl
@[simp] theorem State.updRlink_bists (k : Nat) (f : RLink → RLink) : (s.updRlink k f).bists = s.bists := rfl
@[simp] theorem State.updRlink_loupe (k : Nat) (f : RLink → RLink) : (s.updRlink k f).loupe = s.loupe := rfl
@[simp] theorem State.updRlink_snaps (k : Nat) (f : RLink → RLink) : (s.updRlink k f).snaps = s.snaps := rfl
@[simp] theorem State.updRlink_nvm (k : Nat) (f : RLink → RLink) : (s.updRlink k f).nvm = s.nvm := rfl
@[simp] theorem State.updRlink_pwr (k : Nat) (f : RLink → RLink) : (s.updRlink k f).pwr = s.pwr := rfl
@[simp] theorem State.updRlink_sec (k : Nat) (f : RLink → RLink) : (s.updRlink k f).sec = s.sec := rfl
@[simp] theorem State.updRlink_leases (k : Nat) (f : RLink → RLink) : (s.updRlink k f).leases = s.leases := rfl
@[simp] theorem State.updRlink_implicits (k : Nat) (f : RLink → RLink) : (s.updRlink k f).implicits = s.implicits := rfl
@[simp] theorem State.updRlink_leaseId (k : Nat) (f : RLink → RLink) : (s.updRlink k f).leaseId = s.leaseId := rfl

/-! ### updClasp -/

@[simp] theorem State.updClasp_pending (w : Bool) (f : Clasp → Clasp) : (s.updClasp w f).pending = s.pending := rfl
@[simp] theorem State.updClasp_free (w : Bool) (f : Clasp → Clasp) : (s.updClasp w f).free = s.free := rfl
@[simp] theorem State.updClasp_out (w : Bool) (f : Clasp → Clasp) : (s.updClasp w f).out = s.out := rfl
@[simp] theorem State.updClasp_time (w : Bool) (f : Clasp → Clasp) : (s.updClasp w f).time = s.time := rfl
@[simp] theorem State.updClasp_sys (w : Bool) (f : Clasp → Clasp) : (s.updClasp w f).sys = s.sys := rfl
@[simp] theorem State.updClasp_pins (w : Bool) (f : Clasp → Clasp) : (s.updClasp w f).pins = s.pins := rfl
@[simp] theorem State.updClasp_em (w : Bool) (f : Clasp → Clasp) : (s.updClasp w f).em = s.em := rfl
@[simp] theorem State.updClasp_flt (w : Bool) (f : Clasp → Clasp) : (s.updClasp w f).flt = s.flt := rfl
@[simp] theorem State.updClasp_ev (w : Bool) (f : Clasp → Clasp) : (s.updClasp w f).ev = s.ev := rfl
@[simp] theorem State.updClasp_hi (w : Bool) (f : Clasp → Clasp) : (s.updClasp w f).hi = s.hi := rfl
@[simp] theorem State.updClasp_mboxes (w : Bool) (f : Clasp → Clasp) : (s.updClasp w f).mboxes = s.mboxes := rfl
@[simp] theorem State.updClasp_links (w : Bool) (f : Clasp → Clasp) : (s.updClasp w f).links = s.links := rfl
@[simp] theorem State.updClasp_senses (w : Bool) (f : Clasp → Clasp) : (s.updClasp w f).senses = s.senses := rfl
@[simp] theorem State.updClasp_bezels (w : Bool) (f : Clasp → Clasp) : (s.updClasp w f).bezels = s.bezels := rfl
@[simp] theorem State.updClasp_drives (w : Bool) (f : Clasp → Clasp) : (s.updClasp w f).drives = s.drives := rfl
@[simp] theorem State.updClasp_slews (w : Bool) (f : Clasp → Clasp) : (s.updClasp w f).slews = s.slews := rfl
@[simp] theorem State.updClasp_mons (w : Bool) (f : Clasp → Clasp) : (s.updClasp w f).mons = s.mons := rfl
@[simp] theorem State.updClasp_ctxs (w : Bool) (f : Clasp → Clasp) : (s.updClasp w f).ctxs = s.ctxs := rfl
@[simp] theorem State.updClasp_engines (w : Bool) (f : Clasp → Clasp) : (s.updClasp w f).engines = s.engines := rfl
@[simp] theorem State.updClasp_swaps (w : Bool) (f : Clasp → Clasp) : (s.updClasp w f).swaps = s.swaps := rfl
@[simp] theorem State.updClasp_swapId (w : Bool) (f : Clasp → Clasp) : (s.updClasp w f).swapId = s.swapId := rfl
@[simp] theorem State.updClasp_tables (w : Bool) (f : Clasp → Clasp) : (s.updClasp w f).tables = s.tables := rfl
@[simp] theorem State.updClasp_planes (w : Bool) (f : Clasp → Clasp) : (s.updClasp w f).planes = s.planes := rfl
@[simp] theorem State.updClasp_lib (w : Bool) (f : Clasp → Clasp) : (s.updClasp w f).lib = s.lib := rfl
@[simp] theorem State.updClasp_launchId (w : Bool) (f : Clasp → Clasp) : (s.updClasp w f).launchId = s.launchId := rfl
@[simp] theorem State.updClasp_sched (w : Bool) (f : Clasp → Clasp) : (s.updClasp w f).sched = s.sched := rfl
@[simp] theorem State.updClasp_eps (w : Bool) (f : Clasp → Clasp) : (s.updClasp w f).eps = s.eps := rfl
@[simp] theorem State.updClasp_relay (w : Bool) (f : Clasp → Clasp) : (s.updClasp w f).relay = s.relay := rfl
@[simp] theorem State.updClasp_pools (w : Bool) (f : Clasp → Clasp) : (s.updClasp w f).pools = s.pools := rfl
@[simp] theorem State.updClasp_dom (w : Bool) (f : Clasp → Clasp) : (s.updClasp w f).dom = { s.dom with clasps := tset {} s.dom.clasps (b1 w) (f (s.clasp w)) } := rfl
@[simp] theorem State.updClasp_cal (w : Bool) (f : Clasp → Clasp) : (s.updClasp w f).cal = s.cal := rfl
@[simp] theorem State.updClasp_lanes (w : Bool) (f : Clasp → Clasp) : (s.updClasp w f).lanes = s.lanes := rfl
@[simp] theorem State.updClasp_bists (w : Bool) (f : Clasp → Clasp) : (s.updClasp w f).bists = s.bists := rfl
@[simp] theorem State.updClasp_loupe (w : Bool) (f : Clasp → Clasp) : (s.updClasp w f).loupe = s.loupe := rfl
@[simp] theorem State.updClasp_snaps (w : Bool) (f : Clasp → Clasp) : (s.updClasp w f).snaps = s.snaps := rfl
@[simp] theorem State.updClasp_nvm (w : Bool) (f : Clasp → Clasp) : (s.updClasp w f).nvm = s.nvm := rfl
@[simp] theorem State.updClasp_pwr (w : Bool) (f : Clasp → Clasp) : (s.updClasp w f).pwr = s.pwr := rfl
@[simp] theorem State.updClasp_sec (w : Bool) (f : Clasp → Clasp) : (s.updClasp w f).sec = s.sec := rfl
@[simp] theorem State.updClasp_leases (w : Bool) (f : Clasp → Clasp) : (s.updClasp w f).leases = s.leases := rfl
@[simp] theorem State.updClasp_implicits (w : Bool) (f : Clasp → Clasp) : (s.updClasp w f).implicits = s.implicits := rfl
@[simp] theorem State.updClasp_leaseId (w : Bool) (f : Clasp → Clasp) : (s.updClasp w f).leaseId = s.leaseId := rfl

/-! ### updMember -/

@[simp] theorem State.updMember_pending (n : Nat) (f : Member → Member) : (s.updMember n f).pending = s.pending := rfl
@[simp] theorem State.updMember_free (n : Nat) (f : Member → Member) : (s.updMember n f).free = s.free := rfl
@[simp] theorem State.updMember_out (n : Nat) (f : Member → Member) : (s.updMember n f).out = s.out := rfl
@[simp] theorem State.updMember_time (n : Nat) (f : Member → Member) : (s.updMember n f).time = s.time := rfl
@[simp] theorem State.updMember_sys (n : Nat) (f : Member → Member) : (s.updMember n f).sys = s.sys := rfl
@[simp] theorem State.updMember_pins (n : Nat) (f : Member → Member) : (s.updMember n f).pins = s.pins := rfl
@[simp] theorem State.updMember_em (n : Nat) (f : Member → Member) : (s.updMember n f).em = s.em := rfl
@[simp] theorem State.updMember_flt (n : Nat) (f : Member → Member) : (s.updMember n f).flt = s.flt := rfl
@[simp] theorem State.updMember_ev (n : Nat) (f : Member → Member) : (s.updMember n f).ev = s.ev := rfl
@[simp] theorem State.updMember_hi (n : Nat) (f : Member → Member) : (s.updMember n f).hi = s.hi := rfl
@[simp] theorem State.updMember_mboxes (n : Nat) (f : Member → Member) : (s.updMember n f).mboxes = s.mboxes := rfl
@[simp] theorem State.updMember_links (n : Nat) (f : Member → Member) : (s.updMember n f).links = s.links := rfl
@[simp] theorem State.updMember_senses (n : Nat) (f : Member → Member) : (s.updMember n f).senses = s.senses := rfl
@[simp] theorem State.updMember_bezels (n : Nat) (f : Member → Member) : (s.updMember n f).bezels = s.bezels := rfl
@[simp] theorem State.updMember_drives (n : Nat) (f : Member → Member) : (s.updMember n f).drives = s.drives := rfl
@[simp] theorem State.updMember_slews (n : Nat) (f : Member → Member) : (s.updMember n f).slews = s.slews := rfl
@[simp] theorem State.updMember_mons (n : Nat) (f : Member → Member) : (s.updMember n f).mons = s.mons := rfl
@[simp] theorem State.updMember_ctxs (n : Nat) (f : Member → Member) : (s.updMember n f).ctxs = s.ctxs := rfl
@[simp] theorem State.updMember_engines (n : Nat) (f : Member → Member) : (s.updMember n f).engines = s.engines := rfl
@[simp] theorem State.updMember_swaps (n : Nat) (f : Member → Member) : (s.updMember n f).swaps = s.swaps := rfl
@[simp] theorem State.updMember_swapId (n : Nat) (f : Member → Member) : (s.updMember n f).swapId = s.swapId := rfl
@[simp] theorem State.updMember_tables (n : Nat) (f : Member → Member) : (s.updMember n f).tables = s.tables := rfl
@[simp] theorem State.updMember_planes (n : Nat) (f : Member → Member) : (s.updMember n f).planes = s.planes := rfl
@[simp] theorem State.updMember_lib (n : Nat) (f : Member → Member) : (s.updMember n f).lib = s.lib := rfl
@[simp] theorem State.updMember_launchId (n : Nat) (f : Member → Member) : (s.updMember n f).launchId = s.launchId := rfl
@[simp] theorem State.updMember_sched (n : Nat) (f : Member → Member) : (s.updMember n f).sched = s.sched := rfl
@[simp] theorem State.updMember_eps (n : Nat) (f : Member → Member) : (s.updMember n f).eps = s.eps := rfl
@[simp] theorem State.updMember_relay (n : Nat) (f : Member → Member) : (s.updMember n f).relay = s.relay := rfl
@[simp] theorem State.updMember_pools (n : Nat) (f : Member → Member) : (s.updMember n f).pools = s.pools := rfl
@[simp] theorem State.updMember_dom (n : Nat) (f : Member → Member) : (s.updMember n f).dom = { s.dom with members := tset {} s.dom.members n (f (s.member n)) } := rfl
@[simp] theorem State.updMember_cal (n : Nat) (f : Member → Member) : (s.updMember n f).cal = s.cal := rfl
@[simp] theorem State.updMember_lanes (n : Nat) (f : Member → Member) : (s.updMember n f).lanes = s.lanes := rfl
@[simp] theorem State.updMember_bists (n : Nat) (f : Member → Member) : (s.updMember n f).bists = s.bists := rfl
@[simp] theorem State.updMember_loupe (n : Nat) (f : Member → Member) : (s.updMember n f).loupe = s.loupe := rfl
@[simp] theorem State.updMember_snaps (n : Nat) (f : Member → Member) : (s.updMember n f).snaps = s.snaps := rfl
@[simp] theorem State.updMember_nvm (n : Nat) (f : Member → Member) : (s.updMember n f).nvm = s.nvm := rfl
@[simp] theorem State.updMember_pwr (n : Nat) (f : Member → Member) : (s.updMember n f).pwr = s.pwr := rfl
@[simp] theorem State.updMember_sec (n : Nat) (f : Member → Member) : (s.updMember n f).sec = s.sec := rfl
@[simp] theorem State.updMember_leases (n : Nat) (f : Member → Member) : (s.updMember n f).leases = s.leases := rfl
@[simp] theorem State.updMember_implicits (n : Nat) (f : Member → Member) : (s.updMember n f).implicits = s.implicits := rfl
@[simp] theorem State.updMember_leaseId (n : Nat) (f : Member → Member) : (s.updMember n f).leaseId = s.leaseId := rfl

/-! ### updPtemp -/

@[simp] theorem State.updPtemp_pending (p : Nat) (f : PlaneTemp → PlaneTemp) : (s.updPtemp p f).pending = s.pending := rfl
@[simp] theorem State.updPtemp_free (p : Nat) (f : PlaneTemp → PlaneTemp) : (s.updPtemp p f).free = s.free := rfl
@[simp] theorem State.updPtemp_out (p : Nat) (f : PlaneTemp → PlaneTemp) : (s.updPtemp p f).out = s.out := rfl
@[simp] theorem State.updPtemp_time (p : Nat) (f : PlaneTemp → PlaneTemp) : (s.updPtemp p f).time = s.time := rfl
@[simp] theorem State.updPtemp_sys (p : Nat) (f : PlaneTemp → PlaneTemp) : (s.updPtemp p f).sys = s.sys := rfl
@[simp] theorem State.updPtemp_pins (p : Nat) (f : PlaneTemp → PlaneTemp) : (s.updPtemp p f).pins = s.pins := rfl
@[simp] theorem State.updPtemp_em (p : Nat) (f : PlaneTemp → PlaneTemp) : (s.updPtemp p f).em = s.em := rfl
@[simp] theorem State.updPtemp_flt (p : Nat) (f : PlaneTemp → PlaneTemp) : (s.updPtemp p f).flt = s.flt := rfl
@[simp] theorem State.updPtemp_ev (p : Nat) (f : PlaneTemp → PlaneTemp) : (s.updPtemp p f).ev = s.ev := rfl
@[simp] theorem State.updPtemp_hi (p : Nat) (f : PlaneTemp → PlaneTemp) : (s.updPtemp p f).hi = s.hi := rfl
@[simp] theorem State.updPtemp_mboxes (p : Nat) (f : PlaneTemp → PlaneTemp) : (s.updPtemp p f).mboxes = s.mboxes := rfl
@[simp] theorem State.updPtemp_links (p : Nat) (f : PlaneTemp → PlaneTemp) : (s.updPtemp p f).links = s.links := rfl
@[simp] theorem State.updPtemp_senses (p : Nat) (f : PlaneTemp → PlaneTemp) : (s.updPtemp p f).senses = s.senses := rfl
@[simp] theorem State.updPtemp_bezels (p : Nat) (f : PlaneTemp → PlaneTemp) : (s.updPtemp p f).bezels = s.bezels := rfl
@[simp] theorem State.updPtemp_drives (p : Nat) (f : PlaneTemp → PlaneTemp) : (s.updPtemp p f).drives = s.drives := rfl
@[simp] theorem State.updPtemp_slews (p : Nat) (f : PlaneTemp → PlaneTemp) : (s.updPtemp p f).slews = s.slews := rfl
@[simp] theorem State.updPtemp_mons (p : Nat) (f : PlaneTemp → PlaneTemp) : (s.updPtemp p f).mons = s.mons := rfl
@[simp] theorem State.updPtemp_ctxs (p : Nat) (f : PlaneTemp → PlaneTemp) : (s.updPtemp p f).ctxs = s.ctxs := rfl
@[simp] theorem State.updPtemp_engines (p : Nat) (f : PlaneTemp → PlaneTemp) : (s.updPtemp p f).engines = s.engines := rfl
@[simp] theorem State.updPtemp_swaps (p : Nat) (f : PlaneTemp → PlaneTemp) : (s.updPtemp p f).swaps = s.swaps := rfl
@[simp] theorem State.updPtemp_swapId (p : Nat) (f : PlaneTemp → PlaneTemp) : (s.updPtemp p f).swapId = s.swapId := rfl
@[simp] theorem State.updPtemp_tables (p : Nat) (f : PlaneTemp → PlaneTemp) : (s.updPtemp p f).tables = s.tables := rfl
@[simp] theorem State.updPtemp_planes (p : Nat) (f : PlaneTemp → PlaneTemp) : (s.updPtemp p f).planes = s.planes := rfl
@[simp] theorem State.updPtemp_lib (p : Nat) (f : PlaneTemp → PlaneTemp) : (s.updPtemp p f).lib = s.lib := rfl
@[simp] theorem State.updPtemp_launchId (p : Nat) (f : PlaneTemp → PlaneTemp) : (s.updPtemp p f).launchId = s.launchId := rfl
@[simp] theorem State.updPtemp_sched (p : Nat) (f : PlaneTemp → PlaneTemp) : (s.updPtemp p f).sched = s.sched := rfl
@[simp] theorem State.updPtemp_eps (p : Nat) (f : PlaneTemp → PlaneTemp) : (s.updPtemp p f).eps = s.eps := rfl
@[simp] theorem State.updPtemp_relay (p : Nat) (f : PlaneTemp → PlaneTemp) : (s.updPtemp p f).relay = s.relay := rfl
@[simp] theorem State.updPtemp_pools (p : Nat) (f : PlaneTemp → PlaneTemp) : (s.updPtemp p f).pools = s.pools := rfl
@[simp] theorem State.updPtemp_dom (p : Nat) (f : PlaneTemp → PlaneTemp) : (s.updPtemp p f).dom = s.dom := rfl
@[simp] theorem State.updPtemp_cal (p : Nat) (f : PlaneTemp → PlaneTemp) : (s.updPtemp p f).cal = s.cal := rfl
@[simp] theorem State.updPtemp_lanes (p : Nat) (f : PlaneTemp → PlaneTemp) : (s.updPtemp p f).lanes = s.lanes := rfl
@[simp] theorem State.updPtemp_bists (p : Nat) (f : PlaneTemp → PlaneTemp) : (s.updPtemp p f).bists = s.bists := rfl
@[simp] theorem State.updPtemp_loupe (p : Nat) (f : PlaneTemp → PlaneTemp) : (s.updPtemp p f).loupe = s.loupe := rfl
@[simp] theorem State.updPtemp_snaps (p : Nat) (f : PlaneTemp → PlaneTemp) : (s.updPtemp p f).snaps = s.snaps := rfl
@[simp] theorem State.updPtemp_nvm (p : Nat) (f : PlaneTemp → PlaneTemp) : (s.updPtemp p f).nvm = s.nvm := rfl
@[simp] theorem State.updPtemp_pwr (p : Nat) (f : PlaneTemp → PlaneTemp) : (s.updPtemp p f).pwr = { s.pwr with planes := tset {} s.pwr.planes p (f (s.ptemp p)) } := rfl
@[simp] theorem State.updPtemp_sec (p : Nat) (f : PlaneTemp → PlaneTemp) : (s.updPtemp p f).sec = s.sec := rfl
@[simp] theorem State.updPtemp_leases (p : Nat) (f : PlaneTemp → PlaneTemp) : (s.updPtemp p f).leases = s.leases := rfl
@[simp] theorem State.updPtemp_implicits (p : Nat) (f : PlaneTemp → PlaneTemp) : (s.updPtemp p f).implicits = s.implicits := rfl
@[simp] theorem State.updPtemp_leaseId (p : Nat) (f : PlaneTemp → PlaneTemp) : (s.updPtemp p f).leaseId = s.leaseId := rfl

/-! ### updSensor -/

@[simp] theorem State.updSensor_pending (i : Nat) (f : Sensor → Sensor) : (s.updSensor i f).pending = s.pending := rfl
@[simp] theorem State.updSensor_free (i : Nat) (f : Sensor → Sensor) : (s.updSensor i f).free = s.free := rfl
@[simp] theorem State.updSensor_out (i : Nat) (f : Sensor → Sensor) : (s.updSensor i f).out = s.out := rfl
@[simp] theorem State.updSensor_time (i : Nat) (f : Sensor → Sensor) : (s.updSensor i f).time = s.time := rfl
@[simp] theorem State.updSensor_sys (i : Nat) (f : Sensor → Sensor) : (s.updSensor i f).sys = s.sys := rfl
@[simp] theorem State.updSensor_pins (i : Nat) (f : Sensor → Sensor) : (s.updSensor i f).pins = s.pins := rfl
@[simp] theorem State.updSensor_em (i : Nat) (f : Sensor → Sensor) : (s.updSensor i f).em = s.em := rfl
@[simp] theorem State.updSensor_flt (i : Nat) (f : Sensor → Sensor) : (s.updSensor i f).flt = s.flt := rfl
@[simp] theorem State.updSensor_ev (i : Nat) (f : Sensor → Sensor) : (s.updSensor i f).ev = s.ev := rfl
@[simp] theorem State.updSensor_hi (i : Nat) (f : Sensor → Sensor) : (s.updSensor i f).hi = s.hi := rfl
@[simp] theorem State.updSensor_mboxes (i : Nat) (f : Sensor → Sensor) : (s.updSensor i f).mboxes = s.mboxes := rfl
@[simp] theorem State.updSensor_links (i : Nat) (f : Sensor → Sensor) : (s.updSensor i f).links = s.links := rfl
@[simp] theorem State.updSensor_senses (i : Nat) (f : Sensor → Sensor) : (s.updSensor i f).senses = s.senses := rfl
@[simp] theorem State.updSensor_bezels (i : Nat) (f : Sensor → Sensor) : (s.updSensor i f).bezels = s.bezels := rfl
@[simp] theorem State.updSensor_drives (i : Nat) (f : Sensor → Sensor) : (s.updSensor i f).drives = s.drives := rfl
@[simp] theorem State.updSensor_slews (i : Nat) (f : Sensor → Sensor) : (s.updSensor i f).slews = s.slews := rfl
@[simp] theorem State.updSensor_mons (i : Nat) (f : Sensor → Sensor) : (s.updSensor i f).mons = s.mons := rfl
@[simp] theorem State.updSensor_ctxs (i : Nat) (f : Sensor → Sensor) : (s.updSensor i f).ctxs = s.ctxs := rfl
@[simp] theorem State.updSensor_engines (i : Nat) (f : Sensor → Sensor) : (s.updSensor i f).engines = s.engines := rfl
@[simp] theorem State.updSensor_swaps (i : Nat) (f : Sensor → Sensor) : (s.updSensor i f).swaps = s.swaps := rfl
@[simp] theorem State.updSensor_swapId (i : Nat) (f : Sensor → Sensor) : (s.updSensor i f).swapId = s.swapId := rfl
@[simp] theorem State.updSensor_tables (i : Nat) (f : Sensor → Sensor) : (s.updSensor i f).tables = s.tables := rfl
@[simp] theorem State.updSensor_planes (i : Nat) (f : Sensor → Sensor) : (s.updSensor i f).planes = s.planes := rfl
@[simp] theorem State.updSensor_lib (i : Nat) (f : Sensor → Sensor) : (s.updSensor i f).lib = s.lib := rfl
@[simp] theorem State.updSensor_launchId (i : Nat) (f : Sensor → Sensor) : (s.updSensor i f).launchId = s.launchId := rfl
@[simp] theorem State.updSensor_sched (i : Nat) (f : Sensor → Sensor) : (s.updSensor i f).sched = s.sched := rfl
@[simp] theorem State.updSensor_eps (i : Nat) (f : Sensor → Sensor) : (s.updSensor i f).eps = s.eps := rfl
@[simp] theorem State.updSensor_relay (i : Nat) (f : Sensor → Sensor) : (s.updSensor i f).relay = s.relay := rfl
@[simp] theorem State.updSensor_pools (i : Nat) (f : Sensor → Sensor) : (s.updSensor i f).pools = s.pools := rfl
@[simp] theorem State.updSensor_dom (i : Nat) (f : Sensor → Sensor) : (s.updSensor i f).dom = s.dom := rfl
@[simp] theorem State.updSensor_cal (i : Nat) (f : Sensor → Sensor) : (s.updSensor i f).cal = s.cal := rfl
@[simp] theorem State.updSensor_lanes (i : Nat) (f : Sensor → Sensor) : (s.updSensor i f).lanes = s.lanes := rfl
@[simp] theorem State.updSensor_bists (i : Nat) (f : Sensor → Sensor) : (s.updSensor i f).bists = s.bists := rfl
@[simp] theorem State.updSensor_loupe (i : Nat) (f : Sensor → Sensor) : (s.updSensor i f).loupe = s.loupe := rfl
@[simp] theorem State.updSensor_snaps (i : Nat) (f : Sensor → Sensor) : (s.updSensor i f).snaps = s.snaps := rfl
@[simp] theorem State.updSensor_nvm (i : Nat) (f : Sensor → Sensor) : (s.updSensor i f).nvm = s.nvm := rfl
@[simp] theorem State.updSensor_pwr (i : Nat) (f : Sensor → Sensor) : (s.updSensor i f).pwr = { s.pwr with sensors := tset {} s.pwr.sensors i (f (s.sensor i)) } := rfl
@[simp] theorem State.updSensor_sec (i : Nat) (f : Sensor → Sensor) : (s.updSensor i f).sec = s.sec := rfl
@[simp] theorem State.updSensor_leases (i : Nat) (f : Sensor → Sensor) : (s.updSensor i f).leases = s.leases := rfl
@[simp] theorem State.updSensor_implicits (i : Nat) (f : Sensor → Sensor) : (s.updSensor i f).implicits = s.implicits := rfl
@[simp] theorem State.updSensor_leaseId (i : Nat) (f : Sensor → Sensor) : (s.updSensor i f).leaseId = s.leaseId := rfl

/-! ### updTime -/

@[simp] theorem updTime_pending (f : Time → Time) : (updTime f s).pending = s.pending := rfl
@[simp] theorem updTime_free (f : Time → Time) : (updTime f s).free = s.free := rfl
@[simp] theorem updTime_out (f : Time → Time) : (updTime f s).out = s.out := rfl
@[simp] theorem updTime_time (f : Time → Time) : (updTime f s).time = f s.time := rfl
@[simp] theorem updTime_sys (f : Time → Time) : (updTime f s).sys = s.sys := rfl
@[simp] theorem updTime_pins (f : Time → Time) : (updTime f s).pins = s.pins := rfl
@[simp] theorem updTime_em (f : Time → Time) : (updTime f s).em = s.em := rfl
@[simp] theorem updTime_flt (f : Time → Time) : (updTime f s).flt = s.flt := rfl
@[simp] theorem updTime_ev (f : Time → Time) : (updTime f s).ev = s.ev := rfl
@[simp] theorem updTime_hi (f : Time → Time) : (updTime f s).hi = s.hi := rfl
@[simp] theorem updTime_mboxes (f : Time → Time) : (updTime f s).mboxes = s.mboxes := rfl
@[simp] theorem updTime_links (f : Time → Time) : (updTime f s).links = s.links := rfl
@[simp] theorem updTime_senses (f : Time → Time) : (updTime f s).senses = s.senses := rfl
@[simp] theorem updTime_bezels (f : Time → Time) : (updTime f s).bezels = s.bezels := rfl
@[simp] theorem updTime_drives (f : Time → Time) : (updTime f s).drives = s.drives := rfl
@[simp] theorem updTime_slews (f : Time → Time) : (updTime f s).slews = s.slews := rfl
@[simp] theorem updTime_mons (f : Time → Time) : (updTime f s).mons = s.mons := rfl
@[simp] theorem updTime_ctxs (f : Time → Time) : (updTime f s).ctxs = s.ctxs := rfl
@[simp] theorem updTime_engines (f : Time → Time) : (updTime f s).engines = s.engines := rfl
@[simp] theorem updTime_swaps (f : Time → Time) : (updTime f s).swaps = s.swaps := rfl
@[simp] theorem updTime_swapId (f : Time → Time) : (updTime f s).swapId = s.swapId := rfl
@[simp] theorem updTime_tables (f : Time → Time) : (updTime f s).tables = s.tables := rfl
@[simp] theorem updTime_planes (f : Time → Time) : (updTime f s).planes = s.planes := rfl
@[simp] theorem updTime_lib (f : Time → Time) : (updTime f s).lib = s.lib := rfl
@[simp] theorem updTime_launchId (f : Time → Time) : (updTime f s).launchId = s.launchId := rfl
@[simp] theorem updTime_sched (f : Time → Time) : (updTime f s).sched = s.sched := rfl
@[simp] theorem updTime_eps (f : Time → Time) : (updTime f s).eps = s.eps := rfl
@[simp] theorem updTime_relay (f : Time → Time) : (updTime f s).relay = s.relay := rfl
@[simp] theorem updTime_pools (f : Time → Time) : (updTime f s).pools = s.pools := rfl
@[simp] theorem updTime_dom (f : Time → Time) : (updTime f s).dom = s.dom := rfl
@[simp] theorem updTime_cal (f : Time → Time) : (updTime f s).cal = s.cal := rfl
@[simp] theorem updTime_lanes (f : Time → Time) : (updTime f s).lanes = s.lanes := rfl
@[simp] theorem updTime_bists (f : Time → Time) : (updTime f s).bists = s.bists := rfl
@[simp] theorem updTime_loupe (f : Time → Time) : (updTime f s).loupe = s.loupe := rfl
@[simp] theorem updTime_snaps (f : Time → Time) : (updTime f s).snaps = s.snaps := rfl
@[simp] theorem updTime_nvm (f : Time → Time) : (updTime f s).nvm = s.nvm := rfl
@[simp] theorem updTime_pwr (f : Time → Time) : (updTime f s).pwr = s.pwr := rfl
@[simp] theorem updTime_sec (f : Time → Time) : (updTime f s).sec = s.sec := rfl
@[simp] theorem updTime_leases (f : Time → Time) : (updTime f s).leases = s.leases := rfl
@[simp] theorem updTime_implicits (f : Time → Time) : (updTime f s).implicits = s.implicits := rfl
@[simp] theorem updTime_leaseId (f : Time → Time) : (updTime f s).leaseId = s.leaseId := rfl

/-! ### updSched -/

@[simp] theorem updSched_pending (f : Sched → Sched) : (updSched f s).pending = s.pending := rfl
@[simp] theorem updSched_free (f : Sched → Sched) : (updSched f s).free = s.free := rfl
@[simp] theorem updSched_out (f : Sched → Sched) : (updSched f s).out = s.out := rfl
@[simp] theorem updSched_time (f : Sched → Sched) : (updSched f s).time = s.time := rfl
@[simp] theorem updSched_sys (f : Sched → Sched) : (updSched f s).sys = s.sys := rfl
@[simp] theorem updSched_pins (f : Sched → Sched) : (updSched f s).pins = s.pins := rfl
@[simp] theorem updSched_em (f : Sched → Sched) : (updSched f s).em = s.em := rfl
@[simp] theorem updSched_flt (f : Sched → Sched) : (updSched f s).flt = s.flt := rfl
@[simp] theorem updSched_ev (f : Sched → Sched) : (updSched f s).ev = s.ev := rfl
@[simp] theorem updSched_hi (f : Sched → Sched) : (updSched f s).hi = s.hi := rfl
@[simp] theorem updSched_mboxes (f : Sched → Sched) : (updSched f s).mboxes = s.mboxes := rfl
@[simp] theorem updSched_links (f : Sched → Sched) : (updSched f s).links = s.links := rfl
@[simp] theorem updSched_senses (f : Sched → Sched) : (updSched f s).senses = s.senses := rfl
@[simp] theorem updSched_bezels (f : Sched → Sched) : (updSched f s).bezels = s.bezels := rfl
@[simp] theorem updSched_drives (f : Sched → Sched) : (updSched f s).drives = s.drives := rfl
@[simp] theorem updSched_slews (f : Sched → Sched) : (updSched f s).slews = s.slews := rfl
@[simp] theorem updSched_mons (f : Sched → Sched) : (updSched f s).mons = s.mons := rfl
@[simp] theorem updSched_ctxs (f : Sched → Sched) : (updSched f s).ctxs = s.ctxs := rfl
@[simp] theorem updSched_engines (f : Sched → Sched) : (updSched f s).engines = s.engines := rfl
@[simp] theorem updSched_swaps (f : Sched → Sched) : (updSched f s).swaps = s.swaps := rfl
@[simp] theorem updSched_swapId (f : Sched → Sched) : (updSched f s).swapId = s.swapId := rfl
@[simp] theorem updSched_tables (f : Sched → Sched) : (updSched f s).tables = s.tables := rfl
@[simp] theorem updSched_planes (f : Sched → Sched) : (updSched f s).planes = s.planes := rfl
@[simp] theorem updSched_lib (f : Sched → Sched) : (updSched f s).lib = s.lib := rfl
@[simp] theorem updSched_launchId (f : Sched → Sched) : (updSched f s).launchId = s.launchId := rfl
@[simp] theorem updSched_sched (f : Sched → Sched) : (updSched f s).sched = f s.sched := rfl
@[simp] theorem updSched_eps (f : Sched → Sched) : (updSched f s).eps = s.eps := rfl
@[simp] theorem updSched_relay (f : Sched → Sched) : (updSched f s).relay = s.relay := rfl
@[simp] theorem updSched_pools (f : Sched → Sched) : (updSched f s).pools = s.pools := rfl
@[simp] theorem updSched_dom (f : Sched → Sched) : (updSched f s).dom = s.dom := rfl
@[simp] theorem updSched_cal (f : Sched → Sched) : (updSched f s).cal = s.cal := rfl
@[simp] theorem updSched_lanes (f : Sched → Sched) : (updSched f s).lanes = s.lanes := rfl
@[simp] theorem updSched_bists (f : Sched → Sched) : (updSched f s).bists = s.bists := rfl
@[simp] theorem updSched_loupe (f : Sched → Sched) : (updSched f s).loupe = s.loupe := rfl
@[simp] theorem updSched_snaps (f : Sched → Sched) : (updSched f s).snaps = s.snaps := rfl
@[simp] theorem updSched_nvm (f : Sched → Sched) : (updSched f s).nvm = s.nvm := rfl
@[simp] theorem updSched_pwr (f : Sched → Sched) : (updSched f s).pwr = s.pwr := rfl
@[simp] theorem updSched_sec (f : Sched → Sched) : (updSched f s).sec = s.sec := rfl
@[simp] theorem updSched_leases (f : Sched → Sched) : (updSched f s).leases = s.leases := rfl
@[simp] theorem updSched_implicits (f : Sched → Sched) : (updSched f s).implicits = s.implicits := rfl
@[simp] theorem updSched_leaseId (f : Sched → Sched) : (updSched f s).leaseId = s.leaseId := rfl

/-! ### updDom -/

@[simp] theorem updDom_pending (f : Dom → Dom) : (updDom f s).pending = s.pending := rfl
@[simp] theorem updDom_free (f : Dom → Dom) : (updDom f s).free = s.free := rfl
@[simp] theorem updDom_out (f : Dom → Dom) : (updDom f s).out = s.out := rfl
@[simp] theorem updDom_time (f : Dom → Dom) : (updDom f s).time = s.time := rfl
@[simp] theorem updDom_sys (f : Dom → Dom) : (updDom f s).sys = s.sys := rfl
@[simp] theorem updDom_pins (f : Dom → Dom) : (updDom f s).pins = s.pins := rfl
@[simp] theorem updDom_em (f : Dom → Dom) : (updDom f s).em = s.em := rfl
@[simp] theorem updDom_flt (f : Dom → Dom) : (updDom f s).flt = s.flt := rfl
@[simp] theorem updDom_ev (f : Dom → Dom) : (updDom f s).ev = s.ev := rfl
@[simp] theorem updDom_hi (f : Dom → Dom) : (updDom f s).hi = s.hi := rfl
@[simp] theorem updDom_mboxes (f : Dom → Dom) : (updDom f s).mboxes = s.mboxes := rfl
@[simp] theorem updDom_links (f : Dom → Dom) : (updDom f s).links = s.links := rfl
@[simp] theorem updDom_senses (f : Dom → Dom) : (updDom f s).senses = s.senses := rfl
@[simp] theorem updDom_bezels (f : Dom → Dom) : (updDom f s).bezels = s.bezels := rfl
@[simp] theorem updDom_drives (f : Dom → Dom) : (updDom f s).drives = s.drives := rfl
@[simp] theorem updDom_slews (f : Dom → Dom) : (updDom f s).slews = s.slews := rfl
@[simp] theorem updDom_mons (f : Dom → Dom) : (updDom f s).mons = s.mons := rfl
@[simp] theorem updDom_ctxs (f : Dom → Dom) : (updDom f s).ctxs = s.ctxs := rfl
@[simp] theorem updDom_engines (f : Dom → Dom) : (updDom f s).engines = s.engines := rfl
@[simp] theorem updDom_swaps (f : Dom → Dom) : (updDom f s).swaps = s.swaps := rfl
@[simp] theorem updDom_swapId (f : Dom → Dom) : (updDom f s).swapId = s.swapId := rfl
@[simp] theorem updDom_tables (f : Dom → Dom) : (updDom f s).tables = s.tables := rfl
@[simp] theorem updDom_planes (f : Dom → Dom) : (updDom f s).planes = s.planes := rfl
@[simp] theorem updDom_lib (f : Dom → Dom) : (updDom f s).lib = s.lib := rfl
@[simp] theorem updDom_launchId (f : Dom → Dom) : (updDom f s).launchId = s.launchId := rfl
@[simp] theorem updDom_sched (f : Dom → Dom) : (updDom f s).sched = s.sched := rfl
@[simp] theorem updDom_eps (f : Dom → Dom) : (updDom f s).eps = s.eps := rfl
@[simp] theorem updDom_relay (f : Dom → Dom) : (updDom f s).relay = s.relay := rfl
@[simp] theorem updDom_pools (f : Dom → Dom) : (updDom f s).pools = s.pools := rfl
@[simp] theorem updDom_dom (f : Dom → Dom) : (updDom f s).dom = f s.dom := rfl
@[simp] theorem updDom_cal (f : Dom → Dom) : (updDom f s).cal = s.cal := rfl
@[simp] theorem updDom_lanes (f : Dom → Dom) : (updDom f s).lanes = s.lanes := rfl
@[simp] theorem updDom_bists (f : Dom → Dom) : (updDom f s).bists = s.bists := rfl
@[simp] theorem updDom_loupe (f : Dom → Dom) : (updDom f s).loupe = s.loupe := rfl
@[simp] theorem updDom_snaps (f : Dom → Dom) : (updDom f s).snaps = s.snaps := rfl
@[simp] theorem updDom_nvm (f : Dom → Dom) : (updDom f s).nvm = s.nvm := rfl
@[simp] theorem updDom_pwr (f : Dom → Dom) : (updDom f s).pwr = s.pwr := rfl
@[simp] theorem updDom_sec (f : Dom → Dom) : (updDom f s).sec = s.sec := rfl
@[simp] theorem updDom_leases (f : Dom → Dom) : (updDom f s).leases = s.leases := rfl
@[simp] theorem updDom_implicits (f : Dom → Dom) : (updDom f s).implicits = s.implicits := rfl
@[simp] theorem updDom_leaseId (f : Dom → Dom) : (updDom f s).leaseId = s.leaseId := rfl

/-! ### updCal -/

@[simp] theorem updCal_pending (f : CalSt → CalSt) : (updCal f s).pending = s.pending := rfl
@[simp] theorem updCal_free (f : CalSt → CalSt) : (updCal f s).free = s.free := rfl
@[simp] theorem updCal_out (f : CalSt → CalSt) : (updCal f s).out = s.out := rfl
@[simp] theorem updCal_time (f : CalSt → CalSt) : (updCal f s).time = s.time := rfl
@[simp] theorem updCal_sys (f : CalSt → CalSt) : (updCal f s).sys = s.sys := rfl
@[simp] theorem updCal_pins (f : CalSt → CalSt) : (updCal f s).pins = s.pins := rfl
@[simp] theorem updCal_em (f : CalSt → CalSt) : (updCal f s).em = s.em := rfl
@[simp] theorem updCal_flt (f : CalSt → CalSt) : (updCal f s).flt = s.flt := rfl
@[simp] theorem updCal_ev (f : CalSt → CalSt) : (updCal f s).ev = s.ev := rfl
@[simp] theorem updCal_hi (f : CalSt → CalSt) : (updCal f s).hi = s.hi := rfl
@[simp] theorem updCal_mboxes (f : CalSt → CalSt) : (updCal f s).mboxes = s.mboxes := rfl
@[simp] theorem updCal_links (f : CalSt → CalSt) : (updCal f s).links = s.links := rfl
@[simp] theorem updCal_senses (f : CalSt → CalSt) : (updCal f s).senses = s.senses := rfl
@[simp] theorem updCal_bezels (f : CalSt → CalSt) : (updCal f s).bezels = s.bezels := rfl
@[simp] theorem updCal_drives (f : CalSt → CalSt) : (updCal f s).drives = s.drives := rfl
@[simp] theorem updCal_slews (f : CalSt → CalSt) : (updCal f s).slews = s.slews := rfl
@[simp] theorem updCal_mons (f : CalSt → CalSt) : (updCal f s).mons = s.mons := rfl
@[simp] theorem updCal_ctxs (f : CalSt → CalSt) : (updCal f s).ctxs = s.ctxs := rfl
@[simp] theorem updCal_engines (f : CalSt → CalSt) : (updCal f s).engines = s.engines := rfl
@[simp] theorem updCal_swaps (f : CalSt → CalSt) : (updCal f s).swaps = s.swaps := rfl
@[simp] theorem updCal_swapId (f : CalSt → CalSt) : (updCal f s).swapId = s.swapId := rfl
@[simp] theorem updCal_tables (f : CalSt → CalSt) : (updCal f s).tables = s.tables := rfl
@[simp] theorem updCal_planes (f : CalSt → CalSt) : (updCal f s).planes = s.planes := rfl
@[simp] theorem updCal_lib (f : CalSt → CalSt) : (updCal f s).lib = s.lib := rfl
@[simp] theorem updCal_launchId (f : CalSt → CalSt) : (updCal f s).launchId = s.launchId := rfl
@[simp] theorem updCal_sched (f : CalSt → CalSt) : (updCal f s).sched = s.sched := rfl
@[simp] theorem updCal_eps (f : CalSt → CalSt) : (updCal f s).eps = s.eps := rfl
@[simp] theorem updCal_relay (f : CalSt → CalSt) : (updCal f s).relay = s.relay := rfl
@[simp] theorem updCal_pools (f : CalSt → CalSt) : (updCal f s).pools = s.pools := rfl
@[simp] theorem updCal_dom (f : CalSt → CalSt) : (updCal f s).dom = s.dom := rfl
@[simp] theorem updCal_cal (f : CalSt → CalSt) : (updCal f s).cal = f s.cal := rfl
@[simp] theorem updCal_lanes (f : CalSt → CalSt) : (updCal f s).lanes = s.lanes := rfl
@[simp] theorem updCal_bists (f : CalSt → CalSt) : (updCal f s).bists = s.bists := rfl
@[simp] theorem updCal_loupe (f : CalSt → CalSt) : (updCal f s).loupe = s.loupe := rfl
@[simp] theorem updCal_snaps (f : CalSt → CalSt) : (updCal f s).snaps = s.snaps := rfl
@[simp] theorem updCal_nvm (f : CalSt → CalSt) : (updCal f s).nvm = s.nvm := rfl
@[simp] theorem updCal_pwr (f : CalSt → CalSt) : (updCal f s).pwr = s.pwr := rfl
@[simp] theorem updCal_sec (f : CalSt → CalSt) : (updCal f s).sec = s.sec := rfl
@[simp] theorem updCal_leases (f : CalSt → CalSt) : (updCal f s).leases = s.leases := rfl
@[simp] theorem updCal_implicits (f : CalSt → CalSt) : (updCal f s).implicits = s.implicits := rfl
@[simp] theorem updCal_leaseId (f : CalSt → CalSt) : (updCal f s).leaseId = s.leaseId := rfl

/-! ### updRelay -/

@[simp] theorem updRelay_pending (f : Relay → Relay) : (updRelay f s).pending = s.pending := rfl
@[simp] theorem updRelay_free (f : Relay → Relay) : (updRelay f s).free = s.free := rfl
@[simp] theorem updRelay_out (f : Relay → Relay) : (updRelay f s).out = s.out := rfl
@[simp] theorem updRelay_time (f : Relay → Relay) : (updRelay f s).time = s.time := rfl
@[simp] theorem updRelay_sys (f : Relay → Relay) : (updRelay f s).sys = s.sys := rfl
@[simp] theorem updRelay_pins (f : Relay → Relay) : (updRelay f s).pins = s.pins := rfl
@[simp] theorem updRelay_em (f : Relay → Relay) : (updRelay f s).em = s.em := rfl
@[simp] theorem updRelay_flt (f : Relay → Relay) : (updRelay f s).flt = s.flt := rfl
@[simp] theorem updRelay_ev (f : Relay → Relay) : (updRelay f s).ev = s.ev := rfl
@[simp] theorem updRelay_hi (f : Relay → Relay) : (updRelay f s).hi = s.hi := rfl
@[simp] theorem updRelay_mboxes (f : Relay → Relay) : (updRelay f s).mboxes = s.mboxes := rfl
@[simp] theorem updRelay_links (f : Relay → Relay) : (updRelay f s).links = s.links := rfl
@[simp] theorem updRelay_senses (f : Relay → Relay) : (updRelay f s).senses = s.senses := rfl
@[simp] theorem updRelay_bezels (f : Relay → Relay) : (updRelay f s).bezels = s.bezels := rfl
@[simp] theorem updRelay_drives (f : Relay → Relay) : (updRelay f s).drives = s.drives := rfl
@[simp] theorem updRelay_slews (f : Relay → Relay) : (updRelay f s).slews = s.slews := rfl
@[simp] theorem updRelay_mons (f : Relay → Relay) : (updRelay f s).mons = s.mons := rfl
@[simp] theorem updRelay_ctxs (f : Relay → Relay) : (updRelay f s).ctxs = s.ctxs := rfl
@[simp] theorem updRelay_engines (f : Relay → Relay) : (updRelay f s).engines = s.engines := rfl
@[simp] theorem updRelay_swaps (f : Relay → Relay) : (updRelay f s).swaps = s.swaps := rfl
@[simp] theorem updRelay_swapId (f : Relay → Relay) : (updRelay f s).swapId = s.swapId := rfl
@[simp] theorem updRelay_tables (f : Relay → Relay) : (updRelay f s).tables = s.tables := rfl
@[simp] theorem updRelay_planes (f : Relay → Relay) : (updRelay f s).planes = s.planes := rfl
@[simp] theorem updRelay_lib (f : Relay → Relay) : (updRelay f s).lib = s.lib := rfl
@[simp] theorem updRelay_launchId (f : Relay → Relay) : (updRelay f s).launchId = s.launchId := rfl
@[simp] theorem updRelay_sched (f : Relay → Relay) : (updRelay f s).sched = s.sched := rfl
@[simp] theorem updRelay_eps (f : Relay → Relay) : (updRelay f s).eps = s.eps := rfl
@[simp] theorem updRelay_relay (f : Relay → Relay) : (updRelay f s).relay = f s.relay := rfl
@[simp] theorem updRelay_pools (f : Relay → Relay) : (updRelay f s).pools = s.pools := rfl
@[simp] theorem updRelay_dom (f : Relay → Relay) : (updRelay f s).dom = s.dom := rfl
@[simp] theorem updRelay_cal (f : Relay → Relay) : (updRelay f s).cal = s.cal := rfl
@[simp] theorem updRelay_lanes (f : Relay → Relay) : (updRelay f s).lanes = s.lanes := rfl
@[simp] theorem updRelay_bists (f : Relay → Relay) : (updRelay f s).bists = s.bists := rfl
@[simp] theorem updRelay_loupe (f : Relay → Relay) : (updRelay f s).loupe = s.loupe := rfl
@[simp] theorem updRelay_snaps (f : Relay → Relay) : (updRelay f s).snaps = s.snaps := rfl
@[simp] theorem updRelay_nvm (f : Relay → Relay) : (updRelay f s).nvm = s.nvm := rfl
@[simp] theorem updRelay_pwr (f : Relay → Relay) : (updRelay f s).pwr = s.pwr := rfl
@[simp] theorem updRelay_sec (f : Relay → Relay) : (updRelay f s).sec = s.sec := rfl
@[simp] theorem updRelay_leases (f : Relay → Relay) : (updRelay f s).leases = s.leases := rfl
@[simp] theorem updRelay_implicits (f : Relay → Relay) : (updRelay f s).implicits = s.implicits := rfl
@[simp] theorem updRelay_leaseId (f : Relay → Relay) : (updRelay f s).leaseId = s.leaseId := rfl

/-! ### emit -/

@[simp] theorem State.emit_pending (o : Output) : (s.emit o).pending = s.pending := rfl
@[simp] theorem State.emit_free (o : Output) : (s.emit o).free = s.free := rfl
@[simp] theorem State.emit_out (o : Output) : (s.emit o).out = o :: s.out := rfl
@[simp] theorem State.emit_time (o : Output) : (s.emit o).time = s.time := rfl
@[simp] theorem State.emit_sys (o : Output) : (s.emit o).sys = s.sys := rfl
@[simp] theorem State.emit_pins (o : Output) : (s.emit o).pins = s.pins := rfl
@[simp] theorem State.emit_em (o : Output) : (s.emit o).em = s.em := rfl
@[simp] theorem State.emit_flt (o : Output) : (s.emit o).flt = s.flt := rfl
@[simp] theorem State.emit_ev (o : Output) : (s.emit o).ev = s.ev := rfl
@[simp] theorem State.emit_hi (o : Output) : (s.emit o).hi = s.hi := rfl
@[simp] theorem State.emit_mboxes (o : Output) : (s.emit o).mboxes = s.mboxes := rfl
@[simp] theorem State.emit_links (o : Output) : (s.emit o).links = s.links := rfl
@[simp] theorem State.emit_senses (o : Output) : (s.emit o).senses = s.senses := rfl
@[simp] theorem State.emit_bezels (o : Output) : (s.emit o).bezels = s.bezels := rfl
@[simp] theorem State.emit_drives (o : Output) : (s.emit o).drives = s.drives := rfl
@[simp] theorem State.emit_slews (o : Output) : (s.emit o).slews = s.slews := rfl
@[simp] theorem State.emit_mons (o : Output) : (s.emit o).mons = s.mons := rfl
@[simp] theorem State.emit_ctxs (o : Output) : (s.emit o).ctxs = s.ctxs := rfl
@[simp] theorem State.emit_engines (o : Output) : (s.emit o).engines = s.engines := rfl
@[simp] theorem State.emit_swaps (o : Output) : (s.emit o).swaps = s.swaps := rfl
@[simp] theorem State.emit_swapId (o : Output) : (s.emit o).swapId = s.swapId := rfl
@[simp] theorem State.emit_tables (o : Output) : (s.emit o).tables = s.tables := rfl
@[simp] theorem State.emit_planes (o : Output) : (s.emit o).planes = s.planes := rfl
@[simp] theorem State.emit_lib (o : Output) : (s.emit o).lib = s.lib := rfl
@[simp] theorem State.emit_launchId (o : Output) : (s.emit o).launchId = s.launchId := rfl
@[simp] theorem State.emit_sched (o : Output) : (s.emit o).sched = s.sched := rfl
@[simp] theorem State.emit_eps (o : Output) : (s.emit o).eps = s.eps := rfl
@[simp] theorem State.emit_relay (o : Output) : (s.emit o).relay = s.relay := rfl
@[simp] theorem State.emit_pools (o : Output) : (s.emit o).pools = s.pools := rfl
@[simp] theorem State.emit_dom (o : Output) : (s.emit o).dom = s.dom := rfl
@[simp] theorem State.emit_cal (o : Output) : (s.emit o).cal = s.cal := rfl
@[simp] theorem State.emit_lanes (o : Output) : (s.emit o).lanes = s.lanes := rfl
@[simp] theorem State.emit_bists (o : Output) : (s.emit o).bists = s.bists := rfl
@[simp] theorem State.emit_loupe (o : Output) : (s.emit o).loupe = s.loupe := rfl
@[simp] theorem State.emit_snaps (o : Output) : (s.emit o).snaps = s.snaps := rfl
@[simp] theorem State.emit_nvm (o : Output) : (s.emit o).nvm = s.nvm := rfl
@[simp] theorem State.emit_pwr (o : Output) : (s.emit o).pwr = s.pwr := rfl
@[simp] theorem State.emit_sec (o : Output) : (s.emit o).sec = s.sec := rfl
@[simp] theorem State.emit_leases (o : Output) : (s.emit o).leases = s.leases := rfl
@[simp] theorem State.emit_implicits (o : Output) : (s.emit o).implicits = s.implicits := rfl
@[simp] theorem State.emit_leaseId (o : Output) : (s.emit o).leaseId = s.leaseId := rfl

end Sys2Proof.Machine
end

