-- ==== Sys2Proof/Tests/Slice0.lean ====
section
/-! SUPPORT. Tests of the model: states and operands that meet the hypotheses of each statement (`witness_<statement>`, one entry per
clause), ill-formed terms that the checks refuse, and values that the manual works out (`test_<what>`). -/

set_option Elab.async false

open Sys2Proof Sys2Proof.Machine

namespace Sys2Proof.Tests

/-- A payload from fields (size, value) (R7). -/
def pay (l : List (Nat × Nat)) : Bytes := l.flatMap (fun e => le e.1 e.2)

/-- A request through mailbox 0 with TAG 0x31 and this payload. -/
def reqB (b : Bytes) : Req := { tag := 0x31, len := b.length, payload := b }

/-- The same from fields. -/
def req (l : List (Nat × Nat)) : Req := reqB (pay l)

/-- A plane of 256 ports. -/
def desc : PlaneDesc :=
  { ports := 256, aux := 32, tauNs := 20000, pPiUw := 20000, kMin := 250, extDb := 400, offNs := 10000, tSet := 3000 }

/-- The standard map of two planes of 256 ports. -/
def board : PlaneMap := { geometry := 1, gen := 1, d0 := desc, d1 := desc }

/-- A calibration of both planes under that map. -/
def calib : Cal := { planes := 3, gen := 1, mapGen := 1 }

/-- A device in RUN with the map, the park codes and the calibration in force, whose planes are idle and dark. -/
def ready : State :=
  { State.reset with
    sys := { st := 8, porst := false, strap := 0, role := 0, map := some board, park := some {} }
    mboxes := [(0, { enabled := true })], cal := { cal := some calib }, pwr := { meas := 900 }
    hi := { State.reset.hi with busMaster := true }
    dom := { State.reset.dom with number := 0 } }

/-- Every link in RUN with its reference ready. -/
def linked (s : State) : State :=
  { s with links := (List.range 8).map (fun l => (l, { st := 2 }))
           senses := (List.range 8).map (fun l => (l, { refOn := true, refReady := true })) }

/-- The permutation record that matches nothing. -/
def dark256 : List Nat := List.replicate 256 0xFFFF

/-- The bytes of that record. -/
def darkBytes : Bytes := List.replicate 512 0xFF

/-- A library slot that holds it, as built. -/
def slot0 : Slot := { valid := true, facet := { perm := dark256 }, sig := signature dark256, mapGen := 1, calGen := 1 }

/-- A custom map: plane 0 has 256 ports, and of its channels the map uses channel 0, an arm A. -/
def sparse : PlaneMap := { geometry := 2, gen := 1, d0 := desc, elem := [(0, 2 ^ 29)] }

/-- `ready` under that map, with slot 0 of plane 0 filled. -/
def stocked : State := { ready with sys := { ready.sys with map := some sparse }, lib := [(0, slot0)] }

/-- Plane 0 in STATIC, its links up. -/
def static : State := linked (stocked.updPlane 0 (fun q => { q with regime := 1 }))

/-- `ready` with planes of 2 ports. -/
def tiny : State := { ready with sys := { ready.sys with map := some { board with d0 := { desc with ports := 2 } } } }

/-- A running answer. -/
def isOk {α : Type} : Except Refuse α → Bool
  | .ok _ => true
  | .error _ => false

/-- The request completes: it is accepted, the condition holds, and the answer is OK. -/
def done (c : Cmd) (r : Req) (s : State) (cond : Req → State → Bool := fun _ _ => true) : Bool :=
  let u := started c 0 r s
  let b := (runNow c r u).mbox 0
  accepts c 0 r s && cond r u && b.done && !b.busy && fld b.rsp 2 2 == 0

/-- The request is accepted, the condition holds, and the answer comes later. -/
def waits (c : Cmd) (r : Req) (s : State) (cond : Req → State → Bool := fun _ _ => true) : Bool :=
  let u := started c 0 r s
  accepts c 0 r s && cond r u && ((runNow c r u).mbox 0).busy

/-- The request is accepted, the condition holds, and the answer is a refusal with this status. -/
def refuses (st : Nat) (c : Cmd) (r : Req) (s : State) (cond : Req → State → Bool) : Bool :=
  let u := started c 0 r s
  let b := (runNow c r u).mbox 0
  accepts c 0 r s && cond r u && b.done && fld b.rsp 2 2 == st

/-- The request is accepted and the condition holds. -/
def met (c : Cmd) (r : Req) (s : State) (cond : Req → State → Bool := fun _ _ => true) : Bool :=
  accepts c 0 r s && cond r (started c 0 r s)

/-- PORST_N is high and the condition holds. -/
def holds (s : State) (b : State → Bool) : Bool := !s.sys.porst && b s

/-- A fact. -/
def truth (b : Bool) : Bool := b

theorem witness_SystemCommandsComplete :
    [done cmdSysInfo (req []) ready,
      met cmdSysReset (req [(1, 0), (1, 1), (2, 0)]) ready,
      refuses 6 cmdSysReset (req [(1, 0), (1, 0), (2, 0)]) (ready.updPlane 0 (fun q => { q with regime := 1 })) (fun _ u => !u.allIdle),
      met cmdSysShutdown (req [(1, 1), (3, 0)]) ready,
      done cmdSysEventLog (req [(2, 1), (2, 0)]) (raiseEvent 7 {} ready) (fun _ u => !u.ev.log.isEmpty),
      done cmdSysEcho (req [(2, 0xABCD)]) ready,
      done cmdCapWalk (req [(2, 0), (2, 5)]) ready].all id = true := by decide +kernel

theorem witness_PlaneAndLinkCommandsComplete :
    [done cmdPlaneMapRead (req [(1, 0), (3, 0), (4, 0), (2, 0), (2, 0)]) ready (fun _ u => u.sys.map.isSome),
      met cmdPlaneMapLoad { req [(8, 0), (4, 64), (4, 1)] with dmaIn := mapHead board } ready
        (fun r u => u.allIdle && mapStdOk (hostRead r 64)),
      refuses 6 cmdPlaneMapLoad (req [(8, 0), (4, 64), (4, 1)]) (ready.updPlane 0 (fun q => { q with regime := 1 })) (fun _ u => !u.allIdle),
      done cmdLinkStatus (req [(1, 0), (3, 0)]) ready,
      done cmdLinkRetrain (req [(1, 0), (3, 0)]) ready (fun _ u => (u.linkPlane 0).any (fun p => !u.lit p)),
      refuses 6 cmdLinkRetrain (req [(1, 0), (3, 0)])
        (ready.updPlane 0 (fun q => { q with regime := 1, force := some { perm := [0] } })) (fun _ u => (u.linkPlane 0).any u.lit),
      waits cmdLinkBezelCmd (req [(1, 2), (1, 1), (2, 0)]) (ready.updLink 2 (fun k => { k with st := 2 }))
        (fun _ u => (u.link 2).st == 2 && decide ((u.link 2).cmds.length < 4)),
      refuses 4 cmdLinkBezelCmd (req [(1, 2), (1, 1), (2, 0)]) ready (fun _ u => (u.link 2).st != 2)].all id = true := by decide +kernel

theorem witness_DriveSettingCommandsComplete :
    [done cmdDriveSetTarget (req [(2, 960), (1, 1), (1, 0), (4, 700), (2, 0), (1, 0), (1, 2)]) ready
        (fun _ u => (u.ctx 960).regime == 0 && (u.ctx 960).pending.isNone && !forced u 960 && !litChannel u 960 && decide (1 ≤ 16)),
      done cmdDriveSetSlew (req [(1, 0), (1, 0), (1, 1), (1, 4), (4, 20)]) ready (fun _ u => !scheduling (u.plane 0).regime),
      done cmdDriveSetTick (req [(1, 0), (1, 4), (2, 0)]) ready (fun _ u => (u.plane 0).regime == 0 && (u.plane 0).ramp.isNone),
      done cmdDriveSetRange (req [(2, 1024), (1, 1), (1, 0)]) ready (fun _ u => (ctxKind u 1024).isNone && !litChannel u 1024
        && !scheduling (u.plane (u.elemAt 1024).plane).regime && (rangeChs u 1024).all (fun c => (u.drive c).rcStep == 0)
        && !((u.drive 1024).high != true && (rangeChs u 1024).any (fun c => (rangeCodes u true c).any (fun v => decide (fullCode < v))))),
      met cmdDriveRamp (req [(1, 1), (1, 0), (2, 0), (4, 0)]) { ready with sys := { ready.sys with map := some sparse } }
        (fun _ u => (u.plane 1).regime == 0 && !rampTooFast u 1 0 (rampTicks 250 (u.plane 1).tickUs)),
      done cmdDriveSetLinkLead (req [(1, 7), (3, 0), (4, 50000)]) ready].all id = true := by decide +kernel

theorem witness_DriveReadingCommandsComplete :
    [done cmdDriveReadState (req [(2, 5000), (2, 0)]) ready,
      done cmdDriveParkRead (req [(4, 9215), (2, 1), (2, 0)]) ready,
      waits cmdDriveReadback (req [(2, 145), (1, 1), (1, 0)]) (ready.updLink 0 (fun k => { k with st := 2 }))
        (fun _ u => (calPlane u).isNone && (u.link 0).st == 2 && decide ((tget ({} : RbMod) (u.link 0).mods 1).urgent.length < 4)),
      done cmdDriveSetReadback (req [(1, 0xFF), (1, 3), (2, 5), (1, 1), (3, 0)]) ready,
      done cmdDriveCounters (req [(1, 7), (1, 1), (2, 0)]) ready].all id = true := by decide +kernel

theorem witness_SenseCommandsComplete :
    [done cmdSenseRefEnable (req [(1, 0xFF), (1, 1), (2, 0)]) ready,
      done cmdSenseRefEnable (req [(1, 7), (1, 0), (2, 0)]) ready (fun _ u => ((u.linkPlane 7).map u.lit) == some false),
      done cmdSenseSetChannel (req [(2, 480), (2, 2), (1, 1), (1, 0xFF), (2, 0)]) (ready.updSense 0 (fun k => { k with refOn := true, refReady := true }))
        (fun r u => !(accConflict u (rangeOf r.pay)).1 && !refMissing u 0),
      done cmdSenseAccConfig (req [(2, 5119), (2, 1), (1, 2), (1, 15), (1, 3), (1, 0), (4, 4)])
        (ready.updSense 7 (fun k => { k with refOn := true, refReady := true })) (fun r u => !(accConflict u (rangeOf r.pay)).1 && !refMissing u 7),
      done cmdSenseAccRead (req [(2, 5119), (1, 1), (1, 1)]) ready (fun _ u => !(accConflict u (range' 5119 1)).1),
      done cmdSenseMinmaxRead (req [(2, 5119), (1, 1), (1, 1)]) ready (fun _ u => !(accConflict u (range' 5119 1)).1),
      done cmdSenseStatus (req [(1, 7), (1, 1), (2, 0)]) ready].all id = true := by decide +kernel

/-- A gain table whose breakpoints rise by one. -/
def table : List (Nat × Nat) := (List.range 32).flatMap (fun i => [(4, i), (4, 1), (4, 1)])

theorem witness_LoopSettingCommandsComplete :
    [done cmdLoopSetRegime (req [(2, 0), (2, 1), (1, 0), (1, 0), (1, 0), (1, 0)]) ready
        (fun r u => !(ctxConflict u true (governed u (rangeOf r.pay))).1 && !(governed u (rangeOf r.pay)).any (litCell u)),
      done cmdLoopSetRegime (req [(2, 0), (2, 1), (1, 1), (1, 0), (1, 0), (1, 0)])
        (((ready.updSense 0 (fun k => { k with refOn := true, refReady := true })).updMon 0 (fun x => { x with en := true })).updPlane 0
          (fun q => { q with regime := 1 }))
        (fun r u =>
          let cs := governed u (rangeOf r.pay)
          !cs.any (fun c => refMissing u (c / 1152)) && !cs.any (fun c => (u.plane (u.elemAt c).plane).regime == 0)
            && !cs.any (fun c => !((ctxMon u c).map (fun m => (u.mon m).en)).getD false) && !(ctxConflict u true cs).1),
      done cmdLoopSetGains (req [(2, 0), (2, 2), (1, 1), (1, 0), (2, 0), (2, 5), (2, 6), (2, 7), (2, 0)]) ready
        (fun r u =>
          let cs := governed u (rangeOf r.pay)
          !(ctxConflict u false cs).1 && !cs.any (fun c => (u.ctx c).bank == 1 && (u.ctx c).regime != 0)),
      done cmdLoopSwapBank (req [(2, 0), (2, 2), (1, 1), (3, 0), (12, 0)]) ready
        (fun r u => !(ctxConflict u false (governed u (rangeOf r.pay))).1 && timeAt r.pay 8 == 0),
      done cmdLoopSetSetpoint (req [(2, 0), (2, 1), (4, 5)]) ready (fun r u => !(targetWords u r.pay).any (fun w => litCell u w.1) && !(ctxConflict u true ((targetWords u r.pay).map (·.1))).1),
      done cmdLoopSetLimits (req [(2, 0), (2, 1), (1, 31), (1, 3), (2, 4), (4, 1), (4, 2), (4, 9)]) ready
        (fun r u => !(ctxConflict u true (governed u (rangeOf r.pay))).1 && !(governed u (rangeOf r.pay)).any (fun c => (u.ctx c).regime != 0)),
      done cmdLoopTableLoad (req ([(2, 1023), (2, 0)] ++ table)) ready (fun _ u => !tableUsed u 1023),
      done cmdLoopInject (req ([(2, 0), (2, 0), (12, 0)] ++ [(1, 1), (1, 7), (1, 1), (1, 0), (4, 0), (4, 5), (4, 0)]
        ++ [(1, 0), (1, 7), (1, 1), (1, 0), (4, 0), (4, 0), (4, 0)])) ready (fun _ u => !(ctxConflict u false [0]).1)].all id = true := by
  decide +kernel

/-- The context of channel 0 under injection of a sine. -/
def injecting : State := ready.updCtx 0 (fun x => { x with regime := 4, gen := { on := true, c0 := { wave := 1, inc := 65536 } } })

theorem witness_LoopReadingCommandsComplete :
    [done cmdLoopReadState (req [(2, 9215), (1, 1), (1, 0)]) ready,
      done cmdLoopTableRead (req [(2, 0), (2, 0)]) ready (fun r _ => fld r.pay 0 2 == 0),
      done cmdLoopTableRead (req [(2, 5), (2, 0)]) { ready with tables := [(5, List.replicate 96 1)] } (fun _ u => (tfind u.tables 5).isSome),
      refuses 12 cmdLoopTableRead (req [(2, 5), (2, 0)]) ready (fun _ u => (tfind u.tables 5).isNone),
      done cmdLoopCapture (req [(2, 0), (1, 0), (1, 0), (4, 1), (4, 0), (12, 0)]) injecting
        (fun _ u => (u.ctx 0).regime == 4 && !(u.ctx 0).cap.running && (u.ctx 0).gen.on && (u.ctx 0).gen.c0.wave == 1 && !captureShort u 0 1 65536),
      done cmdLoopCaptureRead (req [(2, 9215), (2, 0)]) ready,
      done cmdLoopCounters (req [(1, 0), (1, 1), (2, 0)]) ready (fun _ u => (u.engine 0).updates == 0),
      met cmdLoopCounters (req [(1, 0), (1, 1), (2, 0)]) (ready.updEngine 0 (fun k => { k with updates := 9 }))
        (fun _ u => (u.engine 0).updates != 0)].all id = true := by decide +kernel

theorem witness_FacetLibraryCommandsComplete :
    [done cmdFacetRead (req [(1, 0), (1, 0), (2, 0), (1, 1), (1, 0), (2, 0), (2, 1)]) stocked (fun _ u => slotValid u 0 0),
      refuses 12 cmdFacetRead (req [(1, 0), (1, 0), (2, 1), (1, 1), (1, 0), (2, 0), (2, 1)]) stocked (fun _ u => !slotValid u 0 1),
      done cmdFacetWrite (req [(1, 0), (1, 2), (2, 0), (2, 0), (2, 1), (8, 0)]) stocked (fun _ u => slotValid u 0 0),
      done cmdFacetPin (req [(1, 0), (1, 2), (2, 0)]) stocked (fun _ u => slotValid u 0 0 && evictable u 0 0),
      done cmdFacetPin (req [(1, 0), (1, 1), (2, 0)]) stocked (fun _ u => slotValid u 0 0 && decide (pinCount u 0 < slotCount u 0 / 2)),
      done cmdFacetRoute (req [(1, 0), (1, 0), (2, 2), (2, 0), (2, 0xFFFF)]) tiny,
      met cmdFacetStatus (req [(1, 0), (1, 1), (2, 0)]) ready].all id = true := by decide +kernel

/-- A launch of slot 0 that waits. -/
def waiting (us' : Nat) : State :=
  static.updPlane 0 (fun q => { q with accepted := [{ id := 3, at' := static.time.now + us us' }] })

theorem witness_LaunchCommandsComplete :
    [met cmdFacetLaunch (reqB (pay [(1, 0), (1, 0), (2, 0)] ++ timeLe (static.time.now + us 10))) static
        (fun r u => (regimeRefusal u 0).all (fun x => !x.1) && slotValid u 0 0 && isOk (acceptLaunch 0 0 (timeAt r.pay 4) (us 10) true none u)),
      done cmdFacetCancel (req [(1, 0), (3, 0), (4, 3)]) (waiting 4) (fun _ u => (u.plane 0).accepted.any (fun l => decide (u.time.now + us 3 < l.at'))),
      refuses 5 cmdFacetCancel (req [(1, 0), (3, 0), (4, 3)]) (waiting 3)
        (fun _ u => (u.plane 0).accepted.any (fun l => decide (l.at' ≤ u.time.now + us 3))),
      done cmdFacetReport (req [(1, 0), (3, 0), (4, 3)]) (waiting 4) (fun _ u => (knownLaunches u 0).any (fun l => l.id == 3)),
      done cmdFacetConfig (req [(1, 0), (1, 2), (1, 1), (1, 1), (1, 0), (1, 1), (2, 0), (2, 1), (2, 1), (4, 0), (4, 0), (4, 5), (4, 5), (4, 0), (4, 2000)])
        ready (fun _ u => (u.plane 0).accepted.isEmpty && (u.plane 0).cur.isNone)].all id = true := by decide +kernel

/-- Chain 4 loaded on DPLANE 0, with two steps of slot 0. -/
def chain4 : Chain := { dplane := 0, steps := [(0, 20000), (0, 20000)], perms := [] }
/-- The device with that chain, plane 0 in STATIC. -/
def chained : State := updSched (fun x => { x with chains := [(4, chain4)] }) static
/-- That chain running since before. -/
def running : State := chained.updChainPlane 0 (fun c => { c with run := some { chain := 4, start := us 100 } })

/-- A manager with an admitted worker 1. -/
def manager : State :=
  { (ready.updMember 1 (fun m => { m with admitted := true, reachable := true, identity := 77 })) with
    sys := { ready.sys with role := 1 } }
/-- That manager, with chain 4 on the worker's DPLANE 2, which is in STATIC with an update tick of 1 μs and RECONFIG_ALLOW 2,400. -/
def abroad : State :=
  updSched (fun x => { x with slotNs := 100000, chains := [(4, { chain4 with dplane := 2, fill := true, perms := [dark256, dark256] })] })
    (manager.updDplane 2 (fun q => { q with regime := 1, tickUs := 1, allow := 2400 }))
/-- `startable`, decided. -/
def startableB (r : Req) (u : State) : Bool :=
  let c := chainOf u (fld r.pay 0 1)
  let d := c.dplane
  let s0 := startBoundary u c (timeAt r.pay 4)
  c.steps != [] && (if c.fill then schedules u else (localOf u d).isSome) && !u.em.hostDark && u.time.st != 4 && dplaneHere u d && dregime u d != 0 && (u.chainPlane d).pend.isNone
    && !u.sched.asked.any (fun a => a.1 == d && a.2.1 == 4) && u.pwr.avs != 2 && ((localOf u d).bind (fun p => scheduleRefusal u p)).isNone
    && (!c.fill || (slotsFit u d s0 && !pinClash u c && !neverFrom u s0))

theorem witness_ChainCommandsComplete :
    [done cmdChainLoad { req [(1, 9), (1, 0), (1, 0), (1, 1), (2, 1), (2, 0), (8, 64)] with dmaIn := pay [(2, 0), (2, 0), (4, 20000)] } stocked
        (fun r u => !chainBusy u 9 && dplaneHere u 0 && (localOf u 0).isSome
          && stepsOk u 0 false (hostRead r 8) (stepsAt (hostRead r 8) 1)),
      waits cmdChainLoad { req [(1, 9), (1, 2), (1, 1), (1, 1), (2, 1), (2, 0), (8, 64)] with dmaIn := pay [(2, 0), (2, 0), (4, 100000)] } abroad
        (fun r u => !chainBusy u 9 && dplaneHere u 2 && (localOf u 2).isNone && stepsOk u 2 true (hostRead r 8) (stepsAt (hostRead r 8) 1)),
      done cmdChainStart (reqB (pay [(1, 4), (3, 0)] ++ timeLe (chained.time.now + ms 2000))) chained
        (fun r u => startableB r u && (localOf u 0).isSome && (startOf r u).isSome),
      waits cmdChainStart (reqB (pay [(1, 4), (3, 0)] ++ timeLe (abroad.time.now + ms 2000))) abroad
        (fun r u => startableB r u && (localOf u 2).isNone && (startOf r u).isSome),
      done cmdChainStop (req [(1, 0), (3, 0), (12, 0)]) running (fun _ u => (ownRun u 0).isSome && dplaneHere u 0),
      refuses 12 cmdChainStop (req [(1, 0), (3, 0), (12, 0)]) chained (fun _ u => (ownRun u 0).isNone && dplaneHere u 0),
      refuses 11 cmdChainStop (req [(1, 4), (3, 0), (12, 0)]) chained (fun r u => r.target == 0xFF && !dplaneHere u 4),
      done cmdChainUnload (req [(1, 4), (3, 0)]) chained (fun _ u => (chainOf u 4).steps != [] && !chainBusy u 4),
      done cmdChainRead (req [(1, 4), (1, 0), (2, 1), (2, 1)]) chained (fun _ u => (chainOf u 4).steps.length == 2),
      done cmdChainStatus (req [(1, 31), (3, 0)]) ready,
      done cmdChainConfig (req [(4, 10), (4, 20)]) ready (fun _ u => !u.sched.chainPlanes.any (fun c => (ownPend u c.1).isSome))].all id = true := by
  decide +kernel

/-- Planes of 2 ports, plane 0 in STATIC. -/
def tinyStatic : State := linked (tiny.updPlane 0 (fun q => { q with regime := 1, cfg := { q.cfg with allowNs := 2000 } }))
theorem witness_SchedulerCommandsComplete :
    [done cmdSchedSetRegime (req [(1, 0), (1, 1), (2, 0), (12, 0)]) ((linked ready).updPlane 0 (fun q => { q with parked := true }))
        (fun r u => u.sys.map.isSome && !u.em.hostDark && !(dplaneAway u r 0).1 && localOf u 0 == some 0 && isOk (changeRegime 0 1 0 u)),
      met cmdSchedSetRegime (req [(1, 0), (1, 3), (2, 0), (12, 0)]) (updSched (fun x => { x with slotNs := 1000000 }) tinyStatic)
        (fun r u => localOf u 0 == some 0 && u.time.st != 4 && !u.em.hostDark && !(dplaneAway u r 0).1 && dregime u 0 == 1 && !neverFrom u (demandBoundary u 0)
          && isOk (changeRegime 0 3 (demandBoundary u 0) u)),
      done cmdSchedSetRegime (req [(1, 1), (1, 0), (2, 0), (12, 0)]) { ready with sys := { ready.sys with map := none } }
        (fun _ u => (localOf u 1).isNone),
      waits cmdSchedSetRegime (req [(1, 2), (1, 1), (2, 0), (12, 0)]) manager (fun _ u => workerHere u 1 && (localOf u 2).isNone),
      waits cmdSchedSetRegime (req [(1, 2), (1, 3), (2, 0), (12, 0)]) abroad
        (fun _ u => workerHere u 1 && dregime u 2 == 1 && !neverFrom u (demandBoundary u 0) && (localOf u 2).isNone),
      done cmdSchedConfig (reqB (pay [(4, 50000), (4, 46000), (4, 2000), (1, 8), (3, 0), (12, 0), (12, 0)])) ready
        (fun _ u => !slotNever u 50000 8 46000 2000 && !anyDemand u),
      met cmdSchedConfig (reqB (pay [(4, 100000), (4, 0), (4, 2000), (1, 1), (3, 0), (12, 0)] ++ timeLe (ready.time.now + ms 2000)))
        (tinyStatic.updPlane 0 (fun q => { q with regime := 3 })) (fun r u => anyDemand u && !(dplanes u).any (fun d => dregime u d == 4) && !slotNever u 100000 1 0 2000 && u.sched.slotNs != 100000
          && decide (u.time.now + 3 * ns u.sched.slotNs + minLead u ≤ timeAt r.pay 28)),
      done cmdSchedClassConfig (req [(1, 3), (1, 3), (1, 1), (1, 0), (2, 1), (2, 0)]) ready,
      done cmdSchedQueueConfig (req [(4, 1048575), (4, 1), (1, 3), (1, 0), (1, 1), (1, 0)]) ready,
      done cmdSchedDemandRead (req [(4, 1048575), (2, 1), (2, 0)]) ready (fun _ u => u.sched.matching.isNone),
      waits cmdSchedDemandRead (req [(4, 1048575), (2, 1), (2, 0)]) (updSched (fun c => { c with matching := some {} }) ready)
        (fun _ u => u.sched.matching.isSome),
      done cmdSchedSampler (req [(4, 0), (4, 1048576), (2, 1), (1, 1), (1, 0)]) ready,
      done cmdSchedStatus (req [(1, 1), (3, 0)]) ready].all id = true := by decide +kernel

/-- Plane 0 with a pin, an armed circuit taken back and a withdrawn pair. -/
def pinned : State := ready.updDplane 0 (fun q => { q with pins := [(5, 9, true)], withdrawn := [(7, 8)] })

theorem witness_PinAndPortCommandsComplete :
    [done cmdSchedPin (req [(1, 0), (1, 0), (2, 5), (2, 9), (2, 0)]) pinned (fun _ u => (u.dplane 0).pins.length == 1),
      done cmdSchedPin (req [(1, 0), (1, 1), (2, 255), (2, 0), (2, 0)]) pinned
        (fun r u => !(dplaneAway u r 0).1 && decide ((u.dplane 0).pins.length < dports u 0)
          && !(u.dplane 0).pins.any (fun x => x.1 == 255 || x.2.1 == 0) && !pinInChain u 0 255 0 && decide (inEp u 0 255 ≤ 511 ∧ outEp u 0 0 ≤ 511)),
      done cmdSchedRestore (req [(1, 0), (1, 1), (2, 0), (2, 0), (2, 0)]) pinned,
      done cmdSchedRestore (req [(1, 0), (1, 0), (2, 7), (2, 8), (2, 0)]) pinned (fun _ u => isWithdrawn u 0 7 8),
      done cmdSchedPlanePorts (req [(1, 0), (1, 0), (2, 1), (2, 1), (2, 0xFFFF), (2, 511)]) tiny
        (fun _ u => !demandRegime (dregime u 0))].all id = true := by decide +kernel

theorem witness_EndpointCommandsComplete :
    [done cmdEndpointConfig (req [(1, 3), (1, 7), (2, 0x88B5), (2, 5000), (2, 40), (4, 0), (4, 1000), (4, 1000), (2, 255), (1, 3), (1, 64), (4, 100),
        (2, 1), (2, 0), (6, 0), (2, 0), (4, 0), (4, 0)]) ready (fun _ u => !anyDemand u),
      done cmdEndpointAdmit (req [(2, 511), (1, 1), (1, 0), (6, 1), (2, 0), (4, 1)]) ready,
      done cmdEndpointAdmit (req [(2, 511), (1, 0), (1, 0), (6, 0), (2, 0), (4, 0)])
        { ready with eps := { ready.eps with binds := [(511, { on := true })] } } (fun _ u => (tget ({} : Bind) u.eps.binds 511).on),
      done cmdEndpointRead (req [(2, 511), (2, 0)]) ready,
      done cmdEndpointEvict (req [(2, 5), (2, 0)]) (ready.updEp 5 (fun e => { e with st := 1 })) (fun _ u => u.sched.matching.isNone && (u.ep 5).st != 0),
      refuses 12 cmdEndpointEvict (req [(2, 5), (2, 0)]) ready (fun _ u => u.sched.matching.isNone && (u.ep 5).st == 0),
      waits cmdEndpointEvict (req [(2, 5), (2, 0)]) (updSched (fun c => { c with matching := some {} }) ready)
        (fun _ u => u.sched.matching.isSome),
      done cmdEndpointCounters (req [(2, 0xFFFF), (1, 1), (1, 0)]) ready,
      done cmdEndpointCounters (req [(2, 511), (1, 1), (1, 0)]) ready].all id = true := by decide +kernel

/-- `ready` with this change of the time unit. -/
def timed (f : Time → Time) : State := updTime f ready

theorem witness_TimeSettingCommandsComplete :
    [done cmdTimeConfig (req [(1, 4), (1, 0), (2, 500), (4, 100), (4, 10), (4, 60000), (4, 0)]) ready
        (fun r u => fld r.pay 0 1 != u.time.source && !anyScheduling u),
      done cmdTimeConfig (req [(1, 0), (1, 0), (2, 1), (4, 1000000000), (4, 100000), (4, 10), (4, 0xFFFFFFFF)]) ready (fun r u => fld r.pay 0 1 == u.time.source),
      done cmdTimeRead (req []) ready,
      done cmdTimeAdjust (req [(1, 3), (7, 0), (8, 2 ^ 64 - 5), (8, 1)]) (timed (fun t => { t with source := 4, st := 3 }))
        (fun _ u => !jumps u 1),
      refuses 2 cmdTimeAdjust (req [(1, 0), (7, 0), (16, 0)]) ready (fun _ u => u.time.source != 2 && u.time.source != 4),
      done cmdTimeForceSet (req [(1, 0), (1, 0), (2, 0), (8, 1), (4, 0), (8, 0)]) ready (fun _ u => u.sys.role ≤ 1 && !anyScheduling u),
      done cmdTimeForceSet (req [(1, 1), (1, 1), (2, 0), (8, 0), (4, 0), (8, 2 ^ 64 - 1)]) ready,
      done cmdTimePtpConfig (req [(1, 3), (1, 127), (1, 1), (1, 1), (1, 249), (1, 4), (1, 5), (1, 2), (1, 255), (1, 255), (1, 255), (1, 1), (4, 0xFFFFFFFF)])
        (timed (fun t => { t with source := 1 })) (fun _ u => u.time.source == 1),
      done cmdTimePtpStatus (req []) (timed (fun t => { t with source := 1 })) (fun _ u => u.time.source == 1),
      refuses 12 cmdTimePtpStatus (req []) ready (fun _ u => u.time.source != 1)].all id = true := by decide +kernel

/-- A device with a stored time stamp and a capture. -/
def stamped : State := timed (fun t => { t with txts := [(3, [{}])], tcap := [(1, { edge := 3, queue := [{}] })] })

theorem witness_TimePinCommandsComplete :
    [done cmdTimeTxtsRead (req [(1, 3), (1, 32), (2, 0)]) stamped (fun _ u => u.time.source != 1 && tget [] u.time.txts 3 != []),
      done cmdTimeTcConfig (req [(1, 1), (1, 15), (2, 0)]) ready,
      done cmdTimeTout (req [(1, 3), (1, 0), (1, 1), (25, 0)]) ready,
      done cmdTimeTout (reqB (pay [(1, 0), (1, 2), (1, 0), (1, 0)] ++ timeLe (ready.time.now + us 2) ++ pay [(4, 100), (4, 90), (4, 0)])) ready
        (fun r u => u.time.now + us 2 ≤ timeAt r.pay 4),
      refuses 5 cmdTimeTout (reqB (pay [(1, 0), (1, 1), (1, 0), (1, 0)] ++ timeLe (ready.time.now + us 1) ++ pay [(4, 0), (4, 10), (4, 0)])) ready
        (fun r u => decide (timeAt r.pay 4 < u.time.now + us 2)),
      done cmdTimeTcapConfig (req [(1, 1), (1, 3), (2, 0)]) ready,
      done cmdTimeTcapRead (req [(1, 1), (1, 16), (2, 0)]) stamped (fun _ u => (tget {} u.time.tcap 1).queue != []),
      refuses 12 cmdTimeTcapRead (req [(1, 0), (1, 1), (2, 0)]) stamped (fun _ u => (tget {} u.time.tcap 0).queue == [])].all id = true := by
  decide +kernel

theorem witness_RelaySettingCommandsComplete :
    [done cmdRelayConfig (req [(6, 1), (1, 2), (1, 7), (2, 4095), (1, 7), (1, 7), (2, 0), (8, 0)]) ready,
      done cmdRelayPortConfig (req [(1, 0), (1, 0), (1, 0xFF), (1, 1), (1, 0), (1, 2), (1, 0), (1, 64)]) ready
        (fun r u => !(portChanges u r.pay && portTimed u 0)),
      done cmdRelayFdbWrite (req [(2, 1), (2, 0), (6, 2), (2, 1), (8, 0)]) ready,
      done cmdRelayGroupWrite (req [(2, 4095), (2, 1), (2, 0x3FFF)]) ready,
      done cmdRelayGateLoad (reqB (pay [(1, 0), (1, 0), (1, 1), (1, 0), (2, 1), (2, 0), (4, 1000), (12, 0), (12, 0)]
        ++ (List.replicate 8 (pay [(2, 64)])).flatten ++ pay [(4, 1000), (1, 1), (3, 0)])) ready
        (fun r u => u.time.now + us 10 ≤ (gateListOf r.pay u.time.now).at'),
      done cmdRelayShaper (req [(1, 0), (1, 0), (1, 7), (1, 0), (4, 0)]) ready,
      done cmdRelayMirror (req [(1, 3), (1, 1), (1, 1), (1, 255), (2, 0), (2, 65535), (2, 256), (2, 0)]) ready].all id = true := by decide +kernel

/-- A lease of class LANE on lane 0. -/
def laneLease : Lease := { id := 5, cls := 6, use := 0, mbox := 0, first := 0, count := 1, due := 2 ^ 60 }

theorem witness_RelayPoolAndLeaseCommandsComplete :
    [done cmdRelayPortStatus (req [(1, 9), (1, 0), (2, 0)]) ready,
      done cmdRelayFdbRead (req [(1, 0), (1, 0), (2, 1), (4, 0), (6, 2), (2, 1)])
        (updRelay (fun x => { x with fdb := [(fdbKey (pay [(6, 2), (2, 1)]) 0, {})] }) ready)
        (fun r u => (tfind u.relay.fdb (fdbKey r.pay 8)).isSome),
      done cmdRelayFdbRead (req [(1, 1), (1, 0), (2, 250), (4, 0), (6, 0), (2, 4095)]) ready,
      done cmdRelayFence (req [(4, 0), (4, 1)]) ready (fun _ u => earlier u 0 == 0),
      waits cmdRelayFence (req [(4, 1), (4, 1000000)])
        (updRelay (fun x => { x with version := 1, frames := [{ dests := [0] }] }) ready) (fun _ u => earlier u 1 != 0),
      done cmdRelayCounters (req [(1, 9), (1, 0), (1, 1), (1, 0)]) ready,
      done cmdPoolConfig (req [(1, 0), (1, 0), (1, 3), (1, 0), (4, 1), (4, 100), (4, 0), (12, 0), (4, 0)]) ready
        (fun r u => minTotal (poolWith r.pay 0 (u.pool 0)) 0 ≤ poolSize 0 && (poolReq (poolWith r.pay 0 (u.pool 0)) 0 0).v ≤ 1),
      done cmdPoolStatus (req [(1, 1), (1, 1), (2, 0)]) ready,
      done cmdLeaseTake (req [(1, 6), (1, 0), (2, 0), (2, 0), (2, 1), (4, 0)]) ready (fun _ u => u.leases.length < 256),
      done cmdLeaseTake (req [(1, 9), (1, 1), (2, 0), (2, 0), (2, 1), (4, 0)]) ready (fun _ u => (allocBufs 1 3 1 1 u).1.isSome),
      done cmdLeaseRenew (req [(4, 5), (4, 1000)]) { ready with leases := [laneLease] } (fun _ u => leaseOf u 5 == some laneLease),
      done cmdLeaseRelease (req [(4, 5)]) { ready with leases := [laneLease] } (fun _ u => leaseOf u 5 == some laneLease),
      met cmdLeaseList (req [(2, 0), (2, 100)]) { ready with leases := [laneLease] }].all id = true := by decide +kernel

theorem witness_DomainCommandsComplete :
    [done cmdDomainConfig (req [(1, 3), (3, 0), (4, 10000000), (4, 50), (4, 10000)]) ready (fun _ u => !(u.sys.role == 2 && u.dom.holdover.isSome)),
      done cmdDomainStatus (req []) ready,
      done cmdDomainMembers (req []) ready (fun _ u => u.sys.role != 2),
      refuses 12 cmdDomainMembers (req []) { ready with sys := { ready.sys with role := 2 } } (fun _ u => u.sys.role == 2),
      done cmdDomainMemberEdit (req [(1, 15), (1, 0), (2, 0), (8, 7)]) ready (fun _ u => !(u.member 15).admitted),
      done cmdDomainMemberEdit (req [(1, 1), (1, 0), (2, 0), (8, 7)]) manager (fun _ u => (u.member 1).admitted && dregime u 2 == 0 && dregime u 3 == 0),
      done cmdDomainSetRole (req [(1, 2), (3, 0)]) ready (fun _ u => u.allIdle),
      refuses 6 cmdDomainSetRole (req [(1, 2), (3, 0)]) static (fun _ u => !u.allIdle),
      done cmdDomainEvents (req [(2, 128), (2, 0)]) (updDom (fun d => { d with log := [{}] }) ready) (fun _ u => u.dom.log != []),
      done cmdDomainCounters (req [(1, 1), (1, 1), (2, 0)]) ready].all id = true := by decide +kernel

/-- Plane 0 dark and parked under `sparse`, its links up and its temperature regulation off. -/
def fresh : State := linked (stocked.updPlane 0 (fun q => { q with parked := true }))
/-- `ready` with its calibration not yet stored. -/
def unsaved : State := updCal (fun k => { k with unsaved := true, cal := some calib }) ready
/-- `ready` with an image in bank B of the calibration. -/
def banked : State := { ready with nvm := { ready.nvm with cal := { ready.nvm.cal with b := some (1, calib) } } }

theorem witness_CalibrationCommandsComplete :
    [met cmdCalCommission (req [(1, 0), (1, 1), (1, 0), (1, 0), (2, 16), (2, 200), (2, 0), (2, 0)]) fresh
        (fun r u => (runConflict u 0).isNone && (u.plane 0).regime == 0 && (u.linksOf 0).all (fun l => (u.link l).st == 2 && !refMissing u l)
          && (u.plane 0).parked && phasesReady (phasesDone u 0) (fld r.pay 1 1) && (u.ptemp 0).st == 0 && u.cal.run.isNone && !storing u),
      done cmdCalBackground (req [(1, 0), (1, 7), (2, 0), (4, 524), (2, 500), (2, 0)]) ready (fun _ u => u.planeIds.any (commissioned u)),
      done cmdCalBackground (req [(1, 1), (1, 0), (2, 0), (4, 1000000), (2, 1), (2, 0)])
        (updCal (fun k => { k with visit := some 0 }) ready) (fun _ u => u.planeIds.any (commissioned u)),
      done cmdCalStatus (req []) ready,
      met cmdCalRead (req [(1, 6), (1, 1), (2, 0), (2, 0), (2, 0)]) ready (fun _ u => u.planeIds.contains 1 && commissioned u 1),
      done cmdCalRead (req [(1, 0), (1, 0), (2, 0), (2, 0), (2, 0)]) ready (fun _ u => u.cal.cal.isSome),
      done cmdCalRead (req [(1, 1), (1, 0), (2, 0), (2, 1), (2, 0)]) ready
        (fun _ u => u.planeIds.contains 0 && commissioned u 0 && decide (1 ≤ calTable u 1 0)),
      done cmdCalStore (req [(4, 0)]) unsaved (fun _ u => u.cal.unsaved && u.cal.run.isNone && !storing u),
      met cmdCalSelect (req [(1, 1), (1, 1), (2, 0)]) banked
        (fun _ u => u.allIdle && !u.cal.unsaved && ((u.nvm.cal.b.map (·.2)).filter (calOk u)).isSome && u.cal.run.isNone && !storing u),
      done cmdCalRefTrim (req [(1, 7), (1, 0), (6, 0)]) ready,
      done cmdCalRefTrim (req [(1, 7), (1, 1), (2, 4095), (2, 65535), (2, 0)]) ready
        (fun _ u => (u.linkPlane 7).all (fun p => !u.lit p))].all id = true := by decide +kernel

/-- A standing, acknowledged record of source 412. -/
def faulty : State := { ready with flt := { ready.flt with records := [{ event := 412, sev := 1, acked := true }] } }
/-- The device with a token that permits injection. -/
def tokened : State := { ready with sys := { ready.sys with testMode := true }, sec := { ready.sec with token := some 7 } }

theorem witness_FaultCommandsComplete :
    [done cmdFaultStatus (req [(2, 0), (2, 80)]) faulty,
      done cmdFaultAck (req [(2, 0xFFFF), (2, 0)]) faulty (fun _ u => namedRecords u 0xFFFF != []),
      refuses 12 cmdFaultAck (req [(2, 0xFFFF), (2, 0)]) ready (fun _ u => namedRecords u 0xFFFF == []),
      done cmdFaultClear (req [(2, 0xFFFF), (2, 0)]) faulty,
      done cmdFaultClear (req [(2, 412), (2, 0)]) faulty
        (fun _ u => namedRecords u 412 != [] && (namedRecords u 412).all (·.acked) && !causePresent u 412),
      done cmdFaultSetSeverity (req [(2, 412), (1, 0xFF), (1, 0)]) ready,
      done cmdFaultSetSeverity (req [(2, 412), (1, 4), (1, 0)]) ready,
      done cmdFaultConfig (req [(1, 4), (1, 0), (2, 100)]) ready,
      done cmdFaultInject (req [(2, 412), (1, 1), (1, 0), (4, 60000), (16, 0)]) tokened (fun _ u => injectOk u),
      refuses 8 cmdFaultInject (req [(2, 412), (1, 0), (1, 0), (4, 0), (16, 0)]) ready (fun _ u => !injectOk u),
      done cmdFaultLog (req [(2, 64), (2, 0)]) { ready with flt := { ready.flt with log := [{}] } } (fun _ u => u.flt.log != [])].all id = true := by
  decide +kernel

/-- `ready` with leases of class LANE: lease 5 for this use on lane `n`, and lease 6 for CHECK on lane 3. -/
def laned (use n : Nat) : State :=
  { ready with leases := [{ laneLease with id := 5, use := use, first := n }] ++ (if n = 3 then [] else [{ laneLease with id := 6, use := 6, first := 3 }]) }
/-- A request that names a lease. -/
def with' (l : Nat) (r : Req) : Req := { r with lease := l }

theorem witness_TestCommandsComplete :
    [done cmdTestLanePattern (with' 5 (req [(2, 0), (1, 6), (1, 1), (8, 1)])) (laned 5 0)
        (fun r u => (laneRefusals r u 0 true true).all (fun x => !x.1) && !(upLane 0 && laneTestTaken u 0)),
      done cmdTestLanePattern (with' 5 (req [(2, 4), (1, 0), (1, 0), (8, 0)])) (laned 5 4)
        (fun r u => (laneRefusals r u 4 true true).all (fun x => !x.1) && !laneTestTaken u 4),
      done cmdTestLaneCheck (with' 5 (req [(2, 3), (1, 1), (1, 0), (8, 0)])) (laned 6 3) (fun r u => (laneRefusals r u 3 true true).all (fun x => !x.1)),
      done cmdTestLoopback (with' 5 (req [(2, 0), (1, 2), (1, 0)])) (laned 7 0) (fun r u => (laneRefusals r u 0 true true).all (fun x => !x.1)
        && u.leases.any (fun x => x.cls == 6 && x.use == 6 && x.covers 3)),
      done cmdTestLoopback (with' 5 (req [(2, 0), (1, 0), (1, 0)])) (laned 7 0) (fun r u => (laneRefusals r u 0 true true).all (fun x => !x.1)),
      done cmdTestMarginScan (with' 5 (req [(2, 3), (1, 0), (1, 36), (4, 0)])) (laned 8 3)
        (fun r u => (laneRefusals r u 3 false true).all (fun x => !x.1) && !(bezelLane 3 && (u.link 0).st == 2)),
      done cmdTestMarginScan (with' 5 (req [(2, 3), (1, 1), (1, 20), (4, 0)])) ((laned 8 3).updLane 3 (fun x => { x with test := true, locked := true, rx := 1 }))
        (fun _ u => (u.lane 3).locked),
      done cmdTestCounters (with' 5 (req [(2, 3), (1, 1), (1, 0)])) (laned 6 3) (fun r _ => r.lease != 0),
      done cmdTestCounters (req [(2, 3), (1, 0), (1, 0)]) ready,
      done cmdTestBist (req [(1, 10), (1, 1), (2, 0)]) ready,
      met cmdTestBist (req [(1, 2), (1, 0), (2, 0)]) ready (fun _ u => u.allIdle && (bistConflict u 2).all (fun x => !x.1)),
      met cmdTestBist (req [(1, 9), (1, 0), (2, 0)]) ready (fun _ u => u.allIdle && (bistConflict u 9).all (fun x => !x.1))].all id = true := by decide +kernel

/-- `ready` with a ring of 1 MiB for record types 0 and 1. -/
def looped : State := updRing 0 (fun _ => { mode := 1, types := 3, base := 1, size := 1 }) ready

theorem witness_LoupeAndSnapCommandsComplete :
    [done cmdLoupeRingConfig (req [(1, 31), (1, 0), (2, 0), (4, 1), (4, 1)]) ready,
      met cmdLoupeEnable (req [(1, 1), (1, 0), (2, 65535), (2, 0), (2, 1)]) looped (fun _ u => (ringOf u 1).isSome),
      refuses 4 cmdLoupeEnable (req [(1, 1), (1, 1), (2, 1), (2, 0), (2, 1)]) ready (fun _ u => (ringOf u 1).isNone),
      done cmdLoupeStatus (req [(1, 31), (3, 0)]) ready,
      met cmdLoupeExport (req [(1, 0), (3, 0), (8, 0), (8, 0), (8, 4096)]) looped (fun r _ => 16 ≤ rspRoom r),
      done cmdLoupeFreeze (req [(4, 1), (1, 3), (1, 0), (2, 0), (4, 0), (12, 0)]) looped,
      done cmdLoupeFreeze (req [(4, 1), (1, 1), (1, 0), (2, 511), (4, 10000000), (12, 0)]) looped,
      done cmdSnapAt (req [(1, 1), (1, 0), (2, 0), (12, 0)]) ready (fun _ u => (u.snap 1).st == 0),
      done cmdSnapAt (reqB (pay [(1, 0), (1, 1), (2, 0)] ++ timeLe (manager.time.now + us 50))) manager (fun _ u => (u.snap 0).st == 0),
      refuses 1 cmdSnapAt (req [(1, 1), (1, 0), (2, 0), (12, 0)]) (ready.updSnap 1 (fun x => { x with st := 2 })) (fun _ u => (u.snap 1).st != 0),
      done cmdSnapRead (req [(1, 1), (1, 1), (2, 0), (2, 1), (2, 0)]) (ready.updSnap 1 (fun x => { x with st := 2 }))
        (fun _ u => (u.snap 1).st == 2),
      done cmdSnapStatus (req [(1, 1), (3, 0)]) ready,
      done cmdSnapRelease (req [(1, 0), (3, 0)]) (ready.updSnap 0 (fun x => { x with st := 2 }))].all id = true := by decide +kernel

/-- A plane with 32 heaters. -/
def regulated : State := ready.updPtemp 0 (fun x => { x with st := 2 })

theorem witness_PowerCommandsComplete :
    [done cmdPowerStatus (req []) ready,
      done cmdPowerAvsConfig (req [(1, 1), (1, 15), (2, 300), (2, 550), (2, 950), (2, 10000), (2, 60000), (4, 0)]) ready
        (fun r u => !(fld r.pay 0 1 != 1 && u.pwr.avs == 2) && modeFloor u ≤ 950 && u.pwr.raise.isNone),
      done cmdPowerMode (req [(1, 0), (3, 0)]) ready,
      done cmdPowerMode (req [(1, 1), (3, 0)]) { ready with pwr := { ready.pwr with avs := 2, req := 900 } } (fun _ u => u.pwr.avs == 2),
      done cmdPowerTemps (req [(1, 59), (1, 1), (1, 7), (1, 0), (1, 108), (1, 105), (1, 30), (1, 0)]) ready,
      met cmdPowerPlaneTemp (req [(1, 0), (1, 0), (2, 0x8000), (4, 1), (4, 1), (2, 10), (2, 0)]) ready (fun _ u => (u.desc 0).aux != 0),
      met cmdPowerPlaneTemp (req [(1, 1), (1, 1), (2, 8500), (4, 100000), (4, 1000000), (2, 1000), (2, 0)]) ready
        (fun _ u => (u.desc 1).aux != 0 && (u.plane 1).regime == 0 && u.cal.run.isNone),
      met cmdPowerPlaneTemp (req [(1, 0), (1, 2), (2, 0x8000), (4, 1), (4, 1), (2, 10), (2, 0)]) regulated
        (fun _ u => (u.desc 0).aux != 0 && (u.plane 0).regime == 0 && u.cal.run.isNone)].all id = true := by decide +kernel

/-- Images of an update, by DMA. -/
def fwReq : Req := { req [(8, 64), (4, 4096), (4, 0)] with dmaIn := List.replicate 4096 0 }
/-- The device in lifecycle state 1, OWNED. -/
def owned : State := { ready with nvm := { ready.nvm with lifecycle := 1 } }

/-- That a bank is valid rests on the free values of the signature check (log entry 3, DESIGN CHOICE). -/
theorem witness_SecurityCommandsComplete :
    [met cmdSecAttest (req [(32, 0)]) ready,
      done cmdSecCertRead (req [(4, 0), (2, 1), (2, 0)]) { ready with nvm := { ready.nvm with certs := [7], certCount := 1 } },
      met cmdSecFwUpdate fwReq ready (fun _ u => !nvmBusy u),
      refuses 1 cmdSecFwUpdate fwReq (startJob (.cal calib) ready) (fun _ u => nvmBusy u),
      met cmdSecFwSelect (req [(1, 1), (1, 1), (2, 0)]) ready (fun _ u => !nvmBusy u),
      refuses 12 cmdSecFwSelect (req [(1, 1), (1, 1), (2, 0)]) ready (fun r u => fwCheck u (fwBank u (fld r.pay 0 1 == 1)) != 0),
      met cmdSecOwnerSet (req [(1, 0), (3, 0)]) ready,
      met cmdSecOwnerSet (req [(1, 1), (3, 0), (516, 0)]) ready (fun _ u => u.nvm.lifecycle == 0 && u.allIdle),
      met cmdSecOwnerSet (req [(1, 2), (3, 0), (1028, 0)]) owned (fun _ u => u.nvm.lifecycle == 1 && u.allIdle),
      met cmdSecLifecycle (req [(1, 0), (1, 0), (2, 0)]) ready,
      met cmdSecLifecycle (req [(1, 1), (1, 0), (2, 0)]) { tokened with nvm := { tokened.nvm with lifecycle := 2 } }
        (fun _ u => u.allIdle && u.nvm.lifecycle != 1 && bit (u.sec.token.getD 0) 1),
      met cmdSecLifecycle (req [(1, 1), (1, 0), (2, 0), (512, 0)]) owned (fun r u => u.nvm.lifecycle == 1 && u.allIdle && 4 ≤ rspRoom r),
      met cmdSecFactoryToken (req [(1, 0), (3, 0)]) tokened (fun _ u => u.sys.testMode),
      met cmdSecFactoryToken (req [(1, 1), (3, 0), (8, 0), (32, 0), (4, 7), (20, 0), (512, 0)]) tokened (fun r u => u.sys.testMode && 4 ≤ rspRoom r),
      refuses 4 cmdSecFactoryToken (req [(1, 0), (3, 0)]) ready (fun _ u => !u.sys.testMode)].all id = true := by decide +kernel

/-- `ready`, long after. -/
def aged : State := timed (fun t => { t with now := 2 ^ 70, mono := 2 ^ 70 })
/-- `stocked`, long after. -/
def laterStocked : State := { stocked with time := aged.time }
/-- The device in this state of R688, long after. -/
def inState (n : Nat) : State := { laterStocked with sys := { stocked.sys with st := n } }
/-- The device in this role, long after. -/
def inRole (n : Nat) (s : State) : State := { s with sys := { s.sys with role := n } }

theorem witness_ResetAndStartRowsComplete :
    [truth State.reset.sys.porst,
      holds { ready with sys := { ready.sys with st := 3 } } (fun s => decide (2 < s.sys.st)),
      holds (inState 2) (fun s => s.sys.st == 2 && !s.sec.running && !s.sys.recovery),
      holds { inState 2 with sec := { ready.sec with running := true } } (fun s => s.sys.st == 2 && s.sec.running && !s.sys.recovery),
      holds (linked (inState 3)) (fun s => s.sys.st == 3 && s.mappedLinks.all (linkReady s) && discReady s),
      holds (inState 5) (fun s => s.sys.st == 5 && (s.ptemp 0).st == 0 && (s.plane 0).warmAt + ms 100 ≤ s.time.mono),
      holds ((inState 5).updPtemp 0 (fun x => { x with st := 1 }))
        (fun s => (s.ptemp 0).st != 0 && (s.ptemp 0).st != 2 && !(s.plane 0).warmHeld && (s.plane 0).warmAt + 900 * oneSecond ≤ s.time.mono),
      holds { ready with sys := { ready.sys with shutdown := true } }
        (fun s => s.sys.shutdown && !s.sys.shutDone && s.drives.all (fun e => e.2.code == 0))].all id = true := by decide +kernel

theorem witness_SupplyAndClockRowsComplete :
    [holds { ready with sec := { ready.sec with running := true } } (fun s => s.sec.running)].all id = true := by
  decide +kernel

/-- Link 0 in this state, long after. -/
def link0 (f : Link → Link) : State := aged.updLink 0 f
/-- The same of bezel 0. -/
def bez0 (f : Bezel → Bezel) : State := aged.updBezel 0 f

theorem witness_LinkRowsComplete :
    [holds (link0 (fun k => { k with st := 2, sent := [{ seq := 15 }] })) (fun s => (s.link 0).sent == [{ seq := 15 }] && (s.link 0).st == 2
        && laneOk 3 (some 15) (mkFrame 3 15 7) && laneOk 4 (some 15) (mkFrame 4 15 7) && payloadOf 3 (mkFrame 3 15 7) == payloadOf 4 (mkFrame 4 15 7)),
      holds (link0 (fun k => { k with htrAny := true })) (fun s => (s.link 0).htrAny && (s.link 0).htrPoll + ms 10 ≤ s.time.mono),
      holds (link0 (fun k => { k with st := 1, step := 1 })) (fun s => (s.link 0).st == 1 && (s.link 0).step == 1
        && decide ((s.link 0).rstAt + us 10 ≤ s.time.mono) && !s.pins.scan),
      holds (link0 (fun k => { k with st := 1, step := 2, good3 := 8 }))
        (fun s => (s.link 0).st == 1 && ((s.link 0).step == 2 || (s.link 0).step == 3) && decide (8 ≤ (s.link 0).good3)),
      holds (link0 (fun k => { k with st := 1, step := 3, good4 := 8 }))
        (fun s => (s.link 0).st == 1 && ((s.link 0).step == 2 || (s.link 0).step == 3) && decide (8 ≤ (s.link 0).good4)),
      holds (link0 (fun k => { k with cmds := [{ sentAt := some 1 }] }))
        (fun s => ((s.link 0).cmds.find? (fun c => c.sentAt.isSome && c.cmd.tag == 0 && c.cmd.op == 0)).isSome),
      holds (link0 (fun k => { k with st := 1, step := 4, tries := 1, cmds := [{ sentAt := some 1 }] }))
        (fun s => (s.link 0).cmds.any (cmdOverdue s.time.mono 0) && ((s.link 0).st == 2 || decide ((s.link 0).tries < 3))),
      holds (link0 (fun k => { k with st := 1, step := 4, tries := 3, cmds := [{ sentAt := some 1 }] }))
        (fun s => (s.link 0).cmds.any (cmdOverdue s.time.mono 0) && (s.link 0).st == 1 && (s.link 0).step == 4 && decide (3 ≤ (s.link 0).tries)),
      holds (link0 (fun k => { k with st := 1 })) (fun s => (s.link 0).st == 1 && (s.link 0).rstAt + ms 1 ≤ s.time.mono),
      holds (link0 (fun k => { k with st := 3, relockAt := some 0 })) (fun s => (s.link 0).relockAt == some 0 && (s.link 0).st == 3 && decide (ms 1 ≤ s.time.mono)),
      holds (link0 (fun k => { k with st := 2, clean := 128, status := 0x840000 })) (fun s => lightAllowed s 0 && !s.lightOn 0)].all id = true := by
  decide +kernel

/-- Bezel 0 released from reset and locked. -/
def released (f : Bezel → Bezel) : State :=
  { bez0 (fun b => f { b with rstN := true, locked := true }) with pins := { aged.pins with bz := 1 } }

theorem witness_BezelRowsComplete :
    [holds (released (fun b => { b with seq := some 3 })) (fun s =>
        let b := (bezelFeels 0 {} s).bezel 0
        b.rstN && s.bzHigh 0 && !b.test && b.locked && !b.hold && laneOk 0 b.seq (mkFrame 0 3 1) && laneOk 1 b.seq (mkFrame 1 3 1)
          && laneOk 2 b.seq (mkFrame 2 3 1) && (mkFrame 0 3 1).seq == (mkFrame 1 3 1).seq && (mkFrame 1 3 1).seq == (mkFrame 2 3 1).seq),
      holds (bez0 (fun b => { b with cmds := [{}] })) (fun s => (s.bezel 0).cmds == [{}] && (s.bezel 0).resp.op == 0 && !(s.bezel 0).test),
      holds (released id) (fun s => (s.bezel 0).rstN && s.bzHigh 0 && (s.bezel 0).locked && !(s.bezel 0).test),
      holds (bez0 (fun b => { b with supplyOk := false })) (fun s => !(s.bezel 0).supplyOk && decide ((s.bezel 0).supplyAt + ms 1 ≤ s.time.mono)),
      holds (bez0 (fun b => { b with hold := true, good := 8 })) (fun s => (s.bezel 0).hold && !(s.bezel 0).test && decide (8 ≤ (s.bezel 0).good)),
      holds aged (fun s => !s.lightOn 0),
      holds { bez0 (fun b => { b with lightPin := true }) with pins := { aged.pins with light := 255 } }
        (fun s => s.lightOn 0 && (s.bezel 0).lightPin && decide ((s.bezel 0).lightAt + us 1 ≤ s.time.mono)),
      holds aged (fun s => !s.bzHigh 0 && decide ((s.link 0).rstAt + us 1 ≤ s.time.mono)),
      holds (bez0 (fun b => { b with rstN := true, good := 8 })) (fun s => (s.bezel 0).rstN && !(s.bezel 0).locked && decide (8 ≤ (s.bezel 0).good))].all id = true := by
  decide +kernel

/-- Both arms of cell 0 with this step of a change of range, under `sparse`. -/
def ranged (f : Drive → Drive) : State := (laterStocked.updDrive 0 f).updDrive 1 f

theorem witness_DriveRowsComplete :
    [holds (timed (fun t => { t with now := us 64 })) (fun s => atBoundary s 0 && atBoundary s 1),
      holds (laterStocked.updCtx 0 (fun x => { x with holdUntil := some 0 }))
        (fun s => (s.ctx (governs s 0)).holdUntil == some 0 && decide (0 ≤ s.time.now) && (s.ctx (governs s 0)).force.isNone && (s.drive (corrArm s (governs s 0))).loopCode.isNone),
      holds (laterStocked.updPlane 0 (fun q => { q with ramp := some { done := 1 } }))
        (fun s => ((s.plane 0).ramp.any (fun r => !r.shutdown && decide (r.ticks ≤ r.done)))
          && (s.planeChs 0 false).all (fun ch => (s.drive ch).code == (s.drive ch).rampB || forced s ch)),
      holds (ranged (fun d => { d with rcStep := 1, rcZero := true }))
        (fun s => (rangeChs s 0).all (fun c => (s.drive c).rcStep == 1 && (s.drive c).code == 0 && (s.drive c).rcZero)),
      holds (ranged (fun d => { d with rcStep := 2 }))
        (fun s => (rangeChs s 0).all (fun c => (s.drive c).rcStep == 2 && !(s.link (c / 1152)).changed.contains (segOf (c % 1152 / 2)))),
      holds (ranged (fun d => { d with rcStep := 3 })) (fun s => (rangeChs s 0).all (fun c => (s.drive c).rcStep == 3 && (s.drive c).code == rangeEnd (s.drive c))),
      holds (link0 (fun k => { k with st := 2, mods := [(7, { urgent := [{}] })] }))
        (fun s => (s.link 0).st == 2 && (tget ({} : RbMod) (s.link 0).mods 7).cur.isNone && (tget ({} : RbMod) (s.link 0).mods 7).urgent == [{}]),
      holds (link0 (fun k => { k with st := 2, mods := [(7, { sinceEvent := some 0 })] }))
        (fun s => (tget ({} : RbMod) (s.link 0).mods 7).sinceEvent == some 0 && (s.link 0).rbScan && (s.link 0).rbDelay == 0),
      holds (link0 (fun k => { k with st := 2, mods := [(7, { cur := some { ticks := 64, bits := 2 ^ 64 - 1 } })] }))
        (fun s => decide (0 ≤ measuredPower s 1008 { ticks := 64, bits := 2 ^ 64 - 1 })),
      holds (link0 (fun k => { k with st := 2, mods := [(7, { cur := some { ticks := 64, bits := 2 ^ 64 - 1, req := some (req []) } })] }))
        (fun s => decide (0 ≤ measuredPower s 1008 { ticks := 64, bits := 2 ^ 64 - 1, req := some (req []) })),
      holds (aged.updMon 0 (fun x => { x with setting := 2 })) (fun s => wantedFilter s 0 != (s.mon 0).filter && !(s.mon 0).live),
      holds ((aged.updMon 0 (fun x => { x with setting := 0, live := true })).updSense 0 (fun k => { k with start := filterPeriod 0 - 1 }))
        (fun s => wantedFilter s 0 != (s.mon 0).filter && onBoundary (wantedFilter s 0) (s.link 0).runTick (s.sense 0).tick (s.sense 0).start
          && decide ((s.mon 0).askAt ≤ (s.sense 0).start + modTick)),
      holds (laterStocked.updPlane 0 (fun q => { q with accepted := [{ id := 3 }] }))
        (fun s => ((s.plane 0).accepted.find? (fun x => x.id == 3)).any (fun l => decide (l.at' ≤ s.time.now + us 3)))].all id = true := by decide +kernel

theorem witness_SenseAndLoopRowsComplete :
    [holds (aged.updMon 5119 (fun x => { x with ready := [{}] }))
        (fun s => (s.mon 5119).ready == [{}] && !({} : Sample).absent && !({} : Sample).counted),
      holds (aged.updSense 7 (fun x => { x with refOn := true }))
        (fun s => (s.sense 7).refOn && !(s.sense 7).refReady && decide ((s.sense 7).refAt + ms 5 ≤ s.time.mono)),
      holds (aged.updMon 0 (fun x => { x with mode := 2, acc := { count := 4 } })) (fun s => (s.mon 0).mode == 2 && decide ((s.mon 0).blockN ≤ (s.mon 0).acc.count)),
      holds (aged.updCtx 0 (fun x => { x with swap := some (1, 0, 0) })) (fun s => (s.ctx 0).swap == some (1, 0, 0) && decide (0 ≤ s.time.now) && (s.ctx 0).regime == 0),
      holds (aged.updCtx 0 (fun x => { x with undo := some {} })) (fun s => (s.ctx 0).undo == some {}),
      holds (aged.updCtx 9215 (fun x => { x with missRun := 16 }))
        (fun s => (s.ctx 9215).missLimit != 0 && decide ((s.ctx 9215).missLimit ≤ (s.ctx 9215).missRun) && !(s.ctx 9215).starved),
      holds (aged.updCtx 0 (fun x => { x with genNext := [({}, {}, 0)] })) (fun s => (s.ctx 0).genNext == [({}, {}, 0)] && decide (0 ≤ s.time.now)),
      holds (aged.updCtx 0 (fun x => { x with cap := { running := true, n := 2, length := 2, wave := 3 } }))
        (fun s => (s.ctx 0).cap.running && (s.ctx 0).cap.n + (s.ctx 0).cap.missed != 0 && !inWindow (us 1) (s.ctx 0) (us 1))].all id = true := by
  decide +kernel

/-- Plane 0 with this launch in progress or accepted, long after. -/
def plane0 (f : Plane → Plane) : State := { static with time := aged.time }.updPlane 0 f

theorem witness_LaunchRowsComplete :
    [holds (ready.updPlane 0 (fun q => { q with builds := [{ perm := dark256 }] })) (fun s => isOk (lookup 0 dark256 true (s.updPlane 0 (fun q => { q with builds := [] })))),
      holds (plane0 (fun q => { q with accepted := [{ id := 3 }] })) (fun s => (s.plane 0).accepted == [{ id := 3 }] && decide (0 ≤ s.time.now) && (s.linksOf 0).all (fun k => !frozen s (k * 1152))),
      holds ((plane0 (fun q => { q with accepted := [{ id := 3 }] })).updLink 0 (fun k => { k with st := 3 }))
        (fun s => (s.plane 0).accepted == [{ id := 3 }] && (s.linksOf 0).any (fun k => frozen s (k * 1152))),
      holds (plane0 (fun q => { q with cur := some { cells := [(0, { lit := true })] } }))
        (fun s => (s.plane 0).cur.isSome && decide (us (s.plane 0).cfg.settleUs ≤ s.time.now)),
      holds (plane0 (fun q => { q with cur := some { checks := [(0, {})] } }))
        (fun s => (s.plane 0).cur.isSome && decide (us (s.plane 0).cfg.verifyUs ≤ s.time.now)),
      holds (plane0 (fun q => { q with showing := some (0, 0, []), accepted := [{}], force := some slot0.facet }))
        (fun s => decide (0 ≤ s.time.now + us 3) && (s.plane 0).cfg.lambda != 0 && slotValid s 0 0 && !(s.slot 0 0).learnOff),
      holds (plane0 (fun q => { q with learn := [(0, 0, false)], learnSlot := 0 })) (fun s => slotValid s 0 (s.plane 0).learnSlot)].all id = true := by
  decide +kernel

/-- A slot in the pipeline of a manager. -/
def piped (q : Pipe) (s : State) : State := updSched (fun c => { c with pipes := [q] }) s

theorem witness_ChainAndSchedulerRowsComplete :
    [holds { running with time := aged.time } (fun s => localOf s 0 == some 0 && stageDue s { chain := 4, start := us 100 } none),
      holds (aged.updChainPlane 31 (fun c => { c with pend := some {} })) (fun s => (s.chainPlane 31).pend == some {} && decide (({} : ChainRun).start ≤ s.time.now)),
      holds (aged.updChainPlane 31 (fun c => { c with run := some { stopAt := some 0 } }))
        (fun s => ((s.chainPlane 31).run.bind (·.stopAt)) == some 0 && decide (0 ≤ s.time.now) && dregimeAt s 31 == none),
      holds { (updSched (fun c => { c with chains := [(4, { chain4 with rep := 1 })] }) running) with time := aged.time }
        (fun s => (s.chainPlane 0).run.isSome && (s.chainPlane 0).pend.isNone && (chainOf s 4).rep == 1
          && decide (us 100 + ns (chainPeriod s 4) ≤ s.time.now)),
      holds { ((updSched (fun c => { c with chains := [(4, { chain4 with rep := 1 })] }) running).updChainPlane 0 (fun c => { c with
          pend := some { chain := 4, start := 2 ^ 69 } })) with time := aged.time }
        (fun s => (s.chainPlane 0).run.isSome && (chainOf s 4).rep == 1 && decide (us 100 + ns (chainPeriod s 4) < 2 ^ 69)),
      holds (setDregimeAt 0 (some { regime := 1 }) aged) (fun s => dregimeAt s 0 == some { regime := 1 } && decide (0 ≤ s.time.now)),
      holds (updSched (fun c => { c with gridAt := some (1, 1, 1, 1, 0) }) aged) (fun s => s.sched.gridAt == some (1, 1, 1, 1, 0) && decide (0 ≤ s.time.now)),
      holds { aged with time := { aged.time with now := aged.sched.epoch + ns aged.sched.cutoffNs } }
        (fun s => schedules s && decide (s.sched.epoch ≤ s.time.now) && decide (s.sched.lastCut ≤ slotNow s)
          && decide (slotStart s (slotNow s) + ns s.sched.cutoffNs ≤ s.time.now)),
      holds (updSched (fun c => { c with matching := some {} }) aged) (fun s => s.sched.matching == some {}),
      holds (piped { slot := 7 } aged) (fun s => (pipeOf s 7).any (fun q => !q.sent && decide (q.at' + ns q.slotNs ≤ s.time.now))),
      holds (piped { slot := 7, planes := [{ dplane := 2 }] } { aged with sys := manager.sys })
        (fun s => localOf s 2 == none && (pipeOf s 7).isSome && decide (answerTime s 2 ≤ s.time.now + us 3)),
      holds (updSched (fun c => { c with samInterval := 1 }) aged) (fun s => s.sched.samInterval != 0 && decide (s.sched.samNext ≤ slotNow s ∧ s.sched.samBusy ≤ s.time.mono)),
      holds (updSched (fun c => { c with samInterval := 1, samBusy := 2 ^ 71 }) aged)
        (fun s => s.sched.samInterval != 0 && decide (s.sched.samNext ≤ slotNow s ∧ s.time.mono < s.sched.samBusy))].all id = true := by decide +kernel

/-- An ARP request for address 0. -/
def arp : Bytes := be 6 1 ++ be 6 2 ++ be 2 0x0806 ++ be 2 1 ++ be 2 0x0800 ++ be 2 0x0604 ++ be 2 1 ++ be 6 2 ++ be 4 9 ++ be 6 0 ++ be 4 0

/-- A DEMAND of endpoint 5 with no entry, over Ethernet. -/
def demandFrame : Bytes :=
  be 6 0 ++ be 6 2 ++ be 2 0x88B5 ++ be 1 1 ++ be 1 3 ++ be 2 20 ++ be 2 0 ++ be 2 5 ++ be 4 1 ++ be 4 0 ++ be 2 0 ++ be 2 0

theorem witness_EndpointRowsComplete :
    [holds aged (fun s => schedules s && s.sched.matching.isNone),
      holds (updSched (fun c => { c with matching := some {} }) aged) (fun s => schedules s && s.sched.matching.isSome && (epParse s 0 demandFrame).any (fun x => !epBad s x.2 && fld x.2 1 1 != 1)),
      holds aged (fun s => etype arp == 0x0806 && fldBe arp (payOfs arp) 2 == 1 && fldBe arp (payOfs arp + 2) 2 == 0x0800
        && fldBe arp (payOfs arp + 4) 2 == 0x0604 && fldBe arp (payOfs arp + 6) 2 == 1 && fldBe arp (payOfs arp + 24) 4 == s.eps.cfg.ipv4),
      holds (aged.updEp 511 (fun e => { e with st := 1 })) (fun s => (s.ep 511).st != 0 && s.sched.matching.isNone && decide ((s.ep 511).heardAt + us (s.ep 511).liveUs ≤ s.time.mono)),
      holds ((updSched (fun c => { c with matching := some {} }) aged).updEp 511 (fun e => { e with st := 1 }))
        (fun s => s.sched.matching.isSome && (s.ep 511).st != 0 && decide ((s.ep 511).heardAt + us (s.ep 511).liveUs ≤ s.time.mono)),
      holds aged (fun s => decide (s.eps.announceAt + us s.eps.cfg.announceUs ≤ s.time.mono))].all id = true := by decide +kernel

/-- A PTP message over Ethernet. -/
def ptp : Bytes := be 6 1 ++ be 6 2 ++ be 2 0x88F7 ++ List.replicate 50 0

theorem witness_TimeRowsComplete :
    [holds (updTime (fun t => { t with source := 1, ptp := { t.ptp with on := true } }) aged)
        (fun s => ptpOfs ptp == some 14 && s.time.source == 1 && s.time.ptp.on && s.time.ptp.port == 0),
      holds (updTime (fun t => { t with source := 1, ptp := { t.ptp with on := true, portState := 6 } }) aged)
        (fun s => s.time.ptp.portState == 6 && ptpDue s 0 s.time.ptp.logSync),
      holds aged (fun s => decide (s.time.slew.natAbs ≤ (slewTick s.time).natAbs)),
      holds (updTime (fun t => { t with st := 2, source := 2 }) aged) (fun s => s.time.st == 2 && sourceSilent s),
      holds (updTime (fun t => { t with step := some (0, some 5, 0) }) aged) (fun s => s.time.step == some (0, some 5, 0) && decide (0 ≤ s.time.now)),
      holds (updTime (fun t => { t with step := some (0, none, -5) }) aged) (fun s => s.time.step == some (0, none, -5)),
      holds (updTime (fun t => { t with st := 4 }) aged) (fun s => s.time.st == 4 && s.time.phase == 0),
      holds aged (fun s => decide (s.dom.timeAt ≤ s.time.mono)),
      holds (aged.updClasp true (fun c => { c with up := true })) (fun s => (s.clasp true).up && ctrlBody 1 (ctrlUnit 1 (List.replicate 32 0)) == some (List.replicate 32 0)),
      holds (inRole 2 (updTime (fun t => { t with source := 3 }) aged))
        (fun s => s.sys.role == 2 && s.time.source == 3 && decide (s.time.heard + us 100 ≤ s.time.mono)),
      holds (updTime (fun t => { t with tcap := [(1, { edge := 3, last := some 0 })] }) aged)
        (fun s => (tget {} s.time.tcap 1).edge == 3 && decide (ns 80 ≤ s.time.now) && decide ((tget {} s.time.tcap 1).queue.length < 16))].all id = true := by
  decide +kernel

/-- A frame of class 7 from the host, for egress `k`. -/
def frame (k : Nat) : RFrame := { id := 1, ing := 18, cls := 7, ver := 1, dests := [k], data := ptp, len := some 64 }
/-- The device with this frame, link 0 up. -/
def switching (f : RFrame) : State := (updRelay (fun x => { x with frames := [f] }) aged).updRlink 0 (fun k => { k with up := true })

/-- The device with link 0 up. -/
def upLink0 : State := aged.updRlink 0 (fun k => { k with up := true })
/-- A frame on link 0 whose head has come. -/
def arriving : State := updRelay (fun x => { x with frames := [{ id := 1, ing := 0, dests := [18], data := ptp }] }) upLink0
/-- A manager, long after. -/
def laterManager : State := { manager with time := aged.time }
/-- Its eastward clasp port up. -/
def clasped : State := laterManager.updClasp false (fun c => { c with up := true })
/-- A PAUSE frame. -/
def pauseHead : Bytes := be 6 1 ++ be 6 2 ++ be 2 0x8808 ++ be 2 1 ++ List.replicate 46 0
/-- A descriptor of a frame of this length to link 0. -/
def txDesc (n : Nat) : Bytes := pay [(8, 64), (2, n), (1, 0), (1, 0x80), (4, 0)]
/-- The host's transmit ring with a descriptor. -/
def sending : State := { upLink0 with hi := { ready.hi with txEn := true, txTail := 1 } }

theorem witness_RelayFrameRowsComplete :
    [holds (updRelay (fun x => { x with fdb := [(4096 + vidOf ptp, { kind := 1, port := 9 })] }) upLink0) (fun s =>
        linkUp s 0 && (receiving s 0 0).isNone && etype ptp != 0x8808 && (classify s 0 ptp).2.1 != []
        && (allocBuf 0 0 (classify s 0 ptp).2.1.length (if (classify s 0 ptp).2.2 then relayCount 0 12 1 s else s)).1.isSome),
      holds clasped (fun s => linkUp s 8 && (cellsOf 5 false true ptp).head?.any (fun u => cellOk u && bit (fld u 1 1) 3 && !bit (fld u 1 1) 6
        && (receiving s 8 (cellClass u)).isNone)),
      holds clasped (fun s => linkUp s 8 && frameOfCells (cellsOf 5 false true ptp) == some (false, ptp)
        && frameOfCells (cellsOf 5 true true ptp) == some (true, ptp) && frameOfCells (cellsOf 5 false false ptp) == none),
      holds upLink0 (fun s => linkUp s 0 && (receiving s 0 0).isNone && etype pauseHead == 0x8808 && fldBe pauseHead 14 2 == 1),
      holds arriving (fun s => linkUp s 0 && (receiving (relayCount 0 2 1 (relayCount 0 0 (ptp.length + 4) s)) 0 0).any (fun f => f.dests != [])
        && decide (60 ≤ ptp.length ∧ ptp.length ≤ 9212) && fcsOf ptp != 7 && fcsOf ptp ^^^ 0xFFFFFFFF != 7
        && (allocBufs 0 0 1 (ceilDiv (ptp.length + 4) 256 - 1) (relayCount 0 2 1 (relayCount 0 0 (ptp.length + 4) s))).1.isSome
        && (receiving (relayCount 0 4 1 (relayCount 0 2 1 (relayCount 0 0 (ptp.length + 4) s))) 0 0).isSome),
      holds (switching (frame 0)) (fun s => linkUp s 0 && (s.rlink 0).tx.isNone
        && (let t := each (List.range 8) (shapeLink 0 (newSlopes 0 s)) (fun c s => countHeld 0 c (tidyHead 0 c (s.relay.frames.length + 1) s))
            (((List.range 8).reverse.find? (eligible t 0)).bind (headOf t 0)).isSome)),
      holds aged (fun s => !linkUp s 0),
      holds ((switching { frame 0 with bad := true }).updRlink 0 (fun k => { k with tx := some (1, 0) }))
        (fun s => (s.rlink 0).tx == some (1, 0) && (frameOf s 1).any (fun f => f.len == some 64 && (cellsLeft f 0 == 0 || f.bad))),
      holds (aged.updPool 1 (fun p => { p with bufs := [(3, { owner := 2 })] })) (fun s => decide (2 < poolReqs 1) && decide (0 < poolReqs 1)
        && 3 * bufBytes 1 % bufBytes 1 == 0 && decide (3 * bufBytes 1 < poolSize 1 * bufBytes 1)
        && tfind (s.pool 1).bufs (3 * bufBytes 1 / bufBytes 1) == some { owner := 2 }),
      holds sending (fun s => s.hi.txEn && s.hi.busMaster && s.hi.txHead != s.hi.txTail && (slice ptp 0 (fld (txDesc 59) 8 2)).length == 59),
      holds sending (fun s =>
        let d := slice ptp 0 (fld (txDesc 64) 8 2)
        s.hi.txEn && s.hi.busMaster && s.hi.txHead != s.hi.txTail && decide (60 ≤ d.length ∧ d.length ≤ 9212) && hostRefused s (txDesc 64) d == []
          && (hostDests s (txDesc 64) d).1 != [] && !(hostDests s (txDesc 64) d).2
          && (allocBufs 0 9 (hostDests s (txDesc 64) d).1.length (ceilDiv (d.length + 4) 256) s).1.isSome),
      holds { switching (frame 18) with hi := { ready.hi with rxEn := true, rxTail := 1 } }
        (fun s => s.hi.rxEn && s.hi.busMaster && s.hi.rxHead != s.hi.rxTail && (hostFrame s).isSome)].all id = true := by decide +kernel

theorem witness_RelayLinkRowsComplete :
    [holds (switching (frame 0)) (fun s => linkUp s 0),
      holds ((switching (frame 0)).updRlink 0 (fun k => { k with pauseTo := [(7, 0)] })) (fun s => tfind (s.rlink 0).pauseTo 7 == some 0),
      holds ((switching (frame 0)).updRlink 0 (fun k => { k with xoff := 1 }))
        (fun s => (s.rlink 0).up && (s.rlink 0).tx.isNone && (List.range 8).any (fun c => bit (s.rlink 0).xoff c
          && decide (tget 0 (s.rlink 0).xoffAt c + 0x7FFF * quantum s 0 ≤ s.time.mono))),
      holds (updRelay (fun x => { x with mode := [(0, 1)] }) aged) (fun s => !(s.rlink 0).up && (portLinks s 0).contains 0 && !(ethLanes s 0).any (fun n => (s.lane n).test)),
      holds (aged.updRlink 7 (fun k => { k with gatesAt := some {} })) (fun s => (s.rlink 7).gatesAt == some {})].all id = true := by decide +kernel

theorem witness_ClaspRowsComplete :
    [holds laterManager (fun s => ringed s && !(s.clasp true).up), holds laterManager (fun s => ringed s && !(s.clasp false).up && !(s.lane 48).test && !(s.lane 49).test),
      holds clasped (fun s => (s.clasp false).up), holds laterManager (fun s => ringed s && decide (s.dom.hbAt + us 10 ≤ s.time.mono)),
      holds laterManager (fun s => s.sys.role == 1 && (s.member 1).admitted && decide ((s.member 1).heard + us 100 ≤ s.time.mono)),
      holds laterManager (fun s => decide (s.dom.mgrHeard + us s.dom.silenceUs ≤ s.time.mono)),
      holds (updDom (fun d => { d with holdover := some (0, 0) }) laterManager) (fun s => s.dom.holdover == some (0, 0)),
      holds (updDom (fun d => { d with disc := true }) laterManager) (fun s => s.sys.role == 1 && s.dom.disc && decide (s.dom.discAt + ms 1 ≤ s.time.mono)),
      holds (updDom (fun d => { d with unacked := [{ msg := { dst := 1 } }] }) laterManager)
        (fun s => s.dom.unacked.any (fun u => u.msg.dst == 1 && u.msg.seq == 0 && decide (u.at' + us 20 ≤ s.time.mono) && !forlorn s u)),
      holds clasped (fun s => (s.clasp false).up && ctrlBody 4 (ctrlUnit 4 (List.replicate 16 0)) == some (List.replicate 16 0)
        && ctrlBody 4 (ctrlUnit 3 (List.replicate 16 0)) == none),
      holds clasped (fun s => (s.clasp false).up && ctrlBody 2 (ctrlUnit 2 (le 8 0x10009)) == some (le 8 0x10009) && 9 != s.dom.number
        && !darkKnown s 9 1)].all id = true := by decide +kernel

/-- A DISCOVER with no entry. -/
def discMsg : Bytes := msgBytes { code := 0x10, dst := 0xFF, body := [0, 0, 0, 0] }

theorem witness_DomainMessageRowsComplete :
    [holds clasped (fun s => linkUp s (claspKey false) && [0x03, 0x11, 0x12, 0x20, 0x21, 0x22, 0x23, 0x30, 0x31, 0x40, 0x41].all (fun c =>
        frameOfCells (cellsOf 5 true true (msgBytes { code := c })) == some (true, msgBytes { code := c })
          && msgOf (msgBytes { code := c }) == some { code := c })),
      holds clasped (fun s => linkUp s (claspKey false) && frameOfCells (cellsOf 5 true true discMsg) == some (true, discMsg)
        && msgOf discMsg == some { code := 0x10, dst := 0xFF, body := [0, 0, 0, 0] } && s.sys.role == 1 && (discEntries [0, 0, 0, 0]).head?.isNone),
      holds (updDom (fun d => { d with tunnels := [{ tag := 5 }] }) laterManager)
        (fun s => s.dom.tunnels.any (fun t => t.tag == 5 && decide (t.due ≤ s.time.mono) && !t.own))].all id = true := by decide +kernel

/-- A background visit at monitor 0, whose cell is in HOLD. -/
def visiting : State :=
  ((updCal (fun k => { k with bg := true, visit := some 0 })
    { aged with sys := { ready.sys with map := some { sparse with mon := [(0, 2 ^ 29)] } } }).updMon 0 (fun x => { x with live := true })).updCtx 0
      (fun x => { x with regime := 2 })

theorem witness_FaultAndCalibrationRowsComplete :
    [holds { ready with hi := { ready.hi with queue := [0] } } (fun s => s.hi.queue == [0] && s.sched.loading == []),
      holds { aged with sec := { ready.sec with running := true } } (fun s => s.sec.running && decide (s.flt.fwWdogLast + ms s.flt.fwWdogMs ≤ s.time.mono)),
      holds { aged with em := { ready.em with wdogAt := some 0 } } (fun s => s.em.wdogAt == some 0),
      holds (updCal (fun k => { k with run := some { phases := 15 } }) aged) (fun s => s.cal.run.isSome),
      holds (updCal (fun k => { k with run := some { phases := 0 } }) aged) (fun s => s.cal.run.any (fun r => r.phases == 0)),
      holds visiting (fun s => s.cal.bg && visitable s 0 && commissioned s (s.monAt 0).plane && inHold s 0),
      holds { aged with nvm := { aged.nvm with jobs := [.cal calib] } } (fun s => s.nvm.jobs != [])].all id = true := by decide +kernel

theorem witness_TestAndLoupeRowsComplete :
    [holds (aged.updLane 51 (fun x => { x with scan := some (true, 0, []) })) (fun s => (s.lane 51).scan.isSome),
      holds (aged.updLane 51 (fun x => { x with scan := some (true, 0, List.replicate 64 []) })) (fun s => (s.lane 51).scan.isSome),
      holds { aged with bists := [(9, { st := 1 })] } (fun s => (bistOf s 9).st == 1),
      holds (aged.updLane 51 (fun x => { x with uses := 2 })) (fun s => bit (s.lane 51).uses 1),
      holds { aged with loupe := { aged.loupe with freezes := [{ stop := some 0 }] } } (fun s => s.loupe.freezes.filter (freezeOver s.time.mono) != []),
      holds (aged.updSnap 1 (fun x => { x with st := 1 })) (fun s => (s.snap 1).st == 1 && !(s.snap 1).domain),
      holds { aged with leases := [{ id := 5, cls := 6, count := 1 }] }
        (fun s => (leaseOf s 5).any (fun l => decide (l.due ≤ s.time.mono)))].all id = true := by decide +kernel

/-- A change of the power unit, long after. -/
def powered (f : Pwr → Pwr) : State := { aged with pwr := f aged.pwr }

theorem witness_PowerRowsComplete :
    [holds aged (fun s => s.pwr.avs == 0 && (paceInUse { s with pwr := { s.pwr with slack := List.replicate 13 20 } }).all (fun x => decide (20 ≤ x.2))),
      holds (powered (fun w => { w with raise := some (900, 0) })) (fun s => s.pwr.raise == some (900, 0) && confirms 900 910 890 && !confirms 900 911 890),
      holds (powered (fun w => { w with avs := 1, below := some 0, req := 950 }))
        (fun s => s.pwr.raise.isNone && s.pwr.avs != 0 && decide (ms s.pwr.holdMs ≤ s.time.mono) && decide (modeFloor s < s.pwr.req)),
      holds (powered (fun w => { w with avs := 1, lowering := true, step := some 800 }))
        (fun s => s.pwr.avs != 0 && s.pwr.lowering && s.pwr.step == some 800 && !confirms 800 800 789),
      holds (powered (fun w => { w with avs := 1, lowering := true, step := some 800, stepAt := 2 ^ 70 }))
        (fun s => s.pwr.avs != 0 && s.pwr.lowering && s.pwr.step == some 800 && confirms 800 800 800 && decide (s.time.mono < s.pwr.stepAt + ms 1)),
      holds (powered (fun w => { w with avs := 1, lowering := true, req := 900 }))
        (fun s => s.pwr.avs != 0 && s.pwr.lowering && s.pwr.step.isNone && decide (stepDown s < s.pwr.req ∧ s.pwr.stepAt + ms 1 ≤ s.time.mono)),
      holds (aged.updSensor 59 (fun x => { x with okSince := some 0, suspect := true }))
        (fun s => (s.sensor 59).okSince == some 0 && (s.sensor 59).suspect && decide (oneSecond ≤ s.time.mono)),
      holds (((linked aged).updPtemp 0 (fun x => { x with st := 1 })).updSensor 28 (fun x => { x with val := some 3000 }) |>.updSensor 29 (fun x => { x with val := some 3000 }))
        (fun s => regRuns s 0 && decide (2 ≤ (planeSensors s 0).length)),
      holds (aged.updPtemp 1 (fun x => { x with st := 1, inBand := some 0, satSince := some 0 }))
        (fun s => (s.ptemp 1).inBand == some 0 && regRuns s 1 && (s.ptemp 1).satSince == some 0 && decide (10 * oneSecond ≤ s.time.mono))].all id = true := by
  decide +kernel

theorem witness_RegisterRowsComplete :
    [truth (bits 0xDA2C0003 31 16 == 0xDA2C && (0xDA2C0003 : Nat).testBit 0),
      truth (bits 0xDA2C0002 31 16 == 0xDA2C && !(0xDA2C0002 : Nat).testBit 0),
      holds ready (fun s => !(s.mbox 0).busy && (s.mbox 0).enabled), holds (ready.updMbox 15 (fun b => { b with busy := true })) (fun s => (s.mbox 15).busy)].all id = true := by decide +kernel

theorem witness_SmbusRowsComplete :
    [holds ready (fun s => s.flt.records == []), holds faulty (fun s => s.flt.records != []), holds ready (fun s => decide (2 < s.sys.st)),
      holds { ready with sys := { ready.sys with smbAlert := true } } (fun s => s.sys.smbAlert)].all id = true := by decide +kernel

/-! ### Records of 256 words and images, which are not computed word by word -/

theorem firstOf_skip {a b : List (Bool × Refuse)} (ha : firstOf a = none) : firstOf (a ++ b) = firstOf b := by
  induction a with
  | nil => rfl
  | cons x a ih =>
    obtain ⟨c, e⟩ := x
    cases c
    · exact ih ha
    · cases ha

theorem firstOf_both {a b : List (Bool × Refuse)} (ha : firstOf a = none) (hb : firstOf b = none) : firstOf (a ++ b) = none :=
  (firstOf_skip ha).trans hb

theorem firstOf_false {l : List (Bool × Refuse)} (h : ∀ x ∈ l, x.1 = false) : firstOf l = none := by
  induction l with
  | nil => rfl
  | cons x l ih =>
    obtain ⟨c, e⟩ := x
    have hc : c = false := h _ List.mem_cons_self
    subst hc
    exact ih (fun y hy => h y (List.mem_cons_of_mem _ hy))

/-- A request whose payload checks pass is accepted when it is accepted without them. -/
theorem accepts_of {c : Cmd} {r : Req} {s : State} (h : firstOf (c.checks r.pay (rung c 0 r s)) = none)
    (k : accepts { c with checks := fun _ _ => [] } 0 r s = true) : accepts c 0 r s = true := by
  have e : rung { c with checks := fun _ _ => [] } 0 r s = rung c 0 r s := rfl
  have e' : started { c with checks := fun _ _ => [] } 0 r s = started c 0 r s := rfl
  unfold accepts localRefusal at *
  rw [e, e'] at k
  dsimp only at *
  rw [firstOf_skip h]
  exact k

theorem fld_dark {a : Bytes} {o i : Nat} (h : a.length = o) (hi : i < 256) : fld (a ++ darkBytes) (o + 2 * i) 2 = 0xFFFF := by
  subst h
  have e : (a ++ darkBytes).drop (a.length + 2 * i) = List.replicate (512 - 2 * i) 0xFF := by
    rw [List.drop_append, List.drop_of_length_le (by omega), List.nil_append, darkBytes, List.drop_replicate]
    congr 1; omega
  unfold fld slice
  rw [e, List.take_replicate, Nat.min_eq_left (by omega)]
  rfl

theorem perm_dark {a : Bytes} {o : Nat} (h : a.length = o) : permOf (a ++ darkBytes) o 256 = dark256 := by
  unfold permOf dark256
  rw [List.eq_replicate_iff]
  refine ⟨by simp, fun b hb => ?_⟩
  obtain ⟨i, hi, rfl⟩ := List.mem_map.mp hb
  exact fld_dark h (List.mem_range.mp hi)

theorem dark_ok : permOk 256 dark256 = true := by decide +kernel

theorem slot_stocked : stocked.slot 0 0 = slot0 := by simp [State.slot, stocked, tget]

theorem slot_started {c : Cmd} {r : Req} {s : State} {p n : Nat} (h : r.indirect = false) :
    (started c 0 r s).slot p n = s.slot p n := by
  unfold started stage
  cases r.origin <;> simp only [h, Bool.not_false, if_true] <;> rfl

theorem slot0_sig : slot0.sig = signature dark256 := by simp only [slot0]

theorem slot0_perm : slot0.facet.perm = dark256 := by simp only [slot0]

theorem slot_static : static.slot 0 0 = slot0 := slot_stocked

theorem checks_dark {a : Bytes} {o : Nat} {s : State} (h : a.length = o) (hp : s.ports (fld (a ++ darkBytes) 0 1) = 256) :
    firstOf (permChecks s (a ++ darkBytes) o 256) = none := by
  unfold permChecks
  extract_lets perm
  have hq : perm = dark256 := perm_dark h
  clear_value perm
  subst hq
  rw [hp, dark_ok]
  refine firstOf_both (firstOf_false fun x hx => ?_) rfl
  obtain ⟨i, hi, rfl⟩ := List.mem_map.mp hx
  have : dark256.getD i 0xFFFF = 0xFFFF := by
    rw [dark256, List.getD_eq_getElem?_getD, List.getElem?_replicate, if_pos (List.mem_range.mp hi)]; rfl
  simp only [this]; rfl

/-- Looking up what the first slot holds. -/
theorem lookup_first {s : State} {p : Nat} {perm : List Nat} {b : Bool} {n : Nat} (h0 : slotCount s p = n + 1)
    (hv : slotValid s p 0 = true) (hs : (s.slot p 0).sig = signature perm) (hp : (s.slot p 0).facet.perm = perm)
    (ht : slotStale s p 0 = false) : lookup p perm b s = .ok (0, true, planeCount p 0 s) := by
  have hf : findSlot s p perm = some 0 := by
    unfold findSlot
    rw [h0, List.range_succ_eq_map]
    simp [hv, hs, hp]
  simp [lookup, hf, ht]

/-- The pay of a request through `reqB` is its payload. -/
theorem pay_reqB (b : Bytes) : (reqB b).pay = b := by
  simp [Req.pay, Req.plen, reqB, Req.indirect, Machine.bit, slice]

def defineReq : Req := reqB (pay [(1, 0), (1, 2), (2, 256)] ++ darkBytes)
def launchReq : Req := reqB ((pay [(1, 0), (1, 1), (2, 0)] ++ timeLe (static.time.now + us 20)) ++ darkBytes)

theorem direct_reqB (b : Bytes) : (reqB b).indirect = false := by simp [reqB, Req.indirect, Machine.bit]

theorem witness_FacetBuildCommandsComplete :
    (accepts cmdFacetDefine 0 defineReq stocked = true ∧ commissioned (started cmdFacetDefine 0 defineReq stocked) 0 = true ∧
      ∃ t, lookup 0 (permOf defineReq.pay 4 256) true (started cmdFacetDefine 0 defineReq stocked) = .ok (0, true, t)) ∧
    (accepts cmdFacetLookup 0 defineReq stocked = true ∧ commissioned (started cmdFacetLookup 0 defineReq stocked) 0 = true ∧
      ∃ t, lookup 0 (permOf defineReq.pay 4 256) false (started cmdFacetLookup 0 defineReq stocked) = .ok (0, true, t)) := by
  have hp : defineReq.pay = pay [(1, 0), (1, 2), (2, 256)] ++ darkBytes := pay_reqB _
  have hl : (pay [(1, 0), (1, 2), (2, 256)]).length = 4 := rfl
  refine ⟨⟨accepts_of ?_ (by decide +kernel), by decide +kernel, ?_⟩, accepts_of ?_ (by decide +kernel), by decide +kernel, ?_⟩
  · rw [hp]
    exact firstOf_both (firstOf_both (by decide +kernel) (by decide +kernel)) (checks_dark hl (by decide +kernel))
  · rw [hp, perm_dark hl]
    exact ⟨_, lookup_first (n := 2047) (by decide +kernel) (by decide +kernel) (by rw [slot_started (r := defineReq) (direct_reqB _), slot_stocked, slot0_sig]) (by rw [slot_started (r := defineReq) (direct_reqB _), slot_stocked, slot0_perm]) (by decide +kernel)⟩
  · rw [hp]
    exact firstOf_both (firstOf_both (by decide +kernel) (by decide +kernel)) (checks_dark hl (by decide +kernel))
  · rw [hp, perm_dark hl]
    exact ⟨_, lookup_first (n := 2047) (by decide +kernel) (by decide +kernel) (by rw [slot_started (r := defineReq) (direct_reqB _), slot_stocked, slot0_sig]) (by rw [slot_started (r := defineReq) (direct_reqB _), slot_stocked, slot0_perm]) (by decide +kernel)⟩

theorem witness_FacetLaunchBuild :
    accepts cmdFacetLaunch 0 launchReq static = true ∧
    (let u := started cmdFacetLaunch 0 launchReq static
     (∀ x ∈ regimeRefusal u 0, x.1 = false) ∧ commissioned u 0 = true ∧
      ∃ v, lookup 0 (permOf launchReq.pay 16 256) true u = .ok (0, true, v) ∧
        isOk (acceptLaunch 0 0 (static.time.now + us 20) (us 20) true none v) = true) := by
  have hp : launchReq.pay = (pay [(1, 0), (1, 1), (2, 0)] ++ timeLe (static.time.now + us 20)) ++ darkBytes := pay_reqB _
  have hl : (pay [(1, 0), (1, 1), (2, 0)] ++ timeLe (static.time.now + us 20)).length = 16 := rfl
  refine ⟨accepts_of ?_ (by decide +kernel), by decide +kernel, by decide +kernel, planeCount 0 0 (started cmdFacetLaunch 0 launchReq static), ?_, ?_⟩
  · rw [hp]
    exact firstOf_both (by decide +kernel) (checks_dark hl (by decide +kernel))
  · rw [hp, perm_dark hl]
    exact lookup_first (n := 2047) (by decide +kernel) (by decide +kernel) (by rw [slot_started (r := launchReq) (direct_reqB _), slot_static, slot0_sig]) (by rw [slot_started (r := launchReq) (direct_reqB _), slot_static, slot0_perm]) (by decide +kernel)
  · decide +kernel

theorem crc32cStep_lt {c : Nat} (h : c < 2 ^ 32) : crc32cStep c < 2 ^ 32 := by
  unfold crc32cStep; split
  · exact Nat.xor_lt_two_pow (by omega) (by omega)
  · omega

theorem crc32c_lt (p : Bytes) : crc32c p < 256 ^ 4 := by
  have k : ∀ (l : List Nat) (c : Nat), c < 2 ^ 32 → l.foldl (fun c _ => crc32cStep c) c < 2 ^ 32 := by
    intro l
    induction l with
    | nil => exact fun _ h => h
    | cons a l ih => exact fun c h => ih _ (crc32cStep_lt h)
  have j : ∀ (p : Bytes) (c : Nat), c < 2 ^ 32 →
      p.foldl (fun c b => (List.range 8).foldl (fun c _ => crc32cStep c) (c ^^^ b.toNat)) c < 2 ^ 32 := by
    intro p
    induction p with
    | nil => exact fun _ h => h
    | cons b p ih => exact fun c h => ih _ (k _ _ (Nat.xor_lt_two_pow h (by omega)))
  exact Nat.xor_lt_two_pow (j p _ (by omega)) (by omega)

/-- A park image of no codes under generation 1 of the map, with its checksum. -/
def parkHead : Bytes := pay [(2, 1), (2, 0), (4, 1), (8, 0)] ++ List.replicate 36864 0
def parkReq : Req := { req [(8, 0), (4, 36884)] with dmaIn := parkHead ++ le 4 (crc32c parkHead) }

theorem park_zero {b : Bytes} {ch : Nat} (h : ch < 9216) : fld (parkHead ++ b) (16 + 4 * ch) 4 = 0 := by
  have e : (parkHead ++ b).drop (16 + 4 * ch) = List.replicate (36864 - 4 * ch) 0 ++ b := by
    have hl : (pay [(2, 1), (2, 0), (4, 1), (8, 0)]).length = 16 := rfl
    rw [parkHead, List.append_assoc, List.drop_append, hl, List.drop_of_length_le (by rw [hl]; omega), List.nil_append,
      List.drop_append_of_le_length (by rw [List.length_replicate]; omega), List.drop_replicate]
    congr 2; omega
  unfold fld slice
  rw [e, List.take_append_of_le_length (by simp; omega), List.take_replicate, Nat.min_eq_left (by omega)]
  rfl

theorem codes_zero {b : Bytes} : (parkAt (parkHead ++ b)).codes = [] := by
  unfold parkAt
  dsimp only
  have hm : ∀ ch ∈ List.range 9216, ch < 9216 := fun ch hc => List.mem_range.mp hc
  generalize List.range 9216 = l at hm ⊢
  induction l with
  | nil => rfl
  | cons a l ih =>
    rw [List.foldr_cons, if_pos (park_zero (hm a List.mem_cons_self)), ih (fun c hc => hm c (List.mem_cons_of_mem _ hc))]

theorem witness_DriveParkLoad :
    accepts cmdDriveParkLoad 0 parkReq ready = true ∧
    (let u := started cmdDriveParkLoad 0 parkReq ready
     u.allIdle = true ∧ parkImageOk u (hostRead parkReq parkBytes) = true) := by
  have hL : parkHead.length = 36880 := by
    have hl : (pay [(2, 1), (2, 0), (4, 1), (8, 0)]).length = 16 := rfl
    rw [parkHead, List.length_append, hl, List.length_replicate]
  have hr : hostRead parkReq parkBytes = parkHead ++ le 4 (crc32c parkHead) := by
    unfold hostRead parkReq
    rw [slice_of_le (by rw [List.length_append, hL, le_length]; rfl), List.drop_zero,
      List.take_of_length_le (by rw [List.length_append, hL, le_length]; exact Nat.le_refl _)]
  have hk := codes_zero (b := le 4 (crc32c parkHead))
  have hf (o n : Nat) (h : o + n ≤ 16) : fld (parkHead ++ le 4 (crc32c parkHead)) o n = fld (pay [(2, 1), (2, 0), (4, 1), (8, 0)]) o n := by
    have hl : (pay [(2, 1), (2, 0), (4, 1), (8, 0)]).length = 16 := rfl
    unfold fld
    rw [slice_of_le (by simp only [List.length_append, hL, le_length]; omega), slice_of_le (by rw [hl]; omega), parkHead, List.append_assoc,
      List.drop_append_of_le_length (by rw [hl]; omega), List.take_append_of_le_length (by rw [List.length_drop, hl]; omega)]
  refine ⟨by decide +kernel, by decide +kernel, ?_⟩
  rw [hr]
  have h1 : fld (parkHead ++ le 4 (crc32c parkHead)) 36880 4 = crc32c parkHead := by
    have := fld_append (a := parkHead) (c := []) (n := 4) hL (crc32c_lt parkHead)
    simpa using this
  have h2 : (parkHead ++ le 4 (crc32c parkHead)).take 36880 = parkHead := List.take_left' hL
  have h3 : (parkAt (parkHead ++ le 4 (crc32c parkHead))).mapGen = 1 := hf 4 4 (by omega)
  unfold parkImageOk parkOk
  rw [hk, h1, h2, h3, hf 0 2 (by omega), hf 2 2 (by omega), hf 8 8 (by omega), List.length_append, hL, le_length]
  simp only [beq_self_eq_true, Bool.and_true, List.all_nil]
  decide +kernel

/-! ### Witnesses of the statements on the whole block -/

/-- A step answers a next state in which this holds. -/
def goes (i : Instr) (s : State) (b : State → Bool) : Bool :=
  match exec i s with
  | .next t => b t
  | _ => false

theorem witness_StepRunsFrontOfQueue : { ready with pending := [.slewDone, .announceTimer] }.pending = .slewDone :: [.announceTimer] := by decide

theorem witness_QueueMovesOnlyByTheStep :
    [truth (ready.pending == []), truth (goes .slewDone ready (fun _ => true)),
      truth (match step { ready with pending := [.slewDone] } with | .next t => t.pending == [] | _ => false)].all id = true := by decide +kernel

theorem witness_OnlyMissingUnitsStopAStep :
    [truth (Instr.lightEnRise 7).wf, truth (goes (.lightEnRise 7) ready (fun _ => true)), truth (decide (9216 ≤ 9216 ∧ 5120 ≤ 5120))].all id = true := by
  decide +kernel

theorem witness_ResetLeavesStatedValues :
    [truth (decide (575 < 576)), truth (decide (576 ≤ 576 ∧ 1215 < 1216)), truth (decide (1216 ≤ 1216 ∧ 1359 < 1360)), truth (decide (1360 ≤ 1360))].all id
      = true := by decide

/-- `ready` with mailbox 15 in this condition. -/
def box (f : Mbox → Mbox) : State := ready.updMbox 15 f

theorem witness_MailboxTransactionSteps :
    [holds (box (fun b => { b with busy := true })) (fun s => (s.mbox 15).busy && 1 % 2 == 1),
      holds ready (fun s => !(s.mbox 15).enabled), holds ready (fun s => !(s.mbox 0).busy && (s.mbox 0).enabled),
      holds (box (fun b => { b with busy := true })) (fun s => (s.mbox 15).busy && 4092 % 4 == 0 && decide (4092 < 4096)),
      holds ready (fun _ => 0x2FFFC % 4 == 0 && decide (0x20000 ≤ 0x2FFFC ∧ 0x2FFFC < 0x30000)), holds ready (fun s => (s.mbox 0).discard != some 0x31 && ((unstage 0 s).mbox 0).discard != some 0x31),
      holds (ready.updMbox 0 (fun b => { b with discard := some 0x31 })) (fun s => (s.mbox 0).discard == some (req []).tag),
      truth ((req []).origin == .mailbox 0 && (req []).flags % 2 == 0), truth ({ req [] with flags := 1 }.flags % 2 == 1)].all id = true := by
  decide +kernel

/-- A request under INDIRECT. -/
def far : Req := { origin := .mailbox 3, tag := 0xFFFF, flags := 3, len := 24, lease := 7, payload := [1, 2], ind := some { reqAddr := 64, reqLen := 2 } }
/-- A `facet.config` to worker 1 with this RECONFIG_ALLOW. -/
def facetAllow (n : Nat) : Req := { req [(32, 0), (4, n)] with target := 1 }
/-- A manager whose worker's DPLANE 2 is in DEMAND, with slots of 10 μs. -/
def short : State :=
  updSched (fun x => { x with slotNs := 10000 }) ({ manager with hi := { ready.hi with busMaster := true } }.updDplane 2 (fun q => { q with
    regime := 3, tickUs := 1, allow := 2400 }))

/-- A `facet.write` under INDIRECT to the empty slot 1 of plane 0. -/
def farFacet : Req :=
  { tag := 5, flags := 1, len := 24, payload := pay [(1, 0), (1, 15), (2, 1), (2, 0), (2, 1), (8, 0)], ind := some { reqLen := 16 } }
/-- The message pool with every buffer of requester MAILBOX taken. -/
def full1 (s : State) : State := s.updPool 1 (setReq 1 1 { poolReq (s.pool 1) 1 1 with max := 0 })

theorem witness_RefusalsComeInOrder :
    [truth (bilekCmd 0xFFFF).isNone, truth (bilekCmd 0x0105).isSome, truth (decide (3 < { req [] with flags := 4 }.flags)),
      holds ready (fun s => !s.sys.recovery && headerBad { req [] with flags := 4 } && !headerBad (req [])),
      holds ready (fun s => targetBad 0x0502 { req [] with target := 3 } s), holds manager (fun s => !targetBad 0x0502 { req [] with target := 1 } s
        && !targetSelf s 1), holds ready (fun s => !targetBad 0x0502 (req []) s && targetSelf s 0xFF),
      holds ready (fun s => !leaseOk s (cmdTestLanePattern.need (req [(2, 0)]).pay s) 9),
      holds ready (fun s => leaseOk s (cmdDriveReadState.need (req []).pay s) 0
        && (firstOf (cmdDriveReadState.checks (req []).pay s)).isSome && (req []).flags % 2 == 0 && decide ((far.ind.getD {}).rspMax ≤ 65535)),
      holds { manager with hi := { ready.hi with busMaster := true } } (fun s => (firstOf (cmdDriveReadState.passing (req []).pay 1 s)).isNone),
      holds short (fun s => !headerBad (facetAllow 9600) && !targetBad 0x0808 (facetAllow 9600) s && !targetSelf s 1 && s.hi.busMaster
        && (firstOf (cmdFacetConfig.passing (facetAllow 9600).pay 1 s)).isSome),
      holds { ready with leases := [{ laneLease with cls := 1, use := 1 }] } (fun s =>
        (firstOf (cmdTimeTout.checks (req [(1, 0), (1, 0), (26, 0)]).pay s)).isNone
          && !answersLate cmdTimeTout.op
          && (match cmdTimeTout.need (req [(1, 0), (1, 0), (26, 0)]).pay s with | some n => (holderRefusal s n 0).isSome | none => false)),
      holds (full1 stocked) (fun s => (localRefusal cmdFacetWrite farFacet s).isNone && !(stage farFacet s).1),
      holds ready (fun s => (localRefusal cmdFacetCancel (req [(1, 0), (3, 0), (4, 3)]) s).isNone && (stage (req [(1, 0), (3, 0), (4, 3)]) s).1
        && !isOk (cmdFacetCancel.run (req [(1, 0), (3, 0), (4, 3)]) (stage (req [(1, 0), (3, 0), (4, 3)]) s).2))].all id = true := by decide +kernel

theorem witness_RefusedCommandChangesNothing :
    [holds ready (fun s => (localRefusal cmdDriveReadState (req []) s).isSome),
      holds ready (fun s => (localRefusal cmdFacetCancel (req [(1, 0), (3, 0), (4, 3)]) s).isNone
        && !isOk (cmdFacetCancel.run (req [(1, 0), (3, 0), (4, 3)]) s)),
      holds stocked (fun s => farFacet.flags % 2 == 1 && (localRefusal cmdFacetWrite farFacet s).isNone && (stage farFacet s).1
        && !isOk (cmdFacetWrite.run farFacet (stage farFacet s).2))].all id = true := by decide +kernel

theorem witness_ReadingCommandsLeaveState :
    [met cmdSysInfo (req []) ready, met cmdSysEcho (req [(4, 7)]) ready, met cmdCapWalk (req [(2, 0), (2, 1)]) ready,
      met cmdPlaneMapRead (req [(1, 0), (3, 0), (4, 0), (2, 0), (2, 0)]) ready, met cmdLinkStatus (req [(1, 7), (3, 0)]) ready,
      met cmdDriveReadState (req [(2, 5000), (2, 0)]) ready, met cmdDriveParkRead (req [(4, 9215), (2, 1), (2, 0)]) ready,
      met cmdFacetReport (req [(1, 0), (3, 0), (4, 3)]) ready, met cmdChainStatus (req [(1, 31), (3, 0)]) ready,
      met cmdChainRead (req [(1, 4), (1, 0), (2, 1), (2, 1)]) ready,
      met cmdSchedDemandRead (req [(4, 1048575), (2, 1), (2, 0)]) ready (fun _ u => u.sched.matching.isNone),
      met cmdEndpointRead (req [(2, 511), (2, 0)]) ready, met cmdTimeRead (req []) ready, met cmdTimePtpStatus (req []) ready,
      met cmdRelayFdbRead (req [(1, 1), (1, 0), (2, 250), (4, 0), (6, 0), (2, 4095)]) ready,
      met cmdDomainStatus (req []) ready, met cmdDomainMembers (req []) ready, met cmdFaultStatus (req [(2, 0), (2, 80)]) ready,
      met cmdLoupeStatus (req [(1, 31), (3, 0)]) ready, met cmdSnapRead (req [(1, 1), (1, 1), (2, 0), (2, 1), (2, 0)]) ready,
      met cmdSnapStatus (req [(1, 1), (3, 0)]) ready, met cmdPowerStatus (req []) ready, met cmdCalRead (req [(1, 0), (7, 0)]) ready,
      met cmdLeaseList (req [(2, 0), (2, 100)]) ready,
      met cmdFacetRead (req [(1, 0), (1, 0), (2, 0), (1, 1), (1, 0), (2, 0), (2, 1)]) ready,
      met cmdFacetRoute (req [(1, 0), (1, 0), (2, 2), (2, 0), (2, 0xFFFF)]) tiny,
      met cmdSecCertRead (req [(4, 0), (2, 1), (2, 0)]) { ready with nvm := { ready.nvm with certs := [7], certCount := 1 } }].all id = true := by
  decide +kernel

theorem witness_RequestRoundTrip :
    [truth (far.wf && far.origin == .mailbox 3 && far.flags % 2 == 1 && far.ind.isSome),
      truth ((req [(4, 5)]).wf && (req [(4, 5)]).flags % 2 == 0 && (req [(4, 5)]).ind.isNone && (req [(4, 5)]).payload.length == 4)].all id = true := by
  decide +kernel

theorem witness_EmergencyWriteActs :
    [holds ready (fun _ => 0xDA2C0003 / 65536 % 65536 == 0xDA2C && 0xDA2C0003 % 2 == 1),
      holds ready (fun _ => 0xDA2C0002 / 65536 % 65536 == 0xDA2C && 0xDA2C0002 % 2 == 0 && 0xDA2C0002 / 2 % 2 == 1),
      holds ready (fun _ => 0xDA2D0001 / 65536 % 65536 != 0xDA2C)].all id = true := by decide +kernel

theorem witness_RaisedEventIsPendingAndLogged : [truth (decide (511 < 512)), holds ready (fun _ => [480].contains 480 && decide (15 < 16))].all id = true := by
  decide +kernel

/-- Link 7 of a lit device in RUN with all that R87 asks. -/
def bright : State := ready.updLink 7 (fun k => { k with st := 2, clean := 128, status := 0x840000 })

theorem witness_LightRisesOnlyByItsRow :
    [truth (goes .slewDone ready (fun _ => true)), truth (goes (.lightEnRise 7) bright (fun t => t.pins.light == 128))].all id = true := by
  decide +kernel

theorem witness_HostDarkHoldsLightLow :
    (let s : State := { ready with em := { ready.em with hostDark := true }, pending := [.slewDone] }
     s.pins.light == 0 && (match step s with | .next _ => true | _ => false)) = true := by decide +kernel

theorem witness_MemoryStaysCanonical :
    (let s : State := { (ready.updMbox 0 (fun b => { b with req := putBytes b.req 5 [9, 0, 7] })) with pending := [.requestAreaWrite 0 4 513] }
     Memory.wf s.loupe.mem && s.mboxes.all (fun e => Memory.wf e.2.req) && (match step s with | .next _ => true | _ => false)) = true := by
  decide +kernel

theorem witness_SlewLimiterKeepsStepAndWindow :
    (let d : Drive := { code := 10, winLo := 5, winHi := 20 }
     decide (d.winLo ≤ d.winHi ∧ d.winLo ≤ d.code ∧ d.code ≤ d.winHi) && !d.trans && decide (d.code ≠ 20 ∧ d.rate + 1 < 2 ∧ 1 ≤ d.rate + 1)
       && decide (d.code ≤ 20 ∧ 3 ≤ d.code) && decide (({ d with code := 20 } : Drive).code = 20)) = true := by decide

theorem witness_MatchingIsOneToOne :
    (let m := matchIters 4 [(0, 1, 5), (1, 1, 6), (1, 2, 5)] true 3 { g := [], a := [] }
     tfind m.mi 1 == some 1 && tfind m.mo 1 == some 1) = true := by decide +kernel

/-! ### Well-formedness refuses -/

/-- A request with each field too wide in turn, and a tick frame, an environment and a response likewise. -/
theorem test_ill_formed_parts :
    [Origin.wf (.mailbox 16), Origin.wf (.tunnel 16 0), Origin.wf (.tunnel 0 (2 ^ 32)), Indirect.wf { reqAddr := 2 ^ 64 }, Indirect.wf { reqLen := 2 ^ 32 },
      Indirect.wf { rspMax := 2 ^ 32 }, Indirect.wf { rspAddr := 2 ^ 64 }, Req.wf { tag := 2 ^ 16 }, Req.wf { len := 2 ^ 16 }, Req.wf { flags := 2 ^ 16 },
      Req.wf { target := 256 }, Req.wf { resv := 2 ^ 24 }, Req.wf { lease := 2 ^ 32 }, Req.wf { origin := .mailbox 16 },
      Req.wf { ind := some { reqLen := 2 ^ 32 } }, LaneFrame.wf { sync := 512 }, LaneFrame.wf { payload := 2 ^ 1089 }, LaneFrame.wf { crc := 2 ^ 24 },
      LaneFrame.wf { seq := 16 }, BezelEnv.wf { ovr := [640] }, BezelEnv.wf { htrOpen := [1152] }, BezelEnv.wf { htrShort := [1152] },
      BezelEnv.wf { temps := [0, 0, 0, 0, 0] }, BezelEnv.wf { temps := [2 ^ 16] }, BezelResp.wf { op := 256 }, BezelResp.wf { tag := 256 },
      BezelResp.wf { status := 256 }, BezelResp.wf { data := [0, 0, 0, 0, 0] }, BezelResp.wf { data := [2 ^ 32] }].any id = false := by decide +kernel

/-- Units and operands one above their range. -/
theorem test_ill_formed_units :
    [Instr.porstRelease 4, .warmHoldExpiry 2, .lightEnRise 8, .upLaneLock 0 2, .upLaneLock 0 5, .bezelCmdRetry 0 256, .bezelLostDownFrame 0 [3],
      .preEmphasisEnd 9216, .readbackStart 0 8, .readbackComplete 8 0, .sampleDeliver 5120, .verifyTimeout 0 512, .chainEnd 32, .endpointLiveTimeout 512,
      .ptpMessageReceive 0 [] (2 ^ 96), .ptpIntervalTimer 3, .claspTimeReceive false [] (2 ^ 96), .tcMatchTimeout 4, .toutEdge 4, .tcapEdge 2 false 0,
      .tcapEdge 0 false (2 ^ 96), .frameHeadArrive 9 [] 0, .frameHeadArrive 11 [] 0, .frameHeadArrive 12 [] 0, .frameReceiveEnd 9 [] 0,
      .egressFrameStart 11, .egressFrameDone 12, .pfcReceive 0 256 [], .pfcReceive 0 0 [2 ^ 16], .pauseExpiry 0 8, .bufferTransfer 2 0 0 0,
      .bufferTransfer 0 0 10 0, .bufferTransfer 1 0 0 4, .workerSilence 16, .claspResendTimeout 256 0, .claspResendTimeout 0 (2 ^ 16), .tunnelTimeout (2 ^ 32),
      .darkMemoryExpiry 0 (2 ^ 16), .marginPointDone 52 [], .bistDone 10 0 0, .jtagInstructionUpdate 256].any Instr.wf
      = false := by decide

/-- The same of the later rows. -/
theorem test_ill_formed_registers :
    [Instr.snapStrobe 2, .tempSensorUpdate 60 0, .sensorRecover 60, .planeTempTick 2, .patrolScrub false 4 false false, .emergencyDark (2 ^ 32),
      .emergencyRelease (2 ^ 32), .wdogTimeoutWrite (2 ^ 32), .wdogKick (2 ^ 32), .mailboxRing 16 0, .mailboxRing 0 (2 ^ 32), .requestAreaWrite 16 0 0,
      .requestAreaWrite 0 4096 0, .requestAreaWrite 0 2 0, .requestAreaWrite 0 0 (2 ^ 32), .pendingClear 16 0 [], .pendingClear 0 (2 ^ 32) [],
      .pendingClear 0 0 [512], .irqEnWrite (2 ^ 32), .eventMaskWrite 16 0, .eventVectorWrite 128 0, .txTailWrite (2 ^ 32), .rxTailWrite (2 ^ 32),
      .registerWrite .bar0 0 2 0, .registerWrite .bar0 4 8 0, .registerWrite .bar0 0 4 (2 ^ 32), .smbUnknown 256, .sysInfo { tag := 2 ^ 16 },
      .leaseList { lease := 2 ^ 32 }].any Instr.wf = false := by decide

/-! ### Values that the manual works out -/

/-- The example after R54: down-lane 1 in a tick with SEQ 5. -/
theorem test_scrambler_seed : seedOf 1 5 = 0x4ADA5A := by decide

/-- The example after R25: line 300 of stage 0 and line 301 of stage 8 on a 512-port plane. -/
theorem test_wiring : wire 512 0 300 = 150 ∧ wire 512 8 301 = 302 := by decide

/-- The example after R32: element channel 5,000 and monitor channel 3,000 of the standard 1 × 512 map. -/
theorem test_standard_map : stdElem0 true 5000 = { kind := 1, stage := 6, index := 132, high := true } ∧
    stdMon0 true 3000 = { kind := 1, stage := 13, index := 152 } := by decide

/-- The example of R223 and R224: a 4-port network routes 0→2, 1→0, 2→3, 3→1, and input 3 reaches port 1. -/
theorem test_looping : stateVector 4 (routeRecord [2, 0, 3, 1]) = [0x16] ∧ (trace 4 (routeRecord [2, 0, 3, 1]) 3 0 3).2 = 1 := by decide +kernel

/-- R123: at an update tick of 64 μs the default ramp lasts 3,907 ticks. -/
theorem test_ramp_ticks : rampTicks 250 64 = 3907 := by decide

/-- The example after R285: class 0 at the defaults with DEPTH 1,000,000, AGE 3 and WEIGHT 16. -/
theorem test_demand_weight : weightOf {} { depth := 1000000, age := 3 } = 236 := by decide +kernel

/-- The example after R277, and START 100 s earlier. -/
theorem test_chain_start :
    chainStartAt (ns 5003217400) (ns 5000000000) (us 50) (ns 1280000) = some (ns 5003840000, 3) ∧
      chainStartAt (ns 105003217400) (ns 5000000000) (us 50) (ns 1280000) = none := by decide +kernel

/-- The example after R331: from endpoint 12 at 100,000 Mb/s toward endpoints at 100,000 and at 50,000 Mb/s, in slots of 10 μs. -/
theorem test_budget :
    (let s := ((ready.updEp 12 (fun e => { e with rate := 100000 })).updEp 40 (fun e => { e with rate := 100000 })).updEp 41
       (fun e => { e with rate := 50000 })
     let s := s.updPlane 0 (fun q => { q with cfg := { q.cfg with allowNs := 2400 } })
     (budget s 0 10000 12 40, budget s 0 10000 12 41)) = (92500, 46250) := by decide +kernel

/-- The example after R446: an OPEN ring with the defaults and the matcher time of 0.70 V. -/
theorem test_slot_min :
    (matcherNs 700 3, slotMinOf { ready with dom := { ready.dom with ring := 2 } } 4000 1000 2000) = (some 4000, 11000) := by decide +kernel

/-- The example after R402: the guard band of class 5 at 100,000 Mb/s, and frames at the head at 19,900 ns. -/
theorem test_guard_band :
    (let s := (updRelay (fun x => { x with mode := [(0, 1)], iface := [(0, 1)] }) ready).updRlink 0 (fun k => { k with
       gates := { on := true, cycle := 100000, maxFrame := List.replicate 8 1522, entries := [(20000, 32), (80000, 0)] } })
     let t := updTime (fun t => { t with now := ns 19900 }) s
     (linkRate s 0, guardNs s 0 5, gateOk t 0 5 1500, gateOk t 0 5 200)) = (100000, 124, false, true) := by decide +kernel

/-- The example after R595: points −19 to +21 pass. -/
theorem test_margin_eye :
    eyeOf 0 ((List.range 65).map (fun i => if 13 ≤ i ∧ i ≤ 53 then 0 else 1)) = (true, -19, 21) ∧ eyeMui (true, -19, 21) = 625 := by decide +kernel

/-- The example after R515: a dark mean of −3,200 at the default gain trim. -/
theorem test_offset_trim : ofsSteps (-3200) 128 = -3 := by decide

/-- The example before R519: the cell's 44.47° and the filter's 32.4° turn H to an angle of −76.87°, and τ is 2.5 μs. -/
theorem test_tau : tauOf (-973866) 227122 = 2500 := by decide +kernel

/-- R470: a read that is not aligned, or of another size, returns zero. -/
theorem test_bar0_read :
    (bar0Read ready 0x2042 4, bar0Read ready 0 2) = (0, 0) := by decide +kernel

/-- R470: a read of 64 bits is two words, the lower one first. -/
theorem test_bar0_pair (s : State) : bar0Read s 0 8 = bar0Word s 0 + bar0Word s 4 * 2 ^ 32 := rfl

/-- The example after R354: +600 ns is slewed; +700 ns with 400 ns still to remove is a jump. -/
theorem test_time_jump :
    (jumps ready (600 * 65536), jumps (timed (fun t => { t with slew := 400 * 65536 * 1000000000 })) (700 * 65536)) = (false, true) := by decide +kernel

/-- The bytes of the example after R497, in mailbox 3. -/
def exampleBytes : Bytes :=
  [0x02, 0x05, 0x31, 0x00, 0x04, 0x00, 0x00, 0x00, 0xFF, 0x00, 0x00, 0x00, 0x00, 0x00, 0x00, 0x00, 0x88, 0x13, 0x00, 0x00]

/-- The device with those bytes in the request area of mailbox 3. -/
def exampleState : State := ready.updMbox 3 (fun b => { b with enabled := true, req := putBytes b.req 0 exampleBytes })

/-- The example after R497: the doorbell sets BUSY and latches the TAG. -/
theorem test_doorbell : goes (.mailboxRing 3 1) exampleState (fun t => (t.mbox 3).busy && (t.mbox 3).tag == 0x31 && t.hi.queue == [3]) = true := by
  decide +kernel

/-- The example after R497: the answer holds TAG 0x0031, STATUS 0, LENGTH 28 and OPCODE 0x0502. -/
theorem test_read_state_answer :
    (let q := reqOf 3 exampleBytes [] []
     q.1 == 0x0502 && goes (.driveReadState q.2) exampleState (fun t =>
       (t.mbox 3).done && (t.mbox 3).rsp.take 8 == [0x31, 0x00, 0x00, 0x00, 0x1C, 0x00, 0x02, 0x05])) = true := by decide +kernel

/-- The shared operation of a mailbox answer (R494): NO_IRQ keeps the vector back. -/
theorem test_no_irq : (finishMbox 0 2 [] ready).out = [] ∧ ((finishMbox 0 2 [] ready).mbox 0).done = true := by decide +kernel

/-- R475: the emergency write sets the latch and drives every LIGHT_EN output low. -/
theorem test_emergency_dark :
    goes (.emergencyDark 0xDA2C0001) { bright with pins := { bright.pins with light := 128 } } (fun t => t.em.hostDark && t.pins.light == 0) = true := by
  decide +kernel

/-- R495: an opcode that the device does not have is refused with NO_CAPABILITY, after the doorbell and COMMAND_START. -/
theorem test_unknown_opcode :
    goes (.commandStart [] []) { (ready.updMbox 0 (fun b => { b with busy := true, req := putBytes b.req 0 [0xFF, 0xFF] })) with
      hi := { ready.hi with queue := [0] } } (fun t => (t.mbox 0).done && fld (t.mbox 0).rsp 2 2 == 7) = true := by decide +kernel

end Sys2Proof.Tests
end

/-! SUPPORT. Laws of the slew limiter (R105 to R107): the goal it moves toward, one move, and what `limit` does in each of its cases. -/

namespace Sys2Proof.Machine

/-! ### The goal of the limiter (R107) -/

/-- A clamped number lies in the window. -/
theorem clampN_mem {lo hi : Nat} (h : lo ≤ hi) (x : Nat) : lo ≤ clampN x lo hi ∧ clampN x lo hi ≤ hi := by
  unfold clampN
  split_ifs <;> omega

/-- The code that the limiter moves toward: the shaped target, under the HOLD set clamped to a window that applies (R107). -/
def limitGoal (target : Nat) (window : Bool) (d : Drive) : Nat :=
  if window && !d.trans then clampN target d.winLo d.winHi else target

/-- Under the HOLD set the goal lies in the hold window (R107). -/
theorem limitGoal_mem_window {d : Drive} (hw : d.winLo ≤ d.winHi) (ht : d.trans = false) (target : Nat) :
    d.winLo ≤ limitGoal target true d ∧ limitGoal target true d ≤ d.winHi := by
  simpa [limitGoal, ht] using clampN_mem hw target

/-- Where the window applies, the TRANSITION set takes the target and the HOLD set the target held to the window. -/
theorem limitGoal_window (target : Nat) (d : Drive) : limitGoal target true d =
    if d.trans = true then target else if target < d.winLo then d.winLo else if d.winHi < target then d.winHi else target := by
  cases ht : d.trans <;> simp [limitGoal, ht, clampN]

/-! ### One move (R106) -/

/-- A code moved toward a goal by `step`, or onto the goal where that is nearer. -/
def moveToward (step goal code : Nat) : Nat := if code < goal then min goal (code + step) else max goal (code - step)

section
variable (step goal code : Nat)

/-- A move is of at most `step` either way. -/
theorem moveToward_dist : moveToward step goal code ≤ code + step ∧ code ≤ moveToward step goal code + step := by
  unfold moveToward
  split_ifs <;> omega

/-- A move upward does not pass the goal. -/
theorem moveToward_between_of_le (h : code ≤ goal) : code ≤ moveToward step goal code ∧ moveToward step goal code ≤ goal := by
  unfold moveToward
  split_ifs <;> omega

/-- A move downward does not pass the goal. -/
theorem moveToward_between_of_ge (h : goal ≤ code) : goal ≤ moveToward step goal code ∧ moveToward step goal code ≤ code := by
  unfold moveToward
  split_ifs <;> omega

/-- A move that does not reach the goal is of the whole `step`. -/
theorem moveToward_reaches_or_step :
    moveToward step goal code = goal ∨ moveToward step goal code = code + step ∨ moveToward step goal code + step = code := by
  unfold moveToward
  split_ifs <;> omega

/-- A code at its goal stays there. -/
theorem moveToward_self : moveToward step code code = code := by simp [moveToward]

/-- A window that holds both the code and the goal holds the moved code. -/
theorem moveToward_mem {lo hi : Nat} (hg : lo ≤ goal ∧ goal ≤ hi) (hc : lo ≤ code ∧ code ≤ hi) :
    lo ≤ moveToward step goal code ∧ moveToward step goal code ≤ hi := by
  unfold moveToward
  split_ifs <;> omega

end

/-! ### The cases of `limit` -/

section
variable {sl : Slew} {target : Nat} {window : Bool} {d : Drive}

/-- At the target the code rests, the count of RATE starts again and LIMITED is clear (R106; log entry 162). -/
theorem limit_at_target (hc : d.code = target) (hg : limitGoal target window d = target) :
    limit sl target window d = { d with rate := 0, limited := false } :=
  if_pos ⟨hc, hg⟩

/-- Away from the target, before RATE ticks have passed, the limiter only counts (R106). -/
theorem limit_waits (ha : ¬ (d.code = target ∧ limitGoal target window d = target)) (hr : d.rate + 1 < sl.rate) :
    limit sl target window d = { d with rate := d.rate + 1 } :=
  (if_neg ha).trans (if_pos hr)

/-- At the RATE-th tick the code moves toward the goal; LIMITED says that it does not stand at the target (R106). At the
target this is a move of nothing. -/
theorem limit_moves (hr : sl.rate ≤ d.rate + 1) :
    limit sl target window d =
      { d with code := moveToward sl.step (limitGoal target window d) d.code, rate := 0
               limited := decide (moveToward sl.step (limitGoal target window d) d.code ≠ target) } := by
  by_cases ha : d.code = target ∧ limitGoal target window d = target
  · obtain ⟨hc, hg⟩ := ha
    rw [limit_at_target hc hg, hg, ← hc, moveToward_self]
    simp
  · exact (if_neg ha).trans (if_neg (by omega))

/-- The limiter leaves the code or moves it once toward the goal. -/
theorem limit_code_stays_or_moves (sl : Slew) (target : Nat) (window : Bool) (d : Drive) :
    (limit sl target window d).code = d.code ∨
      (limit sl target window d).code = moveToward sl.step (limitGoal target window d) d.code := by
  rcases Nat.lt_or_ge (d.rate + 1) sl.rate with hr | hr
  · left
    by_cases ha : d.code = target ∧ limitGoal target window d = target
    · rw [limit_at_target ha.1 ha.2]
    · rw [limit_waits ha hr]
  · right
    rw [limit_moves hr]

/-- The limiter moves the code by at most STEP (R106). -/
theorem limit_code_dist (sl : Slew) (target : Nat) (window : Bool) (d : Drive) :
    (limit sl target window d).code ≤ d.code + sl.step ∧ d.code ≤ (limit sl target window d).code + sl.step := by
  rcases limit_code_stays_or_moves sl target window d with h | h <;> rw [h]
  · omega
  · exact moveToward_dist ..

/-- Under the HOLD set a code in the hold window stays in it (R107). -/
theorem limit_code_mem_window (sl : Slew) (target : Nat) (hw : d.winLo ≤ d.winHi) (ht : d.trans = false)
    (hc : d.winLo ≤ d.code ∧ d.code ≤ d.winHi) :
    d.winLo ≤ (limit sl target true d).code ∧ (limit sl target true d).code ≤ d.winHi := by
  rcases limit_code_stays_or_moves sl target true d with h | h <;> rw [h]
  · exact hc
  · exact moveToward_mem _ _ _ (limitGoal_mem_window hw ht target) hc

end

/-- Settles O59: each clause is the law of one case of `limit`, or of the single move that all its cases share. -/
theorem slewLimiterKeepsStepAndWindow : Obligations.SlewLimiterKeepsStepAndWindow := by
  unfold Obligations.SlewLimiterKeepsStepAndWindow
  intro sl target d hw
  rw [← limitGoal_window]
  intro e goal
  obtain ⟨hup, hdown⟩ : e.code ≤ d.code + sl.step ∧ d.code ≤ e.code + sl.step := limit_code_dist sl target true d
  refine ⟨hup, hdown, fun ht hlo hhi => limit_code_mem_window sl target hw ht ⟨hlo, hhi⟩, fun ha hr => ?waits, fun hr => ?moves,
    fun hc hg => ?atTarget⟩
  case waits =>
    have he : e = { d with rate := d.rate + 1 } := limit_waits ha hr
    simp [he]
  case moves =>
    have he : e = { d with code := moveToward sl.step goal d.code, rate := 0
                           limited := decide (moveToward sl.step goal d.code ≠ target) } := limit_moves hr
    rw [he]
    exact ⟨rfl, moveToward_reaches_or_step .., moveToward_between_of_le _ _ _, moveToward_between_of_ge _ _ _, decide_eq_true_iff⟩
  case atTarget =>
    have he : e = { d with rate := 0, limited := false } := limit_at_target hc hg
    simp [he, hc]

end Sys2Proof.Machine

/-! SUPPORT. Laws of the EVENTS block (R479 to R481): sending vectors writes the pending bit array alone, and raising an event changes the
rest of the block by its log record and its PENDING bit. -/

namespace Sys2Proof.Machine

/-! ### What leaves the EVENTS block alone -/

@[simp] theorem stageRec_ev (t x : Nat) (body : Bytes) (s : State) : (stageRec t x body s).ev = s.ev := by
  unfold stageRec
  split
  · rfl
  · split <;> rfl

@[simp] theorem claspOut_ev (west : Bool) (m : Msg) (s : State) : (claspOut west m s).ev = s.ev := by
  unfold claspOut
  split <;> rfl

@[simp] theorem awaitAck_ev (m : Msg) (west : Bool) (want : List Nat) (s : State) : (awaitAck m west want s).ev = s.ev := rfl

@[simp] theorem claspSend_ev (code dst : Nat) (body : Bytes) (s : State) : (claspSend code dst body s).ev = s.ev := by
  simp only [claspSend]
  split_ifs <;> simp

@[simp] theorem forwardEvent_ev (e : Nat) (d : EvData) (s : State) : (forwardEvent e d s).ev = s.ev := by
  unfold forwardEvent
  split
  · exact claspSend_ev ..
  · split <;> rfl

/-! ### Vectors (R481) -/

/-- A vector is sent, or waits in the pending bit array. -/
theorem sendVector_ev (v : Nat) (s : State) : ∃ x, (sendVector v s).ev = { s.ev with pba := x } := by
  simp only [sendVector]
  split
  · exact ⟨s.ev.pba, rfl⟩
  · exact ⟨_, rfl⟩

theorem each_sendVector_ev (l : List Nat) (s : State) : ∃ x, (each l s sendVector).ev = { s.ev with pba := x } := by
  induction l generalizing s with
  | nil => exact ⟨s.ev.pba, rfl⟩
  | cons v l ih =>
    obtain ⟨x, hx⟩ := ih (sendVector v s)
    obtain ⟨y, hy⟩ := sendVector_ev v s
    exact ⟨x, by rw [each_cons, hx, hy]⟩

/-- A change of the EVENTS block, with the vectors that it sends. -/
theorem evUpdate_ev (f : Events → Events) (s : State) : ∃ x, (evUpdate f s).ev = { f s.ev with pba := x } :=
  each_sendVector_ev _ { s with ev := f s.ev }

/-! ### Raising an event (R479) -/

/-- The record that the event log takes of an event raised now (R503). -/
def eventRecord (e : Nat) (d : EvData) (s : State) : EvRec := { device := s.dom.number, event := e, time := s.time.now, data := d }

section
variable (e : Nat) (d : EvData) (s : State)

/-- Raising an event writes its log record and its PENDING bit; its loupe record and its message leave the EVENTS block alone. -/
theorem raiseEvent_ev : ∃ x, (raiseEvent e d s).ev = { setPending e (logEvent (eventRecord e d s) s.ev) with pba := x } := by
  obtain ⟨x, hx⟩ := evUpdate_ev (fun ev => setPending e (logEvent (eventRecord e d s) ev)) s
  refine ⟨x, ?_⟩
  rw [← hx, raiseEvent, forwardEvent_ev]
  split
  · exact stageRec_ev ..
  · rfl

theorem raiseEvent_pending : (raiseEvent e d s).ev.pending = s.ev.pending ||| (1#512 <<< e) := by
  obtain ⟨x, hx⟩ := raiseEvent_ev e d s
  rw [hx]
  rfl

theorem raiseEvent_mask : (raiseEvent e d s).ev.mask = s.ev.mask := by
  obtain ⟨x, hx⟩ := raiseEvent_ev e d s
  rw [hx]
  rfl

theorem raiseEvent_log : (raiseEvent e d s).ev.log = (pushLog 1024 s.ev.log s.ev.lost (eventRecord e d s)).1 := by
  obtain ⟨x, hx⟩ := raiseEvent_ev e d s
  rw [hx]
  rfl

end

/-- A log holds what was pushed last, full or not. -/
theorem mem_pushLog {α : Type} (n : Nat) (log : List α) (lost : Nat) (x : α) : x ∈ (pushLog n log lost x).1 := by
  unfold pushLog
  split <;> simp

/-- Of the bits that an event can set, raising it sets its own. -/
theorem raiseEvent_pending_getLsbD (e : Nat) (d : EvData) (s : State) {i : Nat} (hi : i < 512) :
    (raiseEvent e d s).ev.pending.getLsbD i = (s.ev.pending.getLsbD i || decide (i = e)) := by
  have hbit : (1#512 <<< e).getLsbD i = decide (i = e) := by
    rw [Bool.eq_iff_iff]
    simp only [BitVec.getLsbD_shiftLeft, BitVec.getLsbD_one, Bool.and_eq_true, decide_eq_true_eq, Bool.not_eq_true', decide_eq_false_iff_not]
    omega
  rw [raiseEvent_pending, BitVec.getLsbD_or, hbit]

/-- After events are raised in turn the bits are set that were set before, and those of the events. -/
theorem each_raiseEvent_pending_getLsbD (l : List Nat) (s : State) {i : Nat} (hi : i < 512) :
    (each l s (fun e s => raiseEvent e {} s)).ev.pending.getLsbD i = (s.ev.pending.getLsbD i || decide (i ∈ l)) := by
  induction l generalizing s with
  | nil => simp [each_nil]
  | cons e l ih =>
    rw [each_cons, ih, raiseEvent_pending_getLsbD e {} s hi, Bool.or_assoc]
    simp [Bool.decide_or]

/-- A source that is raised in the access that clears its bit stays set (R15, R479). -/
theorem pendingClear_raised (w v : Nat) {raised : List Nat} {e : Nat} (he : e < 512) (hr : e ∈ raised) (s : State) :
    (pendingClear w v raised s).ev.pending.getLsbD e = true := by
  simp only [pendingClear]
  rw [each_raiseEvent_pending_getLsbD _ _ he]
  simp [hr]

/-- Settles O55: raising an event changes the EVENTS block as `raiseEvent_ev` says, and a clear comes before the sources that are raised
with it. -/
theorem raisedEventIsPendingAndLogged : Obligations.RaisedEventIsPendingAndLogged := by
  unfold Obligations.RaisedEventIsPendingAndLogged
  refine ⟨fun e d s he => ⟨raiseEvent_pending e d s, ?pending, ?logged, raiseEvent_mask e d s⟩, fun w v raised s e hw hp hr he => ?clear⟩
  case pending =>
    rw [raiseEvent_pending_getLsbD e d s he]
    simp
  case logged =>
    rw [raiseEvent_log]
    exact mem_pushLog _ _ _ _
  case clear =>
    have hrow : exec (.pendingClear w v raised) s = .next (pendingClear w v raised s) := by
      change execPendingClear w v raised s = _
      simp only [execPendingClear, live, hp, Nat.not_le.mpr hw, if_false, Bool.false_eq_true]
    exact ⟨_, hrow, pendingClear_raised w v he hr s⟩

end Sys2Proof.Machine

/-! SUPPORT. Laws of the mailbox registers and of a mailbox answer (R468, R485, R493, R494). -/

namespace Sys2Proof.Machine

/-! ### Bits and rows -/

theorem bit_zero (v : Nat) : bit v 0 = decide (v % 2 = 1) := Nat.testBit_zero ..

theorem bit_one (v : Nat) : bit v 1 = decide (v / 2 % 2 = 1) := by
  rw [bit, Nat.testBit_succ, Nat.testBit_zero]

/-- INDIRECT is bit 0 of FLAGS (R492). -/
theorem Req.indirect_eq (r : Req) : r.indirect = decide (r.flags % 2 = 1) := bit_zero r.flags

theorem Req.indirect_of_odd {r : Req} (h : r.flags % 2 = 1) : r.indirect = true := by simp [Req.indirect_eq, h]

theorem Req.direct_of_even {r : Req} (h : r.flags % 2 = 0) : r.indirect = false := by simp [Req.indirect_eq, h]

/-- A row on a unit that the device has, with PORST_N high. -/
theorem onUnit_high {i n : Nat} {s : State} (hi : i < n) (hp : s.sys.porst = false) (t : State) : onUnit i n s t = .next t := by
  simp [onUnit, hi, hp]

/-- A row of the device itself, with PORST_N high. -/
theorem live_high {s : State} (hp : s.sys.porst = false) (t : State) : live s t = .next t := by simp [live, hp]

/-! ### The doorbell and the areas (R485) -/

section
variable {m v : Nat} {s : State}

/-- RING = 0 rings nothing. -/
theorem mailboxRing_of_even (hv : v % 2 = 0) : mailboxRing m v s = s := by simp [mailboxRing, bit_zero, hv]

/-- A busy or disabled mailbox refuses its doorbell. -/
theorem mailboxRing_rejected (hv : v % 2 = 1) (hb : (s.mbox m).busy = true ∨ (s.mbox m).enabled = false) :
    mailboxRing m v s = s.updMbox m (fun b => { b with rejected := true }) := by
  rcases hb with hb | hb <;> simp [mailboxRing, bit_zero, hv, hb]

/-- Any other mailbox accepts it with the TAG of the request, and the request waits its turn. -/
theorem mailboxRing_accepted (hv : v % 2 = 1) (hb : (s.mbox m).busy = false) (he : (s.mbox m).enabled = true) :
    mailboxRing m v s =
      { acceptBell m (unle (getBytes (s.mbox m).req 2 2)) s with hi := { s.hi with queue := s.hi.queue ++ [m] } } := by
  simp [mailboxRing, bit_zero, hv, hb, he, acceptBell]

/-- While BUSY is 1 a write to the request area is discarded. -/
theorem requestWrite_rejected {o : Nat} (hb : (s.mbox m).busy = true) :
    requestWrite m o v s = s.updMbox m (fun b => { b with rejected := true }) := if_pos hb

/-- Otherwise its four bytes stand in the area. -/
theorem requestWrite_accepted {o : Nat} (hb : (s.mbox m).busy = false) :
    requestWrite m o v s = s.updMbox m (fun b => { b with req := putBytes b.req o (le 4 v) }) := by simp [requestWrite, hb]

/-- Offsets of BAR0 from the response areas on take no write (R14, R470). -/
theorem bar0Write_readOnly {o : Nat} (ho : 0x20000 ≤ o) : bar0Write o v s = s := by
  rw [bar0Write, if_neg (by omega), if_neg (by omega), if_neg (by omega)]

theorem exec_mailboxRing (hm : m < 16) (hp : s.sys.porst = false) : exec (.mailboxRing m v) s = .next (mailboxRing m v s) :=
  onUnit_high hm hp _

/-- REQUEST_AREA_WRITE of an aligned word of the area. -/
theorem exec_requestAreaWrite {o : Nat} (hm : m < 16) (hp : s.sys.porst = false) (ha : o % 4 = 0) (ho : o < 4096) :
    exec (.requestAreaWrite m o v) s = .next (requestWrite m o v s) := by
  change execRequestAreaWrite m o v s = _
  rw [execRequestAreaWrite, if_pos ⟨ha, ho⟩, onUnit_high hm hp]

end

/-! ### The answer (R485, R493, R494) -/

/-- The end of a transaction: response, BUSY and DONE in one step, and the vector unless NO_IRQ keeps it back. -/
theorem finishMbox_eq (m flags : Nat) (rsp : Bytes) (s : State) :
    finishMbox m flags rsp s =
      (let t := s.updMbox m (fun b => { b with rsp := rsp ++ b.rsp.drop rsp.length, busy := false, done := true })
       if flags / 2 % 2 = 1 then t else sendVector m t) := by
  simp [finishMbox, bit_one, overlay]

theorem dmaWrite_nil (addr : Nat) (s : State) : dmaWrite addr [] s = s := if_pos rfl

theorem dmaWrite_of_ne_nil {data : Bytes} (h : data ≠ []) (addr : Nat) (s : State) : dmaWrite addr data s = s.emit (.dma addr data) :=
  if_neg h

section
variable {r : Req} {m : Nat} (ho : r.origin = .mailbox m) (op st d0 d1 : Nat) (p : Reply) {s : State}
include ho

/-- Without INDIRECT the response area takes the header and the payload. -/
theorem answer_direct (hf : r.indirect = false) (hd : (s.mbox m).discard ≠ some r.tag) :
    answer op r st d0 d1 p s =
      finishMbox m r.flags (rspHeader op r.tag st p.pay.length d0 d1 ++ p.pay) (dmaWrite p.addr p.data s) := by
  simp [answer, ho, hf, hd]

/-- Under INDIRECT the buffers of the request return, the payload goes to RSP_ADDR, and the response area takes the header. -/
theorem answer_indirect (hf : r.indirect = true) (hd : ((unstage m s).mbox m).discard ≠ some r.tag) :
    answer op r st d0 d1 p s =
      finishMbox m r.flags (rspHeader op r.tag st p.pay.length d0 d1)
        (dmaWrite (r.ind.getD {}).rspAddr p.pay (dmaWrite p.addr p.data (unstage m s))) := by
  simp [answer, ho, hf, hd]

/-- The answer of a command that ran when the function was reset is dropped, once. -/
theorem answer_discarded (hf : r.indirect = false) (hd : (s.mbox m).discard = some r.tag) :
    answer op r st d0 d1 p s = s.updMbox m (fun b => { b with discard := none }) := by
  simp [answer, ho, hf, hd]

end

/-- Settles O49: the doorbell and the areas by the laws of their registers, the response by those of `answer` and `finishMbox`. -/
theorem mailboxTransactionSteps : Obligations.MailboxTransactionSteps := by
  unfold Obligations.MailboxTransactionSteps
  refine ⟨?rejected, ?accepted, ?noRing, ?busyArea, ?freeArea, ?rspArea, finishMbox_eq, ?direct, ?indirect, ?discarded⟩
  case rejected =>
    intro m v s hm hp hv hb
    rw [exec_mailboxRing hm hp, mailboxRing_rejected hv hb]
  case accepted =>
    intro m v s hm hp hv hb he
    rw [exec_mailboxRing hm hp, mailboxRing_accepted hv hb he]
    rfl
  case noRing =>
    intro m v s hm hp hv
    rw [exec_mailboxRing hm hp, mailboxRing_of_even hv]
  case busyArea =>
    intro m o v s hm hp ha ho hb
    rw [exec_requestAreaWrite hm hp ha ho, requestWrite_rejected hb]
  case freeArea =>
    intro m o v s hm hp ha ho hb
    rw [exec_requestAreaWrite hm hp ha ho, requestWrite_accepted hb]
  case rspArea =>
    intro o v s hp ha ho _
    change execRegisterWrite .bar0 o 4 v s = _
    rw [execRegisterWrite, registerWrite, if_pos ⟨rfl, ha⟩, bar0Write_readOnly ho, live_high hp]
  case direct =>
    intro op r m st d0 d1 pay s ho hf hd
    rw [answer_direct ho op st d0 d1 _ (Req.direct_of_even hf) hd, dmaWrite_nil]
    rfl
  case indirect =>
    intro op r m st d0 d1 pay s ho hf hpay hd
    rw [answer_indirect ho op st d0 d1 _ (Req.indirect_of_odd hf) hd, dmaWrite_nil, dmaWrite_of_ne_nil hpay]
    rfl
  case discarded =>
    intro op r m st d0 d1 pay s ho hf hd
    exact answer_discarded ho op st d0 d1 _ (Req.direct_of_even hf) hd

end Sys2Proof.Machine

/-! SUPPORT. The order of refusals (R497) as laws of `runCmd`, `localRefusal` and `runLocal`: one law per step of the list, under the
hypothesis that the steps before it refuse nothing. -/

namespace Sys2Proof.Machine

/-! ### Step 1: the opcode -/

theorem runOp_unknown {op : Nat} (h : bilekCmd op = none) (r : Req) (s : State) : runOp op r s = refuseReq op r noCap s := by
  simp [runOp, h]

theorem runOp_known {op : Nat} {c : Cmd} (h : bilekCmd op = some c) (r : Req) (s : State) : runOp op r s = runCmd c r s := by
  simp [runOp, h]

/-! ### Steps 2 and 3: the header and TARGET -/

/-- What makes a header bad: reserved FLAGS or bytes, LENGTH over 4,080, and under INDIRECT another LENGTH than 24 or REQ_LEN over 65,535. -/
theorem headerBad_iff {r : Req} : headerBad r = true ↔
    3 < r.flags ∨ r.resv ≠ 0 ∨ 4080 < r.len ∨ (r.flags % 2 = 1 ∧ (r.len ≠ 24 ∨ 65535 < (r.ind.getD {}).reqLen)) := by
  simp [headerBad, Req.indirect_eq, or_assoc]

section
variable {c : Cmd} {r : Req} {s : State} (hrec : s.sys.recovery = false)
include hrec

theorem runCmd_of_headerBad (hh : headerBad r = true) : runCmd c r s = refuseReq c.op r badHeader s := by
  simp [runCmd, hrec, hh]

variable (hh : headerBad r = false)
include hh

/-- A device that cannot be reached; the manager counts the request for a worker that it has not admitted. -/
theorem runCmd_of_targetBad (ht : targetBad c.op r s = true) :
    runCmd c r s = refuseReq c.op r (unreachableT r.target) s ∨
      runCmd c r s = refuseReq c.op r (unreachableT r.target) (claspCount (wayTo s r.target) 5 s) := by
  simp only [runCmd, hrec, hh, ht, Bool.false_and, Bool.false_eq_true, if_false, if_true]
  split
  · exact .inr rfl
  · exact .inl rfl

variable (ht : targetBad c.op r s = false)
include ht

theorem runCmd_of_targetSelf (hs : targetSelf s r.target = true) : runCmd c r s = runLocal c r s := by
  simp [runCmd, hrec, hh, ht, hs]

variable (hs : targetSelf s r.target = false) (hbm : s.hi.busMaster = true)
include hs hbm

/-- A request for a worker that the chapter of the command lets pass. -/
theorem runCmd_of_passing (hp : firstOf (c.passing r.pay r.target s) = none) : runCmd c r s = tunnelOut c.op c.host r s := by
  simp [runCmd, hrec, hh, ht, hs, hbm, hp]

/-- A request for a worker that the chapter of the command has the manager refuse (R332, R354). -/
theorem runCmd_of_not_passing {e : Refuse} (hp : firstOf (c.passing r.pay r.target s) = some e) :
    runCmd c r s = refuseReq c.op r e s := by
  simp [runCmd, hrec, hh, ht, hs, hbm, hp]

end

/-! ### Steps 4 to 6: the LEASE field, the payload and the holders -/

/-- RSP_MAX over 65,535 is a bad field of an INDIRECT payload; this one is not. -/
def RspMaxOk (r : Req) : Prop := r.flags % 2 = 1 → (r.ind.getD {}).rspMax ≤ 65535

theorem rspMaxOk_iff {r : Req} : RspMaxOk r ↔ (r.indirect && decide (65535 < (r.ind.getD {}).rspMax)) = false := by
  simp [RspMaxOk, Req.indirect_eq]

section
variable {c : Cmd} {r : Req} {s : State}

theorem localRefusal_of_lease (hl : leaseOk s (c.need r.pay s) r.lease = false) : localRefusal c r s = some badHeader := by
  simp [localRefusal, hl]

variable (hm : RspMaxOk r) (hl : leaseOk s (c.need r.pay s) r.lease = true)
include hm hl

theorem localRefusal_of_check {e : Refuse} (hc : firstOf (c.checks r.pay s) = some e) : localRefusal c r s = some e := by
  simp [localRefusal, hl, rspMaxOk_iff.mp hm, firstOf_append, hc]

theorem localRefusal_of_holder (hroom : answersLate c.op = true → replyMax c.op r.pay ≤ rspRoom r)
    (hc : firstOf (c.checks r.pay s) = none) {n : Need} (hn : c.need r.pay s = some n) {e : Refuse}
    (hh : holderRefusal s n r.lease = some e) : localRefusal c r s = some e := by
  have hfit : (answersLate c.op && decide (rspRoom r < replyMax c.op r.pay)) = false := by simpa using hroom
  rw [hn] at hl
  simp [localRefusal, hl, rspMaxOk_iff.mp hm, firstOf_append, hc, firstOf, hfit, hn, hh]

end

/-! ### Step 7: the message pool and the command's own refusals -/

section
variable {c : Cmd} {r : Req} {s : State}

theorem runLocal_of_localRefusal {e : Refuse} (h : localRefusal c r s = some e) : runLocal c r s = refuseReq c.op r e s := by
  simp [runLocal, h]

variable (h : localRefusal c r s = none)
include h

theorem runLocal_of_pool_full (hs : (stage r s).1 = false) : runLocal c r s = refuseReq c.op r busy (stage r s).2 := by
  simp [runLocal, h, hs]

theorem runLocal_of_run_error (hs : (stage r s).1 = true) {e : Refuse} (he : c.run r (stage r s).2 = .error e) :
    runLocal c r s = refuseReq c.op r e (stage r s).2 := by
  simp [runLocal, h, hs, runNow, he]

end

/-- Settles O50: each clause is the law of one step of R497. -/
theorem refusalsComeInOrder : Obligations.RefusalsComeInOrder := by
  unfold Obligations.RefusalsComeInOrder
  refine ⟨fun _ r s h => runOp_unknown h r s, fun _ _ r s h => runOp_known h r s, ?header, ?target, ?self, ?worker, ?manager, ?lease,
    ?payload, ?holder, ?pool, ?own⟩
  case header => exact fun c r s hrec hbad => runCmd_of_headerBad hrec (headerBad_iff.mpr hbad)
  case target => exact fun c r s hrec hh ht => (runCmd_of_targetBad hrec hh ht).imp_right (fun h => ⟨_, h⟩)
  case self => exact fun c r s hrec hh ht hs => runCmd_of_targetSelf hrec hh ht hs
  case worker => exact fun c r s hrec hh ht hs hbm hp => runCmd_of_passing hrec hh ht hs hbm hp
  case manager => exact fun c r s e hrec hh ht hs hbm hp => runCmd_of_not_passing hrec hh ht hs hbm hp
  case lease => exact fun c r s hl => runLocal_of_localRefusal (localRefusal_of_lease hl)
  case payload => exact fun c r s e hm hl hc => runLocal_of_localRefusal (localRefusal_of_check hm hl hc)
  case holder =>
    exact fun c r s n e hm hroom hl hc hn hh => runLocal_of_localRefusal (localRefusal_of_holder hm hl hroom hc hn hh)
  case pool => exact fun c r s h hs => runLocal_of_pool_full h hs
  case own => exact fun c r s e h hs he => runLocal_of_run_error h hs he

end Sys2Proof.Machine

/-! SUPPORT. PORST_N low (R682): when a bezel is dark, and what `porstLow` leaves of the state. -/

namespace Sys2Proof.Machine

/-! ### A bezel in reset is dark (R84) -/

section
variable {s : State} (l : Nat)

theorem State.bzHigh_of_bz_zero (h : s.pins.bz = 0) : s.bzHigh l = false := by
  simp [State.bzHigh, h]

/-- The pin alone darkens the bezel, whatever the bezel holds. -/
theorem bezelPower_of_pin_low (c : Nat) (h : s.bzHigh l = false) : bezelPower s l c = 0 := by
  simp [bezelPower, h]

end

/-! ### What PORST_N low leaves (R682) -/

/-- The state of the device's logic alone, for comparison with the reset state. What outlasts PORST_N low (log entry 48) is put at its reset value:
flash, times, the readings of VCORE and of the analogue trip, the TEST_MODE level, the bezels, and the model's own fields. -/
def State.logic (t : State) : State :=
  { t with
    pending := [], free := 0, out := [], nvm := State.reset.nvm, time := State.reset.time, bezels := []
    sys := { t.sys with testMode := false, upAt := 0 }, pins := { t.pins with therm := false }
    pwr := { t.pwr with anaTrip := false, meas := State.reset.pwr.meas, req := State.reset.pwr.req } }

section
variable (s : State)

theorem exec_porstAssert : exec .porstAssert s = .next (porstLow s) := rfl

@[simp] theorem porstLow_light : (porstLow s).pins.light = 0 := rfl
@[simp] theorem porstLow_bz : (porstLow s).pins.bz = 0 := rfl
@[simp] theorem porstLow_hostDark : (porstLow s).em.hostDark = false := rfl
@[simp] theorem porstLow_leases : (porstLow s).leases = [] := rfl
@[simp] theorem porstLow_st : (porstLow s).sys.st = 1 := rfl

/-- Elapsed time goes on, and the time of the release is marked; all other time is lost. -/
@[simp] theorem porstLow_time :
    (porstLow s).time = { State.reset.time with mono := s.time.mono, released := s.time.mono } := rfl

/-- Nothing of the logic's state outlasts PORST_N low. -/
theorem logic_porstLow : (porstLow s).logic = State.reset := rfl

theorem bezelPower_porstLow (l c : Nat) : bezelPower (porstLow s) l c = 0 :=
  bezelPower_of_pin_low l c (State.bzHigh_of_bz_zero l (porstLow_bz s))

end

/-- Settles O48: the next state is `porstLow s`, dark because BZ_RST_N is low, and its logic is in the reset state. -/
theorem powerOnResetLosesState : Obligations.PowerOnResetLosesState := by
  unfold Obligations.PowerOnResetLosesState
  intro s
  exact ⟨porstLow s, exec_porstAssert s, porstLow_light s, porstLow_bz s, bezelPower_porstLow s, porstLow_hostDark s, porstLow_leases s,
    porstLow_st s, logic_porstLow s, porstLow_time s⟩

end Sys2Proof.Machine

/-! SUPPORT. The request area read back (R492, R493): the header's fields, the fields of INDIRECT and the payload. -/

namespace Sys2Proof.Machine

/-! ### Fields one after another -/

section
variable {a b p : Bytes} {k n o v : Nat}

/-- A slice that begins past the first list lies in the second. -/
theorem slice_append_right (h : a.length ≤ o) : slice (a ++ b) o n = slice b (o - a.length) n := by
  simp [slice, List.drop_append, List.drop_eq_nil_of_le h]

/-- A field past another field lies in what follows. -/
theorem fld_le_append_right (h : k ≤ o) : fld (le k v ++ b) o n = fld b (o - k) n := by
  rw [fld, slice_append_right (by simpa using h), le_length]
  rfl

/-- The field at the front reads back. -/
theorem fld_le_append (h : v < 256 ^ n) : fld (le n v ++ b) 0 n = v := by
  simpa using fld_append (a := []) (o := 0) (c := b) rfl h

/-- The field at the end reads back. -/
theorem fld_le (h : v < 256 ^ n) : fld (le n v) 0 n = v := by simpa using fld_le_append (b := []) h

/-- The first bytes of a list, as many as its front part has, are the front part. -/
theorem slice_zero_append (h : p.length = n) : slice (p ++ b) 0 n = p := by
  simpa using slice_append (a := []) (c := b) rfl h

end

/-! ### Requests -/

/-- The header of a request (R492). -/
def reqHeader (op : Nat) (r : Req) : Bytes :=
  le 2 op ++ (le 2 r.tag ++ (le 2 r.len ++ (le 2 r.flags ++ (le 1 r.target ++ (le 3 r.resv ++ le 4 r.lease)))))

/-- What follows the header: the fields of INDIRECT, or the payload (R493). -/
def reqBody (r : Req) : Bytes := if r.indirect then indirectBytes (r.ind.getD {}) else r.payload

theorem reqHeader_length (op : Nat) (r : Req) : (reqHeader op r).length = 16 := by simp [reqHeader]

/-- A request that fits into the area is its header and its body. -/
theorem reqBytes_of_fits {r : Req} (op : Nat) (h : (reqBody r).length ≤ 4080) : reqBytes op r = reqHeader op r ++ reqBody r := by
  have hb : reqBytes op r = (reqHeader op r ++ reqBody r).take 4096 := by simp only [reqBytes, reqHeader, reqBody, List.append_assoc]
  rw [hb, List.take_of_length_le]
  rw [List.length_append, reqHeader_length]
  omega

theorem indirectBytes_length (i : Indirect) : (indirectBytes i).length = 24 := by simp [indirectBytes]

section
variable {r : Req} {op : Nat} (b : Bytes)

/-- What `Req.wf` says of the fields of the header. -/
theorem Req.wf_facts (h : r.wf = true) :
    r.tag < 256 ^ 2 ∧ r.len < 256 ^ 2 ∧ r.flags < 256 ^ 2 ∧ r.target < 256 ^ 1 ∧ r.resv < 256 ^ 3 ∧ r.lease < 256 ^ 4 ∧
      ∀ i, r.ind = some i → i.wf = true := by
  simp only [Req.wf, Bool.and_eq_true, decide_eq_true_eq] at h
  obtain ⟨⟨⟨⟨⟨⟨⟨-, h1⟩, h2⟩, h3⟩, h4⟩, h5⟩, h6⟩, h7⟩ := h
  exact ⟨h1, h2, h3, h4, h5, h6, fun i hi => by simpa [hi] using h7⟩

/-- The header reads back, whatever follows it. -/
theorem reqHeader_reads (ho : op < 256 ^ 2) (h : r.wf = true) :
    fld (reqHeader op r ++ b) 0 2 = op ∧ fld (reqHeader op r ++ b) 2 2 = r.tag ∧ fld (reqHeader op r ++ b) 4 2 = r.len ∧
      fld (reqHeader op r ++ b) 6 2 = r.flags ∧ fld (reqHeader op r ++ b) 8 1 = r.target ∧ fld (reqHeader op r ++ b) 9 3 = r.resv ∧
      fld (reqHeader op r ++ b) 12 4 = r.lease := by
  obtain ⟨h1, h2, h3, h4, h5, h6, -⟩ := Req.wf_facts h
  simp only [reqHeader, List.append_assoc]
  refine ⟨?_, ?_, ?_, ?_, ?_, ?_, ?_⟩ <;> simp (disch := omega) only [fld_le_append_right, fld_le_append, Nat.reduceSub]

/-- The fields of INDIRECT read back. -/
theorem indirectBytes_reads {i : Indirect} (h : i.wf = true) :
    ({ reqAddr := fld (indirectBytes i ++ b) 0 8, reqLen := fld (indirectBytes i ++ b) 8 4, rspMax := fld (indirectBytes i ++ b) 12 4
       rspAddr := fld (indirectBytes i ++ b) 16 8 } : Indirect) = i := by
  simp only [Indirect.wf, Bool.and_eq_true, decide_eq_true_eq] at h
  obtain ⟨⟨⟨h1, h2⟩, h3⟩, h4⟩ := h
  simp (disch := omega) only [indirectBytes, List.append_assoc, fld_le_append_right, fld_le_append, Nat.reduceSub]

/-- A field past the header lies in what follows it. -/
theorem fld_reqHeader_append {o n : Nat} (h : 16 ≤ o) : fld (reqHeader op r ++ b) o n = fld b (o - 16) n := by
  have hl := reqHeader_length op r
  rw [fld, slice_append_right (by omega), hl]
  rfl

end

/-- The request that an area spells which begins with this header. -/
theorem reqOf_header {r : Req} {op m : Nat} (b : Bytes) (ho : op < 256 ^ 2) (h : r.wf = true) (hm : r.origin = .mailbox m) :
    reqOf m (reqHeader op r ++ b) r.payload r.dmaIn =
      (op, { r with
        payload := if r.indirect then r.payload else b
        ind := if r.indirect then some { reqAddr := fld b 0 8, reqLen := fld b 8 4, rspMax := fld b 12 4, rspAddr := fld b 16 8 } else none }) := by
  obtain ⟨h1, h2, h3, h4, h5, h6, h7⟩ := reqHeader_reads b ho h
  have hb : (reqHeader op r ++ b).drop 16 = b := List.drop_left' (reqHeader_length op r)
  simp only [reqOf, h1, h2, h3, h4, h5, h6, h7, hb, fld_reqHeader_append b (Nat.le_refl 16), Req.indirect, hm,
    fld_reqHeader_append b (show 16 ≤ 24 by omega), fld_reqHeader_append b (show 16 ≤ 28 by omega),
    fld_reqHeader_append b (show 16 ≤ 32 by omega), Nat.reduceSub] <;> rfl

/-- Settles O53: the header reads back, and after it the fields of INDIRECT or the payload. -/
theorem requestRoundTrip : Obligations.RequestRoundTrip := by
  unfold Obligations.RequestRoundTrip
  intro m op r rest ho hw hm hodd heven
  rcases Nat.mod_two_eq_zero_or_one r.flags with hf | hf
  · obtain ⟨hi, hl, hmax⟩ := heven hf
    have hd := Req.direct_of_even hf
    have hbody : reqBody r = r.payload := by simp [reqBody, hd]
    rw [reqBytes_of_fits op (by rw [hbody]; omega), hbody, List.append_assoc, reqOf_header _ ho hw hm]
    refine ⟨_, rfl, ?_, ?_⟩
    · have hp : ∀ b, slice (r.payload ++ b) 0 r.len = r.payload := fun b => slice_zero_append hl
      have h0 := hp []
      rw [List.append_nil] at h0
      simp only [Req.pay, Req.plen, Req.indirect] at hd ⊢
      simp only [hd, Bool.false_eq_true, if_false, hp, h0]
    · simp only [hd, Bool.false_eq_true, if_false, ← hi]
  · obtain ⟨i, hi⟩ := Option.isSome_iff_exists.1 (hodd hf)
    have hd := Req.indirect_of_odd hf
    have hbody : reqBody r = indirectBytes i := by simp [reqBody, hd, hi]
    rw [reqBytes_of_fits op (by simp [hbody, indirectBytes_length]), hbody, List.append_assoc, reqOf_header _ ho hw hm,
      indirectBytes_reads _ ((Req.wf_facts hw).2.2.2.2.2.2 i hi)]
    refine ⟨_, rfl, ?_, ?_⟩
    · simp only [hd, if_true, ← hi]
    · simp only [hd, if_true, ← hi]

end Sys2Proof.Machine

/-! SUPPORT. The matcher (R287): tables with rising keys, the best candidate of each port, and that request, grant and accept pair inputs
and outputs one to one. -/

namespace Sys2Proof.Machine

/-! ### Tables with rising keys -/

section
variable {α : Type} {t : Tab α} {k : Nat} {v : α}

/-- The keys of a table rise strictly. -/
def Rising (t : Tab α) : Prop := t.Pairwise (fun x y => x.1 < y.1)

theorem mem_of_mem_tput {e : Nat × α} (h : e ∈ tput t k v) : e = (k, v) ∨ e ∈ t := by
  induction t with
  | nil => simpa [tput] using h
  | cons f t ih =>
    obtain ⟨i, w⟩ := f
    simp only [tput] at h
    split_ifs at h <;> grind

theorem rising_tput (h : Rising t) : Rising (tput t k v) := by
  induction t with
  | nil => simp [tput, Rising]
  | cons f t ih =>
    obtain ⟨i, w⟩ := f
    obtain ⟨hi, ht⟩ := List.pairwise_cons.1 h
    simp only [tput]
    split_ifs with h1 h2
    · subst h1
      exact List.pairwise_cons.2 ⟨hi, ht⟩
    · refine List.pairwise_cons.2 ⟨fun e he => ?_, h⟩
      rcases List.mem_cons.1 he with rfl | he
      · exact h2
      · exact h2.trans (hi e he)
    · refine List.pairwise_cons.2 ⟨fun e he => ?_, ih ht⟩
      rcases mem_of_mem_tput he with rfl | he
      · show i < k
        omega
      · exact hi e he

theorem tfind_tput (t : Tab α) (k j : Nat) (v : α) : tfind (tput t k v) j = if j = k then some v else tfind t j := by
  induction t with
  | nil => grind [tput, tfind]
  | cons f t ih => grind [tput, tfind]

/-- In a table with rising keys a listed entry is the one found. -/
theorem tfind_eq_some_of_mem (h : Rising t) (hm : (k, v) ∈ t) : tfind t k = some v := by
  induction t with
  | nil => cases hm
  | cons f t ih =>
    obtain ⟨i, w⟩ := f
    obtain ⟨hi, ht⟩ := List.pairwise_cons.1 h
    rcases List.mem_cons.1 hm with e | hm
    · cases e
      simp [tfind]
    · have : i < k := hi _ hm
      rw [tfind, if_neg (by omega), if_neg (by omega), ih ht hm]

theorem mem_of_tfind (h : tfind t k = some v) : (k, v) ∈ t := by
  induction t with
  | nil => cases h
  | cons f t ih => grind [tfind]

end

/-! ### The best candidate of each port (R286, R287) -/

theorem betterOf_eq_or (n ptr : Nat) (a b : Nat × Nat) : betterOf n ptr a b = a ∨ betterOf n ptr a b = b := by
  unfold betterOf
  split <;> simp

theorem rising_putBest {n ptr k : Nat} {c : Nat × Nat} {t : Tab (Nat × Nat)} (h : Rising t) : Rising (putBest n ptr k c t) :=
  rising_tput h

/-- What the entries and a new candidate satisfy, the entries with the candidate put in satisfy. -/
theorem putBest_keeps {P : Nat × Nat × Nat → Prop} {n ptr k : Nat} {c : Nat × Nat} {t : Tab (Nat × Nat)} (ht : ∀ e ∈ t, P e)
    (hc : P (k, c)) : ∀ e ∈ putBest n ptr k c t, P e := by
  intro e he
  rcases mem_of_mem_tput he with rfl | he
  · cases hf : tfind t k with
    | none => exact hc
    | some a =>
      rcases betterOf_eq_or n ptr a c with h | h <;> simp only [h]
      · exact ht _ (mem_of_tfind hf)
      · exact hc
  · exact ht e he

/-- The best candidates of a list: one for each port, in rising order, each from the list. -/
theorem bests_of_list {α : Type} {P : Nat × Nat × Nat → Prop} (n : Nat) (ptr key : α → Nat) (cand : α → Nat × Nat) (l : List α)
    (h : ∀ x ∈ l, P (key x, cand x)) :
    Rising (l.foldl (fun t x => putBest n (ptr x) (key x) (cand x) t) []) ∧
      ∀ e ∈ l.foldl (fun t x => putBest n (ptr x) (key x) (cand x) t) [], P e := by
  refine List.foldlRecOn l _ (motive := fun t => Rising t ∧ ∀ e ∈ t, P e) ⟨List.Pairwise.nil, by simp⟩ ?_
  rintro t ⟨hr, ht⟩ x hx
  exact ⟨rising_putBest hr, putBest_keeps ht (h x hx)⟩

/-! ### One to one -/

/-- The tables of inputs and of outputs say the same pairs, each of them requested, in rising order. -/
structure Paired (reqs : List (Nat × Nat × Nat)) (m : PlaneMatch) : Prop where
  mates : ∀ i o, tfind m.mi i = some o ↔ tfind m.mo o = some i
  asked : ∀ i o, tfind m.mi i = some o → ∃ key, (i, o, key) ∈ reqs
  mi_rising : Rising m.mi
  mo_rising : Rising m.mo

/-- An input and an output may be paired: both are free, and the pair is requested. -/
def Pairable (reqs : List (Nat × Nat × Nat)) (m : PlaneMatch) (e : Nat × Nat × Nat) : Prop :=
  tfind m.mi e.1 = none ∧ tfind m.mo e.2.1 = none ∧ ∃ key, (e.1, e.2.1, key) ∈ reqs

/-- The pair (input, output, key) accepted, with the pointers moved past it in the first iteration (R287). -/
def acceptPair (n : Nat) (first : Bool) (m : PlaneMatch) (e : Nat × Nat × Nat) : PlaneMatch :=
  let m := { m with mi := tput m.mi e.1 e.2.1, mo := tput m.mo e.2.1 e.1 }
  if first then { m with g := tset 0 m.g e.2.1 ((e.1 + 1) % max 1 n), a := tset 0 m.a e.1 ((e.2.1 + 1) % max 1 n) } else m

section
variable {n : Nat} {first : Bool} {reqs : List (Nat × Nat × Nat)} {m : PlaneMatch}

theorem acceptPair_mi (e : Nat × Nat × Nat) : (acceptPair n first m e).mi = tput m.mi e.1 e.2.1 := by
  cases first <;> rfl

theorem acceptPair_mo (e : Nat × Nat × Nat) : (acceptPair n first m e).mo = tput m.mo e.2.1 e.1 := by
  cases first <;> rfl

theorem paired_acceptPair {e : Nat × Nat × Nat} (h : Paired reqs m) (he : Pairable reqs m e) : Paired reqs (acceptPair n first m e) := by
  obtain ⟨hi, ho, hr⟩ := he
  refine ⟨fun i o => ?_, fun i o => ?_, acceptPair_mi e ▸ rising_tput h.mi_rising, acceptPair_mo e ▸ rising_tput h.mo_rising⟩
  · have := h.mates i o
    simp only [acceptPair_mi, acceptPair_mo, tfind_tput]
    grind
  · have := h.asked i o
    simp only [acceptPair_mi, tfind_tput]
    grind

/-- Accepting one pair leaves the pairs of other inputs and outputs pairable. -/
theorem pairable_acceptPair {e f : Nat × Nat × Nat} (hf : Pairable reqs m f) (h1 : e.1 ≠ f.1) (h2 : e.2.1 ≠ f.2.1) :
    Pairable reqs (acceptPair n first m e) f := by
  obtain ⟨hi, ho, hr⟩ := hf
  exact ⟨by rw [acceptPair_mi, tfind_tput, if_neg h1.symm, hi], by rw [acceptPair_mo, tfind_tput, if_neg h2.symm, ho], hr⟩

/-- Pairs of different inputs and different outputs may all be accepted. -/
theorem paired_foldl_acceptPair {l : List (Nat × Nat × Nat)} (h : Paired reqs m) (hl : ∀ e ∈ l, Pairable reqs m e)
    (hd : l.Pairwise (fun e f => e.1 ≠ f.1 ∧ e.2.1 ≠ f.2.1)) : Paired reqs (l.foldl (acceptPair n first) m) := by
  induction l generalizing m with
  | nil => exact h
  | cons e l ih =>
    obtain ⟨he, hd⟩ := List.pairwise_cons.1 hd
    refine ih (paired_acceptPair h (hl e List.mem_cons_self)) (fun f hf => ?_) hd
    exact pairable_acceptPair (hl f (List.mem_cons_of_mem _ hf)) (he f hf).1 (he f hf).2

/-- The grants of an iteration: for each output with a pair still open, its best input (R287). -/
def grantsOf (n : Nat) (reqs : List (Nat × Nat × Nat)) (m : PlaneMatch) : Tab (Nat × Nat) :=
  (reqs.filter (fun r => (tfind m.mi r.1).isNone && (tfind m.mo r.2.1).isNone)).foldl
    (fun t r => putBest n (tget 0 m.g r.2.1) r.2.1 (r.1, r.2.2) t) []

/-- The acceptances of an iteration: for each input with a grant, its best output (R287). -/
def acceptsOf (n : Nat) (reqs : List (Nat × Nat × Nat)) (m : PlaneMatch) : Tab (Nat × Nat) :=
  (grantsOf n reqs m).foldl (fun t e => putBest n (tget 0 m.a e.2.1) e.2.1 (e.1, e.2.2) t) []

theorem matchIter_eq : matchIter n reqs first m = (acceptsOf n reqs m).foldl (acceptPair n first) m := rfl

theorem grantsOf_spec : Rising (grantsOf n reqs m) ∧ ∀ e ∈ grantsOf n reqs m, Pairable reqs m (e.2.1, e.1, e.2.2) := by
  refine bests_of_list (P := fun e => Pairable reqs m (e.2.1, e.1, e.2.2)) n _ _ _ _ fun r hr => ?_
  simp only [List.mem_filter, Bool.and_eq_true, Option.isNone_iff_eq_none] at hr
  obtain ⟨hr, hi, ho⟩ := hr
  exact ⟨hi, ho, r.2.2, hr⟩

theorem acceptsOf_spec : Rising (acceptsOf n reqs m) ∧ ∀ e ∈ acceptsOf n reqs m, (e.2.1, e.1, e.2.2) ∈ grantsOf n reqs m :=
  bests_of_list (P := fun e => (e.2.1, e.1, e.2.2) ∈ grantsOf n reqs m) n _ _ _ _ fun _ h => h

/-- An input accepts once, and an output is accepted once because it has granted once. -/
theorem acceptsOf_distinct : (acceptsOf n reqs m).Pairwise (fun e f => e.1 ≠ f.1 ∧ e.2.1 ≠ f.2.1) := by
  obtain ⟨hr, hg⟩ := acceptsOf_spec (n := n) (reqs := reqs) (m := m)
  refine hr.imp_of_mem fun {e f} he hf hlt => ⟨hlt.ne, fun ho => ?_⟩
  have h1 := tfind_eq_some_of_mem grantsOf_spec.1 (hg e he)
  have h2 := tfind_eq_some_of_mem grantsOf_spec.1 (hg f hf)
  rw [ho, h2] at h1
  exact hlt.ne (congrArg Prod.fst (Option.some.inj h1)).symm

theorem paired_matchIter (h : Paired reqs m) : Paired reqs (matchIter n reqs first m) := by
  rw [matchIter_eq]
  exact paired_foldl_acceptPair h (fun e he => grantsOf_spec.2 _ (acceptsOf_spec.2 e he)) acceptsOf_distinct

theorem paired_matchIters (k : Nat) (h : Paired reqs m) : Paired reqs (matchIters n reqs first k m) := by
  induction k generalizing m first with
  | zero => exact h
  | succ k ih => exact ih (paired_matchIter h)

end

/-- Settles O60: no pairs are one to one, and every iteration keeps pairs one to one and requested. -/
theorem matchingIsOneToOne : Obligations.MatchingIsOneToOne := by
  unfold Obligations.MatchingIsOneToOne
  intro n reqs k g a
  have h0 : Paired reqs { g := g, a := a } := ⟨by simp [tfind], by simp [tfind], List.Pairwise.nil, List.Pairwise.nil⟩
  obtain ⟨hm, ha, hi, ho⟩ := paired_matchIters (n := n) (first := true) k h0
  exact ⟨hm, ha, hi, ho⟩

end Sys2Proof.Machine

/-! SUPPORT. The step and the queue (log entries 4, 11, 151): what the front of the queue comes to, and that a step stops only at a unit
that the device does not have. -/

namespace Sys2Proof.Machine

section
variable {s t : State} {i : Instr}

/-! ### The front of the queue -/

theorem step_of_pending_nil (h : s.pending = []) : step s = .next s := by simp [step, h]

theorem step_of_pending_cons {rest : List Instr} (h : s.pending = i :: rest) : step s = exec i { s with pending := rest } := by
  simp [step, h]

/-- A step either idles or runs one row with the queue's rest. -/
theorem step_cases (h : step s = .next t) :
    t = s ∨ ∃ i rest, s.pending = i :: rest ∧ exec i { s with pending := rest } = .next t := by
  cases hp : s.pending with
  | nil => rw [step_of_pending_nil hp] at h; cases h; exact .inl rfl
  | cons i rest => exact .inr ⟨i, rest, rfl, step_of_pending_cons hp ▸ h⟩

/-! ### What every row keeps, the rise of LIGHT_EN among them -/

/-- Every row keeps the dark outputs under the latch, the queue and the canonical memories; only LIGHT_EN_RISE may raise an output,
and it asks for a clear latch (R87, R475). -/
theorem exec_keeps (h : exec i s = .next t) :
    (DarkHeld s → DarkHeld t) ∧ t.pending = s.pending ∧ (MemoryOk s → MemoryOk t) := by
  by_cases hr : ∃ k, i = .lightEnRise k
  · obtain ⟨k, rfl⟩ := hr
    rcases lightEnRise_next h with rfl | ⟨ha, -, hem, hq, hl, hm⟩
    · exact ⟨id, rfl, id⟩
    · refine ⟨fun _ hk => ?_, hq, fun m => ?_⟩
      · rw [hem, lightAllowed_dark ha] at hk
        cases hk
      · simpa only [MemoryOk, hl, hm] using m
  · have k := kept_exec (fun n hn => hr ⟨n, hn⟩) h
    exact ⟨k.dark, k.queue, k.mem⟩

/-- What the choice of the row does not see, the step keeps. -/
theorem step_keeps {P : State → Prop} (hq : ∀ u l, P u → P { u with pending := l }) (he : ∀ i u v, P u → exec i u = .next v → P v)
    (h : P s) (e : step s = .next t) : P t := by
  rcases step_cases e with rfl | ⟨i, rest, -, e⟩
  · exact h
  · exact he i _ _ (hq s rest h) e

end

/-- Settles O57: every row keeps the dark outputs under the latch. -/
theorem hostDarkHoldsLightLow : Obligations.HostDarkHoldsLightLow := by
  unfold Obligations.HostDarkHoldsLightLow
  intro s t hs e
  exact step_keeps (P := DarkHeld) (fun _ _ h => h) (fun _ _ _ h e => (exec_keeps e).1 h) hs e

/-- Settles O58: every row keeps the memories in canonical form. -/
theorem memoryStaysCanonical : Obligations.MemoryStaysCanonical := by
  unfold Obligations.MemoryStaysCanonical
  intro s t hs e
  exact step_keeps (P := MemoryOk) (fun _ _ h => h) (fun _ _ _ h e => (exec_keeps e).2.2 h) hs e

/-- What the conditions of the rise of LIGHT_EN ask, one fact at a time (R87, R690). -/
theorem lightAllowed_facts {s : State} {k : Nat} (h : lightAllowed s k = true) :
    (s.link k).st = 2 ∧ 128 ≤ (s.link k).clean ∧ (s.link k).status.getLsbD 23 = true ∧ (s.link k).status.getLsbD 18 = true ∧
      s.em.hostDark = false ∧ (s.sys.st = 6 ∨ s.sys.st = 7 ∨ s.sys.st = 8) ∧ ∃ p, s.linkPlane k = some p ∧ darkCovered s p = false := by
  cases hp : s.linkPlane k with
  | none => simp [lightAllowed, hp] at h
  | some p =>
    simp only [lightAllowed, hp, Bool.and_eq_true, Bool.or_eq_true, Bool.not_eq_true', beq_iff_eq, decide_eq_true_eq, or_assoc] at h
    obtain ⟨⟨⟨⟨⟨⟨⟨⟨⟨hst, -⟩, hclean⟩, hok⟩, href⟩, hdark⟩, hsys⟩, -⟩, -⟩, hcov⟩ := h
    exact ⟨hst, hclean, hok, href, hdark, hsys, p, rfl, hcov⟩

/-- Settles O56: every other row is `Kept`, and the rise writes its own output under the conditions of `lightAllowed`. -/
theorem lightRisesOnlyByItsRow : Obligations.LightRisesOnlyByItsRow := by
  unfold Obligations.LightRisesOnlyByItsRow
  refine ⟨fun i s t hi e => (kept_exec hi e).light, fun k s t e hne => ?_⟩
  rcases lightEnRise_next e with rfl | ⟨ha, hl, -⟩
  · exact absurd rfl hne
  · exact ⟨hl, lightAllowed_facts ha⟩

/-- Settles O44: `step` runs the head of a queue that is not empty. -/
theorem stepRunsFrontOfQueue : Obligations.StepRunsFrontOfQueue := by
  unfold Obligations.StepRunsFrontOfQueue
  exact fun _ _ _ h => step_of_pending_cons h

/-- Settles O45: an empty queue idles, and every row leaves the queue that it is given. -/
theorem queueMovesOnlyByTheStep : Obligations.QueueMovesOnlyByTheStep := by
  unfold Obligations.QueueMovesOnlyByTheStep
  refine ⟨fun s h => step_of_pending_nil h, fun i s t e => (exec_keeps e).2.1, fun c rest s t h e => ?_⟩
  rw [step_of_pending_cons h] at e
  exact (exec_keeps e).2.1

end Sys2Proof.Machine

/-! SUPPORT. What can stop a step (log entry 151): the model's fault for a unit that the device does not have, and nothing else. -/

namespace Sys2Proof.Machine

section
variable {ok : Bool} {s t : State} {o : Host.Outcome State Fault Refusal}

/-- A row with operands in range (`ok`) answers a next state; one that is out of range may stop with the fault `noSuchUnit`. -/
def Answers (ok : Bool) (o : Host.Outcome State Fault Refusal) : Prop := (∃ t, o = .next t) ∨ (ok = false ∧ o = .fault .noSuchUnit)

theorem Answers.next (h : Answers true o) : ∃ t, o = .next t := by
  rcases h with h | ⟨h, -⟩
  · exact h
  · cases h

theorem onUnit_of_le {k n : Nat} (h : n ≤ k) : onUnit k n s t = .fault .noSuchUnit := if_neg (by omega)

theorem answers_onUnit {k n : Nat} (h : ok = true → k < n) : Answers ok (onUnit k n s t) := by
  unfold onUnit
  by_cases hk : k < n
  · rw [if_pos hk]
    split <;> exact .inl ⟨_, rfl⟩
  · rw [if_neg hk]
    exact .inr ⟨by cases ok <;> simp_all, rfl⟩

theorem answers_ite {c : Prop} [Decidable c] (h : ok = true → ¬ c) (ho : Answers ok o) :
    Answers ok (if c then .fault .noSuchUnit else o) := by
  by_cases hc : c
  · rw [if_pos hc]
    exact .inr ⟨by cases ok <;> simp_all, rfl⟩
  · rw [if_neg hc]
    exact ho

/-- A command stops only at a mailbox that the device does not have. -/
theorem answers_command {c : Cmd} {r : Req} (h : ok = true → r.wf = true) : Answers ok (command c r s) := by
  cases ho : r.origin with
  | mailbox m =>
    simp only [command, ho]
    refine answers_onUnit fun hk => ?_
    have := h hk
    simp only [Req.wf, Origin.wf, ho, Bool.and_eq_true, decide_eq_true_eq] at this
    omega
  | tunnel d n =>
    simp only [command, ho]
    exact .inl ⟨_, rfl⟩

end

/-- Every row answers, a well-formed one with a next state: rows of the device as a whole always have one, rows on a unit ask for a unit
that the device has, and commands for one of the sixteen mailboxes. -/
theorem answers_exec (i : Instr) (s : State) : Answers i.wf (exec i s) := by
  cases i
  case porstAssert | porstRelease | analogueThermtrip | analogueTripRelease | powerUp | testModeChange | perstAssert |
      functionLevelReset | brownOut | railSample | refclkLoss | dpllUnlock | bootImageVerify | bootComplete | linkingComplete |
      shutdownRampDone | fwHeartbeatTick | timeMirrorUpdate | modulatorTick | gridChangeAt | slotCutoff | matchingComplete |
      facetRecReceive | facetAckReceive | grantMarginExpiry | grantSlotEnd | samplerPass | announceTimer | slewDone | timeSourceLoss |
      timeStepApply | realignDone | claspTimeSend | claspTimeReceive | claspTimeSilence | tcHoldTimeout | crossbarCellTime |
      fenceComplete | fenceTimeout | hostTxFrame | hostRxDeliver | claspLinkUp | claspLinkDown | claspCreditReceive | heartbeatSend |
      heartbeatReceive | managerSilence | holdoverEnd | discoverReceive | numberReceive | claspAckReceive | claspResendTimeout |
      noticeReceive | schedCmdReceive | snapReceive | eventMsgReceive | tunnelReqReceive | tunnelRspReceive | tunnelTimeout |
      claspDarkReceive | darkMemoryExpiry | commandStart | faultFirmwareReaction | fwWdogExpiry | hostWdogExpiry | injectHoldExpiry |
      calPhaseDone | calRunDone | calBackgroundVisitDone | nvmWriteDone | jtagInstructionUpdate | loupeDirUpdate | timeBaseDue |
      loupeFreezeTrigger | loupeFreezeStop | leaseExpiry | paceMonitorSample | avsPoll | avsRaiseTimeout | avsDownHoldExpiry |
      avsLowerStep | powerEstimate | tempCompTick | emergencyDark | emergencyRelease | wdogTimeoutWrite | wdogKick | irqEnWrite |
      txTailWrite | rxTailWrite | registerWrite | smbAlertResponse | discoveryComplete | refclkReturn | dpllRelock | smbState |
      smbMaxSev | smbLightEn | smbPlaneDark | smbTempDie | smbTempHbm | smbVcoreMv | smbDiePowerW | smbIdentity | smbUnknown =>
    exact .inl ⟨_, rfl⟩
  case warmHoldExpiry | sysWarmTimeout | updateTick | rampComplete | launchFastLead | facetBuildDone | launchTime | settleTimeout |
      verifyTimeout | learnRead | learnFoldWrite | tcapEdge | snapStrobe | planeTempTick | planeTempSettled | planeTempSaturated |
      upFrameCheck | heaterStatusPoll | bzRstHoldExpiry | upLaneLock | bezelResponse | bezelCmdRetry | trainTimeout | relockTimeout |
      lightEnRise | bezelApplyTick | bezelCommandComplete | bezelLostDownFrame | bezelHoldExit | bezelLightEnFall | bezelLightEnQualify
      | bezelReset | bezelSupplyLoss | bezelSupplyRecover | refWarmupDone | helloReceive | demandReceive | arpRequestReceive |
      ptpMessageReceive | pfcReceive | pfcRefresh | ethLinkDown | ethLinkUp | gateEntryBoundary | gateListTakeEffect | bezelDownLaneLock
      | preEmphasisEnd | rangeRampDownDone | rangeSegApplied | rangeChangeDone | bankSwapAt | loopPaceOverrun | loopSampleStarved |
      injectionStart | captureDone | sampleDeliver | filterSwitch | accBlockDone | chainStepStage | chainStartTime | chainStopBoundary |
      chainEnd | schedRegimeAt | pipeLateDeadline | endpointLiveTimeout | ptpIntervalTimer | tcMatchTimeout | toutEdge | workerSilence |
      mailboxRing | requestAreaWrite | marginPointDone | checkerLocked | checkerLockLoss | bistDone | tempSensorUpdate | sensorRecover
      =>
    exact answers_onUnit fun h => by simp only [Instr.wf, Bool.and_eq_true, decide_eq_true_eq] at h; omega
  case sysInfo | sysReset | sysShutdown | sysEventLog | sysEcho | capWalk | planeMapRead | planeMapLoad | linkStatus | linkRetrain |
      linkBezelCmd | driveSetTarget | driveReadState | driveSetSlew | driveSetTick | driveSetRange | driveParkLoad | driveParkRead |
      driveRamp | driveReadback | driveSetReadback | driveSetLinkLead | driveCounters | senseRefEnable | senseSetChannel |
      senseAccConfig | senseAccRead | senseMinmaxRead | senseStatus | loopSetRegime | loopSetGains | loopSwapBank | loopSetSetpoint |
      loopSetLimits | loopReadState | loopTableLoad | loopTableRead | loopInject | loopCapture | loopCaptureRead | loopCounters |
      facetDefine | facetLookup | facetRead | facetWrite | facetLaunch | facetCancel | facetReport | facetConfig | facetPin | facetRoute
      | facetStatus | chainLoad | chainStart | chainStop | chainUnload | chainRead | chainStatus | chainConfig | schedSetRegime |
      schedConfig | schedClassConfig | schedQueueConfig | schedPin | schedRestore | schedPlanePorts | schedDemandRead | schedSampler |
      schedStatus | endpointConfig | endpointAdmit | endpointRead | endpointEvict | endpointCounters | timeConfig | timeRead |
      timeAdjust | timeForceSet | timePtpConfig | timePtpStatus | timeTxtsRead | timeTcConfig | timeTout | timeTcapConfig | timeTcapRead
      | relayConfig | relayPortConfig | relayPortStatus | relayFdbWrite | relayFdbRead | relayGroupWrite | relayFence | relayGateLoad |
      relayShaper | relayMirror | relayCounters | poolConfig | poolStatus | domainConfig | domainStatus | domainMembers |
      domainMemberEdit | domainSetRole | domainEvents | domainCounters | calCommission | calBackground | calStatus | calRead | calStore
      | calSelect | calRefTrim | faultStatus | faultAck | faultClear | faultSetSeverity | faultConfig | faultInject | faultLog |
      testLanePattern | testLaneCheck | testLoopback | testMarginScan | testBist | testCounters | loupeRingConfig | loupeEnable |
      loupeStatus | loupeExport | loupeFreeze | secAttest | secCertRead | secFwUpdate | secFwSelect | secOwnerSet | secLifecycle |
      secFactoryToken | powerStatus | powerAvsConfig | powerMode | powerTemps | powerPlaneTemp | snapAt | snapRead | snapStatus |
      snapRelease | leaseTake | leaseRelease | leaseList | leaseRenew =>
    exact answers_command fun h => h
  case readbackStart | readbackComplete | frameHeadArrive | frameReceiveEnd | egressFrameStart | egressFrameDone | pauseExpiry =>
    exact answers_ite (fun h => by simp only [Instr.wf, Bool.and_eq_true, decide_eq_true_eq] at h; omega) <|
      answers_onUnit fun h => by simp only [Instr.wf, Bool.and_eq_true, decide_eq_true_eq] at h; omega
  case patrolScrub | pendingClear | eventMaskWrite | eventVectorWrite =>
    exact answers_ite (fun h => by simp only [Instr.wf, Bool.and_eq_true, decide_eq_true_eq] at h; omega) (.inl ⟨_, rfl⟩)
  case bufferTransfer =>
    exact answers_ite (fun h => by simp only [Instr.wf, Bool.and_eq_true, decide_eq_true_eq] at h; unfold poolReqs; omega) (.inl ⟨_, rfl⟩)

/-- Settles O46: `answers_exec`, and the bounds of `onUnit` for a unit that the device does not have. -/
theorem onlyMissingUnitsStopAStep : Obligations.OnlyMissingUnitsStopAStep := by
  unfold Obligations.OnlyMissingUnitsStopAStep
  refine ⟨fun i s h => (h ▸ answers_exec i s : Answers true _).next, fun i s => (answers_exec i s).imp id And.right, ?_⟩
  refine ⟨?_, ?_, ?_, ?_, ?_, ?_, fun _ _ _ => onUnit_of_le⟩ <;> exact fun _ _ => onUnit_of_le

end Sys2Proof.Machine

/-! SUPPORT. The rows of the host register block and of SMBus (R470 to R481, R485, R712). -/

namespace Sys2Proof.Machine

/-! ### The emergency register (R474 to R476) -/

section
variable {v : Nat} {s : State}

theorem emergencyWrite_dark (hk : keyOk v = true) (h0 : bit v 0 = true) : emergencyWrite v s = hostDark s := by
  simp [emergencyWrite, hk, h0]

theorem emergencyWrite_release (hk : keyOk v = true) (h0 : bit v 0 = false) (h1 : bit v 1 = true) :
    emergencyWrite v s = reState (releaseDark (endCond 0 0 (notify s { s with em := { s.em with hostDark := false } }))) := by
  simp [emergencyWrite, hk, h0, h1]

theorem emergencyWrite_other_key (hk : keyOk v = false) : emergencyWrite v s = s := by simp [emergencyWrite, hk]

theorem keyOk_of_bits (h : bits v 31 16 = 0xDA2C) : keyOk v = true := by simp [keyOk, h]

theorem keyOk_of_bits_ne (h : bits v 31 16 ≠ 0xDA2C) : keyOk v = false := by simp [keyOk, h]

theorem exec_emergencyDark (hp : s.sys.porst = false) : exec (.emergencyDark v) s = .next (emergencyWrite v s) := live_high hp _

theorem exec_emergencyRelease (hp : s.sys.porst = false) : exec (.emergencyRelease v) s = .next (emergencyWrite v s) := live_high hp _

/-- Bits 31 to 16 as the statements write them. -/
theorem bits_31_16 (v : Nat) : bits v 31 16 = v / 65536 % 65536 := rfl

end

/-- Settles O54: the branches of `emergencyWrite`, with what `hostDark` and a release leave of the latch and the outputs. -/
theorem emergencyWriteActs : Obligations.EmergencyWriteActs := by
  unfold Obligations.EmergencyWriteActs
  refine ⟨fun v s hp hk h0 => ?_, fun v s hp hk h0 h1 => ?_, fun v s hp hk => ?_⟩
  · obtain ⟨hd, hl, -⟩ := kept_hostDark s
    rw [exec_emergencyDark hp, emergencyWrite_dark (keyOk_of_bits hk) (by simp [bit_zero, h0])]
    exact ⟨_, rfl, hd, hl⟩
  · rw [exec_emergencyRelease hp, emergencyWrite_release (keyOk_of_bits hk) (by simp [bit_zero, h0]) (by simp [bit_one, h1])]
    exact ⟨_, rfl, (release_quiet s).dark, (kept_release s).light⟩
  · rw [exec_emergencyDark hp, exec_emergencyRelease hp, emergencyWrite_other_key (keyOk_of_bits_ne hk)]
    exact ⟨rfl, rfl⟩

/-! ### The register block (R470 to R491) -/

/-- An aligned 32-bit write of BAR0. -/
theorem registerWrite_four {o v : Nat} {s : State} (h : o % 4 = 0) : registerWrite .bar0 o 4 v s = bar0Write o (v % 2 ^ 32) s := by
  simp [registerWrite, h]

/-- An aligned 64-bit write of BAR0 writes the lower address first. -/
theorem registerWrite_eight {o v : Nat} {s : State} (h : o % 8 = 0) :
    registerWrite .bar0 o 8 v s = bar0Write (o + 4) (v / 2 ^ 32 % 2 ^ 32) (bar0Write o (v % 2 ^ 32) s) := by
  simp [registerWrite, h]

/-- Settles O42: each row is its register's function, in the branch that its condition names. -/
theorem registerRowsComplete : Obligations.RegisterRowsComplete := by
  unfold Obligations.RegisterRowsComplete
  refine ⟨?_, ?_, ?_, ?_, ?_, ?_, ?_, ?_, ?_, ?_, ?_, ?_, ?_, ?_, ?_, ?_, ?_⟩
  · exact fun v => runs_of (fun _ => rfl) fun s ⟨hk, h0⟩ => emergencyWrite_dark (keyOk_of_bits hk) h0
  · exact fun v => runs_of (fun _ => rfl) fun s ⟨hk, h0, h1⟩ => emergencyWrite_release (keyOk_of_bits hk) h0 h1
  · exact fun v => runs_of (fun _ => rfl) fun s hk => emergencyWrite_other_key (keyOk_of_bits_ne hk)
  · exact fun v => runs_of (fun _ => rfl) fun _ _ => rfl
  · exact fun v => runs_of (fun _ => rfl) fun _ _ => rfl
  · exact fun v => acts_of (fun _ _ => rfl) fun m s ⟨h0, hb, he⟩ => mailboxRing_accepted (by simpa [Nat.testBit_zero] using h0) hb he
  · exact fun o v => acts_of (fun _ _ => rfl) fun m s ⟨h4, ho, hb⟩ => (if_pos ⟨h4, ho⟩).trans (requestWrite_accepted hb)
  · exact fun o v => acts_of (fun _ _ => rfl) fun m s ⟨h4, ho, hb⟩ => (if_pos ⟨h4, ho⟩).trans (requestWrite_rejected hb)
  · exact fun w v l hw => runs_of (fun _ => if_neg (Nat.not_le.2 hw)) fun _ _ => rfl
  · exact fun v => runs_of (fun _ => rfl) fun _ _ => rfl
  · exact fun w v hw => runs_of (fun _ => if_neg (Nat.not_le.2 hw)) fun _ _ => rfl
  · exact fun w v hw => runs_of (fun _ => if_neg (Nat.not_le.2 hw)) fun _ _ => rfl
  · exact fun v => runs_of (fun _ => rfl) fun _ _ => rfl
  · exact fun v => runs_of (fun _ => rfl) fun _ _ => rfl
  · exact fun o v => runs_of (fun _ => rfl) fun _ h4 => registerWrite_four h4
  · exact fun o v => runs_of (fun _ => rfl) fun _ h8 => registerWrite_eight h8
  · exact fun o n v => runs_of (fun _ => rfl) fun _ _ => rfl

/-! ### SMBus (R712) -/

/-- Settles O43: each row answers one value; the Alert Response also releases the alert. -/
theorem smbusRowsComplete : Obligations.SmbusRowsComplete := by
  unfold Obligations.SmbusRowsComplete
  refine ⟨?_, ?_, ?_, ?_, ?_, ?_, ?_, ?_, ?_, ?_, ?_, ?_, ?_⟩
  · exact runs_of (fun _ => rfl) fun _ _ => rfl
  · exact runs_of (fun _ => rfl) fun s h => by rw [maxSev, if_pos h]
  · exact runs_of (fun _ => rfl) fun s h => by rw [maxSev, if_neg h]
  · exact runs_of (fun _ => rfl) fun _ _ => rfl
  · exact runs_of (fun _ => rfl) fun _ _ => rfl
  · exact runs_of (fun _ => rfl) fun _ _ => rfl
  · exact runs_of (fun _ => rfl) fun _ _ => rfl
  · exact runs_of (fun _ => rfl) fun _ _ => rfl
  · exact runs_of (fun _ => rfl) fun s h => by rw [if_neg (Nat.not_le.2 h)]
  · exact runs_of (fun _ => rfl) fun _ _ => rfl
  · exact runs_of (fun _ => rfl) fun s h => if_pos h
  · exact runs_of (fun _ => rfl) fun s h => if_neg (by simp [h])
  · exact fun c => runs_of (fun _ => rfl) fun _ _ => rfl

end Sys2Proof.Machine

/-! SUPPORT. The reset state (R68, R96, R105, R474, R478, R480): what its empty tables read as. -/

namespace Sys2Proof.Machine

/-! ### Defaults -/

/-- A slew set at reset is that of its key: HOLD at even keys, TRANSITION at odd ones (R105). -/
theorem slewOf_reset (p kind set : Nat) : slewOf State.reset p kind set = slewDefault (slewKey p kind set) := rfl

theorem slewKey_mod_two (p kind set : Nat) : slewKey p kind set % 2 = set % 2 := by
  unfold slewKey; omega

/-- The image of a bezel at reset is the default of each word (R68). -/
theorem imageWord_reset (l w : Nat) : imageWord (State.reset.bezel l).image w = imageDefault w := rfl

/-- The four ranges of the default image (R68). -/
theorem imageDefault_ranges (w : Nat) :
    (w < 576 → imageDefault w = 128 * 65536 + 128) ∧ (576 ≤ w → w < 1216 → imageDefault w = 128) ∧
      (1216 ≤ w → w < 1360 → imageDefault w = 648 * 1024 + 158) ∧ (1360 ≤ w → imageDefault w = 0) := by
  unfold imageDefault
  refine ⟨fun h => ?_, fun h1 h2 => ?_, fun h1 h2 => ?_, fun h => ?_⟩ <;> split_ifs <;> omega

/-- STATUS of the emergency block at reset: no record, both planes dark (R474). -/
theorem emergencyStatus_reset : emergencyStatus State.reset = 7 * 2 ^ 24 + 3 * 2 ^ 8 := by decide

/-- Settles O47: every table is empty at reset, so that each entry reads as the default of its record. -/
theorem resetLeavesStatedValues : Obligations.ResetLeavesStatedValues := by
  unfold Obligations.ResetLeavesStatedValues
  have hslew : ∀ p k, slewOf State.reset p k 0 = { step := 5, rate := 1 } ∧ slewOf State.reset p k 1 = { step := 0xFFFFF, rate := 1 } := by
    intro p k
    simp [slewOf_reset, slewDefault, slewKey_mod_two]
  exact ⟨rfl, rfl, rfl, rfl, rfl, rfl, emergencyStatus_reset, rfl, rfl, rfl, rfl, rfl, fun _ => rfl, fun _ => ⟨rfl, rfl⟩,
    fun l w => imageWord_reset l w ▸ imageDefault_ranges w, fun _ => ⟨rfl, rfl⟩, hslew, fun _ => ⟨rfl, rfl, rfl⟩, fun _ => ⟨rfl, rfl, rfl⟩,
    fun _ => rfl, rfl, rfl, fun h => (nomatch h), rfl, rfl⟩

end Sys2Proof.Machine

/-! SUPPORT. How the completion of a command follows from its run: the refusals of its own that do not hold, and the effect that is left
(R485, R497). -/

namespace Sys2Proof.Machine

section
variable {i : Req → Instr} {c : Cmd} {cond : Req → State → Prop} {pay : Req → State → Bytes} {eff : Req → State → State}
  {l : Req → State → List (Bool × Refuse)} {k : Req → State → Ran} {e : Refuse} {op : Nat} {need : Bytes → State → Option Need}
  {checks : Bytes → State → List (Bool × Refuse)} {host : Option Nat} {passing : Bytes → Nat → State → List (Bool × Refuse)}
  {floor : Bytes → State → Nat}

/-- A command completes when, under its conditions, none of its own refusals holds. -/
theorem completes_of_guards (hi : ∀ r s, exec (i r) s = command c r s)
    (hc : c = ⟨op, need, checks, host, passing, floor, fun r u => guarded (l r u) (k r u)⟩) (hk : ∀ r u, k r u = ok (eff r u) (pay r u))
    (hl : ∀ r u, cond r u → ∀ x ∈ l r u, x.1 = false) : Completes i c cond pay eff :=
  completes_of hi fun r u h => (congrArg (fun c => c.run r u) hc).trans ((guarded_all (hl r u h)).trans (hk r u))

/-- The same where what follows the refusals depends on the conditions. -/
theorem completes_of_guards' (hi : ∀ r s, exec (i r) s = command c r s) (hc : c = ⟨op, need, checks, host, passing, floor, fun r u => guarded (l r u) (k r u)⟩)
    (hl : ∀ r u, cond r u → (∀ x ∈ l r u, x.1 = false) ∧ k r u = ok (eff r u) (pay r u)) : Completes i c cond pay eff :=
  completes_of hi fun r u h => (congrArg (fun c => c.run r u) hc).trans ((guarded_all (hl r u h).1).trans (hl r u h).2)

/-- A command is answered later when, under its conditions, none of its own refusals holds. -/
theorem defers_of_guards (hi : ∀ r s, exec (i r) s = command c r s) (hc : c = ⟨op, need, checks, host, passing, floor, fun r u => guarded (l r u) (k r u)⟩)
    (hk : ∀ r u, k r u = later (eff r u)) (hl : ∀ r u, cond r u → ∀ x ∈ l r u, x.1 = false) : Defers i c cond eff :=
  defers_of hi fun r u h => (congrArg (fun c => c.run r u) hc).trans ((guarded_all (hl r u h)).trans (hk r u))

/-- The same where what follows the refusals depends on the conditions. -/
theorem defers_of_guards' (hi : ∀ r s, exec (i r) s = command c r s) (hc : c = ⟨op, need, checks, host, passing, floor, fun r u => guarded (l r u) (k r u)⟩)
    (hl : ∀ r u, cond r u → (∀ x ∈ l r u, x.1 = false) ∧ k r u = later (eff r u)) : Defers i c cond eff :=
  defers_of hi fun r u h => (congrArg (fun c => c.run r u) hc).trans ((guarded_all (hl r u h).1).trans (hl r u h).2)

/-- The refusal answered is the first that holds. -/
theorem guarded_of_firstOf {l : List (Bool × Refuse)} {k : Ran} (h : firstOf l = some e) : guarded l k = .error e := by
  simp only [guarded, h]

/-- A command is refused with the first of its own refusals that holds. -/
theorem refuses_of_guards (hi : ∀ r s, exec (i r) s = command c r s) (hc : c = ⟨op, need, checks, host, passing, floor, fun r u => guarded (l r u) (k r u)⟩)
    (hl : ∀ r u, cond r u → firstOf (l r u) = some e) : Refuses i c cond e :=
  refuses_of hi fun r u h => (congrArg (fun c => c.run r u) hc).trans (guarded_of_firstOf (hl r u h))

end

theorem firstOf_cons_true {b : Bool} {e : Refuse} {l : List (Bool × Refuse)} (h : b = true) : firstOf ((b, e) :: l) = some e := by
  simp only [firstOf, h, if_true]

theorem firstOf_cons_false {b : Bool} {e : Refuse} {l : List (Bool × Refuse)} (h : b = false) : firstOf ((b, e) :: l) = firstOf l := by
  simp only [firstOf, h, Bool.false_eq_true, if_false]

end Sys2Proof.Machine

/-! SUPPORT. The commands of groups sys, cap, plane and link (R44, R45, R498, R502 to R507, R694, R695). -/

namespace Sys2Proof.Machine

/-- Settles O1: the readings answer what their run writes; `sys.reset`, `sys.shutdown` and `sys.event_log` pass their one refusal. -/
theorem systemCommandsComplete : Obligations.SystemCommandsComplete := by
  unfold Obligations.SystemCommandsComplete
  refine ⟨?_, ?_, ?_, ?_, ?_, ?_, ?_⟩
  · exact completes_of (fun _ _ => rfl) fun _ _ _ => rfl
  · refine defers_of_guards (fun _ _ => rfl) rfl (fun _ _ => rfl) fun r u h => ?_
    rcases h with h | h | h <;> simp [h]
  · exact refuses_of_guards (fun _ _ => rfl) rfl fun r u ⟨h1, h2, h3⟩ => firstOf_cons_true (by simp [h1, h2, h3])
  · refine completes_of_guards (fun _ _ => rfl) rfl (fun _ _ => rfl) fun r u h => ?_
    rcases h with h | h <;> simp [h]
  · exact completes_of_guards (fun _ _ => rfl) rfl (fun _ _ => rfl) fun r u h => by simpa using h
  · exact completes_of (fun _ _ => rfl) fun _ _ _ => rfl
  · exact completes_of (fun _ _ => rfl) fun _ _ _ => rfl

/-- Settles O2: each command passes its refusals, which ask the map, the light of the link's plane and the state of the link. -/
theorem planeAndLinkCommandsComplete : Obligations.PlaneAndLinkCommandsComplete := by
  unfold Obligations.PlaneAndLinkCommandsComplete
  refine ⟨?_, ?_, ?_, ?_, ?_, ?_, ?_, ?_⟩
  · exact fun k => completes_of (fun _ _ => rfl) fun r u h => by simp only [cmdPlaneMapRead, h]
  · exact completes_of_guards (fun _ _ => rfl) rfl (fun _ _ => rfl) fun r u ⟨h1, h2⟩ => by
      split_ifs at h2 with h <;> simp [h1, h2, h]
  · exact refuses_of_guards (fun _ _ => rfl) rfl fun r u h => firstOf_cons_true (by simp [h])
  · exact completes_of (fun _ _ => rfl) fun _ _ _ => rfl
  · exact completes_of_guards (fun _ _ => rfl) rfl (fun _ _ => rfl) fun r u ⟨p, hp, hl⟩ => by simp [hp, hl]
  · exact refuses_of_guards (fun _ _ => rfl) rfl fun r u ⟨p, hp, hl⟩ => firstOf_cons_true (by simp [hp, hl])
  · exact defers_of_guards (fun _ _ => rfl) rfl (fun _ _ => rfl) fun r u ⟨h1, h2⟩ => by simp [h1, h2]
  · exact refuses_of_guards (fun _ _ => rfl) rfl fun r u h => firstOf_cons_true (by simp [h])

end Sys2Proof.Machine

/-! SUPPORT. The commands of the drive and sense paths (R131 to R142, R171 to R176). -/

namespace Sys2Proof.Machine

/-- Settles O3: each command passes its refusals under its conditions; a range change to the range in force changes nothing. -/
theorem driveSettingCommandsComplete : Obligations.DriveSettingCommandsComplete := by
  unfold Obligations.DriveSettingCommandsComplete
  refine ⟨?_, ?_, ?_, ?_, ?_, ?_, ?_⟩
  · refine completes_of_guards (fun _ _ => rfl) rfl (fun _ _ => rfl) fun r u ⟨hreg, hpend, hforced, hlit, hroom⟩ => ?_
    split_ifs at hroom ⊢ with h
    · simpa [hreg, hforced, hlit] using hroom
    · simpa [hreg, hforced, hlit] using hroom
  · refine completes_of_guards (fun _ _ => rfl) rfl (fun _ _ => rfl) fun r u h => ?_
    simpa using h
  · exact completes_of_guards (fun _ _ => rfl) rfl (fun _ _ => rfl) fun r u ⟨hreg, hramp⟩ => by simp [hreg, hramp]
  · refine completes_of_guards' (fun _ _ => rfl) rfl fun r u ⟨hlit, hsched, hstep, hkind, hfit⟩ => ⟨?_, ?_⟩
    · simpa [hlit, hsched, hkind] using And.intro hstep hfit
    · dsimp only
      split_ifs <;> rfl
  · exact completes_of_guards (fun _ _ => rfl) rfl (fun _ _ => rfl) fun r u ⟨hidle, himg⟩ => by simp [hidle, himg]
  · exact completes_of_guards (fun _ _ => rfl) rfl (fun _ _ => rfl) fun r u ⟨hreg, hslow⟩ => by simp [hreg, hslow]
  · exact completes_of (fun _ _ => rfl) fun _ _ _ => rfl

/-- Settles O4: the readings answer what their run writes; `drive.readback` passes its refusals. -/
theorem driveReadingCommandsComplete : Obligations.DriveReadingCommandsComplete := by
  unfold Obligations.DriveReadingCommandsComplete
  refine ⟨?_, ?_, ?_, ?_, ?_⟩
  · exact completes_of (fun _ _ => rfl) fun _ _ _ => rfl
  · exact completes_of (fun _ _ => rfl) fun _ _ _ => rfl
  · refine defers_of_guards' (fun _ _ => rfl) rfl fun r u ⟨hcal, hrun, hroom⟩ => ⟨?_, ?_⟩
    · simp [hrun, hroom]
      simpa using hcal
    · dsimp only
      split_ifs <;> rfl
  · exact completes_of (fun _ _ => rfl) fun _ _ _ => rfl
  · exact completes_of (fun _ _ => rfl) fun _ _ _ => rfl

/-- Settles O5: each command passes its refusals; a reading clears only where CLEAR says so. -/
theorem senseCommandsComplete : Obligations.SenseCommandsComplete := by
  unfold Obligations.SenseCommandsComplete
  refine ⟨?_, ?_, ?_, ?_, ?_, ?_⟩
  · refine completes_of_guards (fun _ _ => rfl) rfl (fun _ _ => rfl) fun r u h => ?_
    rcases h with h | h
    · simp [h]
    · simpa using fun _ => h
  · refine completes_of_guards' (fun _ _ => rfl) rfl fun r u ⟨hacc, href, hlit, hctx⟩ => ⟨?_, ?_⟩
    · simpa [hacc] using And.intro href (And.intro hlit hctx)
    · rfl
  · refine completes_of_guards (fun _ _ => rfl) rfl (fun _ _ => rfl) fun r u ⟨hacc, href⟩ => ?_
    simpa [hacc] using href
  · refine completes_of_guards' (fun _ _ => rfl) rfl fun r u h => ⟨?_, ?_⟩
    · by_cases hc : fld r.pay 3 1 = 1 <;> simp [hc, h]
    · simp
  · refine completes_of_guards' (fun _ _ => rfl) rfl fun r u h => ⟨?_, ?_⟩
    · by_cases hc : fld r.pay 3 1 = 1 <;> simp [hc, h]
    · simp
  · exact completes_of (fun _ _ => rfl) fun _ _ _ => rfl

end Sys2Proof.Machine

/-! SUPPORT. The commands of the loop engines (R209 to R219). -/

namespace Sys2Proof.Machine

/-- Settles O6: each command passes its refusals, which ask the holders of its contexts and whether they run. -/
theorem loopSettingCommandsComplete : Obligations.LoopSettingCommandsComplete := by
  unfold Obligations.LoopSettingCommandsComplete
  refine ⟨?_, ?_, ?_, ?_, ?_, ?_, ?_⟩
  · refine completes_of_guards' (fun _ _ => rfl) rfl fun r u ⟨hready, hfree, hdark⟩ => ⟨?_, rfl⟩
    by_cases h0 : fld r.pay 4 1 = 0
    · simpa [h0, hfree] using hdark (.inl h0)
    · obtain ⟨href, hreg, hmon⟩ := hready h0
      simpa [h0, hfree, href, hreg, hmon] using fun h => hdark (.inr h)
  · exact completes_of_guards (fun _ _ => rfl) rfl (fun _ _ => rfl) fun r u ⟨hfree, hbank⟩ => by simp [hfree, hbank]
  · refine completes_of_guards (fun _ _ => rfl) rfl (fun _ _ => rfl) fun r u ⟨hfree, htime⟩ => ?_
    rcases htime with h | h <;> simp [hfree, h]
  · exact completes_of_guards (fun _ _ => rfl) rfl (fun _ _ => rfl) fun r u ⟨hdark, hfree⟩ => by simp [hfree, hdark]
  · refine completes_of_guards (fun _ _ => rfl) rfl (fun _ _ => rfl) fun r u ⟨hfree, hopen⟩ => ?_
    cases hk : bit (fld r.pay 4 1) 1 || bit (fld r.pay 4 1) 3 || bit (fld r.pay 4 1) 4
    · simp [hfree]
    · simp [hfree, hopen hk]
  · exact completes_of_guards (fun _ _ => rfl) rfl (fun _ _ => rfl) fun r u h => by simp [h]
  · exact completes_of_guards (fun _ _ => rfl) rfl (fun _ _ => rfl) fun r u h => by simp [h]

/-- Settles O7: the readings answer what their run writes; a capture passes its refusals, by the wave of its component. -/
theorem loopReadingCommandsComplete : Obligations.LoopReadingCommandsComplete := by
  unfold Obligations.LoopReadingCommandsComplete
  refine ⟨?_, ?_, ?_, ?_, ?_, ?_, ?_, ?_⟩
  · exact completes_of (fun _ _ => rfl) fun _ _ _ => rfl
  · exact completes_of (fun _ _ => rfl) fun r u h => if_pos h
  · exact fun w => completes_of (fun _ _ => rfl) fun r u ⟨h0, hw⟩ => by simp only [cmdLoopTableRead, h0, if_false, hw]
  · exact refuses_of (fun _ _ => rfl) fun r u ⟨h0, hw⟩ => by simp only [cmdLoopTableRead, h0, if_false, hw]
  · refine completes_of_guards (fun _ _ => rfl) rfl (fun _ _ => rfl) fun r u ⟨hreg, hidle, hon, hwave, hlen⟩ => ?_
    generalize (if fld r.pay 2 1 = 1 then (u.ctx (fld r.pay 0 2)).gen.c1 else (u.ctx (fld r.pay 0 2)).gen.c0) = k at hwave hlen ⊢
    split_ifs at hlen ⊢ with hw
    · simpa [hreg, hidle, hon, hw] using hlen
    · simpa [hreg, hidle, hon, hwave, and_assoc, Nat.one_le_iff_ne_zero] using hlen
  · exact completes_of (fun _ _ => rfl) fun _ _ _ => rfl
  · refine completes_of (fun _ _ => rfl) fun r u h => ?_
    by_cases hc : fld r.pay 1 1 = 1 <;> simp only [cmdLoopCounters, h, hc, if_true, if_false]
  · refine completes_of (fun _ _ => rfl) fun r u h => ?_
    by_cases hc : fld r.pay 1 1 = 1 <;> simp only [cmdLoopCounters, h, hc, if_true, if_false]

end Sys2Proof.Machine

/-! SUPPORT. The commands of facets and launches (R254 to R263). -/

namespace Sys2Proof.Machine

/-- Settles O8: each command passes its refusals; what the library answers is a hypothesis of `facet.define` and `facet.lookup`. -/
theorem facetLibraryCommandsComplete : Obligations.FacetLibraryCommandsComplete := by
  unfold Obligations.FacetLibraryCommandsComplete
  refine ⟨fun n hit t => ?_, fun n hit t => ?_, ?_, ?_, ?_, ?_, ?_, ?_⟩
  · refine completes_of_guards' (fun _ _ => rfl) rfl fun r u ⟨hcom, hlook, hpin⟩ => ⟨?_, ?_⟩
    · cases hb : bit (fld r.pay 1 1) 0
      · simp [hcom]
      · rcases hpin hb with h | h
        · simp [hcom, h]
        · simp [hcom, Nat.not_le.2 h]
    · simp only [hlook]
  · exact completes_of_guards' (fun _ _ => rfl) rfl fun r u ⟨hcom, hlook⟩ => ⟨by simp [hcom], by simp only [hlook]⟩
  · refine completes_of_guards' (fun _ _ => rfl) rfl fun r u h => ⟨by simp [h], ?_⟩
    congr 1
    split
    · next h0 => simp [h0]
    · next h0 => simp [h0]
    · next h0 => simp [h0]
    · next h0 h1 h2 => simp_all
  · exact refuses_of_guards (fun _ _ => rfl) rfl fun r u h => firstOf_cons_true (by simp [h])
  · refine completes_of_guards (fun _ _ => rfl) rfl (fun _ _ => rfl) fun r u ⟨hval, hok⟩ => ?_
    exact List.forall_mem_append.2 ⟨by simp [hval], List.forall_mem_map.2 hok⟩
  · refine completes_of_guards (fun _ _ => rfl) rfl (fun _ _ => rfl) fun r u ⟨hval, hev, hpin⟩ => ?_
    by_cases h1 : fld r.pay 1 1 = 1
    · rcases hpin h1 with h | h
      · simp [hval, h1, h]
      · simp [hval, h1, Nat.not_le.2 h]
    · simpa [hval, h1] using hev
  · exact completes_of (fun _ _ => rfl) fun _ _ _ => rfl
  · exact completes_of (fun _ _ => rfl) fun _ _ _ => rfl

/-- Settles O9: each command passes its refusals; what the launch or the library answers is a hypothesis of `facet.launch`. -/
theorem launchCommandsComplete : Obligations.LaunchCommandsComplete := by
  unfold Obligations.LaunchCommandsComplete
  refine ⟨fun l t => ?_, fun n hit v l t => ?_, fun l => ?_, fun l => ?_, fun l => ?_, ?_⟩
  · refine completes_of_guards' (fun _ _ => rfl) rfl fun r u ⟨hreg, h0, hval, hacc⟩ => ⟨hreg, ?_⟩
    simp only [h0, hval, hacc, if_true, launchReply_ok]
  · refine completes_of_guards' (fun _ _ => rfl) rfl fun r u ⟨hreg, h1, hcom, hlook, hacc⟩ => ⟨hreg, ?_⟩
    simp only [h1, hcom, hlook, builtLaunch_ok, hacc, launchReply_ok, Nat.one_ne_zero, if_false, Bool.not_true, Bool.false_eq_true]
  · refine completes_of (fun _ _ => rfl) fun r u ⟨hfind, htime⟩ => ?_
    simp only [cmdFacetCancel, hfind, if_neg (Nat.not_le.2 htime)]
  · refine refuses_of (fun _ _ => rfl) fun r u ⟨hfind, htime⟩ => ?_
    simp only [cmdFacetCancel, hfind, if_pos htime]
  · refine completes_of (fun _ _ => rfl) fun r u ⟨hid, hfind⟩ => ?_
    simp only [cmdFacetReport, hid, if_false, hfind]
  · exact completes_of_guards (fun _ _ => rfl) rfl (fun _ _ => rfl) fun r u ⟨hacc, hcur⟩ => by simp [hacc, hcur]

end Sys2Proof.Machine

/-! SUPPORT. The commands of chains (R298 to R303). -/

namespace Sys2Proof.Machine

theorem localOf_updChainPlane (s : State) (d e : Nat) (f : ChainPlane → ChainPlane) : localOf (s.updChainPlane d f) e = localOf s e := rfl

section
variable {r : Req} {u : State}

/-- The refusals of `chain.start`, in their order (R277, R299). -/
def startRefusals (r : Req) (u : State) : List (Bool × Refuse) :=
  let c := chainOf u (fld r.pay 0 1)
  let d := c.dplane
  let s0 := startBoundary u c (timeAt r.pay 4)
  let held := (localOf u d).bind (fun p => scheduleRefusal u p)
  [(c.steps.isEmpty, empty), (if c.fill then !schedules u else (localOf u d).isNone, bad 0),
    (u.em.hostDark || u.time.st == 4, notReady), (!dplaneHere u d, unreachableT r.target), (dregime u d == 0, notReady),
    ((u.chainPlane d).pend.isSome || u.sched.asked.any (fun a => a.1 == d && a.2.1 == 4), busy), (u.pwr.avs == 2, ⟨2, 0, 7⟩),
    (held.isSome, held.getD busy), (c.fill && !slotsFit u d s0, bad 0), (c.fill && pinClash u c, conflict 7),
    (c.fill && neverFrom u s0, shortSlot u)]

/-- No refusal of `chain.start` holds on a plane that may start. -/
theorem startRefusals_false (h : startable r u) : ∀ x ∈ startRefusals r u, x.1 = false := by
  obtain ⟨hsteps, hhere, hdark, htime, hplane, hreg, hpend, hasked, havs, hheld, hfill⟩ := h
  simp only [startRefusals]
  cases hf : (chainOf u (fld r.pay 0 1)).fill
  · have hloc : (localOf u (chainOf u (fld r.pay 0 1)).dplane).isSome = true := by simpa [hf] using hhere
    simp only [hf, hheld, hpend, hdark, hplane, hasked] at *
    simp [*]
  · obtain ⟨hfit, hpins, hlong⟩ := hfill hf
    simp only [hf, hheld, hpend, hdark, hplane, hasked, hfit, hpins, hlong] at *
    simp_all

end

/-- Settles O10: each command passes its refusals; `chain.start` and `chain.load` answer at once where the DPLANE is local. -/
theorem chainCommandsComplete : Obligations.ChainCommandsComplete := by
  unfold Obligations.ChainCommandsComplete
  refine ⟨?_, ?_, fun start n => ?_, fun start n => ?_, fun x => ?_, ?_, fun t => ?_, ?_, ?_, ?_, ?_⟩
  · refine completes_of_guards' (fun _ _ => rfl) rfl fun r u ⟨hbusy, hhere, hok, hloc⟩ => ⟨?_, ?_⟩
    · simp [hbusy, hhere, hok]
    · obtain ⟨p, hp⟩ := Option.isSome_iff_exists.1 hloc
      by_cases hf : fld r.pay 2 1 = 1 <;> simp [hf, hp]
  · refine defers_of_guards' (fun _ _ => rfl) rfl fun r u ⟨hbusy, hhere, hf, hok, hloc⟩ => ⟨?_, ?_⟩
    · simp [hbusy, hhere, hok, hf]
    · simp [hf, hloc]
  · refine completes_of_guards' (l := startRefusals) (fun _ _ => rfl) rfl fun r u ⟨hst, hloc, hstart⟩ => ⟨startRefusals_false hst, ?_⟩
    simp only [startOf] at hstart
    simp only [hstart, hloc, if_true]
  · refine defers_of_guards' (l := startRefusals) (fun _ _ => rfl) rfl fun r u ⟨hst, hloc, hstart⟩ => ⟨startRefusals_false hst, ?_⟩
    simp only [startOf] at hstart
    simp only [hstart, hloc, Option.isSome_none, Bool.false_eq_true, if_false]
  · refine completes_of (fun _ _ => rfl) fun r u ⟨hrun, hhere⟩ => ?_
    simp only [cmdChainStop, hrun, hhere, Bool.not_true, Bool.false_eq_true, if_false, Option.isNone_iff_eq_none, localOf_updChainPlane]
  · refine refuses_of (fun _ _ => rfl) fun r u ⟨hhere, hrun⟩ => ?_
    simp only [cmdChainStop, hrun, hhere, Bool.not_true, Bool.false_eq_true, if_false]
  · refine refuses_of (fun _ _ => rfl) fun r u ⟨ht, hhere⟩ => ?_
    simp only [cmdChainStop, ht, hhere, Bool.not_false, if_true]
  · exact completes_of_guards (fun _ _ => rfl) rfl (fun _ _ => rfl) fun r u ⟨hsteps, hbusy⟩ => by simp [hsteps, hbusy]
  · refine completes_of_guards (fun _ _ => rfl) rfl (fun _ _ => rfl) fun r u ⟨hle, hn⟩ => ?_
    have hne : (chainOf u (fld r.pay 0 1)).steps ≠ [] := by
      intro h
      rw [h, List.length_nil] at hle
      omega
    simp [hne]
    omega
  · exact completes_of (fun _ _ => rfl) fun _ _ _ => rfl
  · exact completes_of_guards (fun _ _ => rfl) rfl (fun _ _ => rfl) fun r u h => by simp [h]

end Sys2Proof.Machine

/-! SUPPORT. The commands of the scheduler (R304 to R313). -/

namespace Sys2Proof.Machine

section
variable {r : Req} {u : State} {d : Nat}

/-- A DPLANE of this device is not away. -/
theorem dplaneAway_own (h : d / 2 = u.dom.number) : (dplaneAway u r d).1 = false := by simp [dplaneAway, h]

/-- A DPLANE of a worker that is here is not away. -/
theorem dplaneAway_worker (h : workerHere u (d / 2) = true) : (dplaneAway u r d).1 = false := by simp [dplaneAway, h]

/-- The refusals of `sched.set_regime`, in their order (R266, R304). -/
def regimeRefusals (r : Req) (u : State) : List (Bool × Refuse) :=
  let d := fld r.pay 0 1
  let g := fld r.pay 1 1
  let asked := timeAt r.pay 4
  let t := if g = 3 then demandBoundary u asked else asked
  [dplaneAway u r d, (u.sys.map.isNone && decide (d / 2 = u.dom.number) && g != 0, notReady),
    (g != 0 && u.em.hostDark, notReady), (g == 3 && (dregime u d == 0 || u.time.st == 4), notReady), (g == 3 && dregime u d == 3, ⟨2, 0, 7⟩),
    (g == 3 && asked != 0 && decide (asked < demandLead u), late), (g == 3 && neverFrom u t, shortSlot u)]

/-- No refusal holds for a regime other than DEMAND on a plane that is here. -/
theorem regimeRefusals_other (haway : (dplaneAway u r (fld r.pay 0 1)).1 = false)
    (hmap : u.sys.map.isSome = true ∨ fld r.pay 1 1 = 0 ∨ fld r.pay 0 1 / 2 ≠ u.dom.number)
    (hdark : fld r.pay 1 1 ≠ 0 → u.em.hostDark = false) (hg : fld r.pay 1 1 ≠ 3) : ∀ x ∈ regimeRefusals r u, x.1 = false := by
  by_cases h0 : fld r.pay 1 1 = 0
  · simp [regimeRefusals, haway, h0]
  · simp only [regimeRefusals]
    rcases hmap with h | h | h
    · simp [haway, hg, h0, hdark h0, Option.isSome_iff_ne_none.1 h]
    · exact absurd h h0
    · simp [haway, hg, hdark h0, h]

/-- No refusal holds for DEMAND on a plane that is here, in another regime that is not IDLE, where the time allows it. -/
theorem regimeRefusals_demand (haway : (dplaneAway u r (fld r.pay 0 1)).1 = false)
    (hmap : u.sys.map.isSome = true ∨ fld r.pay 0 1 / 2 ≠ u.dom.number) (hdark : u.em.hostDark = false) (htime : u.time.st ≠ 4)
    (hg : fld r.pay 1 1 = 3) (hidle : dregime u (fld r.pay 0 1) ≠ 0) (hnew : dregime u (fld r.pay 0 1) ≠ 3)
    (hlead : timeAt r.pay 4 ≠ 0 → demandLead u ≤ timeAt r.pay 4) (hslot : neverFrom u (demandBoundary u (timeAt r.pay 4)) = false) :
    ∀ x ∈ regimeRefusals r u, x.1 = false := by
  simp only [regimeRefusals]
  rcases hmap with h | h
  · simpa [haway, hg, hdark, htime, hidle, hnew, hslot, Option.isSome_iff_ne_none.1 h] using hlead
  · simpa [haway, hg, hdark, htime, hidle, hnew, hslot, h] using hlead

end

/-- Settles O11: `sched.set_regime` passes its refusals, on a plane of this device, of one that has none, and of a worker. -/
theorem schedulerCommandsComplete : Obligations.SchedulerCommandsComplete := by
  unfold Obligations.SchedulerCommandsComplete
  refine ⟨fun p b t => ?_, fun p b t => ?_, ?_, ?_, ?_, ?_, ?_, ?_, ?_, ?_, ?_, ?_, ?_⟩
  · refine completes_of_guards' (l := regimeRefusals) (fun _ _ => rfl) rfl fun r u ⟨hmap, hdark, haway, hg, hloc, hchg⟩ => ⟨?_, ?_⟩
    · exact regimeRefusals_other haway (hmap.imp_right .inl) hdark hg
    · simp only [hloc, if_neg hg, hchg]
  · refine completes_of_guards' (l := regimeRefusals) (fun _ _ => rfl) rfl
      fun r u ⟨hmap, hdark, htime, haway, hg, hidle, hnew, hlead, hslot, hloc, hchg⟩ => ⟨?_, ?_⟩
    · exact regimeRefusals_demand haway (.inl hmap) hdark htime hg hidle hnew hlead hslot
    · simp only [hloc, hg, if_true, hchg]
  · refine completes_of_guards' (l := regimeRefusals) (fun _ _ => rfl) rfl fun r u ⟨hmap, hdark, hg, hloc, hown⟩ => ⟨?_, ?_⟩
    · exact regimeRefusals_other (dplaneAway_own hown) (hmap.imp_right .inl) hdark hg
    · simp only [hloc, hown, if_true]
  · refine defers_of_guards' (l := regimeRefusals) (fun _ _ => rfl) rfl fun r u ⟨hwork, hdark, hg, hloc, hown⟩ => ⟨?_, ?_⟩
    · exact regimeRefusals_other (dplaneAway_worker hwork) (.inr (.inr hown)) hdark hg
    · simp only [hloc, hown, if_false, if_neg hg]
  · refine defers_of_guards' (l := regimeRefusals) (fun _ _ => rfl) rfl
      fun r u ⟨hwork, hdark, htime, hg, hidle, hnew, hlead, hslot, hloc, hown⟩ => ⟨?_, ?_⟩
    · exact regimeRefusals_demand (dplaneAway_worker hwork) (.inr hown) hdark htime hg hidle hnew hlead hslot
    · simp only [hloc, hown, if_false, hg, if_true, remoteTime]
  · refine completes_of (fun _ _ => rfl) fun r u ⟨hnever, hany⟩ => ?_
    simp only [cmdSchedConfig, hany, Bool.not_false, if_true]
    exact guarded_all (by simp [hnever])
  · refine completes_of (fun _ _ => rfl) fun r u ⟨hnever, hany, hslot, hchain, hlead⟩ => ?_
    simp only [cmdSchedConfig, hany, Bool.not_true, Bool.false_eq_true, if_false, hslot]
    exact guarded_all (by simpa [hnever, hchain] using hlead)
  · exact completes_of (fun _ _ => rfl) fun _ _ _ => rfl
  · exact completes_of (fun _ _ => rfl) fun _ _ _ => rfl
  · refine completes_of (fun _ _ => rfl) fun r u h => ?_
    simp only [cmdSchedDemandRead, h, Option.isSome_none, Bool.false_eq_true, if_false, demandRange]
  · exact defers_of (fun _ _ => rfl) fun r u h => if_pos h
  · exact completes_of (fun _ _ => rfl) fun _ _ _ => rfl
  · exact completes_of (fun _ _ => rfl) fun _ _ _ => rfl

/-- Settles O12: each command passes its refusals on a plane that is here. -/
theorem pinAndPortCommandsComplete : Obligations.PinAndPortCommandsComplete := by
  unfold Obligations.PinAndPortCommandsComplete
  refine ⟨?_, ?_, ?_, ?_⟩
  · refine completes_of (fun _ _ => rfl) fun r u ⟨h0, haway, hpin⟩ => ?_
    simp only [cmdSchedPin, h0, if_true]
    exact guarded_all (by simp only [List.forall_mem_cons, haway, hpin]; simp)
  · refine completes_of (fun _ _ => rfl) fun r u ⟨h1, haway, hroom, hfree, hchain, hi, ho⟩ => ?_
    simp only [cmdSchedPin, h1, if_false]
    refine guarded_all ?_
    simp only [List.forall_mem_cons, haway, hfree, hchain]
    simp [hroom, hi, ho]
  · refine completes_of_guards (fun _ _ => rfl) rfl (fun _ _ => rfl) fun r u ⟨haway, hwd⟩ => ?_
    rcases hwd with h | h <;> simp [haway, h]
  · exact completes_of_guards (fun _ _ => rfl) rfl (fun _ _ => rfl) fun r u ⟨haway, hreg⟩ => by simp [haway, hreg]

end Sys2Proof.Machine

/-! SUPPORT. The commands of endpoints and of network time (R341 to R345, R370 to R379). -/

namespace Sys2Proof.Machine

/-- Settles O13: `endpoint.evict` waits for the end of a matching; every other command answers at once. -/
theorem endpointCommandsComplete : Obligations.EndpointCommandsComplete := by
  unfold Obligations.EndpointCommandsComplete
  refine ⟨?_, ?_, ?_, ?_, ?_, ?_, ?_⟩
  · refine completes_of_guards (fun _ _ => rfl) rfl (fun _ _ => rfl) fun r u h => ?_
    simpa using h
  · refine completes_of_guards (fun _ _ => rfl) rfl (fun _ _ => rfl) fun r u h => ?_
    rcases h with h | h <;> simp [h]
  · exact completes_of (fun _ _ => rfl) fun _ _ _ => rfl
  · refine completes_of (fun _ _ => rfl) fun r u ⟨hm, hst⟩ => ?_
    simp only [cmdEndpointEvict, hm, Option.isSome_none, Bool.false_eq_true, if_false]
    exact guarded_all (by simp [hst])
  · refine refuses_of (fun _ _ => rfl) fun r u ⟨hm, hst⟩ => ?_
    simp only [cmdEndpointEvict, hm, Option.isSome_none, Bool.false_eq_true, if_false]
    exact guarded_stop (by simp [hst])
  · exact defers_of (fun _ _ => rfl) fun r u h => if_pos h
  · exact completes_of (fun _ _ => rfl) fun _ _ _ => rfl

/-- A boundary moved by the distance to a time is that time. -/
theorem carry_sub (t b : NetTime) : carry ((t : Int) - b) b = t := by
  simp [carry]

/-- Settles O14: each command passes its refusals; `time.force_set` steps to the asked time, or from the boundary by DELTA. -/
theorem timeSettingCommandsComplete : Obligations.TimeSettingCommandsComplete := by
  unfold Obligations.TimeSettingCommandsComplete
  refine ⟨?_, ?_, ?_, ?_, ?_, ?_, ?_, ?_⟩
  · refine completes_of_guards' (fun _ _ => rfl) rfl fun r u ⟨hsrc, hmove⟩ => ⟨?_, ?_⟩
    · simpa [hsrc] using hmove
    · by_cases hv : fld r.pay 0 1 = u.time.source
      · simp only [hv, bne_self_eq_false, Bool.not_false, if_true]
      · simp only [hv, bne_iff_ne.2 hv, Bool.not_true, Bool.false_eq_true, if_false]
  · exact completes_of (fun _ _ => rfl) fun _ _ _ => rfl
  · refine completes_of (fun _ _ => rfl) fun r u ⟨hsrc, hjump⟩ => ?_
    have hs : ¬ (u.time.source ≠ 2 ∧ u.time.source ≠ 4) := by omega
    simp only [cmdTimeAdjust, if_neg hs]
    cases hb : bit (fld r.pay 0 1) 1
    · simp
    · simp [hjump hb]
  · exact refuses_of (fun _ _ => rfl) fun r u h => if_pos h
  · refine completes_of_guards' (fun _ _ => rfl) rfl fun r u ⟨⟨m, hm⟩, hrole, hsusp⟩ => ⟨?_, ?_⟩
    · simpa [Nat.not_lt.2 hrole] using hsusp
    · by_cases h0 : fld r.pay 0 1 = 0
      · simp only [h0, if_true, hm, carry_sub, Bool.false_eq_true, false_and, if_false]
      · simp only [h0, if_false, hm, Bool.false_eq_true, false_and]
  · exact completes_of_guards (fun _ _ => rfl) rfl (fun _ _ => rfl) fun r u h => by simp [h]
  · exact completes_of_guards (fun _ _ => rfl) rfl (fun _ _ => rfl) fun r u h => by simp [h]
  · exact refuses_of_guards (fun _ _ => rfl) rfl fun r u h => firstOf_cons_true (by simp [h])

/-- Settles O15: each command passes its refusals; `time.tout` is late within 2 us of its start. -/
theorem timePinCommandsComplete : Obligations.TimePinCommandsComplete := by
  unfold Obligations.TimePinCommandsComplete
  refine ⟨?_, ?_, ?_, ?_, ?_, ?_, ?_⟩
  · exact completes_of_guards (fun _ _ => rfl) rfl (fun _ _ => rfl) fun r u ⟨hsrc, hq⟩ => by simp [hsrc, hq]
  · exact completes_of (fun _ _ => rfl) fun _ _ _ => rfl
  · refine completes_of (fun _ _ => rfl) fun r u h => ?_
    by_cases h0 : fld r.pay 1 1 = 0
    · simp only [cmdTimeTout, h0, if_true]
    · have ht := Nat.not_lt.2 (h.resolve_left h0)
      simp only [cmdTimeTout, h0, if_false, ht]
  · refine refuses_of (fun _ _ => rfl) fun r u ⟨h0, ht⟩ => ?_
    simp only [cmdTimeTout, h0, if_false, ht, if_true]
  · exact completes_of (fun _ _ => rfl) fun _ _ _ => rfl
  · exact completes_of_guards (fun _ _ => rfl) rfl (fun _ _ => rfl) fun r u h => by simp [h]
  · exact refuses_of_guards (fun _ _ => rfl) rfl fun r u h => firstOf_cons_true (by simp [h])

end Sys2Proof.Machine

/-! SUPPORT. The commands of the relay, of the buffer pools and of the leases (R415 to R427, R586 to R589). -/

namespace Sys2Proof.Machine

/-- Settles O16: a change of a port asks that no timed traffic stands on it, a forwarding table and a gate list that they fit. -/
theorem relaySettingCommandsComplete : Obligations.RelaySettingCommandsComplete := by
  unfold Obligations.RelaySettingCommandsComplete
  refine ⟨?_, ?_, ?_, ?_, ?_, ?_, ?_⟩
  · exact completes_of (fun _ _ => rfl) fun _ _ _ => rfl
  · refine completes_of_guards (fun _ _ => rfl) rfl (fun _ _ => rfl) fun r u h => ?_
    simpa using h
  · exact completes_of_guards (fun _ _ => rfl) rfl (fun _ _ => rfl) fun r u h => by simpa using h
  · exact completes_of (fun _ _ => rfl) fun _ _ _ => rfl
  · exact completes_of_guards (fun _ _ => rfl) rfl (fun _ _ => rfl) fun r u h => by simpa using h
  · refine completes_of (fun _ _ => rfl) fun r u _ => ?_
    cases ht : (u.rlink (2 * fld r.pay 0 1 + fld r.pay 1 1)).tx <;> simp [cmdRelayShaper, ht]
  · exact completes_of (fun _ _ => rfl) fun _ _ _ => rfl

/-- Settles O17: the readings answer what their run writes; `relay.fence` waits for earlier frames, and `lease.take` passes its refusals. -/
theorem relayPoolAndLeaseCommandsComplete : Obligations.RelayPoolAndLeaseCommandsComplete := by
  unfold Obligations.RelayPoolAndLeaseCommandsComplete
  refine ⟨?_, fun e => ?_, ?_, ?_, ?_, ?_, ?_, ?_, fun v => ?_, fun l => ?_, fun l => ?_, ?_⟩
  · exact completes_of (fun _ _ => rfl) fun _ _ _ => rfl
  · refine completes_of (fun _ _ => rfl) fun r u ⟨h0, hfind⟩ => ?_
    simp only [cmdRelayFdbRead, h0, if_true, hfind]
  · exact completes_of (fun _ _ => rfl) fun r u h => if_neg h
  · exact completes_of (fun _ _ => rfl) fun r u h => if_pos h
  · exact defers_of (fun _ _ => rfl) fun r u h => if_neg h
  · refine completes_of (fun _ _ => rfl) fun r u _ => ?_
    by_cases hc : fld r.pay 2 1 = 1 <;> simp only [cmdRelayCounters, hc, if_true, if_false]
  · refine completes_of_guards (fun _ _ => rfl) rfl (fun _ _ => rfl) fun r u ⟨hsize, hmax⟩ => ?_
    simpa [hsize] using hmax
  · exact completes_of (fun _ _ => rfl) fun _ _ _ => rfl
  · refine completes_of (fun _ _ => rfl) fun r u ⟨hfree, hroom, halloc⟩ => ?_
    simp only [cmdLeaseTake, hfree]
    rw [guarded_all (by simpa using hroom)]
    split_ifs at halloc ⊢ with hbuf hmax
    · omega
    · obtain ⟨-, b, hb⟩ := halloc
      simp only [hb]
      rfl
    · subst halloc
      rfl
  · refine completes_of (fun _ _ => rfl) fun r u h => ?_
    simp only [cmdLeaseRenew, h]
  · refine completes_of (fun _ _ => rfl) fun r u h => ?_
    simp only [cmdLeaseRelease, h]
  · exact completes_of (fun _ _ => rfl) fun _ _ _ => rfl

end Sys2Proof.Machine

/-! SUPPORT. The commands of the domain, of calibration and of faults (R459 to R465, R531 to R537, R563 to R570). -/

namespace Sys2Proof.Machine

/-- Settles O18: the readings answer what their run writes; a member's edit and the role ask that the drive is dark. -/
theorem domainCommandsComplete : Obligations.DomainCommandsComplete := by
  unfold Obligations.DomainCommandsComplete
  refine ⟨?_, ?_, ?_, ?_, ?_, ?_, ?_, ?_, ?_⟩
  · exact completes_of_guards (fun _ _ => rfl) rfl (fun _ _ => rfl) fun r u h => by simpa using h
  · exact completes_of (fun _ _ => rfl) fun _ _ _ => rfl
  · exact completes_of_guards (fun _ _ => rfl) rfl (fun _ _ => rfl) fun r u h => by simpa using h
  · exact refuses_of_guards (fun _ _ => rfl) rfl fun r u h => firstOf_cons_true (by simp [h])
  · exact completes_of_guards (fun _ _ => rfl) rfl (fun _ _ => rfl) fun r u h => by simpa using h
  · exact completes_of_guards (fun _ _ => rfl) rfl (fun _ _ => rfl) fun r u h => by simp [h]
  · exact refuses_of_guards (fun _ _ => rfl) rfl fun r u h => firstOf_cons_true (by simp [h])
  · exact completes_of_guards (fun _ _ => rfl) rfl (fun _ _ => rfl) fun r u h => by simpa using h
  · exact completes_of (fun _ _ => rfl) fun _ _ _ => rfl

/-- Settles O19: a run, a store and a bank ask that no other stands; the reference trim asks that its plane is dark. -/
theorem calibrationCommandsComplete : Obligations.CalibrationCommandsComplete := by
  unfold Obligations.CalibrationCommandsComplete
  refine ⟨?_, ?_, ?_, ?_, ?_, fun img => ?_, ?_, ?_⟩
  · refine completes_of_guards (fun _ _ => rfl) rfl (fun _ _ => rfl)
      fun r u ⟨hconf, hregime, hlinks, hparked, hphases, htemp, hrun, hstore⟩ => ?_
    have hset : ((u.ptemp (fld r.pay 0 1)).st != 0 && (u.ptemp (fld r.pay 0 1)).st != 2) = false := by
      rcases htemp with h | h <;> simp [h]
    simpa [hconf, hregime, hparked, hphases, hset, hrun, hstore] using hlinks
  · exact completes_of_guards (fun _ _ => rfl) rfl (fun _ _ => rfl) fun r u h => by simpa using h
  · refine completes_of (fun _ _ => rfl) fun r u _ => ?_
    cases hrun : u.cal.run <;> simp [cmdCalStatus, hrun]
  · refine completes_of_guards (fun _ _ => rfl) rfl (fun _ _ => rfl) fun r u ⟨hplane, hcal, hrange⟩ => ?_
    have hplane' : ((fld r.pay 0 1 == 1 || fld r.pay 0 1 == 6) && (!u.planeIds.contains (fld r.pay 1 1) || !commissioned u (fld r.pay 1 1))) = false := by
      by_cases ht : fld r.pay 0 1 = 1 ∨ fld r.pay 0 1 = 6
      · obtain ⟨hc, hd⟩ := hplane ht
        simp only [hc, hd, Bool.not_true, Bool.or_false, Bool.and_false]
      · obtain ⟨h1, h6⟩ := not_or.1 ht
        simp [h1, h6]
    have hcal' : (fld r.pay 0 1 != 7 && u.cal.cal.isNone) = false := by simpa using hcal
    simp only [hplane', hcal']
    by_cases h0 : fld r.pay 0 1 = 0
    · simp [h0]
    · by_cases h6 : fld r.pay 0 1 = 6
      · simp [h6]
      · obtain ⟨hi, hn⟩ := hrange h0 h6
        simp [Nat.not_le.2 hi, Nat.not_lt.2 hn]
  · exact completes_of_guards (fun _ _ => rfl) rfl (fun _ _ => rfl) fun r u ⟨hun, hrun, hstore⟩ => by simp [hun, hrun, hstore]
  · refine completes_of_guards' (fun _ _ => rfl) rfl fun r u ⟨hidle, hun, himg, hrun, hstore⟩ => ⟨?_, ?_⟩
    · simpa [hidle, himg, hrun, hstore] using hun
    · simp [himg]
  · exact completes_of (fun _ _ => rfl) fun r u h => if_pos h
  · refine completes_of (fun _ _ => rfl) fun r u ⟨hset, hlit⟩ => ?_
    have hdark : ((u.linkPlane (fld r.pay 0 1)).map u.lit).getD false = false := by
      cases hp : u.linkPlane (fld r.pay 0 1) with
      | none => rfl
      | some p => exact hlit p hp
    simp only [cmdCalRefTrim, if_neg hset]
    exact guarded_all (by simp [hdark])

/-- Settles O20: a record is cleared when it is acknowledged and its cause is gone; an injection asks for its right. -/
theorem faultCommandsComplete : Obligations.FaultCommandsComplete := by
  unfold Obligations.FaultCommandsComplete
  refine ⟨?_, ?_, ?_, ?_, ?_, ?_, ?_, ?_, ?_⟩
  · exact completes_of (fun _ _ => rfl) fun _ _ _ => rfl
  · exact completes_of_guards (fun _ _ => rfl) rfl (fun _ _ => rfl) fun r u h => by simpa using h
  · exact refuses_of_guards (fun _ _ => rfl) rfl fun r u h => firstOf_cons_true (by simp [h])
  · refine completes_of (fun _ _ => rfl) fun r u h => ?_
    by_cases he : fld r.pay 0 2 = 0xFFFF
    · exact if_pos he
    · obtain ⟨hsome, hacked, hcause⟩ := h.resolve_left he
      exact (if_neg he).trans (guarded_all (by simpa [hsome, hcause] using hacked))
  · exact completes_of (fun _ _ => rfl) fun _ _ _ => rfl
  · exact completes_of (fun _ _ => rfl) fun _ _ _ => rfl
  · exact completes_of_guards (fun _ _ => rfl) rfl (fun _ _ => rfl) fun r u h => by simp [h]
  · exact refuses_of_guards (fun _ _ => rfl) rfl fun r u h => firstOf_cons_true (by simp [h])
  · exact completes_of_guards (fun _ _ => rfl) rfl (fun _ _ => rfl) fun r u h => by simpa using h

end Sys2Proof.Machine

/-! SUPPORT. The commands of lane tests, of the self-test, of the loupe and of snapshots (R608 to R618). -/

namespace Sys2Proof.Machine

/-- Settles O21: a lane command passes the refusals that every lane command shares, and then those of its own. -/
theorem testCommandsComplete : Obligations.TestCommandsComplete := by
  unfold Obligations.TestCommandsComplete
  refine ⟨?_, ?_, ?_, ?_, ?_, ?_, ?_⟩
  · refine completes_of_guards (fun _ _ => rfl) rfl (fun _ _ => rfl) fun r u ⟨hlane, htaken⟩ =>
      List.forall_mem_append.2 ⟨hlane, ?_⟩
    simpa using htaken
  · refine completes_of_guards' (fun _ _ => rfl) rfl fun r u hlane => ⟨hlane, ?_⟩
    rfl
  · refine completes_of_guards' (fun _ _ => rfl) rfl fun r u ⟨hlane, hfar, htaken⟩ => ⟨List.forall_mem_append.2 ⟨hlane, ?_⟩, ?_⟩
    · refine List.forall_mem_cons.2 ⟨?_, List.forall_mem_singleton.2 ?_⟩
      · cases hm : (fld r.pay 2 1 == 2 && downLane (fld r.pay 0 2))
        · simp
        · simpa using hfar hm
      · show (downLane _ && laneTestTaken u _ && _) = false
        cases hd : downLane (fld r.pay 0 2) && laneTestTaken u (fld r.pay 0 2)
        · rfl
        · obtain ⟨hdown, htest⟩ := Bool.and_eq_true_iff.1 hd
          obtain ⟨hfar, hkept⟩ := htaken hdown htest
          simpa [hfar] using hkept
    · simp
  · refine completes_of_guards (fun _ _ => rfl) rfl (fun _ _ => rfl) fun r u ⟨hlane, hlock, hserved⟩ =>
      List.forall_mem_append.2 ⟨hlane, ?_⟩
    simpa using And.intro hlock hserved
  · refine completes_of_guards' (fun _ _ => rfl) rfl fun r u h => ⟨?_, ?_⟩
    · simpa using h
    · by_cases hc : fld r.pay 2 1 = 1 <;> simp [hc]
  · exact completes_of (fun _ _ => rfl) fun r u h => if_pos h
  · refine completes_of (fun _ _ => rfl) fun r u ⟨hrun, hidle, hconf⟩ => (if_neg hrun).trans (guarded_all ?_)
    exact List.forall_mem_cons.2 ⟨by simp [hidle], hconf⟩

/-- Settles O22: a ring takes memory and types that no other ring has; a snapshot asks for a free buffer and a time ahead. -/
theorem loupeAndSnapCommandsComplete : Obligations.LoupeAndSnapCommandsComplete := by
  unfold Obligations.LoupeAndSnapCommandsComplete
  refine ⟨?_, ?_, ?_, ?_, fun m r s ha hroom => ?_, ?_, ?_, ?_, ?_, ?_, ?_⟩
  · refine completes_of_guards' (fun _ _ => rfl) rfl fun r u ⟨hrings, htypes⟩ => ⟨?_, ?_⟩
    · have htypes' : (range' 1 8).any (fun t => bit (ringNo (loupeWrite u) (fld r.pay 0 1)).types t && typeOn (loupeWrite u) t) = false := by
        simpa using htypes
      by_cases hmode : fld r.pay 1 1 = 0
      · simp [hmode, htypes']
      · obtain ⟨htop, hsize, hothers⟩ := hrings hmode
        have hmeet : (u.loupe.rings.filter (fun e => e.1 != fld r.pay 0 1 && e.2.mode != 0)).any
            (fun e => ringsMeet (fld r.pay 4 4) (fld r.pay 8 4) e.2) = false :=
          List.any_eq_false.2 fun e he => by simp [hothers e he]
        have hshare : (u.loupe.rings.filter (fun e => e.1 != fld r.pay 0 1 && e.2.mode != 0)).any
            (fun e => e.2.types &&& fld r.pay 2 2 != 0) = false :=
          List.any_eq_false.2 fun e he => by simp [hothers e he]
        have hbase : ¬ loupeGib u * 1024 ≤ fld r.pay 4 4 := by omega
        simp only [hmeet, hshare, htypes']
        simp [hbase, Nat.not_lt.2 htop]
    · rfl
  · exact completes_of_guards (fun _ _ => rfl) rfl (fun _ _ => rfl) fun r u h => by simpa using h
  · exact refuses_of_guards (fun _ _ => rfl) rfl fun r u h => firstOf_cons_true (by simp [h])
  · exact completes_of (fun _ _ => rfl) fun _ _ _ => rfl
  · exact runLocal_accepted ha rfl hroom
  · refine completes_of (fun _ _ => rfl) fun r u _ => ?_
    by_cases ht : fld r.pay 4 1 = 3 <;> simp only [cmdLoupeFreeze, ht, if_true, if_false]
  · refine completes_of_guards' (fun _ _ => rfl) rfl fun r u ⟨hst, ht⟩ => ⟨?_, ?_⟩
    · simpa [hst] using ht
    · simp
  · exact refuses_of_guards (fun _ _ => rfl) rfl fun r u h => firstOf_cons_true (by simp [h])
  · refine completes_of_guards (fun _ _ => rfl) rfl (fun _ _ => rfl) fun r u ⟨hst, hsec⟩ => ?_
    rcases hsec with h | h <;> simp [hst, h]
  · exact completes_of (fun _ _ => rfl) fun _ _ _ => rfl
  · exact completes_of (fun _ _ => rfl) fun _ _ _ => rfl

end Sys2Proof.Machine

/-! SUPPORT. The commands of power and of security (R642 to R646, R668 to R678). -/

namespace Sys2Proof.Machine

/-- Settles O23: the readings answer what their run writes; a setting passes its refusals and raises the supply where it must. -/
theorem powerCommandsComplete : Obligations.PowerCommandsComplete := by
  unfold Obligations.PowerCommandsComplete
  refine ⟨?_, ?_, ?_, ?_, fun t => ?_⟩
  · exact completes_of (fun _ _ => rfl) fun _ _ _ => rfl
  · refine completes_of_guards' (fun _ _ => rfl) rfl fun r u ⟨heco, hmax, hraise⟩ => ⟨?_, ?_⟩
    · simpa [hraise, Nat.not_lt.2 hmax] using heco
    · by_cases hon : fld r.pay 0 1 = 1
      · by_cases havs : u.pwr.avs = 0 <;> simp [hon, havs, setCfg]
      · simp [hon]
  · refine completes_of_guards' (fun _ _ => rfl) rfl fun r u h => ⟨?_, ?_⟩
    · by_cases heco : fld r.pay 0 1 = 1
      · rcases h heco with havs | ⟨havs, hblock⟩
        · simp [havs]
        · simp [havs, hblock]
      · simp [heco]
    · split_ifs <;> simp_all
  · exact completes_of (fun _ _ => rfl) fun _ _ _ => rfl
  · refine completes_of_guards' (fun _ _ => rfl) rfl fun r u ⟨haux, hset, hmoves, ht⟩ => ⟨?_, ?_⟩
    · have hnone : ((u.desc (fld r.pay 0 1)).aux == 0
          || (fld r.pay 1 1 == 1 && fld r.pay 2 2 == 0x8000 && (u.desc (fld r.pay 0 1)).tSet == 0x8000)) = false := by
        simpa [haux] using hset
      simp only [hnone]
      by_cases hm : fld r.pay 1 1 = 1 ∨ fld r.pay 1 1 = 2 ∨ (fld r.pay 1 1 = 3 ∧ fld r.pay 2 2 ≠ (u.ptemp (fld r.pay 0 1)).tSet)
      · obtain ⟨hregime, hrun⟩ := hmoves hm
        have hcal : ((u.cal.run.map (·.plane)) == some (fld r.pay 0 1)) = false := by
          cases hr : u.cal.run with
          | none => rfl
          | some x => simpa using hrun x hr
        simp [hregime, hcal]
      · obtain ⟨h1, h2, h3⟩ := by simpa only [not_or] using hm
        by_cases hact : fld r.pay 1 1 = 3
        · simp [hact, not_and_not_right.1 h3 hact]
        · simp [h1, h2, hact]
    · rw [ht]

/-- An outcome in two cases. -/
theorem next_ite {o : Host.Outcome State Fault Refusal} {b : Prop} [Decidable b] {x y : State} (hx : b → o = .next x) (hy : ¬ b → o = .next y) :
    o = .next (if b then x else y) := by
  split_ifs with h
  · exact hx h
  · exact hy h

section
variable {r : Req} {u : State}

/-- `sec.owner_set` refuses a key that did not sign the image in force. -/
theorem ownerSet_badKey (hact : fld r.pay 0 1 ≠ 0)
    (hlife : ((fld r.pay 0 1 == 1 && u.nvm.lifecycle != 0) || (fld r.pay 0 1 == 2 && u.nvm.lifecycle != 1)) = false)
    (hkey : ownerSigOk (keyAt r.pay 4) (fwBank u u.sys.cfg.image) = false) : cmdSecOwnerSet.run r u = .error (conflict 0) :=
  (if_neg hact).trans (guarded_of_firstOf ((firstOf_cons_false hlife).trans (firstOf_cons_true (by simp [hkey]))))

/-- `sec.owner_set` gives a device without an owner its first key. -/
theorem ownerSet_first (hact : fld r.pay 0 1 = 1) (hlife : u.nvm.lifecycle = 0) (hidle : u.allIdle = true)
    (hkey : ownerSigOk (keyAt r.pay 4) (fwBank u u.sys.cfg.image) = true) :
    cmdSecOwnerSet.run r u = ok (setLifecycle 1 { u with nvm := { u.nvm with ownerHash := sha (keyAt r.pay 4) } }) :=
  (if_neg (by simp [hact])).trans ((guarded_all (by simp [hact, hlife, hidle, hkey])).trans (if_pos hact))

/-- `sec.owner_set` changes the key on the owner's signature. -/
theorem ownerSet_change (hact : fld r.pay 0 1 = 2) (hlife : u.nvm.lifecycle = 1) (hidle : u.allIdle = true)
    (hkey : ownerSigOk (keyAt r.pay 4) (fwBank u u.sys.cfg.image) = true)
    (hsig : ownerSigned u 1 (some (keyAt r.pay 4)) (slice r.pay 520 512) = true) :
    cmdSecOwnerSet.run r u = ok (setLifecycle 1
      { u with sec := { u.sec with challenge := none }, nvm := { u.nvm with ownerHash := sha (keyAt r.pay 4) } }) :=
  (if_neg (by simp [hact])).trans ((guarded_all (by simp [hact, hlife, hidle, hkey])).trans
    ((if_neg (by simp [hact])).trans (if_pos hsig)))

theorem ownerSet_unsigned (hact : fld r.pay 0 1 = 2) (hlife : u.nvm.lifecycle = 1) (hidle : u.allIdle = true)
    (hkey : ownerSigOk (keyAt r.pay 4) (fwBank u u.sys.cfg.image) = true)
    (hsig : ownerSigned u 1 (some (keyAt r.pay 4)) (slice r.pay 520 512) = false) :
    cmdSecOwnerSet.run r u = authFailed 0x1405 r u :=
  (if_neg (by simp [hact])).trans ((guarded_all (by simp [hact, hlife, hidle, hkey])).trans
    ((if_neg (by simp [hact])).trans (if_neg (by simp [hsig]))))

/-- `sec.lifecycle` leaves the owner's device on the owner's signature. -/
theorem lifecycle_signed (hact : fld r.pay 0 1 ≠ 0) (hlife : u.nvm.lifecycle = 1) (hidle : u.allIdle = true)
    (hsig : ownerSigned u (fld r.pay 1 1) none (slice r.pay 4 512) = true) :
    cmdSecLifecycle.run r u = ok (setLifecycle (fld r.pay 1 1)
      { u with sec := { u.sec with challenge := none }, nvm := { u.nvm with ownerHash := [] } }) (le 1 (fld r.pay 1 1) ++ le 3 0) :=
  (if_neg hact).trans ((guarded_all (by simp [hlife, hidle])).trans ((if_pos hlife).trans (if_pos hsig)))

theorem lifecycle_unsigned (hact : fld r.pay 0 1 ≠ 0) (hlife : u.nvm.lifecycle = 1) (hidle : u.allIdle = true)
    (hsig : ownerSigned u (fld r.pay 1 1) none (slice r.pay 4 512) = false) : cmdSecLifecycle.run r u = authFailed 0x1406 r u :=
  (if_neg hact).trans ((guarded_all (by simp [hlife, hidle])).trans ((if_pos hlife).trans (if_neg (by simp [hsig]))))

/-- `sec.factory_token` takes a token that the factory signed. -/
theorem factoryToken_valid (hmode : u.sys.testMode = true) (hact : fld r.pay 0 1 ≠ 0) (htok : tokenOk u (slice r.pay 4 576) = true) :
    cmdSecFactoryToken.run r u =
      ok { u with sec := { u.sec with challenge := none, token := some (fld r.pay 44 4) } } (le 4 (fld r.pay 44 4)) :=
  (guarded_all (by simp [hmode])).trans ((if_neg hact).trans (if_pos htok))

theorem factoryToken_invalid (hmode : u.sys.testMode = true) (hact : fld r.pay 0 1 ≠ 0) (htok : tokenOk u (slice r.pay 4 576) = false) :
    cmdSecFactoryToken.run r u = authFailed 0x1407 r u :=
  (guarded_all (by simp [hmode])).trans ((if_neg hact).trans (if_neg (by simp [htok])))

end

/-- Settles O24: a security command passes its refusals; a bad signature is answered by the command itself. -/
theorem securityCommandsComplete : Obligations.SecurityCommandsComplete := by
  unfold Obligations.SecurityCommandsComplete
  refine ⟨?_, ?_, ?_, ?_, ?_, ?_, ?_, fun m r s ha hact hlife hidle => ?_, fun m r s ha hact hlife hidle => ?_, ?_, ?_,
    fun m r s ha hact hlife hidle hroom => ?_, ?_, fun m r s ha hact hmode hroom => ?_, ?_⟩
  · exact completes_of (fun _ _ => rfl) fun _ _ _ => rfl
  · exact completes_of (fun _ _ => rfl) fun _ _ _ => rfl
  · exact completes_of_guards (fun _ _ => rfl) rfl (fun _ _ => rfl) fun r u h => by simp [h]
  · exact refuses_of_guards (fun _ _ => rfl) rfl fun r u h => firstOf_cons_true (by simp [h])
  · exact completes_of_guards (fun _ _ => rfl) rfl (fun _ _ => rfl) fun r u ⟨hcheck, hbusy⟩ => by simp [hcheck, hbusy]
  · exact refuses_of_guards (fun _ _ => rfl) rfl fun r u h => firstOf_cons_true (by simp [h])
  · exact completes_of (fun _ _ => rfl) fun r u h => if_pos h
  · exact next_ite (fun hkey => runLocal_accepted ha (ownerSet_first hact hlife hidle hkey) (Nat.zero_le _))
      (fun hkey => runLocal_refused ha (ownerSet_badKey (by simp [hact]) (by simp [hact, hlife]) (by simpa using hkey)))
  · refine next_ite
      (fun hkey => runLocal_refused ha (ownerSet_badKey (by simp [hact]) (by simp [hact, hlife]) hkey))
      (fun hkey => next_ite
        (fun hsig => runLocal_accepted ha (ownerSet_change hact hlife hidle (by simpa using hkey) hsig) (Nat.zero_le _))
        (fun hsig => runLocal_later ha (ownerSet_unsigned hact hlife hidle (by simpa using hkey) (by simpa using hsig))))
  · exact completes_of (fun _ _ => rfl) fun r u h => if_pos h
  · refine completes_of (fun _ _ => rfl) fun r u ⟨hact, hidle, hlife, htoken⟩ => ?_
    simp only [cmdSecLifecycle, if_neg hact, if_neg hlife]
    exact guarded_all (by simp [hidle, htoken])
  · exact next_ite (fun hsig => runLocal_accepted ha (lifecycle_signed hact hlife hidle hsig) hroom)
      (fun hsig => runLocal_later ha (lifecycle_unsigned hact hlife hidle (by simpa using hsig)))
  · refine completes_of (fun _ _ => rfl) fun r u ⟨hmode, hact⟩ => ?_
    simp only [cmdSecFactoryToken, if_pos hact]
    exact guarded_all (by simp [hmode])
  · exact next_ite (fun htok => runLocal_accepted ha (factoryToken_valid hmode hact htok) hroom)
      (fun htok => runLocal_later ha (factoryToken_invalid hmode hact (by simpa using htok)))
  · exact refuses_of_guards (fun _ _ => rfl) rfl fun r u h => firstOf_cons_true (by simp [h])

end Sys2Proof.Machine

/-! SUPPORT. The rows of reset, of start-up, of the supply and of the clocks (R468, R664 to R701). -/

namespace Sys2Proof.Machine

/-- Settles O25: a row of the start acts where its own condition holds; the level of PORST_N and of TEST_MODE acts in every state. -/
theorem resetAndStartRowsComplete : Obligations.ResetAndStartRowsComplete := by
  unfold Obligations.ResetAndStartRowsComplete
  refine ⟨fun _ => rfl, fun _ => rfl, fun role s h => ?_, ?_, ?_, fun s hp hst => ?_, fun s hp hst => ?_, ?_, ?_, fun bist => ?_, ?_, ?_, ?_, ?_⟩
  · exact congrArg Host.Outcome.next (if_pos h)
  · exact runs_of (fun _ => rfl) fun _ _ => rfl
  · exact runs_of (fun _ => rfl) fun _ _ => rfl
  · exact congrArg Host.Outcome.next (if_neg (by simp [hp, Nat.not_le.2 hst]))
  · exact congrArg Host.Outcome.next (if_neg (by simp [hp, Nat.not_le.2 hst]))
  · exact runs_of (fun _ => rfl) fun _ _ => rfl
  · exact runs_of (fun _ => rfl) fun s h => if_pos (by simpa using h)
  · exact runs_of (fun _ => rfl) fun _ _ => rfl
  · exact runs_of (fun _ => rfl) fun s h => if_pos h
  · exact acts_of (fun _ _ => rfl) fun p s h => if_pos h
  · exact acts_of (fun _ _ => rfl) fun p s h => if_pos (by simpa using h)
  · exact runs_of (fun _ => rfl) fun s h => if_pos (by simpa using h)

/-- Settles O26: a row of the supply and the clocks sets or ends its condition. -/
theorem supplyAndClockRowsComplete : Obligations.SupplyAndClockRowsComplete := by
  unfold Obligations.SupplyAndClockRowsComplete
  refine ⟨fun mv => ?_, ?_, ?_, ?_, ?_, fun _ => rfl, fun _ => rfl, ?_, ?_, ?_⟩
  · exact runs_of (fun _ => rfl) fun _ _ => rfl
  · exact runs_of (fun _ => rfl) fun _ _ => rfl
  · exact runs_of (fun _ => rfl) fun _ _ => rfl
  · exact runs_of (fun _ => rfl) fun _ _ => rfl
  · exact runs_of (fun _ => rfl) fun _ _ => rfl
  · exact runs_of (fun _ => rfl) fun s h => if_pos h
  · exact runs_of (fun _ => rfl) fun _ _ => rfl
  · exact runs_of (fun _ => rfl) fun _ _ => rfl

end Sys2Proof.Machine

/-! SUPPORT. The rows of a bezel link and of the bezel (R56 to R89). -/

namespace Sys2Proof.Machine

/-- A link written with a value that is not the default of its table reads so. -/
theorem link_updLink_self {s : State} {l : Nat} {f : Link → Link} (h : (f (s.link l)).st ≠ 0) : (s.updLink l f).link l = f (s.link l) := by
  have hne : f (s.link l) ≠ {} := fun hd => h (by rw [hd])
  show tget {} (tset {} s.links l (f (s.link l))) l = f (s.link l)
  simp only [tset, if_neg hne, tget_tput, if_true]

/-- Two good lanes leave a running link in RUN: no lane is counted bad, so none is swapped. -/
theorem laneCount_good_st {s : State} {l : Nat} (h : (s.link l).st = 2) : ((laneCount l true true s).link l).st = 2 := by
  have hbad : decide (16 ≤ 0) = false := rfl
  simp only [laneCount, ite_self, if_true, hbad, Bool.and_false, Bool.false_and, Bool.false_eq_true, if_false]
  rw [link_updLink_self]
  · exact h
  · simp [h]

/-- Settles O27: each row acts where its own condition on the link holds; two good lanes leave a running link in RUN. -/
theorem linkRowsComplete : Obligations.LinkRowsComplete := by
  unfold Obligations.LinkRowsComplete
  refine ⟨fun a b f rest => ?_, ?_, ?_, ?_, ?_, fun x c => ?_, fun tag => ?_, fun tag => ?_, ?_, fun t => ?_, ?_⟩
  · refine acts_of (fun _ _ => rfl) fun l s ⟨hsent, hst, ha, hb, hpay⟩ => ?_
    have hrest : ((s.updLink l (fun k => { k with sent := rest })).link l).st = 2 := by
      rw [link_updLink_self] <;> simp [hst]
    have hcount := laneCount_good_st hrest
    simp only [hsent, ha, hb, hpay, bne_self_eq_false, Bool.and_false, Bool.false_and, Bool.false_eq_true, if_false, Bool.not_true, hcount,
      ite_self, Nat.reduceEqDiff, false_and, or_self]
  · exact acts_of (fun _ _ => rfl) fun l s h => if_pos h
  · exact acts_of (fun _ _ => rfl) fun l s h => if_pos (by simpa using h)
  · exact acts_of (fun _ _ => rfl) fun l s h => if_pos (by simpa using h)
  · exact acts_of (fun _ _ => rfl) fun l s h => if_pos (by simpa using h)
  · refine acts_of (fun _ _ => rfl) fun l s h => ?_
    simp only [bezelResponse, h] <;> rfl
  · refine acts_of (fun _ _ => rfl) fun l s ⟨hdue, hst⟩ => ?_
    have hn : ¬ ((s.link l).st = 1 ∧ (s.link l).step = 4 ∧ 3 ≤ (s.link l).tries) := by omega
    exact (if_neg (by simp [hdue])).trans (if_neg hn)
  · exact acts_of (fun _ _ => rfl) fun l s ⟨hdue, hst⟩ => (if_neg (by simp [hdue])).trans (if_pos hst)
  · exact acts_of (fun _ _ => rfl) fun l s h => if_pos h
  · refine acts_of (fun _ _ => rfl) fun l s ⟨ht, hst⟩ => ?_
    simp only [ht, hst, and_self, if_true]
  · exact acts_of (fun _ _ => rfl) fun l s h => if_pos (by simpa using h)

/-- Settles O28: each row acts where its own condition on the bezel holds. -/
theorem bezelRowsComplete : Obligations.BezelRowsComplete := by
  unfold Obligations.BezelRowsComplete
  refine ⟨fun f0 f1 f2 env => ?_, fun ohm c t => ?_, fun lanes => ?_, ?_, ?_, ?_, ?_, ?_, ?_, ?_⟩
  · refine acts_of (fun _ _ => rfl) fun l s ⟨hrst, hbz, htest, hlock, hhold, h0, h1, h2, h01, h12⟩ => ?_
    have hbz' : (bezelFeels l env s).bzHigh l = true := hbz
    simp only [bezelTick, hrst, hbz', htest, hlock, hhold, h0, h1, h2, beq_iff_eq.2 h01, beq_iff_eq.2 h12, List.all_cons, List.all_nil, id,
      Bool.and_self, Bool.not_true, Bool.or_self, Bool.false_eq_true, if_false]
  · refine acts_of (fun _ _ => rfl) fun l s ⟨hc, hresp, htest⟩ => ?_
    simp only [hc, hresp, htest, ne_eq, not_true_eq_false, Bool.false_eq_true, or_self, if_false]
  · refine acts_of (fun _ _ => rfl) fun l s ⟨hrst, hbz, hlock, htest⟩ => ?_
    simp only [hrst, hbz, hlock, htest, Bool.true_or, Bool.and_self, if_true, Bool.false_eq_true, if_false]
  · exact acts_of (fun _ _ => rfl) fun l s h => if_pos (by simpa using h)
  · exact acts_of (fun _ _ => rfl) fun l s h => if_neg (by simp [h])
  · exact acts_of (fun _ _ => rfl) fun l s h => if_pos h
  · exact acts_of (fun _ _ => rfl) fun l s h => if_pos (by simpa using h)
  · exact acts_of (fun _ _ => rfl) fun _ _ _ => rfl
  · exact acts_of (fun _ _ => rfl) fun l s h => if_pos (by simpa using h)
  · exact acts_of (fun _ _ => rfl) fun l s h => if_pos (by simpa using h)

end Sys2Proof.Machine

/-! SUPPORT. The rows of the drive paths, of the sense and loop engines and of launches (R96 to R130, R156 to R216, R239 to R253). -/

namespace Sys2Proof.Machine

/-- Settles O29: each row acts where its own condition holds on every arm of the cell. -/
theorem driveRowsComplete : Obligations.DriveRowsComplete := by
  unfold Obligations.DriveRowsComplete
  refine ⟨?_, fun e => ?_, fun r => ?_, ?_, ?_, ?_, fun j u t hj => ?_, fun j hj => ?_, fun j c hj => ?_, fun j c r hj => ?_, ?_, fun n l => ?_⟩
  · exact acts_of (fun _ _ => rfl) fun p s h => if_pos h
  · refine acts_of (fun _ _ => rfl) fun ch s ⟨hold, hrest⟩ => ?_
    simp only [hold]
    exact if_pos hrest
  · refine acts_of (fun _ _ => rfl) fun p s ⟨hramp, hshut, hdone, hall⟩ => ?_
    simp only [rampComplete, hramp]
    exact if_neg (by simp [hshut, hdone, hall])
  · exact acts_of (fun _ _ => rfl) fun ch s h => if_pos (by simpa [and_assoc] using h)
  · exact acts_of (fun _ _ => rfl) fun ch s h => if_pos (by simpa [and_assoc] using h)
  · exact acts_of (fun _ _ => rfl) fun ch s h => if_pos (by simpa [and_assoc] using h)
  · refine acts_of (fun l s => if_neg (Nat.not_le.2 hj)) fun l s ⟨hst, hcur, hurg, hsync⟩ => ?_
    simp only [hst, hcur, hurg, hsync, ne_eq, not_true_eq_false, if_false, Bool.false_and, Bool.false_eq_true]
  · refine acts_of (fun l s => if_neg (Nat.not_le.2 hj)) fun l s ⟨hst, hcur, hurg, hscan, n, hn, hdelay⟩ => ?_
    simp only [hst, hcur, hurg, hscan, hn, hdelay, ne_eq, not_true_eq_false, if_false, decide_true, Bool.and_self, if_true]
  · refine acts_of (fun l s => if_neg (Nat.not_le.2 hj)) fun l s ⟨hcur, hticks, hreq, hpow⟩ => ?_
    simp only [hcur, Nat.not_lt.2 hticks, if_false, hreq, Int.not_lt.2 hpow]
  · refine acts_of (fun l s => if_neg (Nat.not_le.2 hj)) fun l s ⟨hcur, hticks, hreq, hpow⟩ => ?_
    simp only [hcur, Nat.not_lt.2 hticks, if_false, hreq, Int.not_lt.2 hpow]
  · refine acts_of (fun _ _ => rfl) fun m s h => if_pos (by simpa using h)
  · refine acts_of (fun _ _ => rfl) fun p s ⟨hfind, hat⟩ => ?_
    simp only [hfind]
    exact if_pos hat

/-- Settles O30: each row acts where its own condition holds. -/
theorem senseAndLoopRowsComplete : Obligations.SenseAndLoopRowsComplete := by
  unfold Obligations.SenseAndLoopRowsComplete
  refine ⟨fun x rest => ?_, ?_, ?_, fun x => ?_, fun u => ?_, ?_, fun a b t rest => ?_, ?_⟩
  · refine acts_of (fun _ _ => rfl) fun m s ⟨hready, habs, hcount⟩ => ?_
    simp only [deliver, hready, habs, hcount, Bool.or_self, Bool.false_eq_true, if_false, Bool.not_false, and_true] <;> rfl
  · exact acts_of (fun _ _ => rfl) fun l s h => if_pos (by simpa using h)
  · exact acts_of (fun _ _ => rfl) fun c s h => if_pos h
  · refine acts_of (fun _ _ => rfl) fun c s ⟨hswap, hrest⟩ => ?_
    simp only [swapAt, hswap]
    exact if_pos hrest
  · refine acts_of (fun _ _ => rfl) fun c s h => ?_
    simp only [h]
  · exact acts_of (fun _ _ => rfl) fun c s h => if_pos (by simpa using h)
  · refine acts_of (fun _ _ => rfl) fun c s ⟨hnext, hdue⟩ => ?_
    simp only [hnext, Nat.not_lt.2 hdue, if_false]
  · exact acts_of (fun _ _ => rfl) fun c s h => if_pos (by simpa using h)

/-- Settles O31: each row acts where its own condition holds on the launch in force. -/
theorem launchRowsComplete : Obligations.LaunchRowsComplete := by
  unfold Obligations.LaunchRowsComplete
  refine ⟨fun b t n hit v => ?_, fun l t => ?_, fun l t => ?_, fun l c cell => ?_, fun l c i => ?_, fun t n settled nx f => ?_, ?_⟩
  · refine acts_of (fun _ _ => rfl) fun p s ⟨hb, hlook⟩ => ?_
    simp only [buildDone, hb, hlook]
  · refine acts_of (fun _ _ => rfl) fun p s ⟨hacc, hat, hfree⟩ => ?_
    have hany : (s.linksOf p).any (fun k => frozen s (k * 1152)) = false := by simpa using hfree
    simp only [hacc, hany, Nat.not_lt.2 hat, ne_eq, not_true_eq_false, or_self, if_false, Bool.false_eq_true]
  · refine acts_of (fun _ _ => rfl) fun p s ⟨hacc, hat, hvoid, hfroz⟩ => ?_
    have hany : (s.linksOf p).any (fun k => frozen s (k * 1152)) = true := by simpa using hfroz
    simp only [hacc, hany, hvoid, Nat.not_lt.2 hat, ne_eq, not_true_eq_false, or_self, if_false, if_true, Bool.false_eq_true]
  · refine acts_of (fun _ _ => rfl) fun p s ⟨hcur, hcell, hrest⟩ => ?_
    simp only [hcur, hcell]
    exact if_pos (by simpa using hrest)
  · refine acts_of (fun _ _ => rfl) fun p s ⟨hcur, hcheck, hrest⟩ => ?_
    simp only [hcur, hcheck]
    exact if_pos (by simpa using hrest)
  · refine acts_of (fun _ _ => rfl) fun p s ⟨hshow, hhead, hforce, hat, hlam, hvalid, hoff⟩ => ?_
    simp only [hshow, hhead, hforce]
    exact if_neg (by simp [Nat.not_lt.2 hat, hlam, hvalid, hoff])
  · refine acts_of (fun _ _ => rfl) fun p s ⟨hlearn, hvalid⟩ => if_neg ?_
    rw [not_or, not_and_or, hvalid]
    exact ⟨hlearn, by simp⟩

end Sys2Proof.Machine

/-! SUPPORT. The rows of chains, of the slot pipeline and of the endpoint protocol (R289 to R335). -/

namespace Sys2Proof.Machine

/-- Settles O32: each row acts where its own condition holds on the chain, the grid or the slot in the pipeline. -/
theorem chainAndSchedulerRowsComplete : Obligations.ChainAndSchedulerRowsComplete := by
  unfold Obligations.ChainAndSchedulerRowsComplete
  refine ⟨fun r p => ?_, fun q => ?_, fun r b => ?_, fun r => ?_, fun r => ?_, fun slot cut margin iter b => ?_, ?_, fun q => ?_,
    fun slot q => ?_, fun slot q x => ?_, fun slot q => ?_, ?_, ?_⟩
  · refine acts_of (fun _ _ => rfl) fun d s ⟨hloc, hrun, hdue⟩ => ?_
    simp only [chainStage, hloc, hrun, hdue, if_true]
  · refine acts_of (fun _ _ => rfl) fun d s ⟨hpend, hdue⟩ => ?_
    simp only [chainBegins, hpend, Nat.not_lt.2 hdue, if_false] <;> rfl
  · refine acts_of (fun _ _ => rfl) fun d s ⟨hrun, hstop, hdue, hreg⟩ => ?_
    simp only [chainStops, hrun, hstop, Nat.not_lt.2 hdue, if_false, hreg]
  · refine acts_of (fun _ _ => rfl) fun d s ⟨hrun, hchain, hrep, hpend, hdue⟩ => ?_
    have hlast : chainLast s (s.chainPlane d) r = some (r.start + (chainOf s r.chain).rep * ns (chainPeriod s r.chain)) := by
      refine if_neg (not_or.2 ⟨hrep, ?_⟩)
      rcases hpend with hnone | ⟨q, hq, hlt⟩
      · simp [hnone]
      · simp [hq, hlt]
    simp only [chainEnds, hrun, hlast, Nat.not_lt.2 hdue, Nat.not_le.2 hchain, if_false]
  · refine acts_of (fun _ _ => rfl) fun d s ⟨hreg, hdue⟩ => ?_
    simp only [regimeDue, hreg, Nat.not_lt.2 hdue, if_false]
  · refine runs_of (fun _ => rfl) fun s ⟨hgrid, hdue⟩ => ?_
    simp only [gridChange, hgrid, Nat.not_lt.2 hdue, if_false]
  · refine runs_of (fun _ => rfl) fun s ⟨hsch, hepoch, hlast, hcut⟩ => if_neg ?_
    simp only [hsch, Bool.not_true, Bool.false_eq_true, false_or, not_or, Nat.not_lt, Nat.not_le]
    exact ⟨hepoch, Nat.lt_succ_of_le hlast, hcut⟩
  · refine runs_of (fun _ => rfl) fun s h => ?_
    simp only [completeMatch, h]
  · refine runs_of (fun _ => rfl) fun s ⟨hpipe, hsent, hdue⟩ => ?_
    simp only [hpipe]
    exact if_neg (by simp [hsent, Nat.not_lt.2 hdue])
  · refine acts_of (fun _ _ => rfl) fun d s ⟨hloc, hpipe, hfind, hst, hdue⟩ => ?_
    simp only [pipeLate, hloc, hpipe, hfind, hst, Nat.not_lt.2 hdue, ne_eq, not_true_eq_false, or_self, if_false]
  · exact runs_of (fun _ => rfl) fun _ _ => rfl
  · refine runs_of (fun _ => rfl) fun s ⟨hint, hnext, hbusy⟩ => ?_
    refine (if_neg (not_or.2 ⟨hint, Nat.not_lt.2 hnext⟩)).trans (if_neg (Nat.not_lt.2 hbusy))
  · refine runs_of (fun _ => rfl) fun s ⟨hint, hnext, hbusy⟩ => ?_
    exact (if_neg (not_or.2 ⟨hint, Nat.not_lt.2 hnext⟩)).trans (if_pos hbusy)

/-- Settles O33: a message of an endpoint is taken at once, or is kept for the end of a matching. -/
theorem endpointRowsComplete : Obligations.EndpointRowsComplete := by
  unfold Obligations.EndpointRowsComplete
  refine ⟨fun f => ?_, fun f => ?_, fun f a p => ?_, fun d => ?_, ?_, ?_, ?_⟩
  · exact acts_of (fun _ _ => rfl) fun l s ⟨hsch, _⟩ => if_pos hsch
  · exact acts_of (fun _ _ => rfl) fun l s ⟨hsch, _⟩ => if_pos hsch
  · refine acts_of (fun _ _ => rfl) fun l s ⟨hsch, hmatch, hparse, hgood, hdemand⟩ => ?_
    simp only [epReceive, hsch, epTake, hparse, hgood, hdemand, epLater, hmatch, if_true, if_false, Bool.false_eq_true]
  · exact acts_of (fun _ _ => rfl) fun l s h => if_pos h
  · refine acts_of (fun _ _ => rfl) fun e s ⟨hmatch, hdue⟩ => ?_
    simp only [epLater, hmatch, hdue, ne_eq, not_false_eq_true, and_self, if_true, Option.isSome_none, Bool.false_eq_true, if_false,
      epApply]
  · refine acts_of (fun _ _ => rfl) fun e s ⟨hmatch, hdue⟩ => ?_
    simp only [epLater, hmatch, hdue, ne_eq, not_false_eq_true, and_self, if_true]
  · exact runs_of (fun _ => rfl) fun s h => if_pos h

end Sys2Proof.Machine

/-! SUPPORT. The rows of network time (R349 to R379). -/

namespace Sys2Proof.Machine

/-- A test of an optional value that fails on the value it has. -/
theorem getD_map_eq_false {α : Type} {o : Option α} {p : α → Bool} (h : ∀ x, o = some x → p x = false) : (o.map p).getD false = false := by
  cases ho : o with
  | none => rfl
  | some x => exact h x ho

/-- Settles O34: each row acts where its own condition holds on the time, the clock's source or the pin. -/
theorem timeRowsComplete : Obligations.TimeRowsComplete := by
  unfold Obligations.TimeRowsComplete
  refine ⟨fun f rx o => ?_, fun s hp ⟨hsrc, hon, hport, hdue⟩ => ?_, ?_, ?_, fun b t d => ?_, fun b d => ?_, ?_, ?_, fun w unit b rx => ?_, ?_, ?_,
    fun f => ?_, ?_, fun t => ?_⟩
  · refine acts_of (fun _ _ => rfl) fun l s ⟨hofs, hserves⟩ => ?_
    simp only [ptpReceive, hofs]
    exact if_pos hserves
  · refine (onUnit_high (i := 0) (n := 3) (by decide) hp _).trans (congrArg Host.Outcome.next ?_)
    simp only [ptpTimer, hsrc, hon, hport, hdue, ne_eq, not_true_eq_false, Bool.not_true, Bool.false_eq_true, or_self, and_self, if_false, if_true]
  · exact runs_of (fun _ => rfl) fun s h => if_pos h
  · exact runs_of (fun _ => rfl) fun s h => congrArg ptpTimeout (if_pos h)
  · refine runs_of (fun _ => rfl) fun s ⟨hstep, hdue⟩ => ?_
    simp only [stepApply, hstep, Nat.not_lt.2 hdue, if_false]
  · refine runs_of (fun _ => rfl) fun s ⟨hstep, hdue⟩ => ?_
    simp only [stepApply, hstep, Nat.not_lt.2 hdue, if_false]
  · exact runs_of (fun _ => rfl) fun s h => if_pos h
  · refine runs_of (fun _ => rfl) fun s h => (if_neg (Nat.not_lt.2 h)).trans ?_
    simp only [Bool.not_eq_true']
    rfl
  · refine runs_of (fun _ => rfl) fun s h => ?_
    simp only [claspTimeReceive, h]
  · refine runs_of (fun _ => rfl) fun s ⟨hrole, hsrc, hdue⟩ => if_neg ?_
    simp only [hrole, hsrc, Nat.not_lt.2 hdue, ne_eq, not_true_eq_false, or_self, not_false_eq_true]
  · exact acts_of (fun _ _ => rfl) fun _ _ _ => rfl
  · exact runs_of (fun _ => rfl) fun _ _ => rfl
  · exact acts_of (fun _ _ => rfl) fun _ _ _ => rfl
  · refine acts_of (fun _ _ => rfl) fun i s ⟨hedge, hlast, hroom⟩ => ?_
    have hrise : ((tget {} s.time.tcap i).edge == 1 || (tget {} s.time.tcap i).edge == 3) = true := by simpa using hedge
    have hgap : ((tget {} s.time.tcap i).last.map (fun l => decide (t < l + ns 80))).getD false = false :=
      getD_map_eq_false fun l hl => decide_eq_false (Nat.not_lt.2 (hlast l hl))
    exact (if_neg (by simp [hrise])).trans ((if_neg (by simp [hgap])).trans (if_neg (Nat.not_le.2 hroom)))

end Sys2Proof.Machine

/-! SUPPORT. The rows that take a frame through the relay (R382 to R414). -/

namespace Sys2Proof.Machine

section
variable {k n : Nat} {s : State} {f : RFrame} {frame : Bytes}

/-- A row of a link of the relay runs on a link that exists. -/
theorem onLink_high (hk : k < 12) (h9 : k ≠ 9) (h11 : k ≠ 11) (hp : s.sys.porst = false) (t : State) :
    (if k = 9 ∨ k = 11 then .fault .noSuchUnit else onUnit k 12 s t) = Host.Outcome.next t :=
  (if_neg (not_or.2 ⟨h9, h11⟩)).trans (onUnit_high hk hp t)

/-- An Ethernet link owes no credits. -/
theorem oweBack_ethernet {w : Nat} (hk : k < 8) : oweBack k w n s = s := if_neg (by omega)

theorem breakOff_none {w : Nat} (h : receiving s k w = none) : breakOff k w s = s := by
  simp only [breakOff, h]

theorem headArrive_ethernet {head : Bytes} {rx : NetTime} (hk : k < 8) (hup : linkUp s k = true) (hrec : receiving s k 0 = none) :
    headArrive k head rx s = headTake k 0 head rx s := by
  simp only [headArrive, hup, hk, breakOff_none hrec, Bool.not_true, Bool.false_eq_true, if_false, if_true]

/-- The head of a frame that has a destination and gets a buffer enters the relay. -/
theorem headTake_entered {head : Bytes} {rx : NetTime} {b : Nat} {t : State} (htype : etype head ≠ 0x8808) (hdest : (classify s k head).2.1 ≠ [])
    (hbuf : allocBuf 0 (k / 2) (classify s k head).2.1.length (if (classify s k head).2.2 = true then relayCount k 12 1 s else s) = (some b, t)) :
    headTake k 0 head rx s =
      (let c := classify s k head
       let u := if c.2.2 = true then relayCount k 12 1 s else s
       flow (pushFrame { ing := k, cls := c.1, dests := c.2.1, data := head, bufs := [b], rx := rx
                         mc := toGroup u head && c.2.1 == (tableDests u k head).1
                         cut := (fdbOf u head).kind == 1 && (match c.2.1 with | [d] => cutOk u k d | _ => false) } 1 t)) := by
  simp only [headTake, if_neg htype, if_neg hdest, hbuf] <;> rfl

/-- A whole frame that has a destination and gets its buffers stands in the relay. -/
theorem frameEnd_good {l : List Nat} {t : State} (hrec : receiving (relayCount k 2 1 (relayCount k 0 (frame.length + 4) s)) k 0 = some f)
    (hdest : f.dests ≠ []) (hlo : 60 ≤ frame.length) (hhi : frame.length ≤ 9212)
    (hbuf : allocBufs 0 (k / 2) f.dests.length (ceilDiv (frame.length + 4) 256 - 1) (relayCount k 2 1 (relayCount k 0 (frame.length + 4) s)) =
      (some l, t)) :
    frameEnd k 0 frame (fcsOf frame) s =
      (let u := updFrame f.id (fun x => { x with
         data := frame, len := some (frame.length + 4), bufs := x.bufs ++ l
         cells := x.dests.foldl (fun (c : Tab Nat) d => tset 0 c d (tget 0 c d + (ceilDiv (frame.length + 4) 64 - 1))) x.cells }) t
       each f.dests (flow (match frameOf u f.id with
         | some x => mirror false k (mirrorEgress x) x.rx x u
         | none => u)) (arriveInside f.id)) := by
  have h1 : decide (frame.length + 4 < 64) = false := decide_eq_false (by omega)
  have h2 : decide (9216 < frame.length + 4) = false := decide_eq_false (by omega)
  simp only [frameEnd, h1, h2, Bool.or_self, Bool.false_eq_true, if_false, if_true, hrec, bne_self_eq_false, frameGood, hdest, hbuf] <;> rfl

/-- A frame with a bad check sequence is dropped, or marked where it is being sent. -/
theorem frameEnd_badFcs {fcs : Nat} (hk : k < 8) (hlo : 60 ≤ frame.length) (hhi : frame.length ≤ 9212) (hfcs : fcs ≠ fcsOf frame)
    (hinv : fcs ≠ fcsOf frame ^^^ 0xFFFFFFFF)
    (hrec : receiving (relayCount k 4 1 (relayCount k 2 1 (relayCount k 0 (frame.length + 4) s))) k 0 = some f) :
    frameEnd k 0 frame fcs s =
      badFrame f frame (frame.length + 4) (relayCount k 4 1 (relayCount k 2 1 (relayCount k 0 (frame.length + 4) s))) := by
  have h1 : decide (frame.length + 4 < 64) = false := decide_eq_false (by omega)
  have h2 : decide (9216 < frame.length + 4) = false := decide_eq_false (by omega)
  have h3 : (fcs != fcsOf frame) = true := bne_iff_ne.2 hfcs
  simp only [frameEnd, h1, h2, h3, Bool.or_self, Bool.or_true, Bool.false_eq_true, if_false, if_true, hfcs, hinv, hrec, oweBack_ethernet hk]

theorem receiveEnd_ethernet {cells : List Bytes} {fcs : Nat} (hk : k < 8) (hup : linkUp s k = true) :
    receiveEnd k cells fcs s = frameEnd k 0 cells.flatten fcs s := by
  simp only [receiveEnd, hup, hk, Bool.not_true, Bool.false_eq_true, if_false, if_true]

theorem receiveEnd_clasp {cells : List Bytes} {fcs : Nat} (hk : 8 ≤ k) (hup : linkUp s k = true) :
    receiveEnd k cells fcs s = match frameOfCells cells with
      | some (false, d) => frameEnd k (cellsClass cells) (d.take (d.length - 4)) (unle (d.drop (d.length - 4))) s
      | some (true, _) => s
      | none => cellsAborted k cells s := by
  simp only [receiveEnd, hup, Nat.not_lt.2 hk, Bool.not_true, Bool.false_eq_true, if_false]
  rcases frameOfCells cells with _ | ⟨_ | _, d⟩ <;> rfl

end

/-- Settles O35: each row acts where its link is up and the frame, the buffer or the descriptor is good. -/
theorem relayFrameRowsComplete : Obligations.RelayFrameRowsComplete := by
  unfold Obligations.RelayFrameRowsComplete
  refine ⟨fun head rx b k s t hk hp hup hrec htype hdest hbuf => ?_, fun unit rx k s hk hp hup hok h3 h6 hrec => ?_,
    fun head rx k s hk hp hup hrec htype hop => ?_, fun head rx k s hk h9 h11 hp => onLink_high hk h9 h11 hp _,
    fun frame f l k s t hk hp hup hrec hdest hlo hhi hbuf => ?_, fun frame fcs f k s hk hp hup hlo hhi hfcs hinv hrec => ?_,
    fun cells fcs k s hk hp hup => ?_, fun frame fcs k s hk h9 h11 hp => onLink_high hk h9 h11 hp _, runs_of (fun _ => rfl) fun _ _ => rfl,
    fun f k s t hk h9 h11 hp hup htx ht hhead => ?_, fun k s hk h9 h11 hp hup => ?_, fun id t f n k s hk h9 h11 hp htx hframe hlen hleft => ?_,
    fun pool addr src dst b s hp hpool hsrc hdst halign hin hbuf hown => ?_, fun desc data => ?_, fun desc data l t => ?_, fun desc f => ?_⟩
  · refine (onLink_high (by omega) (by omega) (by omega) hp _).trans (congrArg Host.Outcome.next ?_)
    exact (headArrive_ethernet hk hup hrec).trans (headTake_entered htype hdest hbuf)
  · refine (onLink_high (by omega) (by omega) (by omega) hp _).trans (congrArg Host.Outcome.next ?_)
    have hk8 : ¬ k < 8 := by omega
    simp only [headArrive, hup, hk8, breakOff_none hrec, hok, h3, h6, Bool.not_true, Bool.false_eq_true, not_false_eq_true, and_self, if_false,
      if_true]
  · refine (onLink_high (by omega) (by omega) (by omega) hp _).trans (congrArg Host.Outcome.next ?_)
    exact (headArrive_ethernet hk hup hrec).trans ((if_pos htype).trans (if_pos hop))
  · refine (onLink_high (by omega) (by omega) (by omega) hp _).trans (congrArg Host.Outcome.next ?_)
    rw [receiveEnd_ethernet hk hup, List.flatten_singleton]
    exact frameEnd_good hrec hdest hlo hhi hbuf
  · refine (onLink_high (by omega) (by omega) (by omega) hp _).trans (congrArg Host.Outcome.next ?_)
    rw [receiveEnd_ethernet hk hup, List.flatten_singleton]
    exact frameEnd_badFcs hk hlo hhi hfcs hinv hrec
  · refine (onLink_high (by omega) (by omega) (by omega) hp _).trans (congrArg Host.Outcome.next ?_)
    exact receiveEnd_clasp (by omega) hup
  · refine (onLink_high hk h9 h11 hp _).trans (congrArg Host.Outcome.next ?_)
    simp only [egressStart, hup, htx, ← ht, hhead, beginHead, beginSend, Bool.not_true, Bool.false_eq_true, if_false, Option.isSome_none]
  · refine (onLink_high hk h9 h11 hp _).trans (congrArg Host.Outcome.next ?_)
    exact if_pos (by simp [hup])
  · refine (onLink_high hk h9 h11 hp _).trans (congrArg Host.Outcome.next ?_)
    have hover : (f.len.isNone || (cellsLeft f k != 0 && !f.bad)) = false := by
      rcases hleft with h | h <;> simp [hlen, h]
    have hlength : f.length = n := by simp [RFrame.length, hlen]
    simp only [egressDone, htx, hframe, hover, hlength, Bool.false_eq_true, if_false]
  · refine (if_neg ?_ : execBufferTransfer pool addr src dst s = _).trans ((congrArg Host.Outcome.next ?_ :
      live s _ = _))
    · omega
    · simp only [hp, Bool.false_eq_true, if_false]
      refine (if_neg (by simp [halign, hin])).trans ?_
      simp only [hbuf, hown, ne_eq, not_true_eq_false, if_false]
  · refine runs_of (fun _ => rfl) fun s ⟨hen, hmaster, hring, hlen⟩ => ?_
    have hready : (!s.hi.txEn || !s.hi.busMaster || s.hi.txHead == s.hi.txTail) = false := by simp [hen, hmaster, hring]
    simp only [hostTx, hready, Bool.false_eq_true, if_false]
    exact if_pos (by omega)
  · refine runs_of (fun _ => rfl) fun s ⟨hen, hmaster, hring, hlo, hhi, hrefused, hdest, hcap, hbuf⟩ => ?_
    have hready : (!s.hi.txEn || !s.hi.busMaster || s.hi.txHead == s.hi.txTail) = false := by simp [hen, hmaster, hring]
    have hlen : ¬ ((slice data 0 (fld desc 8 2)).length + 4 < 64 ∨ 9216 < (slice data 0 (fld desc 8 2)).length + 4) := by omega
    simp only [hostTx, hready, hlen, hrefused, hdest, hcap, hbuf, each, Bool.false_eq_true, if_false] <;> rfl
  · refine runs_of (fun _ => rfl) fun s ⟨hen, hmaster, hring, hframe⟩ => ?_
    have hready : (!s.hi.rxEn || !s.hi.busMaster || s.hi.rxHead == s.hi.rxTail) = false := by simp [hen, hmaster, hring]
    simp only [hostRx, hready, hframe, Bool.false_eq_true, if_false]

end Sys2Proof.Machine

/-! SUPPORT. The rows of the relay's links, gates and fences, of the clasp ports and of discovery (R390 to R457). -/

namespace Sys2Proof.Machine

/-- Settles O36: each row acts on a link that is up, where its own time has come. -/
theorem relayLinkRowsComplete : Obligations.RelayLinkRowsComplete := by
  unfold Obligations.RelayLinkRowsComplete
  refine ⟨fun classes quanta => ?_, fun c t hc => ?_, fun due hdue => ?_, ?_, ?_, ?_, fun g => ?_, ?_, ?_⟩
  · exact acts_of (fun _ _ => rfl) fun l s h => if_neg (by simp [h])
  · refine acts_of (fun l s => if_neg (Nat.not_le.2 hc)) fun l s ⟨hto, hdue⟩ => ?_
    simp only [hto]
    exact if_pos hdue
  · refine acts_of (fun _ _ => rfl) fun l s ⟨hup, htx, hl⟩ => ?_
    have hsome : due.isEmpty = false := by simpa using hdue
    simp only [pfcRefresh, ← hl, hup, htx, hsome, Bool.not_true, Option.isSome_none, Bool.or_self, Bool.false_eq_true, if_false]
  · exact acts_of (fun _ _ => rfl) fun l s h => if_pos h
  · refine acts_of (fun _ _ => rfl) fun l s ⟨hdown, hport, hlane⟩ => if_neg ?_
    rw [hdown, hport, hlane]
    simp
  · exact acts_of (fun _ _ => rfl) fun _ _ _ => rfl
  · refine acts_of (fun _ _ => rfl) fun l s ⟨hg, hdue⟩ => ?_
    simp only [hg]
    exact if_pos hdue
  · exact runs_of (fun _ => rfl) fun _ _ => rfl
  · exact runs_of (fun _ => rfl) fun _ _ => rfl

/-- Settles O37: each row acts where its own condition holds on the clasp port, the member or the message. -/
theorem claspRowsComplete : Obligations.ClaspRowsComplete := by
  unfold Obligations.ClaspRowsComplete
  refine ⟨fun w => ?_, fun w => ?_, fun w => ?_, fun w unit b => ?_, fun w unit => ?_, ?_, ?_, ?_, fun t c => ?_, ?_, fun u dst seq => ?_,
    fun w unit b o i => ?_, fun o i => ?_⟩
  · exact runs_of (fun _ => rfl) fun s ⟨hring, hdown⟩ => (if_neg (by simp [hring, hdown])).trans (if_pos rfl)
  · exact runs_of (fun _ => rfl) fun _ _ => rfl
  · exact runs_of (fun _ => rfl) fun _ _ => rfl
  · refine runs_of (fun _ => rfl) fun s ⟨hup, hbody⟩ => (if_neg (by simp [hup])).trans ?_
    simp only [hbody]
  · refine runs_of (fun _ => rfl) fun s h => ?_
    simp only [claspCredit, h, ite_self]
  · exact runs_of (fun _ => rfl) fun s ⟨hring, hdue⟩ => if_neg (by simp [hring, Nat.not_lt.2 hdue])
  · exact acts_of (fun _ _ => rfl) fun n s ⟨hrole, hn, hadm, hdue⟩ => if_neg (by simp [hrole, hn, hadm, Nat.not_lt.2 hdue])
  · exact runs_of (fun _ => rfl) fun s h => if_neg (Nat.not_lt.2 h)
  · refine runs_of (fun _ => rfl) fun s ⟨hhold, hdue⟩ => ?_
    simp only [holdoverEnd, hhold, Nat.not_lt.2 hdue, if_false]
  · exact runs_of (fun _ => rfl) fun _ _ => rfl
  · refine runs_of (fun _ => rfl) fun s ⟨hfind, hdue, hforlorn⟩ => ?_
    simp only [resend, hfind, Nat.not_lt.2 hdue, hforlorn, Bool.false_eq_true, if_false]
  · refine runs_of (fun _ => rfl) fun s ⟨hbody, ho, hi, hup, hself, hknown⟩ => ?_
    simp only [claspDarkReceive, hbody, ho, hi]
    exact if_neg (by simp [hup, hself, hknown])
  · exact runs_of (fun _ => rfl) fun _ _ => rfl

end Sys2Proof.Machine

/-! SUPPORT. The rows that receive domain messages, of faults and of calibration (R442 to R448, R477, R525 to R562). -/

namespace Sys2Proof.Machine

/-- Settles O38: each message is taken by the one arrival of a clasp message, with its own act. -/
theorem domainMessageRowsComplete : Obligations.DomainMessageRowsComplete := by
  unfold Obligations.DomainMessageRowsComplete
  refine ⟨arrives_of fun _ _ _ => rfl, arrives_of fun _ _ _ => rfl, arrives_of fun _ _ _ => rfl, arrives_of fun _ _ _ => rfl,
    arrives_of fun _ _ _ => rfl, arrives_of fun _ _ _ => rfl, arrives_of fun _ _ _ => rfl, arrives_of fun _ _ _ => rfl,
    arrives_of fun _ _ _ => rfl, arrives_of fun _ _ _ => rfl, arrives_of fun _ _ _ => rfl, fun w cells d m => ?_, fun tag t => ?_⟩
  · refine runs_of (fun _ => rfl) fun s ⟨hup, hcells, hmsg, hcode, hdst, hname⟩ => ?_
    simp only [claspIn, hup, hcells, hmsg, hcode, Bool.not_true, Bool.false_eq_true, if_false, ne_eq, not_true_eq_false]
    have hown : (s.sys.role == 1 && ((discEntries m.body).head?.map (·.1)) == some Config.identity) = false := by
      simpa using hname
    exact (if_neg (Bool.eq_false_iff.1 hown)).trans (if_neg (not_not.2 hdst))
  · refine runs_of (fun _ => rfl) fun s ⟨hfind, hown⟩ => ?_
    simp only [tunnelTimeout, hfind, hown, Bool.false_eq_true, if_false]

/-- Settles O39: each row acts where its own condition holds on the queue, the watchdog or the run. -/
theorem faultAndCalibrationRowsComplete : Obligations.FaultAndCalibrationRowsComplete := by
  unfold Obligations.FaultAndCalibrationRowsComplete
  refine ⟨fun dma dmaIn m rest => ?_, ?_, ?_, fun t => ?_, fun e => ?_, fun meas r => ?_, fun r => ?_, fun acc i m => ?_, fun ok j t => ?_⟩
  · refine runs_of (fun _ => rfl) fun s ⟨hq, hload⟩ => ?_
    simp only [commandStart, hq, hload, ne_eq, not_true_eq_false, if_false]
  · exact runs_of (fun _ => rfl) fun _ _ => rfl
  · exact runs_of (fun _ => rfl) fun s h => if_pos h
  · refine runs_of (fun _ => rfl) fun s ⟨hat, hdue⟩ => ?_
    simp only [hat]
    exact if_pos hdue
  · exact runs_of (fun _ => rfl) fun _ _ => rfl
  · exact runs_of (fun _ => rfl) fun _ _ => rfl
  · refine runs_of (fun _ => rfl) fun s ⟨hrun, hphase⟩ => ?_
    simp only [calRunDone, hrun, hphase, ne_eq, not_true_eq_false, if_false, announceCal]
  · refine runs_of (fun _ => rfl) fun s ⟨hbg, hvisit, hok, hcom, hhold⟩ => ?_
    simp only [visitDone, hbg, hvisit, hok, hcom, hhold, Bool.not_true, Bool.and_self, Bool.false_eq_true, if_false, if_true]
  · refine runs_of (fun _ => rfl) fun s h => ?_
    simp only [h]

end Sys2Proof.Machine

/-! SUPPORT. The rows of test, of the loupe, of snapshots and of leases (R583 to R618). -/

namespace Sys2Proof.Machine

/-- Settles O40: each row acts where its own condition holds on the scan, the test, the ring or the lease. -/
theorem testAndLoupeRowsComplete : Obligations.TestAndLoupeRowsComplete := by
  unfold Obligations.TestAndLoupeRowsComplete
  refine ⟨fun e a b pts => ?_, fun e a b pts => ?_, fun fails first => ?_, ?_, fun b e => ?_, fun code => ?_, ?_, ?_, fun e => ?_, ?_, ?_,
    fun id l => ?_⟩
  · refine acts_of (fun _ _ => rfl) fun n s ⟨hscan, hmore⟩ => ?_
    have hlen : (pts ++ [e]).length < 65 := by simpa using Nat.succ_lt_succ hmore
    simp only [marginPoint, hscan, hlen, if_true]
  · refine acts_of (fun _ _ => rfl) fun n s ⟨hscan, hlast⟩ => ?_
    have hlen : ¬ (pts ++ [e]).length < 65 := by simpa using Nat.succ_le_succ hlast
    simp only [marginPoint, hscan, hlen, if_false]
  · exact acts_of (fun _ _ => rfl) fun t s h => if_neg (not_not.2 h)
  · exact acts_of (fun _ _ => rfl) fun n s h => if_pos h
  · refine acts_of (fun _ _ => rfl) fun n s _ => ?_
    simp only [Bool.not_eq_true']
  · exact runs_of (fun _ => rfl) fun _ _ => rfl
  · exact runs_of (fun _ => rfl) fun s h => if_neg h
  · exact runs_of (fun _ => rfl) fun _ _ => rfl
  · exact runs_of (fun _ => rfl) fun _ _ => rfl
  · exact runs_of (fun _ => rfl) fun s h => if_neg h
  · refine acts_of (fun _ _ => rfl) fun b s ⟨hst, hdue, hown⟩ => ?_
    simp only [snapStrobe, hst, hown, Nat.not_lt.2 hdue, ne_eq, not_true_eq_false, or_self, Bool.false_eq_true, false_and, if_false]
  · refine runs_of (fun _ => rfl) fun s ⟨hlease, hdue⟩ => ?_
    simp only [hlease]
    exact if_pos hdue

end Sys2Proof.Machine

/-! SUPPORT. The rows of voltage scaling, of temperature and of the scrubber (R621 to R655). -/

namespace Sys2Proof.Machine

section
variable {rep meas v : Nat} {s : State}

/-- A step of the supply that is not confirmed stays asked for. -/
theorem lowerStep_unconfirmed (havs : s.pwr.avs ≠ 0) (hlow : s.pwr.lowering = true) (hstep : s.pwr.step = some v)
    (hconf : confirms v rep meas = false) : lowerStep rep meas s = { s with pwr := { s.pwr with meas := meas } } := by
  simp only [lowerStep, havs, hlow, hstep, hconf, Bool.not_true, Bool.false_eq_true, or_self, if_false, Option.isSome_some, if_true]

/-- A confirmed step of the supply is in force; within 1 ms of the last step no other is asked for. -/
theorem lowerStep_confirmed (havs : s.pwr.avs ≠ 0) (hlow : s.pwr.lowering = true) (hstep : s.pwr.step = some v)
    (hconf : confirms v rep meas = true) (hsoon : s.time.mono < s.pwr.stepAt + ms 1) :
    lowerStep rep meas s =
      (let u := { s with pwr := { s.pwr with meas := meas, req := v, step := none } }
       if v ≤ stepDown u then { u with pwr := { u.pwr with lowering := false, below := none } } else u) := by
  simp only [lowerStep, havs, hlow, hstep, hconf, Bool.not_true, Bool.false_eq_true, or_self, if_false, Option.isSome_none, if_true, hsoon]

/-- The next step of the supply is drawn: the lowering ends, or the step is asked for. -/
theorem lowerStep_next (havs : s.pwr.avs ≠ 0) (hlow : s.pwr.lowering = true) (hstep : s.pwr.step = none) (hmore : stepDown s < s.pwr.req)
    (hdue : s.pwr.stepAt + ms 1 ≤ s.time.mono) :
    lowerStep rep meas s =
      (let u := { s with pwr := { s.pwr with meas := meas } }
       if Config.freeValue s.free % 2 = 0 then
         { u with free := s.free + 1, pwr := { u.pwr with lowering := false, below := none } }
       else
         ({ u with free := s.free + 1, pwr := { u.pwr with step := some (stepDown s), stepAt := s.time.mono } }).emit
           (.avs (stepDown s))) := by
  have hreq : ¬ s.pwr.req ≤ stepDown { s with pwr := { s.pwr with meas := meas } } := Nat.not_le.2 hmore
  refine (if_neg (by simp [havs, hlow])).trans ?_
  simp only [hstep] at hreq ⊢
  exact (if_neg Bool.false_ne_true).trans ((if_neg hreq).trans (if_neg (Nat.not_lt.2 hdue)))

end

/-- Settles O41: each row acts where its own condition holds on the supply, the sensor or the plane. -/
theorem powerRowsComplete : Obligations.PowerRowsComplete := by
  unfold Obligations.PowerRowsComplete
  refine ⟨fun slack => ?_, fun v t rep meas => ?_, fun v t rep meas => ?_, fun v t => ?_, fun t => ?_, fun v rep meas => ?_, fun v rep meas => ?_,
    fun rep meas => ?_, fun rep meas => ?_, fun d h => ?_, fun t => ?_, fun t => ?_, ?_, ?_, fun t => ?_, fun t => ?_, fun sram stack hs => ?_,
    fun sram stack hs => ?_, fun sram stack hs => ?_⟩
  · refine runs_of (fun _ => rfl) fun s ⟨havs, hpace⟩ => ?_
    have hlow : (paceInUse { s with pwr := { s.pwr with slack := slack } }).filter (fun x => decide (x.2 < 20)) = [] := by
      simpa using hpace
    simp only [paceSample, hlow, each, List.foldl_nil]
    exact congrArg trackBelow (if_pos havs)
  · refine runs_of (fun _ => rfl) fun s ⟨hraise, hconf⟩ => ?_
    simp only [avsPoll, hraise, hconf, if_true]
  · refine runs_of (fun _ => rfl) fun s ⟨hraise, hconf⟩ => ?_
    simp only [avsPoll, hraise, hconf, Bool.false_eq_true, if_false]
  · refine runs_of (fun _ => rfl) fun s ⟨hraise, hdue⟩ => ?_
    simp only [hraise]
    exact if_pos hdue
  · refine runs_of (fun _ => rfl) fun s ⟨hbelow, hdue, hraise, hrest⟩ => ?_
    simp only [hbelow]
    exact if_pos ⟨hdue, by simp [hraise], hrest⟩
  · exact runs_of (fun _ => rfl) fun s ⟨havs, hlow, hstep, hconf⟩ => lowerStep_unconfirmed havs hlow hstep hconf
  · exact runs_of (fun _ => rfl) fun s ⟨havs, hlow, hstep, hconf, hsoon⟩ => lowerStep_confirmed havs hlow hstep hconf hsoon
  · exact runs_of (fun _ => rfl) fun s ⟨havs, hlow, hstep, hmore, hdue⟩ => lowerStep_next havs hlow hstep hmore hdue
  · exact runs_of (fun _ => rfl) fun _ _ => rfl
  · exact runs_of (fun _ => rfl) fun _ _ => rfl
  · exact acts_of (fun _ _ => rfl) fun _ _ _ => rfl
  · refine acts_of (fun _ _ => rfl) fun i s ⟨hok, hrest⟩ => ?_
    simp only [hok]
    exact if_pos hrest
  · exact runs_of (fun _ => rfl) fun _ _ => rfl
  · exact acts_of (fun _ _ => rfl) fun p s ⟨hruns, hsens⟩ => (if_neg (by simp [hruns])).trans (if_neg (Nat.not_lt.2 hsens))
  · refine acts_of (fun _ _ => rfl) fun p s ⟨hband, hrest⟩ => ?_
    simp only [hband]
    exact if_pos hrest
  · refine acts_of (fun _ _ => rfl) fun p s ⟨hsat, hrest⟩ => ?_
    simp only [hsat]
    exact if_pos hrest
  · exact runs_of (fun _ => if_neg (Nat.not_le.2 hs)) fun _ _ => rfl
  · exact runs_of (fun _ => if_neg (Nat.not_le.2 hs)) fun _ _ => rfl
  · exact runs_of (fun _ => if_neg (Nat.not_le.2 hs)) fun _ _ => rfl

end Sys2Proof.Machine

/-! SUPPORT. What a refused command and a reading command leave as it was (R414, R493, R495). -/

namespace Sys2Proof.Machine

section
variable {s t : State}

theorem sameButMail_refl (s : State) : SameButMail s s := rfl

/-- A state with the mail of another: its mailboxes, its record of what left, its pending bits of MSI-X. -/
def withMail (s t : State) : State := { t with mboxes := s.mboxes, out := s.out, ev := { t.ev with pba := s.ev.pba } }

theorem SameButMail.trans {u : State} (h : SameButMail s t) (h' : SameButMail t u) : SameButMail s u := by
  have hst : withMail s t = s := h
  have htu : withMail t u = t := h'
  have hsu : withMail s (withMail t u) = withMail s u := rfl
  show withMail s u = s
  rw [← hsu, htu, hst]

theorem sameButMail_updMbox (m : Nat) (f : Mbox → Mbox) (h : SameButMail s t) : SameButMail s (t.updMbox m f) := h

theorem sameButMail_emit (o : Output) (h : SameButMail s t) : SameButMail s (t.emit o) := h

theorem sameButMail_dmaWrite (a : Nat) (d : Bytes) (h : SameButMail s t) : SameButMail s (dmaWrite a d t) := by
  by_cases hd : d = []
  · rwa [hd, dmaWrite_nil]
  · rw [dmaWrite_of_ne_nil hd]
    exact sameButMail_emit _ h

theorem sameButMail_sendVector (v : Nat) (h : SameButMail s t) : SameButMail s (sendVector v t) := by
  unfold sendVector
  dsimp only
  split
  · exact sameButMail_emit _ h
  · exact h

theorem sameButMail_finishMbox (m flags : Nat) (rsp : Bytes) (h : SameButMail s t) : SameButMail s (finishMbox m flags rsp t) := by
  unfold finishMbox
  split
  · exact sameButMail_updMbox m _ h
  · exact sameButMail_sendVector m (sameButMail_updMbox m _ h)

/-- Ringing the doorbell touches the mailbox alone. -/
theorem sameButMail_rung (c : Cmd) (m : Nat) (r : Req) (s : State) : SameButMail s (rung c m r s) := rfl

end

section
variable {r : Req} {m : Nat} {s : State} (ho : r.origin = .mailbox m)
include ho

/-- An answer through a mailbox changes no more than the mail of the state from which the buffers of the request have returned. -/
theorem sameButMail_answer (op st d0 d1 : Nat) (p : Reply) :
    SameButMail (if r.indirect = true then unstage m s else s) (answer op r st d0 d1 p s) := by
  by_cases hf : r.indirect = true
  · rw [if_pos hf]
    by_cases hd : ((unstage m s).mbox m).discard = some r.tag
    · simp only [answer, ho, hf, if_true, hd]
      exact sameButMail_updMbox m _ (sameButMail_refl _)
    · rw [answer_indirect ho op st d0 d1 p hf hd]
      exact sameButMail_finishMbox m _ _ (sameButMail_dmaWrite _ _ (sameButMail_dmaWrite _ _ (sameButMail_refl _)))
  · have hf' := Bool.eq_false_iff.2 hf
    rw [if_neg hf]
    by_cases hd : (s.mbox m).discard = some r.tag
    · rw [answer_discarded ho op st d0 d1 p hf' hd]
      exact sameButMail_updMbox m _ (sameButMail_refl _)
    · rw [answer_direct ho op st d0 d1 p hf' hd]
      exact sameButMail_finishMbox m _ _ (sameButMail_dmaWrite _ _ (sameButMail_refl _))

theorem sameButMail_refuseReq (op : Nat) (e : Refuse) :
    SameButMail (if r.indirect = true then unstage m s else s) (refuseReq op r e s) := sameButMail_answer ho ..

theorem sameButMail_answerFit (op : Nat) (p : Reply) :
    SameButMail (if r.indirect = true then unstage m s else s) (answerFit op r p s) := by
  unfold answerFit
  by_cases h : rspRoom r < p.pay.length
  · rw [if_pos h]
    exact sameButMail_refuseReq ho ..
  · rw [if_neg h]
    exact sameButMail_answer ho ..

end

section
variable {c : Cmd} {r : Req} {s : State} {e : Refuse}

/-- A request whose own rules refuse it is answered so in the state in which it ran. -/
theorem runLocal_of_error (h : localRefusal c r s = none) (hst : (stage r s).1 = true) (hrun : c.run r (stage r s).2 = .error e) :
    runLocal c r s = refuseReq c.op r e (stage r s).2 := by
  simp only [runLocal, h, hst, if_true, runNow, hrun]

end

/-- Settles O51: a refusal is an answer, and an answer touches the mail alone once the buffers of the request have returned. -/
theorem refusedCommandChangesNothing : Obligations.RefusedCommandChangesNothing := by
  unfold Obligations.RefusedCommandChangesNothing
  refine ⟨fun c m r s e ho hf h => ?_, fun c m r s e ho h => ⟨runLocal_of_localRefusal h, sameButMail_refuseReq ho _ _⟩,
    fun c m r s e ho hf h hst hrun => ⟨runLocal_of_error h hst hrun, ?_⟩⟩
  · have hd := Req.direct_of_even hf
    have hmail := sameButMail_refuseReq (s := s) ho c.op e
    rw [hd, if_neg Bool.false_ne_true] at hmail
    have hst : stage r s = (true, s) := stage_direct _ hd
    rcases h with h | ⟨h, hrun⟩
    · exact ⟨runLocal_of_localRefusal h, hmail⟩
    · have heq : runLocal c r s = refuseReq c.op r e (stage r s).2 := runLocal_of_error h (by rw [hst]) (by rw [hst]; exact hrun)
      rw [hst] at heq
      exact ⟨heq, hmail⟩
  · have hmail := sameButMail_refuseReq (s := (stage r s).2) ho c.op e
    rwa [if_pos (Req.indirect_of_odd hf)] at hmail

/-! ### Reading commands -/

/-- A run that reads: it refuses, or it answers and leaves the state as it was. -/
def Reads (u : State) (x : Ran) : Prop := (∃ e, x = .error e) ∨ ∃ p, x = .ok (u, some p)

section
variable {u : State}

theorem reads_error (e : Refuse) : Reads u (.error e) := .inl ⟨e, rfl⟩

theorem reads_ok (pay : Bytes) : Reads u (ok u pay) := .inr ⟨_, rfl⟩

theorem reads_guarded {k : Ran} (l : List (Bool × Refuse)) (h : Reads u k) : Reads u (guarded l k) := by
  unfold guarded
  split
  · exact reads_error _
  · exact h

end

/-- An accepted request whose run reads changes the mail alone. -/
theorem sameButMail_of_reads {c : Cmd} {m : Nat} {r : Req} {s : State} (ha : accepts c m r s = true)
    (h : Reads (started c m r s) (c.run r (started c m r s))) : ∃ t, command c r s = .next t ∧ SameButMail (unstaged c m r s) t := by
  obtain ⟨ho, -, -, -, -, -, -, -, -, -, -, -, -, hv⟩ := accepts_facts ha
  have hbase : ∀ t, SameButMail (if r.indirect = true then unstage m (started c m r s) else started c m r s) t →
      SameButMail (unstaged c m r s) t := fun t ht => by
    unfold unstaged
    by_cases hf : r.indirect = true
    · rwa [if_pos hf] at ht ⊢
    · have hst : started c m r s = rung c m r s := congrArg Prod.snd (stage_direct _ (Bool.eq_false_iff.2 hf))
      rw [if_neg hf, hst] at ht
      rw [if_neg hf]
      exact (sameButMail_rung c m r s).trans ht
  refine ⟨_, command_accepted ha, hbase _ ?_⟩
  rcases h with ⟨e, he⟩ | ⟨p, hp⟩
  · simp only [runNow, he]
    exact sameButMail_refuseReq ho _ _
  · simp only [runNow, hp, Nat.not_lt.2 hv, if_false, ite_self]
    exact sameButMail_answerFit ho _ _

/-- A command only reads when its run reads in every state. -/
theorem onlyReads_of {i : Req → Instr} {c : Cmd} (hi : ∀ r s, exec (i r) s = command c r s) (h : ∀ r u, Reads u (c.run r u)) :
    OnlyReads i c := fun m r s ha => by
  rw [hi]
  exact sameButMail_of_reads ha (h r _)

/-- Between two matchings `sched.demand_read` answers at once. -/
theorem demandRead_idle {r : Req} {u : State} (h : u.sched.matching = none) :
    cmdSchedDemandRead.run r u = ok u (demandRange u r.pay) := if_neg (by simp [h])

/-- Settles O52: the run of each of the commands answers from the state, or refuses, and writes nothing. -/
theorem readingCommandsLeaveState : Obligations.ReadingCommandsLeaveState := by
  unfold Obligations.ReadingCommandsLeaveState
  refine ⟨?_, ?_, ?_, ?_, ?_, ?_, ?_, ?_, ?_, ?_, ?_, ?_, ?_, ?_, fun m r s ha hmatch => ?_, ?_, ?_, ?_, ?_, ?_, ?_, ?_, ?_, ?_, ?_, ?_, ?_, ?_, ?_⟩
  · exact onlyReads_of (fun _ _ => rfl) fun _ _ => reads_ok _
  · exact onlyReads_of (fun _ _ => rfl) fun _ _ => reads_ok _
  · exact onlyReads_of (fun _ _ => rfl) fun _ _ => reads_ok _
  · refine onlyReads_of (fun _ _ => rfl) fun r u => ?_
    cases hmap : u.sys.map with
    | none => simpa only [cmdPlaneMapRead, hmap] using reads_error _
    | some m => simpa only [cmdPlaneMapRead, hmap] using reads_ok _
  · exact onlyReads_of (fun _ _ => rfl) fun _ _ => reads_ok _
  · exact onlyReads_of (fun _ _ => rfl) fun _ _ => reads_ok _
  · exact onlyReads_of (fun _ _ => rfl) fun _ _ => reads_ok _
  · refine onlyReads_of (fun _ _ => rfl) fun r u => ?_
    by_cases h0 : fld r.pay 0 2 = 0
    · simpa only [cmdLoopTableRead, if_pos h0] using reads_ok _
    · cases hw : tfind u.tables (fld r.pay 0 2) with
      | none => simpa only [cmdLoopTableRead, if_neg h0, hw] using reads_error _
      | some w => simpa only [cmdLoopTableRead, if_neg h0, hw] using reads_ok _
  · exact onlyReads_of (fun _ _ => rfl) fun _ _ => reads_ok _
  · exact onlyReads_of (fun _ _ => rfl) fun _ _ => reads_guarded _ (reads_ok _)
  · exact onlyReads_of (fun _ _ => rfl) fun _ _ => reads_ok _
  · refine onlyReads_of (fun _ _ => rfl) fun r u => ?_
    simp only [cmdFacetReport]
    split
    · exact reads_error _
    · exact reads_ok _
  · exact onlyReads_of (fun _ _ => rfl) fun _ _ => reads_guarded _ (reads_ok _)
  · exact onlyReads_of (fun _ _ => rfl) fun _ _ => reads_ok _
  · refine sameButMail_of_reads ha ?_
    rw [demandRead_idle hmatch]
    exact reads_ok _
  · exact onlyReads_of (fun _ _ => rfl) fun _ _ => reads_ok _
  · exact onlyReads_of (fun _ _ => rfl) fun _ _ => reads_ok _
  · exact onlyReads_of (fun _ _ => rfl) fun _ _ => reads_guarded _ (reads_ok _)
  · refine onlyReads_of (fun _ _ => rfl) fun r u => ?_
    by_cases h0 : fld r.pay 0 1 = 0
    · cases he : tfind u.relay.fdb (fdbKey r.pay 8) with
      | none => simpa only [cmdRelayFdbRead, if_pos h0, he] using reads_error _
      | some e => simpa only [cmdRelayFdbRead, if_pos h0, he] using reads_ok _
    · simpa only [cmdRelayFdbRead, if_neg h0] using reads_ok _
  · exact onlyReads_of (fun _ _ => rfl) fun _ _ => reads_ok _
  · exact onlyReads_of (fun _ _ => rfl) fun _ _ => reads_guarded _ (reads_ok _)
  · exact onlyReads_of (fun _ _ => rfl) fun _ _ => reads_ok _
  · exact onlyReads_of (fun _ _ => rfl) fun _ _ => reads_ok _
  · exact onlyReads_of (fun _ _ => rfl) fun _ _ => reads_guarded _ (reads_ok _)
  · exact onlyReads_of (fun _ _ => rfl) fun _ _ => reads_ok _
  · exact onlyReads_of (fun _ _ => rfl) fun _ _ => reads_ok _
  · exact onlyReads_of (fun _ _ => rfl) fun _ _ => reads_ok _
  · exact onlyReads_of (fun _ _ => rfl) fun _ _ => reads_guarded _ (reads_ok _)
  · exact onlyReads_of (fun _ _ => rfl) fun _ _ => reads_ok _

end Sys2Proof.Machine
